-- ==== Sys2Proof/Word.lean ====
section
/-! DEFINITION. The words and the operand types of the Hexvy T256's commands. -/

namespace Sys2Proof

/-- A general register w0-w15 of a thread (spec/03 R66). -/
abbrev Word := BitVec 16

/-- Shore time: a count of steps, 32 to a tick (spec/06 R145). -/
abbrev Time := BitVec 64

/-- Who performs a register or memory access (spec/17 R456): a host master with its id and its two
attributes, or thread `t` of physical engine `e`. -/
inductive Who where
  | host (mid : BitVec 8) (priv sec : Bool)
  | thread (e t : Nat)
deriving DecidableEq, Repr

/-- An edge at an input: the level after it and its step in the present tick (spec/06 R145). -/
structure InputEdge where
  level : Bool
  step  : Nat
deriving DecidableEq, Repr

/-- What a receiving STREAM lane's input has shown during a word: the level at its start and the instants of its edges, in
steps from the word's start (spec/06 R169). -/
structure Wave where
  start : Bool
  edges : List Nat
deriving DecidableEq, Repr

/-- A rise of an event input: its step in the present tick, and whether the input stays high (spec/10 R257). -/
structure Pulse where
  held : Bool
  step : Nat
deriving DecidableEq, Repr

/-- A tap of a fabric channel (spec/10 R256). -/
structure ChannelTap where
  channel : Nat
  tap     : Nat
deriving DecidableEq, Repr

/-- What the checks of one image record found (spec/15 R402, R403): the record's byte offset in its
slot, whether RCRC matches, whether RFLAGS.ENC is set and whether the GCM tag matches.
DESIGN CHOICE, assumption log 102. -/
structure RecChk where
  off   : Nat
  crcOk : Bool
  enc   : Bool
  tagOk : Bool
deriving DecidableEq, Repr

/-- The payload of a THREAD record after its ROLE and thread bytes (spec/15 R404). -/
structure ThreadRec where
  flags   : BitVec 8
  prio    : BitVec 8
  pc      : Word
  csegLo  : Word
  csegHi  : Word
  urgmask : Word
  uvec    : Word
  segs    : List (BitVec 32 × BitVec 32)
deriving DecidableEq, Repr

/-- One slot of the flash as the Wellhead meets it (spec/15 R401, R402, R406): the header's fields and
the verdicts of the standards' computations (CRC-32, SHA-256, P-256) over the slot's bytes.
DESIGN CHOICE, assumption log 102. -/
structure SlotImg where
  readOk    : Bool
  magicOk   : Bool
  fmt       : Nat
  hcrcOk    : Bool
  reservedOk : Bool
  length    : Nat
  enc       : Bool
  unsignedF : Bool
  keyslot   : Nat
  rbi       : BitVec 32
  nrec      : Nat
  endsAtT   : Bool
  digestOk  : Bool
  keyHashOk : Bool
  sigOk     : Bool
deriving DecidableEq, Repr

/-- What is wrong with a memory and its checker at the self-test (spec/12 R320, R321): the bits of its test word that
are stuck, numbered as the stored word numbers them, and the bits of the syndrome that are, SR in the high byte; each with
its level. DESIGN CHOICE, assumption log 102. -/
structure Defect where
  cells : List (Nat × Bool)
  lines : List (Nat × Bool)
deriving DecidableEq, Repr

/-- A flash device as its tables describe it (spec/15 R397 to R399): the SFDP signature it answers, whether it follows
JESD216 revision B or later, the DWORDs of its Basic Flash Parameter Table, log2 of its size in bytes, its 1-1-4 and 1-4-4
reads, its Quad Enable method, its 4-byte address commands and 4-byte entry method, whether its xSPI profile 1.0 table
offers the 8D-8D-8D read with a strobe; and the SFDP signature as it reads back in modes 1, 2 and 3 of WELL_FLASH. -/
structure FlashDev where
  sfdp    : BitVec 32
  revB    : Bool
  dwords  : Nat
  density : Nat
  read114 : Bool
  read144 : Bool
  quad    : Nat
  cmd4    : Bool
  entry4  : Bool
  octal   : Bool
  back1   : BitVec 32
  back2   : BitVec 32
  back3   : BitVec 32
deriving DecidableEq, Repr

/-- What the surroundings present to a boot (spec/15 R393-R399, R417; spec/16 R448): the life-cycle
port, the fuses, the reference with its frequency in kHz, what is wrong with which memory (numbered by the buckets of
spec/12 R324, 54 the test buffer), and the flash devices on the two chip selects with their slots. `members` is the image's
assignment of threads to domains, as (32 x role + thread, domain) (spec/01 R15; assumption log 6).
DESIGN CHOICE, assumption log 6 and 102. -/
structure BootEnv where
  lcs         : Nat
  pkhSet      : BitVec 4
  revoke      : BitVec 4
  floor       : BitVec 32
  devUnsigned : Bool
  tref        : Bool
  trefKhz     : Nat
  defects     : List (Nat × Defect)
  flash0      : Option FlashDev
  flash1      : Option FlashDev
  slotA       : SlotImg
  slotB       : SlotImg
  members     : List (Nat × Nat)
deriving DecidableEq, Repr

/-- The forms of LRD (spec/03 R85, spec/04 R109): a 16-bit half into wd, or 32 bits into dn. -/
inductive LrdForm where
  | half (src rd : Nat)
  | pair (src n : Nat)
deriving DecidableEq, Repr

/-- The count of a REP or REPI prefix (spec/03 R87). -/
inductive RepCount where
  | imm (n : Nat)
  | reg (k : Nat)
deriving DecidableEq, Repr

/-- The low `n` bits of `x` from bit `lo`. -/
def bitsOf (x lo n : Nat) : Nat := (x / 2 ^ lo) % 2 ^ n

/-- A 32-bit value from its two halves, `lo` at the lower address (spec/02 R53). -/
def pairOf (lo hi : Word) : BitVec 32 := hi ++ lo

def lowHalf (x : BitVec 32) : Word := x.extractLsb' 0 16
def highHalf (x : BitVec 32) : Word := x.extractLsb' 16 16

/-- `x` clamped to the signed range of `n` bits. -/
def clampSigned (n : Nat) (x : Int) : Int :=
  if x < -(2 ^ (n - 1) : Int) then -(2 ^ (n - 1) : Int)
  else if x > 2 ^ (n - 1) - 1 then 2 ^ (n - 1) - 1 else x

/-- One more, but not above `2^n - 1`: the saturating counters of the register maps. -/
def satInc (n x : Nat) : Nat := if x + 1 < 2 ^ n then x + 1 else 2 ^ n - 1

end Sys2Proof
end

