-- ==== Sys2Proof/Syntax.lean ====
section
/-! DEFINITION. The commands of the Hexvy T256: one constructor per row of spec/opcode_table.json, in the
table's order. `w` writes or reads, `d` is the data written, `strb` the byte strobes (spec/17 R458); `e` is
a physical engine and `t` a thread of it. -/

namespace Sys2Proof

inductive Instr where
  /-- REGISTER_WRITE (R458): A write by a host master or thread to a register that has no row of its own; only its strobed bytes are taken, under the rights filters, and it is accepted in one tick. -/
  | registerWrite (w : Who) (addr : Nat) (d : BitVec 32) (strb : BitVec 4)
  /-- RC_READ (R459): A read that covers every byte of an RC field returns the count and clears it. -/
  | rcRead (w : Who) (addr : Nat) (strb : BitVec 4)
  /-- POWER_ON_RESET (R484): por_n goes low; every output takes its Reset value within 10 ns and all state returns to reset values. -/
  | powerOnReset
  /-- WARM_RESET (R484): rst_n goes low with por_n high; the block resets, keeping Pool contents, the retire table, buckets, the log, crossbar state and shore time. -/
  | warmReset
  /-- RESET_RELEASE (R393): Release of por_n or rst_n starts the Wellhead boot sequence, steps 1 to 8. -/
  | resetRelease (env : BootEnv)
  /-- SHORE_RECORD (R404): A SHORE image record sets the multiplier ratio, which is applied in step 7. -/
  | shoreRecord (chk : RecChk) (muli : Nat) (mulf : Nat)
  /-- PSTORE_RECORD (R404): A PSTORE image record writes instruction lines into a role's program store. -/
  | pstoreRecord (chk : RecChk) (role : Nat) (waddr : Nat) (lines : List (BitVec 64))
  /-- DECODE_RECORD (R404): A DECODE image record writes a role's custom decode table, subject to R121. -/
  | decodeRecord (chk : RecChk) (role : Nat) (words : List (BitVec 32))
  /-- ROLE_RECORD (R404): A ROLE image record writes a role's slot maps, active map and far base. -/
  | roleRecord (chk : RecChk) (role : Nat) (active : Nat) (farbase : BitVec 32) (maps : List (BitVec 64))
  /-- THREAD_RECORD (R404): A THREAD image record writes a thread's privilege, priority, start PC, code segment, urgent registers and segments. -/
  | threadRecord (chk : RecChk) (role : Nat) (thr : Nat) (rec : ThreadRec)
  /-- POOL_RECORD (R404): A POOL image record writes whole Pool words without ownership checks. -/
  | poolRecord (chk : RecChk) (addr : Nat) (data : List (BitVec 64))
  /-- LRAM_RECORD (R404): An LRAM image record writes a role's local RAM. -/
  | lramRecord (chk : RecChk) (role : Nat) (off : Nat) (data : List (BitVec 64))
  /-- TARN_RECORD (R404): A TARN image record writes the Tarn, subject to the life-cycle limits of R414 and R417. -/
  | tarnRecord (chk : RecChk) (off : Nat) (data : List (BitVec 64))
  /-- REG_RECORD (R405): A REG image record performs register writes as a secure master, in order, within the permitted windows. -/
  | regRecord (chk : RecChk) (pairs : List (Nat × BitVec 32))
  /-- KEY_WORD_TRANSFER (R447): One 32-bit word of the image key is transferred when key_valid and key_ack are both high. -/
  | keyWordTransfer (word : BitVec 32)
  /-- LCS_CHANGE (R415): lcs changes while running or after step 2; the Tarn is wiped, LCSCHG is set and debug may close. -/
  | lcsChange (lcs : Nat)
  /-- TAMPER (R416): tamper_n goes low; the Tarn is wiped, TAMPCNT advances, debug closes, and ON domains may receive CMD SAFE. -/
  | tamper
  /-- TARN_WIPE_COMPLETE (R295): The Tarn wipe completes within 20 µs; WIPED is set and CAUSE is recorded. -/
  | tarnWipeComplete
  /-- MULTIPLIER_LOCK (R146): The tick multiplier locks to tref and shore time starts counting. -/
  | multiplierLock
  /-- HOLDOVER_ENTRY (R147): tref is lost or out of range for 1 µs; the multiplier enters holdover, LOCKLOST and HOLDOVER are set, and an alarm is recorded. -/
  | holdoverEntry
  /-- MULTIPLIER_RELOCK (R147): tref returns and the multiplier relocks by slewing; HOLDOVER clears and LOCK reads 1. -/
  | multiplierRelock
  /-- DELAY_LINE_CALIBRATION (R150): The calibrator measures one delay line and loads its step table, or counts a failure. -/
  | delayLineCalibration (core : Nat) (line : Nat) (taps : Nat)
  /-- CALIBRATION_EXCHANGE (R150): A freshly calibrated line replaces the line in service at a quiet tick boundary. -/
  | calibrationExchange (core : Nat) (line : Nat)
  /-- PPS_EDGE (R153): A rising edge of tsync_pps is timestamped into LANE_PPSCAP and may be taken as a load edge. -/
  | ppsEdge (step : Nat) (load : Bool)
  /-- SYNC_LOAD_APPLY (R154): At the fourth tick after a load edge, shore time is redefined from NEXT, or the load is refused if any domain is not DISARMED. -/
  | syncLoadApply
  /-- LANE_SPARE_SWAP (R158): A write of a spare core number to LANE_XBAR starts a spare swap of the pin lane. -/
  | laneSpareSwap (w : Who) (p : Nat) (d : BitVec 32) (strb : BitVec 4)
  /-- SPARE_SWAP_COMPLETE (R159): The spare core reaches ON, or completes the copy for an OFF lane; the former core is RETIRED. -/
  | spareSwapComplete
  /-- LANE_EN_WRITE (R20): A write to LANE_CTRL.EN requests start or stop of a lane core under the life-cycle convention. -/
  | laneEnWrite (w : Who) (p : Nat) (d : BitVec 32) (strb : BitVec 4)
  /-- LANE_START_DONE (R163): A lane core's STARTING ends and the lane is ON in its mode. -/
  | laneStartDone (p : Nat)
  /-- LANE_STOP_DONE (R163): A lane core's STOPPING ends and the lane is OFF. -/
  | laneStopDone (p : Nat)
  /-- ENTRY_DISPATCH (R182): In each tick the dispatcher moves up to 8 eligible schedule entries into lane cores. -/
  | entryDispatch
  /-- SET (R178): A schedule entry with action SET sets the lane's output level to 1 at its step. -/
  | setEntry (p : Nat)
  /-- CLEAR (R178): A schedule entry with action CLEAR sets the lane's output level to 0 at its step. -/
  | clearEntry (p : Nat)
  /-- TOGGLE (R178): A schedule entry with action TOGGLE inverts the lane's output level at its step. -/
  | toggleEntry (p : Nat)
  /-- LEVEL (R178): A schedule entry with action LEVEL sets the output level and output enable from ARG at its step. -/
  | levelEntry (p : Nat)
  /-- OE (R178): A schedule entry with action OE sets the output enable from ARG at its step. -/
  | oeEntry (p : Nat)
  /-- MARK (R178): A schedule entry with action MARK raises the weir's window event with no pin change. -/
  | markEntry (p : Nat)
  /-- LOOPBACK_COMPARE (R166): LOOPDLY ticks after an output change, lane_in is compared with the driven value and ERRB advances on a mismatch. -/
  | loopbackCompare (p : Nat) (lin : Bool)
  /-- STREAM_START (R168): A STREAM lane starts its first bit at the first tick after ON or at its START_TIME. -/
  | streamStart (p : Nat)
  /-- STREAM_TX_WORD_BOUNDARY (R169): A transmitting STREAM lane takes the next FIFO word, or sends IDLE_LVL or repeats the last word on underrun. -/
  | streamTxWordBoundary (p : Nat)
  /-- STREAM_RX_WORD (R169): A receiving STREAM lane completes a word and stores it, or discards it when its FIFO is full. -/
  | streamRxWord (p : Nat) (wave : Wave)
  /-- STREAM_FIFO_WRITE (R176): A write to STREAM LANE_M2 appends a word to the lane FIFO. -/
  | streamFifoWrite (w : Who) (p : Nat) (d : BitVec 32) (strb : BitVec 4)
  /-- STREAM_FIFO_READ (R176): A read of STREAM LANE_M2 removes the oldest FIFO word, or reads 0 when the FIFO is empty. -/
  | streamFifoRead (w : Who) (p : Nat) (strb : BitVec 4)
  /-- CAPTURE_EDGE (R170): A CAPTURE lane timestamps a selected input edge into its 8-entry FIFO, or loses it when the FIFO is full. -/
  | captureEdge (p : Nat) (lvl : Bool) (step : Nat)
  /-- CAPTURE_READ (R170): A read of CAPTURE LANE_M1 returns the oldest entry's time and removes the entry. -/
  | captureRead (w : Who) (p : Nat) (strb : BitVec 4)
  /-- DECIMATE_BIT (R172): At a selected modulator clock edge, a DECIMATE lane passes one bit into its decimator's sinc filter. -/
  | decimateBit (p : Nat) (bit : Bool) (clock : InputEdge)
  /-- DECIMATE_CLOCK_LOSS (R172): With no clock edge for 8 x MCLK_TMO ticks, CLKLOSS is set and ERRA advances. -/
  | decimateClockLoss (p : Nat)
  /-- MIRROR_EDGE (R173): A MIRROR lane reproduces an accepted source edge at its pin 96 + 32 x FILT steps later. -/
  | mirrorEdge (p : Nat) (edge : InputEdge)
  /-- STAGE_WRITE (R193): A write to WEIR_STAGE stages a value, sets VALID, or is ignored and counted. -/
  | stageWrite (w : Who) (p : Nat) (d : BitVec 32) (strb : BitVec 4) (poison : Bool)
  /-- WEIR_DEADLINE (R195): At deadline D_k each weir of the group samples its stage, decides, clamps and inserts the period's entries. -/
  | weirDeadline (g : Nat)
  /-- STROBE_MISSING_DEADLINE (R191): With no strobe accepted by E_k + PER - LEAD, a deadline is taken that falls back and advances STBMISS. -/
  | strobeMissingDeadline (g : Nat)
  /-- STAGE_STALE_DISCARD (R194): In tick S + 1 after an accepted strobe, a stage accepted outside the window is discarded and counted in STALE. -/
  | stageStaleDiscard (g : Nat)
  /-- MINPW_EXPIRY (R203): The level passed on has held for MINPW steps and takes the requested level. -/
  | minpwExpiry (p : Nat)
  /-- MAXON_EXPIRY (R203): The level has been on for MAXON ticks without a break and is forced to 0. -/
  | maxonExpiry (p : Nat)
  /-- DEAD_TIME_EXPIRY (R203): The partner lane has been off for DEADT steps and a held-back rise takes place. -/
  | deadTimeExpiry (p : Nat)
  /-- COUNT_EVENT (R215): A counter that is ON takes a count event from its prescaler, lane edge or channel, enters its next value and tests its compares. -/
  | countEvent (n : Nat)
  /-- CNT_EN_WRITE (R217): An EN write to a counter starts STARTING or STOPPING. -/
  | cntEnWrite (w : Who) (n : Nat) (d : BitVec 32) (strb : BitVec 4)
  /-- COUNTER_ON (R217): A counter reaches ON, enters its CNT_COUNT value and tests its compares. -/
  | counterOn (n : Nat)
  /-- COUNTER_OFF (R217): A stopping counter reaches OFF and keeps its value. -/
  | counterOff (n : Nat)
  /-- GO (R217): A write of 1 to CNT_GO starts every armed counter in STARTING. -/
  | cntGo (w : Who) (d : BitVec 32) (strb : BitVec 4)
  /-- CNT_SNAP (R226): A write to CNT_SNAP.GROUP captures four counters and the shore time into CNT_SNAPV. -/
  | cntSnap (w : Who) (d : BitVec 32) (strb : BitVec 4)
  /-- FAB_FN_GO (R227): A counter-bank channel event with function GO starts armed counters as a GO write does. -/
  | fabFnGo (j : Nat)
  /-- FAB_FN_START (R227): A counter-bank channel event with function START starts the armed counters of one group of four. -/
  | fabFnStart (j : Nat)
  /-- FAB_FN_COUNT (R227): A counter-bank channel event with function COUNT gives a count event to every counter clocked by that channel. -/
  | fabFnCount (j : Nat)
  /-- FAB_FN_RESET (R218): A counter-bank channel event with function RESET makes the target counter enter its period start. -/
  | fabFnReset (j : Nat)
  /-- FAB_FN_SNAP (R227): A counter-bank channel event with function SNAP captures one counter group. -/
  | fabFnSnap (j : Nat)
  /-- QUAD_COUNT (R232): A filtered change of A or B counts R up or down, updates P, DIR and SPEED, and may fire the position compare. -/
  | quadCount (u : Nat) (a : Bool) (b : Bool) (time : Time)
  /-- INDEX_EDGE (R237): An index edge captures P and may load IDXVAL into P and R. -/
  | indexEdge (u : Nat) (rising : Bool)
  /-- POS_COMPARE_ARM (R238): A write to POS_CMPV arms the position compare and may set BEHIND_AT_ARM. -/
  | posCompareArm (w : Who) (u : Nat) (d : BitVec 32) (strb : BitVec 4)
  /-- SPEED_TIMEOUT (R235): With no counted edge for SPEED_TIMEOUT x 256 ticks, SPEED becomes 0 and STILL is set. -/
  | speedTimeout (u : Nat)
  /-- INLET_STROBE (R241): A rising strobe edge is timestamped and its data captured, or dropped for spacing. -/
  | inletStrobe (n : Nat) (data : BitVec 16) (tag : Nat) (step : Nat)
  /-- SAMPLE_ENTRY (R243): In tick s + 2 the sample enters INL_DATA, sets READY, raises the thread event, or sets OVR. -/
  | sampleEntry (n : Nat)
  /-- INLET_DATA_READ (R244): A read covering bytes 0–1 of INL_DATA returns the sample, clears READY and OVR, and copies INL_TIME to INL_RTIME. -/
  | inletDataRead (w : Who) (n : Nat) (strb : BitVec 4)
  /-- INL_EN_WRITE (R251): An EN write to an inlet requests start or stop. -/
  | inlEnWrite (w : Who) (n : Nat) (d : BitVec 32) (strb : BitVec 4)
  /-- INLET_START_DONE (R251): An inlet or decimator ends its 4-tick STARTING and is ON. -/
  | inletStartDone (n : Nat)
  /-- INLET_STOP_DONE (R251): An inlet ends its 4-tick STOPPING and is OFF, keeping its last sample. -/
  | inletStopDone (n : Nat)
  /-- CHANNEL_EVENT (R255): A rising edge of a fabric channel's combined level passes an event to its consumer. -/
  | channelEvent (c : Nat) (tap : Nat) (pulse : Pulse)
  /-- WAKE_DELIVERY (R263): An engine holding role r accepts a held wake event and sets WAKEj in every thread of the role. -/
  | wakeDelivery (c : Nat)
  /-- EVOUT_PULSE_END (R265): An evout PULSE falls after ARG + 1 ticks. -/
  | evoutPulseEnd (m : Nat)
  /-- REFRACTORY_END (R268): A channel's 2.5 ns refractory time ends and it passes one event for the edges that arrived meanwhile. -/
  | refractoryEnd (c : Nat)
  /-- LOOP_WINDOW_END (R269): An LSUS counting window of 800 ticks ends and the channel's count restarts. -/
  | loopWindowEnd (c : Nat)
  /-- FAB_FIRE (R259): A write to FAB_FIRE injects one event into the named channel at the next tick. -/
  | fabFire (w : Who) (d : BitVec 32) (strb : BitVec 4)
  /-- TRIP_RELEASE (R262): A write of 1 to a FAB_TRIP bit releases the group, or is refused with RELREF while the level is high. -/
  | tripRelease (w : Who) (k : Nat) (d : BitVec 32) (strb : BitVec 4)
  /-- FAB_CH_WRITE (R273): A write to FAB_CH changes a channel's taps, gate and consumer settings within 10 ns. -/
  | fabChWrite (w : Who) (c : Nat) (d : BitVec 32) (strb : BitVec 4)
  /-- SPARE_STAND_IN (R272): A write to FAB_SPMAP with EN set makes a spare channel stand in for a target channel. -/
  | spareStandIn (w : Who) (n : Nat) (d : BitVec 32) (strb : BitVec 4)
  /-- STAND_IN_COMPLETE (R272): At tick a + 17 the replaced channel is disconnected, and ACTIVE and REPLACED are set. -/
  | standInComplete (n : Nat)
  /-- OWNER_HANDOVER (R291): A secure write of OWNER hands a Pool slot to a new owner and sets HANDOVER. -/
  | ownerHandover (w : Who) (n : Nat) (d : BitVec 32) (strb : BitVec 4)
  /-- HANDOVER_DRAIN_COMPLETE (R291): The old owner's outstanding accesses drain, HANDOVER clears, and the new owner's requests proceed. -/
  | handoverDrainComplete (n : Nat)
  /-- BANK_EN_WRITE (R305): An EN write to MEM_BCTL starts a slot's entry to or exit from retention. -/
  | bankEnWrite (w : Who) (n : Nat) (d : BitVec 32) (strb : BitVec 4)
  /-- AUTO_WAKE (R306): An access to a retained slot with AUTO_WAKE set wakes the slot and stalls the requester. -/
  | autoWake (n : Nat)
  /-- RET_ACK_RISE (R451): ret_ack rises; the slot or the Tarn is retained and OFF. -/
  | retAckRise (b : Nat)
  /-- RET_ACK_FALL (R451): ret_ack falls, and the slot is ON within 1 µs. -/
  | retAckFall (b : Nat)
  /-- CD_EN_WRITE (R303): An EN write to a conduit requests start or stop. -/
  | cdEnWrite (w : Who) (c : Nat) (d : BitVec 32) (strb : BitVec 4)
  /-- CONDUIT_START_DONE (R303): A conduit ends STARTING with CD_POS cleared, or with ERR 5 on an inconsistent descriptor. -/
  | conduitStartDone (c : Nat)
  /-- CONDUIT_STOP_DONE (R303): A conduit completes its word in flight and is OFF with CD_POS kept. -/
  | conduitStopDone (c : Nat)
  /-- CONDUIT_STREAM_TX_WORD (R299): A STREAM_TX conduit reads the next ring word into a lane FIFO that has room for four words. -/
  | conduitStreamTxWord (c : Nat) (k : Nat)
  /-- CONDUIT_STREAM_RX_WORD (R299): A STREAM_RX conduit writes four FIFO words to the lane's sub-ring. -/
  | conduitStreamRxWord (c : Nat) (k : Nat)
  /-- KICK (R300): A write of 1 to CD_CTRL.KICK triggers a COPY transfer, or sets TRIGPEND, or counts TRIGOVR. -/
  | kick (w : Who) (c : Nat) (d : BitVec 32) (strb : BitVec 4)
  /-- CONDUIT_TRANSFER_DONE (R300): A COPY transfer ends; CD_POS advances, CDONE may be raised, and a pending trigger runs. -/
  | conduitTransferDone (c : Nat)
  /-- CORRECTED_WRITEBACK (R315): At the next idle cycle a corrected word is written back to memory. -/
  | correctedWriteback (word : Nat)
  /-- POISON_REWRITE (R316): At the next idle cycle an uncorrectable word is rewritten with the poison code. -/
  | poisonRewrite (word : Nat)
  /-- BUCKET_LEAK (R324): At each 2^K µs boundary, a leaky bucket's LEVEL drops by 1. -/
  | bucketLeak (b : Nat)
  /-- LOG_ENTRY_FREE (R327): A write of 1 to a MEM_LOGV bit frees that correction log entry. -/
  | logEntryFree (w : Who) (d : BitVec 32) (strb : BitVec 4)
  /-- PAGE_REMAP (R330): A MEM_RETIRE write with REMAP set starts a copy of the page to a spare page. -/
  | pageRemap (w : Who) (i : Nat) (d : BitVec 32) (strb : BitVec 4)
  /-- PAGE_REMOVE (R328): A MEM_RETIRE write with REMAP clear removes the page from service. -/
  | pageRemove (w : Who) (i : Nat) (d : BitVec 32) (strb : BitVec 4)
  /-- PAGE_COPY_DONE (R330): The last word of a page copy is done; the page is served from the spare page and RETDONE is set. -/
  | pageCopyDone
  /-- MIGRATION_START (R331): A write of 1 to MEM_MIGCTL.GO starts copying a slot to a spare bank. -/
  | migrationStart (w : Who) (d : BitVec 32) (strb : BitVec 4)
  /-- MIGRATION_DONE (R333): A migration's last word is copied; PHYS switches, the old bank goes out of service, and MIGDONE is set. -/
  | migrationDone
  /-- CLEAR_WORD (R338): A secure write to MEM_CLRW sets the addressed word to zero with valid check bits. -/
  | clearWord (w : Who) (d : BitVec 32) (strb : BitVec 4)
  /-- BGT_REGION_START (R335): INTERVAL elapses and the background test chooses the next region and starts SAVE. -/
  | bgtRegionStart
  /-- BGT_SAVE_DONE (R335): The region's 32 words are in the test buffer and MARCH begins. -/
  | bgtSaveDone
  /-- BGT_MARCH_DONE (R337): The March C- sequence ends, failures are recorded, and RESTORE begins. -/
  | bgtMarchDone (fails : List Nat)
  /-- BGT_RESTORE_DONE (R335): The region's words are written back and the test returns to IDLE. -/
  | bgtRestoreDone
  /-- HOST_LOCK_REQUEST (R352): A host read of LCK_REQ requests a lock at the arbiter and returns a result code. -/
  | hostLockRequest (w : Who) (k : Nat)
  /-- HOST_LOCK_RELEASE (R347): A host read of LCK_REL releases a lock the master holds and returns 1, or returns 0. -/
  | hostLockRelease (w : Who) (k : Nat)
  /-- FORCED_RELEASE (R348): A write to LCK_FREL releases a lock held by the expected holder, or counts FMISS. -/
  | forcedRelease (w : Who) (d : BitVec 32) (strb : BitVec 4)
  /-- HOST_MASTER_ABANDON (R349): A write to LCK_HMREL abandons every lock a host master holds. -/
  | hostMasterAbandon (w : Who) (d : BitVec 32) (strb : BitVec 4)
  /-- ROTATION_BOUNDARY (R24): An engine passes from slot 63 to slot 0, applies a pending map swap and samples the boosted threads. -/
  | rotationBoundary (e : Nat)
  /-- SWAP (R28): A write of 1 to ENG_CTRL.SWAP makes a slot-map swap pending. -/
  | swap (w : Who) (e : Nat) (d : BitVec 32) (strb : BitVec 4)
  /-- ICINV (R37): A write of 1 to ENG_CTRL.ICINV starts invalidation of the instruction cache and line buffers. -/
  | icinv (w : Who) (e : Nat) (d : BitVec 32) (strb : BitVec 4)
  /-- ICACHE_INVALIDATE_DONE (R37): Invalidation completes, ICINV reads 0, and threads refetch. -/
  | icacheInvalidateDone (e : Nat)
  /-- FAR_FETCH_LINE_DELIVERED (R38): A far fetch miss completes and its line is installed, ending the thread's stall. -/
  | farFetchLineDelivered (e : Nat) (t : Nat)
  /-- LOAD_COMPLETE (R45): A load completes, writes its destination and ends a waiting stall. -/
  | loadComplete (e : Nat) (t : Nat)
  /-- LONG_OP_COMPLETE (R41): A long operation completes and writes MR, IR or the accumulator. -/
  | longOpComplete (e : Nat) (t : Nat) (pipe : Nat)
  /-- STORE_DRAIN (R48): The oldest store-buffer entry drains and becomes visible to memory or the target unit. -/
  | storeDrain (e : Nat)
  /-- POISONED_STORE_FAULT (R143): A thread whose poisoned store drained to control space goes FAULTED at its next boundary. -/
  | poisonedStoreFault (e : Nat) (t : Nat)
  /-- ENG_EN_WRITE (R512): An EN write to ENG_CTRL requests engine start or stop. -/
  | engEnWrite (w : Who) (e : Nat) (d : BitVec 32) (strb : BitVec 4)
  /-- ENGINE_STOP_DONE (R512): Every thread has quiesced and the store buffer has drained; the engine is OFF. -/
  | engineStopDone (e : Nat)
  /-- ENGINE_START_DONE (R512): The engine releases the threads it quiesced and is ON. -/
  | engineStartDone (e : Nat)
  /-- URGENT_DIVERSION (R137): A thread with an urgent event set is diverted at its next permitted boundary to UVEC. -/
  | urgentDiversion (e : Nat) (t : Nat)
  /-- THREAD_CMD_PARK (R126): Command PARK sends the thread to PARKED with cause 6 at its next boundary. -/
  | threadCmdPark (w : Who) (e : Nat) (t : Nat) (d : BitVec 32) (strb : BitVec 4)
  /-- THREAD_CMD_RESUME (R126): Command RESUME makes a PARKED thread READY at ENG_TPC. -/
  | threadCmdResume (w : Who) (e : Nat) (t : Nat) (d : BitVec 32) (strb : BitVec 4)
  /-- THREAD_CMD_QUIESCE (R126): Command QUIESCE holds the thread in QUIESCED with its prior state. -/
  | threadCmdQuiesce (w : Who) (e : Nat) (t : Nat) (d : BitVec 32) (strb : BitVec 4)
  /-- THREAD_CMD_RELEASE (R126): Command RELEASE returns a QUIESCED thread to its prior state. -/
  | threadCmdRelease (w : Who) (e : Nat) (t : Nat) (d : BitVec 32) (strb : BitVec 4)
  /-- THREAD_CMD_CLRVIOL (R126): Command CLRVIOL clears the thread's VIOL counter. -/
  | threadCmdClrviol (w : Who) (e : Nat) (t : Nat) (d : BitVec 32) (strb : BitVec 4)
  /-- THREAD_CMD_DECLARE (R126): Command DECLARE sends the thread to FAULTED with FCAUSE 5. -/
  | threadCmdDeclare (w : Who) (e : Nat) (t : Nat) (d : BitVec 32) (strb : BitVec 4)
  /-- POKE (R144): A write of 1 to an ENG_TEVT EVT bit sets that event in the thread, which may end a WAIT. -/
  | poke (w : Who) (e : Nat) (t : Nat) (d : BitVec 32) (strb : BitVec 4)
  /-- DECODE_TABLE_WRITE (R122): A secure write to a decode table register is accepted only while the engine's threads are quiesced or parked. -/
  | decodeTableWrite (w : Who) (e : Nat) (off : Nat) (d : BitVec 32) (strb : BitVec 4)
  /-- MOV (R70): MOV copies wb to wa. -/
  | mov (e : Nat) (t : Nat) (a : Nat) (b : Nat)
  /-- ADD (R70): ADD sets wa to wa + wb, wrapping. -/
  | add (e : Nat) (t : Nat) (a : Nat) (b : Nat)
  /-- SUB (R70): SUB sets wa to wa - wb, wrapping. -/
  | sub (e : Nat) (t : Nat) (a : Nat) (b : Nat)
  /-- ADDS (R70): ADDS sets wa to wa + wb, saturating. -/
  | adds (e : Nat) (t : Nat) (a : Nat) (b : Nat)
  /-- SUBS (R70): SUBS sets wa to wa - wb, saturating. -/
  | subs (e : Nat) (t : Nat) (a : Nat) (b : Nat)
  /-- AND (R70): AND sets wa to wa AND wb. -/
  | andr (e : Nat) (t : Nat) (a : Nat) (b : Nat)
  /-- OR (R70): OR sets wa to wa OR wb. -/
  | orr (e : Nat) (t : Nat) (a : Nat) (b : Nat)
  /-- XOR (R70): XOR sets wa to wa XOR wb. -/
  | xorr (e : Nat) (t : Nat) (a : Nat) (b : Nat)
  /-- SHL (R71): SHL shifts wa left by the count in wb. -/
  | shl (e : Nat) (t : Nat) (a : Nat) (b : Nat)
  /-- SHR (R71): SHR shifts wa right logically by the count in wb. -/
  | shr (e : Nat) (t : Nat) (a : Nat) (b : Nat)
  /-- SAR (R71): SAR shifts wa right arithmetically by the count in wb. -/
  | sar (e : Nat) (t : Nat) (a : Nat) (b : Nat)
  /-- ROR (R71): ROR rotates wa right by the count in wb modulo 16. -/
  | ror (e : Nat) (t : Nat) (a : Nat) (b : Nat)
  /-- NEG (R70): NEG sets wa to -wb, wrapping. -/
  | neg (e : Nat) (t : Nat) (a : Nat) (b : Nat)
  /-- NEGS (R70): NEGS sets wa to -wb, saturating. -/
  | negs (e : Nat) (t : Nat) (a : Nat) (b : Nat)
  /-- ABS (R70): ABS sets wa to abs(wb), wrapping. -/
  | abs (e : Nat) (t : Nat) (a : Nat) (b : Nat)
  /-- ABSS (R70): ABSS sets wa to abs(wb), saturating. -/
  | abss (e : Nat) (t : Nat) (a : Nat) (b : Nat)
  /-- MOVI (R73): MOVI loads a sign-extended short immediate into wd. -/
  | movi (e : Nat) (t : Nat) (rd : Nat) (imm : Int)
  /-- ADDI (R73): ADDI adds a short immediate to wd, wrapping. -/
  | addi (e : Nat) (t : Nat) (rd : Nat) (imm : Int)
  /-- SHLI (R73): SHLI shifts wd left by an immediate count. -/
  | shli (e : Nat) (t : Nat) (rd : Nat) (imm : Nat)
  /-- SHRI (R73): SHRI shifts wd right logically by an immediate count. -/
  | shri (e : Nat) (t : Nat) (rd : Nat) (imm : Nat)
  /-- SARI (R73): SARI shifts wd right arithmetically by an immediate count. -/
  | sari (e : Nat) (t : Nat) (rd : Nat) (imm : Nat)
  /-- RORI (R73): RORI rotates wd right by an immediate count. -/
  | rori (e : Nat) (t : Nat) (rd : Nat) (imm : Nat)
  /-- SEQI (R73): SEQI sets wd to 1 when wd equals the immediate, else 0. -/
  | seqi (e : Nat) (t : Nat) (rd : Nat) (imm : Int)
  /-- SNEI (R73): SNEI sets wd to 1 when wd differs from the immediate, else 0. -/
  | snei (e : Nat) (t : Nat) (rd : Nat) (imm : Int)
  /-- SLTI (R73): SLTI sets wd to 1 when wd is below the immediate (signed), else 0. -/
  | slti (e : Nat) (t : Nat) (rd : Nat) (imm : Int)
  /-- SLTUI (R73): SLTUI sets wd to 1 when wd is below the immediate (unsigned), else 0. -/
  | sltui (e : Nat) (t : Nat) (rd : Nat) (imm : Nat)
  /-- LD (R75): LD loads a 16-bit word through a segment into wd. -/
  | ld (e : Nat) (t : Nat) (rd : Nat) (k : Nat) (off : Nat)
  /-- LDB (R75): LDB loads a zero-extended byte through a segment into wd. -/
  | ldb (e : Nat) (t : Nat) (rd : Nat) (k : Nat) (off : Nat)
  /-- LDD (R75): LDD loads 32 bits through a segment into pair dn. -/
  | ldd (e : Nat) (t : Nat) (n : Nat) (k : Nat) (off : Nat)
  /-- ST (R75): ST stores wd as a 16-bit word into the store buffer. -/
  | st (e : Nat) (t : Nat) (rd : Nat) (k : Nat) (off : Nat)
  /-- STB (R75): STB stores wd[7:0] as a byte into the store buffer. -/
  | stb (e : Nat) (t : Nat) (rd : Nat) (k : Nat) (off : Nat)
  /-- STD (R75): STD stores pair dn as 32 bits into the store buffer. -/
  | std (e : Nat) (t : Nat) (n : Nat) (k : Nat) (off : Nat)
  /-- BEQ (R76): BEQ branches when wa equals wb. -/
  | beq (e : Nat) (t : Nat) (a : Nat) (b : Nat) (off : Int)
  /-- BNE (R76): BNE branches when wa differs from wb. -/
  | bne (e : Nat) (t : Nat) (a : Nat) (b : Nat) (off : Int)
  /-- BLT (R76): BLT branches when wa is below wb (signed). -/
  | blt (e : Nat) (t : Nat) (a : Nat) (b : Nat) (off : Int)
  /-- BGE (R76): BGE branches when wa is at or above wb (signed). -/
  | bge (e : Nat) (t : Nat) (a : Nat) (b : Nat) (off : Int)
  /-- BLTU (R76): BLTU branches when wa is below wb (unsigned). -/
  | bltu (e : Nat) (t : Nat) (a : Nat) (b : Nat) (off : Int)
  /-- BGEU (R76): BGEU branches when wa is at or above wb (unsigned). -/
  | bgeu (e : Nat) (t : Nat) (a : Nat) (b : Nat) (off : Int)
  /-- BEQI (R76): BEQI branches when wa equals the immediate. -/
  | beqi (e : Nat) (t : Nat) (a : Nat) (imm : Int) (off : Int)
  /-- BNEI (R76): BNEI branches when wa differs from the immediate. -/
  | bnei (e : Nat) (t : Nat) (a : Nat) (imm : Int) (off : Int)
  /-- BLTI (R76): BLTI branches when wa is below the signed immediate. -/
  | blti (e : Nat) (t : Nat) (a : Nat) (imm : Int) (off : Int)
  /-- BGEI (R76): BGEI branches when wa is at or above the signed immediate. -/
  | bgei (e : Nat) (t : Nat) (a : Nat) (imm : Int) (off : Int)
  /-- BLTUI (R76): BLTUI branches when wa is below the unsigned immediate. -/
  | bltui (e : Nat) (t : Nat) (a : Nat) (imm : Nat) (off : Int)
  /-- BGEUI (R76): BGEUI branches when wa is at or above the unsigned immediate. -/
  | bgeui (e : Nat) (t : Nat) (a : Nat) (imm : Nat) (off : Int)
  /-- BZ (R77): BZ branches when wa is zero. -/
  | bz (e : Nat) (t : Nat) (a : Nat) (off : Int)
  /-- BNZ (R77): BNZ branches when wa is non-zero. -/
  | bnz (e : Nat) (t : Nat) (a : Nat) (off : Int)
  /-- JMP (R80): MTS JMP continues execution at the word address in wa. -/
  | jmp (e : Nat) (t : Nat) (a : Nat)
  /-- CALL (R80): MTS CALL saves the return address in LINK and continues at wa. -/
  | call (e : Nat) (t : Nat) (a : Nat)
  /-- RET (R80): MTS RET continues execution at LINK. -/
  | ret (e : Nat) (t : Nat) (a : Nat)
  /-- MUL (R82): MUL starts a signed 16x16 multiply into MR. -/
  | mul (e : Nat) (t : Nat) (a : Nat) (b : Nat)
  /-- MULU (R82): MULU starts an unsigned 16x16 multiply into MR. -/
  | mulu (e : Nat) (t : Nat) (a : Nat) (b : Nat)
  /-- MULQ (R82): MULQ starts a rounded, saturated Q15 multiply into MR. -/
  | mulq (e : Nat) (t : Nat) (a : Nat) (b : Nat)
  /-- MAC (R82): MAC adds wa x wb to an accumulator. -/
  | mac (e : Nat) (t : Nat) (n : Nat) (a : Nat) (b : Nat)
  /-- MSC (R82): MSC subtracts wa x wb from an accumulator. -/
  | msc (e : Nat) (t : Nat) (n : Nat) (a : Nat) (b : Nat)
  /-- SCL (R82): SCL shifts an accumulator right and writes the saturated result to MR. -/
  | scl (e : Nat) (t : Nat) (n : Nat) (imm : Nat)
  /-- ACLR (R82): ACLR clears an accumulator. -/
  | aclr (e : Nat) (t : Nat) (n : Nat)
  /-- ASET (R82): ASET loads an accumulator from a sign-extended pair. -/
  | aset (e : Nat) (t : Nat) (n : Nat) (dn : Nat)
  /-- DIV (R83): DIV starts a signed 32/16 divide into IR. -/
  | div (e : Nat) (t : Nat) (dn : Nat) (b : Nat)
  /-- DIVU (R83): DIVU starts an unsigned 32/16 divide into IR. -/
  | divu (e : Nat) (t : Nat) (dn : Nat) (b : Nat)
  /-- SQRT (R82): SQRT starts a 32-bit integer square root into IR. -/
  | sqrt (e : Nat) (t : Nat) (dn : Nat)
  /-- SINCOS (R84): SINCOS starts a CORDIC cosine and sine of a binary angle into IR. -/
  | sincos (e : Nat) (t : Nat) (a : Nat)
  /-- ATAN2 (R84): ATAN2 starts a CORDIC angle and magnitude computation into IR. -/
  | atan2 (e : Nat) (t : Nat) (a : Nat) (b : Nat)
  /-- MAG (R84): MAG starts a CORDIC magnitude computation into IR. -/
  | mag (e : Nat) (t : Nat) (a : Nat) (b : Nat)
  /-- LRD (R85): LRD copies a long-op result into registers, stalling until it is ready. -/
  | lrd (e : Nat) (t : Nat) (form : LrdForm)
  /-- REP (R87): REP makes the next instruction execute n times without interruption. -/
  | rep (e : Nat) (t : Nat) (cnt : RepCount)
  /-- REPI (R90): REPI makes the next instruction execute n times, with urgent diversion allowed between repetitions. -/
  | repi (e : Nat) (t : Nat) (cnt : RepCount)
  /-- REPEAT_ITERATION (R89): One repetition of a repeat target issues, and the base advances for a load or store. -/
  | repeatIteration (e : Nat) (t : Nat)
  /-- WAIT (R92): WAIT delivers masked events at once or puts the thread in WAITING until one arrives. -/
  | waitEvt (e : Nat) (t : Nat) (rd : Nat) (m : Nat)
  /-- FENCE (R51): FENCE stalls until every store-buffer entry present at issue has drained. -/
  | fence (e : Nat) (t : Nat)
  /-- LOCK (R342): LOCK requests a lock and returns a code: denied, acquired, acquired after abandonment, or queued. -/
  | lock (e : Nat) (t : Nat) (rd : Nat) (k : Nat)
  /-- UNLOCK (R346): UNLOCK drains the store buffer and then releases the lock or withdraws the request. -/
  | unlock (e : Nat) (t : Nat) (rd : Nat) (k : Nat)
  /-- LOG (R502): LOG places a record with code and payload in the outlet's log FIFO, or drops it. -/
  | logRec (e : Nat) (t : Nat) (rc : Nat) (dn : Nat)
  /-- MFS (R96): MFS reads a special register into wd. -/
  | mfs (e : Nat) (t : Nat) (rd : Nat) (sr : Nat)
  /-- MTS (R96): MTS writes a special register from wa. -/
  | mts (e : Nat) (t : Nat) (sr : Nat) (a : Nat)
  /-- MTS_URET (R138): MTS URET while DIVERTED ends the diversion and continues at the written address. -/
  | mtsUret (e : Nat) (t : Nat) (a : Nat)
  /-- SLOTSWAP (R28): SLOTSWAP drains the store buffer and makes a slot-map swap pending. -/
  | slotswap (e : Nat) (t : Nat)
  /-- CHECKPOINT (R95): CHECKPOINT records the thread's architectural state for continuity. -/
  | checkpoint (e : Nat) (t : Nat)
  /-- PARK (R40): PARK, or a fetched word 0x0000 or a refused fetch, sends the thread to PARKED with its cause. -/
  | park (e : Nat) (t : Nat)
  /-- CUST (R118): A custom opcode starts its micro-op sequence from the decode table. -/
  | cust (e : Nat) (t : Nat) (n : Nat) (ra : Nat) (rb : Nat) (rc : Nat)
  /-- CUSTOM_MICRO_OP (R116): One micro-op of a custom instruction executes in one slot of its thread. -/
  | customMicroOp (e : Nat) (t : Nat)
  /-- RESERVED_ENCODING (R110): A reserved encoding executes as a no-operation and advances VIOL. -/
  | reservedEncoding (e : Nat) (t : Nat) (len : Nat)
  /-- DOMAIN_ARM (R361): A write of ENG_DCTL.EN = 1 arms a DISARMED domain, or latches or clears a request. -/
  | domainArm (w : Who) (dom : Nat) (d : BitVec 32) (strb : BitVec 4)
  /-- DOMAIN_ARMED (R17): With limits locked and counters armed, the domain is ARMED and its outputs leave inert. -/
  | domainArmed (dom : Nat)
  /-- DOMAIN_RESET (R361): A write of 1 to ENG_DCTL.DRST starts the domain's STOPPING, or latches or clears a request. -/
  | domainReset (w : Who) (dom : Nat) (d : BitVec 32) (strb : BitVec 4)
  /-- DOMAIN_DISARMED (R17): With the lanes inert and the locks abandoned, the domain reaches DISARMED and LIMIT_LOCK clears. -/
  | domainDisarmed (dom : Nat)
  /-- CMD_RESUME (R360): Domain command RESUME returns a FAULT-HOLD or SAFE domain to RUN at the next period start. -/
  | cmdResume (w : Who) (dom : Nat) (d : BitVec 32) (strb : BitVec 4)
  /-- CMD_SAFE (R360): Domain command SAFE puts the domain in SAFE at the next period start. -/
  | cmdSafe (w : Who) (dom : Nat) (d : BitVec 32) (strb : BitVec 4)
  /-- CMD_HOLD (R362): Domain command HOLD freezes the domain into FAULT-HOLD. -/
  | cmdHold (w : Who) (dom : Nat) (d : BitVec 32) (strb : BitVec 4)
  /-- FREEZE_COMMIT_STOP (R363): At C the domain's commit stops, compare writes are refused, and each lane's held period is fixed. -/
  | freezeCommitStop (dom : Nat)
  /-- FREEZE_SWITCH (R363): At F the lanes of a frozen domain restart their held periods or take the safe pattern together. -/
  | freezeSwitch (dom : Nat)
  /-- DOMAIN_SUBSTATE_CHANGE (R360): A requested SAFE or RUN change takes effect at the period start of REFCG. -/
  | domainSubstateChange (dom : Nat)
  /-- HOLDMAX_EXPIRY (R360): HOLDMAX periods of REFCG after F move a FAULT-HOLD domain to SAFE. -/
  | holdmaxExpiry (dom : Nat)
  /-- ENGINE_STALL_DETECT (R356): An ON engine with a READY thread completes no slot for 1600 ticks and an engine fault is detected. -/
  | engineStallDetect (e : Nat)
  /-- FDECL_ENGINE (R356): A write of ENG_FDECL with KIND engine declares an engine fault. -/
  | fdeclEngine (w : Who) (d : BitVec 32) (strb : BitVec 4)
  /-- FDECL_LANE (R356): A write of ENG_FDECL with KIND lane declares a lane fault. -/
  | fdeclLane (w : Who) (d : BitVec 32) (strb : BitVec 4)
  /-- THREAD_ROLLBACK (R371): A faulted continuity thread is restored from its usable record and resumes within 5 µs. -/
  | threadRollback (e : Nat) (t : Nat)
  /-- CHECKPOINT_INTERVAL (R370): At a multiple of CKINT x 800 ticks, a checkpoint is taken of each continuity thread of the role. -/
  | checkpointInterval (role : Nat)
  /-- CHECKPOINT_USABLE (R370): A checkpoint record becomes usable once its stores have drained, its long ops completed and its copy reached the Pool. -/
  | checkpointUsable (e : Nat) (t : Nat)
  /-- TAKEOVER_ROLE_TAKEN (R372): The reserve aborts BIST or preload, is reset, and takes role r in STARTING. -/
  | takeoverRoleTaken
  /-- TAKEOVER_COMPLETE (R372): The restore ends at T; role r is ON, threads are released, and COAST domains return. -/
  | takeoverComplete
  /-- TAKEOVER_FAIL (R375): The restoring engine faults or the restore is refused; the role becomes vacant and affected domains freeze. -/
  | takeoverFail
  /-- ENGINE_BIST_DONE (R376): Logic BIST ends; the engine becomes the reserve, waits, or goes out of service. -/
  | engineBistDone (e : Nat) (pass : Bool)
  /-- ROLLING_TEST_START (R378): After ROLLINT seconds, the rolling test starts BIST on the reserve. -/
  | rollingTestStart
  /-- PRELOAD_DONE (R378): The reserve completes its preload of the next active role. -/
  | preloadDone
  /-- SWAP_SWITCH_START (R379): At the first ACG deadline after preload, the role's threads quiesce for the switch. -/
  | swapSwitchStart
  /-- SWAP_SWITCH_DONE (R379): The reserve holds role r ON with contexts copied, and the threads are released. -/
  | swapSwitchDone
  /-- STORM_WINDOW_END (R504): A storm counting window ends, and storm mode ends when the count is at or below LOW. -/
  | stormWindowEnd
  /-- OUT_RAISE (R495): A write to OUT_RAISE queues an alarm of code 0x30–0x3F. -/
  | outRaise (w : Who) (d : BitVec 32) (strb : BitVec 4)
  /-- OUTLET_RECORD_WRITE (R501): The outlet writes its highest-priority candidate record to the ring and advances WRPTR. -/
  | outletRecordWrite
  /-- RDPTR_WRITE (R500): A write to OUT_RDPTR frees ring places, or is refused and counted. -/
  | rdptrWrite (w : Who) (d : BitVec 32) (strb : BitVec 4)
  /-- TIME (R468): Mailbox selector TIME captures 64-bit shore time. -/
  | mbxTime (w : Who)
  /-- PPS (R468): Mailbox selector PPS captures the last tsync_pps time and LANE_SYNC. -/
  | mbxPps (w : Who)
  /-- BOOT (R468): Mailbox selector BOOT captures the boot completion time and WELL_STAT. -/
  | mbxBoot (w : Who)
  /-- CHAIN (R468): Mailbox selector CHAIN captures four counters and the shore time in one tick. -/
  | mbxChain (w : Who) (i : Nat)
  /-- POSCAP (R468): Mailbox selector POSCAP captures a position unit's position, speed, time and status. -/
  | mbxPoscap (w : Who) (i : Nat)
  /-- LOGA (R326): Mailbox selector LOGA captures the first half of a correction log entry. -/
  | mbxLoga (w : Who) (i : Nat)
  /-- LOGB (R326): Mailbox selector LOGB captures the second half of a correction log entry. -/
  | mbxLogb (w : Who) (i : Nat)
  /-- FREC (R358): Mailbox selector FREC captures a fault record. -/
  | mbxFrec (w : Who) (i : Nat)
  /-- QALM (R507): Mailbox selector QALM captures an alarm queue entry without removing it. -/
  | mbxQalm (w : Who) (i : Nat)
  /-- OUTCNT (R507): Mailbox selector OUTCNT captures the outlet's record and drop counts. -/
  | mbxOutcnt (w : Who)
  /-- MBX_RESERVED_SELECTOR (R469): A reserved or filtered mailbox selector completes at once with zero data and sets BADSEL or FILT. -/
  | mbxReservedSelector (w : Who) (sel : Nat)
  /-- MAILBOX_CAPTURE_DONE (R467): The mailbox places all four words at once, clears BUSY, sets VALID and advances SEQ. -/
  | mailboxCaptureDone
  /-- MAILBOX_DATA3_READ (R467): A host read of MBX_DATA3 returns the data and clears VALID. -/
  | mailboxData3Read (w : Who) (strb : BitVec 4)
  /-- THREAD_DOORBELL (R472): A write to TOP_TDOOR sets the MBX event of the named thread. -/
  | threadDoorbell (w : Who) (d : BitVec 32) (strb : BitVec 4)
  /-- HOST_DOORBELL_SET (R472): A write of 1 to a TOP_HDOORSET bit sets that host doorbell. -/
  | hostDoorbellSet (w : Who) (d : BitVec 32) (strb : BitVec 4)
  /-- HOST_DOORBELL_CLEAR (R472): A write of 1 to a TOP_HDOOR bit clears that host doorbell. -/
  | hostDoorbellClear (w : Who) (d : BitVec 32) (strb : BitVec 4)
  /-- SCLK_FALLBACK (R435): With no sclk edge for 64 hclk cycles, hclk ÷ 4 is used as SCLK until sclk returns. -/
  | sclkFallback
  /-- LANE_SAFE_CHANGE (R439): A change of a lane_safe bit changes the inert and safe levels within 10 ns. -/
  | laneSafeChange (p : Nat) (lvl : Bool)
  /-- DOZE_ENTRY (R479): Every engine has rested for DOZEDLY µs; the block requests and enters DOZE. -/
  | dozeEntry
  /-- DOZE_EXIT (R479): An engine finds a READY thread and resumes; the block requests RUN. -/
  | dozeExit
  /-- SLEEP_REQUEST (R480): A write of 1 to ENG_PWR.SLEEPREQ starts SLEEP entry. -/
  | sleepRequest (w : Who) (d : BitVec 32) (strb : BitVec 4)
  /-- SLEEP_ENTERED (R480): SLEEP entry completes with engines gated, banks retained and the shore kept or stopped. -/
  | sleepEntered
  /-- WAKE (R481): A write of 1 to ENG_PWR.WAKE wakes the block from SLEEP. -/
  | wake (w : Who) (d : BitVec 32) (strb : BitVec 4)
  /-- WAKE_COMPLETE (R482): Contexts are restored, engines are ON, and threads, conduits and the outlet resume. -/
  | wakeComplete
  /-- SHORE_RESTART (R482): After relock and calibration, the stopped shore restarts from its held time and GAP is set. -/
  | shoreRestart
  /-- PWR_ACK_RISE (R450): pwr_ack rises; the requested power state is entered and pwr_req is lowered. -/
  | pwrAckRise
  /-- PWR_ACK_FALL (R450): pwr_ack falls, completing the handshake and allowing a new request. -/
  | pwrAckFall
  /-- THREAD_RESET (R484): ENG_RST with KIND thread parks the thread with cause 7, clears its registers and abandons its locks. -/
  | threadReset (w : Who) (d : BitVec 32) (strb : BitVec 4)
  /-- ENGINE_RESET (R484): ENG_RST with KIND engine parks every thread of the engine and abandons the role's locks. -/
  | engineReset (w : Who) (d : BitVec 32) (strb : BitVec 4)
  /-- LANE_RESET (R484): ENG_RST with KIND lane puts the lane core OFF and discards its entries and FIFO. -/
  | laneReset (w : Who) (d : BitVec 32) (strb : BitVec 4)
  /-- BREAKPOINT_HIT (R486): A thread reaches an enabled breakpoint address and is halted. -/
  | breakpointHit (e : Nat) (t : Nat) (i : Nat)
  /-- HALT (R487): Debug command HALT halts the named thread. -/
  | dbgHalt (w : Who) (e : Nat) (d : BitVec 32) (strb : BitVec 4)
  /-- STEP (R487): Debug command STEP executes one issue of the thread and halts it again. -/
  | dbgStep (w : Who) (e : Nat) (d : BitVec 32) (strb : BitVec 4)
  /-- RUN (R487): Debug command RUN ends the thread's halt. -/
  | dbgRun (w : Who) (e : Nat) (d : BitVec 32) (strb : BitVec 4)
  /-- HALTALL (R487): Debug command HALTALL halts every thread of the engine. -/
  | dbgHaltall (w : Who) (e : Nat) (d : BitVec 32) (strb : BitVec 4)
  /-- RUNALL (R487): Debug command RUNALL ends the halt of every thread of the engine. -/
  | dbgRunall (w : Who) (e : Nat) (d : BitVec 32) (strb : BitVec 4)
  /-- TAP_RESET (R452): tap_trst_n or the TAP state machine resets the TAP, which loads IDCODE. -/
  | tapReset
  /-- IDCODE (R490): TAP instruction IDCODE selects the 32-bit identification register. -/
  | tapIdcode
  /-- STATUS (R490): TAP instruction STATUS captures WELL_STAT. -/
  | tapStatus
  /-- DBGACC (R491): A DBGACC Update-DR issues one host-port access as master 0xFF while debug is open. -/
  | tapDbgacc (write : Bool) (addr : Nat) (d : BitVec 32) (strb : BitVec 4)
  /-- WRAPSEL (R490): TAP instruction WRAPSEL connects the IEEE 1500 wrapper chain. -/
  | tapWrapsel
  /-- SCANMODE (R492): TAP instruction SCANMODE enters scan mode, making lanes inert and wiping the Tarn. -/
  | tapScanmode
  /-- MBIST (R492): TAP instruction MBIST enters memory BIST, making lanes inert and wiping the Tarn. -/
  | tapMbist
  /-- LBIST (R492): TAP instruction LBIST enters logic BIST through the wrappers. -/
  | tapLbist
  /-- BYPASS (R490): TAP instruction BYPASS selects the 1-bit bypass register. -/
  | tapBypass
  /-- STATUS_COPY_REFRESH (R465): At each rising edge of SCLK, every copy register is sampled whole from its unit and TOP_COPYSEQ.SEQ advances; a returning sclk edge ends the hclk ÷ 4 fallback. -/
  | statusCopyRefresh (sclk : Bool)
  /-- HOST_MEMORY_ACCESS (R279): A host read or write of the Pool, a local RAM role alias, the Tarn, the hole or an unmapped range is arbitrated and checked for ownership and retention; it may wait, auto-wake a slot or wake the block, and it counts host violations. -/
  | hostMemoryAccess (w : Who) (write : Bool) (addr : Nat) (d : BitVec 32) (strb : BitVec 4)
  /-- TAMPER_DEASSERT (R416): tamper_n returns high; WELL_TAMP.LEVEL reads 1, the Tarn is no longer held closed, and TARN records are no longer skipped. -/
  | tamperDeassert
  /-- CHANNEL_LEVEL_FALL (R265): A channel's combined level falls; FAB_CST.LEVEL clears, an event-output channel in LEVEL mode lowers evout, and a later trip release of its group becomes possible. -/
  | channelLevelFall (tap : ChannelTap)
  /-- SPEED_LIMIT_DECAY (R235): In every tick between counted edges, a position unit limits the magnitude of SPEED to round(25 600 000 000 / e) counts/s, where e is the number of steps since the last counted edge. -/
  | speedLimitDecay (u : Nat)
deriving DecidableEq, Repr

end Sys2Proof
end

