-- ==== Sys2Proof/Config.lean ====
section
/-! DEFINITION. What an implementation fixes and the manual leaves free. Each constant has no body:
no proof can see its value. -/

namespace Sys2Proof

/-- How far a CORDIC cosine lies from the correctly rounded value, before the bound of spec/03 R84 is
applied to it. DESIGN CHOICE, assumption log 3. -/
opaque Config.cosError : Word → Int

/-- The same for the sine. DESIGN CHOICE, assumption log 3. -/
opaque Config.sinError : Word → Int

/-- The same for the angle of ATAN2. DESIGN CHOICE, assumption log 3. -/
opaque Config.angleError : Word → Word → Int

/-- The same for the magnitude of ATAN2 and of MAG. DESIGN CHOICE, assumption log 3. -/
opaque Config.magError : Word → Word → Int

/-- The SPEED of a position unit whose measured value does not fit its register: from the interval in steps
and the number of edges (spec/08 R234). DESIGN CHOICE, assumption log 4. -/
opaque Config.speedBeyond : Nat → Nat → BitVec 32

/-- The data that a read of a poisoned or uncorrectable word delivers: from the stored data and the syndrome (spec/12 R312,
R316, R317). DESIGN CHOICE, assumption log 22. -/
opaque Config.poisonData : BitVec 64 → BitVec 16 → BitVec 64

/-- The place of the schedule table from which a new entry looks for a free one: from the lane, the tick and the entries in
use (spec/06 R177, R186). DESIGN CHOICE, assumption log 11. -/
opaque Config.entryPlace : Nat → Nat → Nat → Nat

/-- The taps that span one tick on a delay line when the calibrator visits it of itself: from the core, the line and the
tick (spec/06 R150). DESIGN CHOICE, assumption log 134. -/
opaque Config.lineSpan : Nat → Nat → Nat → Nat

/-- How long, in ticks and before its bound is applied, a MIRROR lane holds its level when timed operation resumes: from the
lane and the tick (spec/06 R174). DESIGN CHOICE, assumption log 118. -/
opaque Config.mirrorHold : Nat → Nat → Nat

/-- How many words of a COPY transfer a conduit has moved when it is disabled during it: from the conduit and
the tick (spec/11 R303). DESIGN CHOICE, assumption log 5. -/
opaque Config.wordsMoved : Nat → Nat → Nat

/-- How many words the copier has copied while a page copy or a migration runs, before its bound is applied: from the
tick (spec/12 R330, R331, R339). DESIGN CHOICE, assumption log 14. -/
opaque Config.copyProgress : Nat → Nat

/-- The CODE recorded for a slot whose header is good but for a reserved byte that is not 0: the manual gives the
test no code (spec/15 R401, R407, R410). DESIGN CHOICE, assumption log 60. -/
opaque Config.headerReservedCode : BitVec 8

/-- The byte offset recorded with a failure that the manual ties to no byte of the slot: from the code, 12 or 16
(spec/15 R410). DESIGN CHOICE, assumption log 60. -/
opaque Config.failOffset : Nat → BitVec 24

/-- MEM_TARN.CAUSE after the wipe of a boot in RETURN (spec/11 R295, spec/15 R414).
DESIGN CHOICE, assumption log 61. -/
opaque Config.returnWipeCause : BitVec 2

/-- The words of the configuration copy of a role, whose layout the manual leaves open: from the role, the word's
number in the copy and the tick of the write that reaches it (spec/14 R367, R368). DESIGN CHOICE, assumption log 62. -/
opaque Config.configWord : Nat → Nat → Nat → BitVec 64

/-- The words of a context record, whose layout the manual leaves open: from the role, the thread, the record (0 or 1), the
word's number in it and the tick in which its copy reaches the Pool (spec/14 R367). DESIGN CHOICE, assumption log 62. -/
opaque Config.contextWord : Nat → Nat → Nat → Nat → Nat → BitVec 64

/-- Which of two ratios the multiplier takes when both bring the reference equally close to 800 MHz: the higher, from the
reference in kHz (spec/15 R394). DESIGN CHOICE, assumption log 127. -/
opaque Config.bootTie : Nat → Bool

/-- Whether two writes of one local RAM word, through its two ports and in one tick, meet in one RAM cycle: from the engine
and the number of such a pair (spec/11 R282). DESIGN CHOICE, assumption log 119. -/
opaque Config.ramTie : Nat → Nat → Bool

/-- What the 1500 wrapper chain shows when WRAPSEL is loaded (spec/18 R490, R492).
DESIGN CHOICE, assumption log 63. -/
opaque Config.wrapperData : BitVec 32

end Sys2Proof
end

