-- ==== Sys2Proof/Machine/Regs.lean ====
section
/-! DEFINITION. The registers of the block: their addresses, their fields with access codes, and the
values they hold after power-on reset. Every row below is a row of a register map of the manual; the
file and rule stand with each register. Lane modes share the addresses LANE_M0 to LANE_M3 (spec/06
R176); the contents of each mode are kept under a key of its own above the 24-bit address space. -/

namespace Sys2Proof.Machine

/-- The access codes of spec/00 R4. `pwo` is a WO field that answers privileged masters only (spec/05
R144). -/
inductive Acc where
  | rw | ro | wo | w1c | w1s | rc | prw | srw | pwo
deriving DecidableEq, Repr

/-- A field of a register: its bits and its access code. -/
structure Fld where
  hi  : Nat
  lo  : Nat
  acc : Acc
deriving DecidableEq, Repr

/-- The rights class a register's chapter puts it in (spec/17 R457). -/
inductive RegClass where
  | normal | dangerous | secureOnly
deriving DecidableEq, Repr

/-- The number of bits of a field. -/
def Fld.width (f : Fld) : Nat := f.hi - f.lo + 1

/-- The value a field has in a register. -/
def Fld.get (f : Fld) (x : BitVec 32) : Nat := x.toNat / 2 ^ f.lo % 2 ^ f.width

/-- The bits of a field. -/
def Fld.mask (f : Fld) : BitVec 32 := BitVec.ofNat 32 ((2 ^ f.width - 1) * 2 ^ f.lo)

/-- A register with one field replaced; the value is cut to the field's width. -/
def Fld.put (f : Fld) (x : BitVec 32) (v : Nat) : BitVec 32 :=
  (x &&& ~~~f.mask) ||| (BitVec.ofNat 32 (v % 2 ^ f.width) <<< f.lo)

/-- Every register, with its indices. -/
inductive Reg where
  | topVersion
  | topFeat (i : Nat)
  | topCopyseq
  | mbxSel
  | mbxStat
  | mbxData (i : Nat)
  | topTdoor
  | topHdoor
  | topHdoorset
  | topIraw
  | topIstat
  | topHroute (i : Nat)
  | topHviol
  | topHvlast
  | topHvaddr
  | engCtrl (i : Nat)
  | engStat (i : Nat)
  | engFarbase (i : Nat)
  | engParkcnt (i : Nat)
  | engIssuecnt (i : Nat)
  | engPaircnt (i : Nat)
  | engStallcnt (i : Nat)
  | engIcmiss (i : Nat)
  | engRotcnt (i : Nat)
  | engSmapA (i : Nat) (j : Nat)
  | engSmapB (i : Nat) (j : Nat)
  | engBp (i : Nat) (j : Nat)
  | engDbgctl (i : Nat)
  | engDbgstat (i : Nat)
  | engDbghit (i : Nat)
  | engTpc (i : Nat) (j : Nat)
  | engTfetch (i : Nat) (j : Nat)
  | engTcseg (i : Nat) (j : Nat)
  | engTpark (i : Nat) (j : Nat)
  | engTsegb (i : Nat) (j : Nat) (k : Nat)
  | engTsegl (i : Nat) (j : Nat) (k : Nat)
  | engUop (i : Nat) (j : Nat) (k : Nat)
  | engCusthdr (i : Nat) (j : Nat)
  | engTastat (i : Nat) (j : Nat)
  | engTstate (i : Nat) (j : Nat)
  | engTevt (i : Nat) (j : Nat)
  | engTurg (i : Nat) (j : Nat)
  | engDctl (i : Nat)
  | engDstat (i : Nat)
  | engDfault (i : Nat)
  | engDftime (i : Nat)
  | engDcnt (i : Nat)
  | engCont (i : Nat)
  | engMirror (i : Nat)
  | engCkmask (i : Nat)
  | engCkstat (i : Nat)
  | engFstat
  | engFdecl
  | engFcnt
  | engRoll
  | engRollstat
  | engPwr
  | engPwrstat
  | engRst
  | engRstcause
  | laneCtrl (i : Nat)
  | laneStat (i : Nat)
  | laneSafe (i : Nat)
  | laneIo (i : Nat)
  | laneM0 (i : Nat)
  | laneM1 (i : Nat)
  | laneM2 (i : Nat)
  | laneM3 (i : Nat)
  | laneErr (i : Nat)
  | laneCal (i : Nat)
  | laneXbar (i : Nat)
  | laneShctrl
  | laneShstat
  | laneTimelo
  | laneSync
  | laneNextlo
  | laneNexthi
  | lanePpscap
  | laneSchstat
  | laneSchrej
  | laneSchquota
  | weirCfg (i : Nat)
  | weirStage (i : Nat)
  | weirInit (i : Nat)
  | weirStat (i : Nat)
  | weirCnt (i : Nat)
  | weirLimd (i : Nat)
  | weirLims (i : Nat)
  | weirLimp (i : Nat)
  | weirLimt (i : Nat)
  | weirWin (i : Nat)
  | weirLast (i : Nat)
  | weirHist (i : Nat)
  | weirCgctl (i : Nat)
  | weirCgper (i : Nat)
  | weirCgph (i : Nat)
  | weirCgld (i : Nat)
  | weirCgstat (i : Nat)
  | weirCgpnum (i : Nat)
  | cntCtrl (i : Nat)
  | cntStat (i : Nat)
  | cntCount (i : Nat)
  | cntTop (i : Nat)
  | cntCmpa (i : Nat)
  | cntCmpb (i : Nat)
  | cntEvt (i : Nat)
  | cntGo
  | cntSnap
  | cntFabfn (i : Nat)
  | cntSnapv (i : Nat) (j : Nat)
  | posCtrl (i : Nat)
  | posStat (i : Nat)
  | posPos (i : Nat)
  | posIdxcap (i : Nat)
  | posSpeed (i : Nat)
  | posTmo (i : Nat)
  | posCmpv (i : Nat)
  | posCmpc (i : Nat)
  | posIdxval (i : Nat)
  | posLastt (i : Nat)
  | inlData (i : Nat)
  | inlTime (i : Nat)
  | inlRtime (i : Nat)
  | inlCtrl (i : Nat)
  | inlStat (i : Nat)
  | inlWin (i : Nat)
  | inlCnt (i : Nat)
  | inlDec (i : Nat)
  | fabCh (i : Nat)
  | fabCst (i : Nat)
  | fabEvpol (i : Nat)
  | fabEvin (i : Nat)
  | fabFire
  | fabTrip (i : Nat)
  | fabSpmap (i : Nat)
  | fabSplat (i : Nat)
  | fabSum
  | lckReq (i : Nat)
  | lckRel (i : Nat)
  | lckStat (i : Nat)
  | lckGrights (i : Nat)
  | lckFrel
  | lckHmrel
  | lckStats
  | memBctl (i : Nat)
  | memBstat (i : Nat)
  | memBconf (i : Nat)
  | memLrcol (i : Nat)
  | memTarn
  | memIstat
  | memCecnt
  | memUecnt
  | memUelast
  | memLogv
  | memLogovf
  | memStest0
  | memStest1
  | memSpstat
  | memClrw
  | memLb (i : Nat)
  | memRetire (i : Nat)
  | memMigctl
  | memMigstat
  | memBgtctl
  | memBgtint
  | memBgtstat
  | memBgtfail
  | cdCtrl (i : Nat)
  | cdCfg (i : Nat)
  | cdPbase (i : Nat)
  | cdPlen (i : Nat)
  | cdLaddr (i : Nat)
  | cdXlen (i : Nat)
  | cdStat (i : Nat)
  | cdEvt (i : Nat)
  | cdPos (i : Nat) (j : Nat)
  | wellStat
  | wellCausea
  | wellCauseb
  | wellRbi
  | wellFloor
  | wellFlash
  | wellBoott
  | wellCfg
  | wellKeystat
  | wellTamp
  | outCtrl
  | outStat
  | outRbase
  | outRlen
  | outWrptr
  | outRdptr
  | outRes
  | outStorm
  | outCnt
  | outRaise
  | outXcnt
  | outTsel (i : Nat)
  | edgeM0 (i : Nat)
  | streamM0 (i : Nat)
  | streamM1 (i : Nat)
  | streamM2 (i : Nat)
  | streamM3 (i : Nat)
  | captureM0 (i : Nat)
  | captureM1 (i : Nat)
  | captureM2 (i : Nat)
  | decimateM0 (i : Nat)
  | decimateM1 (i : Nat)
  | mirrorM0 (i : Nat)
  | timerM0 (i : Nat)
  | quadM0 (i : Nat)
  | quadM1 (i : Nat)
deriving DecidableEq, Repr

namespace F

/-! TOP_VERSION (spec/00 R1) -/
def topVersion.major : Fld := ⟨31, 16, .ro⟩
def topVersion.minor : Fld := ⟨15, 0, .ro⟩

/-! TOP_FEAT (spec/17 R477) -/
def topFeat.value : Fld := ⟨15, 0, .ro⟩

/-! TOP_COPYSEQ (spec/17 R477) -/
def topCopyseq.sclksrc : Fld := ⟨31, 31, .ro⟩
def topCopyseq.seq : Fld := ⟨15, 0, .ro⟩

/-! MBX_SEL (spec/17 R477) -/
def mbxSel.sel : Fld := ⟨15, 0, .rw⟩

/-! MBX_STAT (spec/17 R477) -/
def mbxStat.seq : Fld := ⟨31, 24, .ro⟩
def mbxStat.mid : Fld := ⟨23, 16, .ro⟩
def mbxStat.filt : Fld := ⟨3, 3, .ro⟩
def mbxStat.badsel : Fld := ⟨2, 2, .ro⟩
def mbxStat.busy : Fld := ⟨1, 1, .ro⟩
def mbxStat.valid : Fld := ⟨0, 0, .ro⟩

/-! MBX_DATA[i] (spec/17 R477) -/
def mbxData.data : Fld := ⟨31, 0, .ro⟩

/-! TOP_TDOOR (spec/17 R477) -/
def topTdoor.role : Fld := ⟨7, 5, .wo⟩
def topTdoor.thread : Fld := ⟨4, 0, .wo⟩

/-! TOP_HDOOR (spec/17 R477) -/
def topHdoor.bits : Fld := ⟨15, 0, .w1c⟩

/-! TOP_HDOORSET (spec/17 R477) -/
def topHdoorset.bits : Fld := ⟨15, 0, .w1s⟩

/-! TOP_IRAW (spec/17 R477) -/
def topIraw.src : Fld := ⟨26, 0, .ro⟩

/-! TOP_ISTAT (spec/17 R477) -/
def topIstat.hviol : Fld := ⟨1, 1, .w1c⟩
def topIstat.supflt : Fld := ⟨0, 0, .w1c⟩

/-! TOP_HROUTE (spec/17 R477) -/
def topHroute.mask : Fld := ⟨26, 0, .prw⟩

/-! TOP_HVIOL (spec/17 R477) -/
def topHviol.count : Fld := ⟨15, 0, .rc⟩

/-! TOP_HVLAST (spec/17 R477) -/
def topHvlast.mid : Fld := ⟨31, 24, .ro⟩
def topHvlast.kind : Fld := ⟨23, 20, .ro⟩
def topHvlast.write : Fld := ⟨19, 19, .ro⟩

/-! TOP_HVADDR (spec/17 R477) -/
def topHvaddr.addr : Fld := ⟨23, 2, .ro⟩

/-! ENG_CTRL (spec/02 R61) -/
def engCtrl.swap : Fld := ⟨2, 2, .w1s⟩
def engCtrl.icinv : Fld := ⟨1, 1, .w1s⟩
def engCtrl.en : Fld := ⟨0, 0, .prw⟩

/-! ENG_STAT (spec/02 R62) -/
def engStat.role : Fld := ⟨11, 8, .ro⟩
def engStat.activeMap : Fld := ⟨7, 7, .ro⟩
def engStat.resting : Fld := ⟨6, 6, .ro⟩
def engStat.pend : Fld := ⟨2, 2, .ro⟩
def engStat.state : Fld := ⟨1, 0, .ro⟩

/-! ENG_FARBASE (spec/02 R63) -/
def engFarbase.farbase : Fld := ⟨17, 0, .prw⟩

/-! ENG_PARKCNT (spec/02 R63) -/
def engParkcnt.count : Fld := ⟨15, 0, .ro⟩

/-! ENG_ISSUECNT (spec/02 R63) -/
def engIssuecnt.issue : Fld := ⟨31, 0, .ro⟩

/-! ENG_PAIRCNT (spec/02 R63) -/
def engPaircnt.pair : Fld := ⟨31, 0, .ro⟩

/-! ENG_STALLCNT (spec/02 R63) -/
def engStallcnt.stall : Fld := ⟨31, 0, .ro⟩

/-! ENG_ICMISS (spec/02 R63) -/
def engIcmiss.miss : Fld := ⟨31, 0, .ro⟩

/-! ENG_ROTCNT (spec/02 R63) -/
def engRotcnt.rot : Fld := ⟨31, 0, .ro⟩

/-! ENG_SMAPA (spec/02 R64) -/
def engSmapA.slot3 : Fld := ⟨29, 24, .prw⟩
def engSmapA.slot2 : Fld := ⟨21, 16, .prw⟩
def engSmapA.slot1 : Fld := ⟨13, 8, .prw⟩
def engSmapA.slot0 : Fld := ⟨5, 0, .prw⟩

/-! ENG_SMAPB (spec/02 R64) -/
def engSmapB.slot3 : Fld := ⟨29, 24, .prw⟩
def engSmapB.slot2 : Fld := ⟨21, 16, .prw⟩
def engSmapB.slot1 : Fld := ⟨13, 8, .prw⟩
def engSmapB.slot0 : Fld := ⟨5, 0, .prw⟩

/-! ENG_BP (spec/18 R493) -/
def engBp.en : Fld := ⟨31, 31, .prw⟩
def engBp.allt : Fld := ⟨30, 30, .prw⟩
def engBp.thread : Fld := ⟨20, 16, .prw⟩
def engBp.addr : Fld := ⟨15, 0, .prw⟩

/-! ENG_DBGCTL (spec/18 R493) -/
def engDbgctl.cmd : Fld := ⟨31, 29, .wo⟩
def engDbgctl.thread : Fld := ⟨4, 0, .wo⟩

/-! ENG_DBGSTAT (spec/18 R493) -/
def engDbgstat.halted : Fld := ⟨31, 0, .ro⟩

/-! ENG_DBGHIT (spec/18 R493) -/
def engDbghit.hit : Fld := ⟨31, 31, .w1c⟩
def engDbghit.thread : Fld := ⟨20, 16, .ro⟩
def engDbghit.bp : Fld := ⟨2, 0, .ro⟩

/-! ENG_TPC (spec/02 R65) -/
def engTpc.pc : Fld := ⟨15, 0, .prw⟩

/-! ENG_TFETCH (spec/02 R65) -/
def engTfetch.nearOnly : Fld := ⟨0, 0, .prw⟩

/-! ENG_TCSEG (spec/02 R65) -/
def engTcseg.csegHi : Fld := ⟨31, 16, .prw⟩
def engTcseg.csegLo : Fld := ⟨15, 0, .prw⟩

/-! ENG_TPARK (spec/02 R65) -/
def engTpark.cause : Fld := ⟨18, 16, .ro⟩
def engTpark.parkPc : Fld := ⟨15, 0, .ro⟩

/-! ENG_TSEGB (spec/05 R130) -/
def engTsegb.control : Fld := ⟨21, 21, .prw⟩
def engTsegb.secure : Fld := ⟨20, 20, .srw⟩
def engTsegb.write : Fld := ⟨19, 19, .prw⟩
def engTsegb.read : Fld := ⟨18, 18, .prw⟩
def engTsegb.base : Fld := ⟨17, 0, .prw⟩

/-! ENG_TSEGL (spec/05 R130) -/
def engTsegl.limit : Fld := ⟨16, 0, .prw⟩

/-! ENG_UOP (spec/04 R113) -/
def engUop.kind : Fld := ⟨23, 20, .srw⟩
def engUop.op : Fld := ⟨19, 16, .srw⟩
def engUop.d : Fld := ⟨15, 11, .srw⟩
def engUop.s : Fld := ⟨10, 6, .srw⟩
def engUop.imm : Fld := ⟨5, 0, .srw⟩

/-! ENG_CUSTHDR (spec/04 R113) -/
def engCusthdr.len : Fld := ⟨3, 0, .srw⟩

/-! ENG_TASTAT (spec/05 R144) -/
def engTastat.odd : Fld := ⟨31, 16, .ro⟩
def engTastat.even : Fld := ⟨15, 0, .ro⟩

/-! ENG_TSTATE (spec/05 R144) -/
def engTstate.viol : Fld := ⟨31, 16, .ro⟩
def engTstate.inhdl : Fld := ⟨15, 15, .ro⟩
def engTstate.prio : Fld := ⟨14, 12, .prw⟩
def engTstate.priv : Fld := ⟨11, 10, .prw⟩
def engTstate.cmd : Fld := ⟨9, 7, .pwo⟩
def engTstate.fcause : Fld := ⟨6, 3, .ro⟩
def engTstate.state : Fld := ⟨2, 0, .ro⟩

/-! ENG_TEVT (spec/05 R144) -/
def engTevt.urgmask : Fld := ⟨31, 16, .prw⟩
def engTevt.evt : Fld := ⟨15, 0, .w1s⟩

/-! ENG_TURG (spec/05 R144) -/
def engTurg.uret : Fld := ⟨31, 16, .ro⟩
def engTurg.uvec : Fld := ⟨15, 0, .prw⟩

/-! ENG_DCTL (spec/14 R390) -/
def engDctl.cmd : Fld := ⟨31, 28, .wo⟩
def engDctl.holdmax : Fld := ⟨27, 20, .prw⟩
def engDctl.refcg : Fld := ⟨12, 8, .prw⟩
def engDctl.loopflt : Fld := ⟨5, 5, .prw⟩
def engDctl.dfa : Fld := ⟨4, 4, .prw⟩
def engDctl.policy : Fld := ⟨3, 3, .prw⟩
def engDctl.drst : Fld := ⟨1, 1, .w1s⟩
def engDctl.en : Fld := ⟨0, 0, .prw⟩

/-! ENG_DSTAT (spec/14 R390) -/
def engDstat.holdcnt : Fld := ⟨31, 24, .ro⟩
def engDstat.degraded : Fld := ⟨15, 15, .w1c⟩
def engDstat.longper : Fld := ⟨14, 14, .ro⟩
def engDstat.limitLock : Fld := ⟨13, 13, .ro⟩
def engDstat.sub : Fld := ⟨9, 7, .ro⟩
def engDstat.pend : Fld := ⟨2, 2, .ro⟩
def engDstat.state : Fld := ⟨1, 0, .ro⟩

/-! ENG_DFAULT (spec/14 R390) -/
def engDfault.code : Fld := ⟨31, 28, .ro⟩
def engDfault.role : Fld := ⟨27, 24, .ro⟩
def engDfault.thread : Fld := ⟨23, 19, .ro⟩
def engDfault.lane : Fld := ⟨18, 11, .ro⟩
def engDfault.lanev : Fld := ⟨10, 10, .ro⟩

/-! ENG_DFTIME (spec/14 R390) -/
def engDftime.time : Fld := ⟨31, 0, .ro⟩

/-! ENG_DCNT (spec/14 R390) -/
def engDcnt.takeovers : Fld := ⟨31, 24, .rc⟩
def engDcnt.rollbacks : Fld := ⟨23, 16, .rc⟩
def engDcnt.freezes : Fld := ⟨15, 8, .rc⟩
def engDcnt.laneswaps : Fld := ⟨7, 0, .rc⟩

/-! ENG_CONT (spec/14 R391) -/
def engCont.cen : Fld := ⟨31, 31, .prw⟩
def engCont.cslot : Fld := ⟨28, 24, .prw⟩
def engCont.ckint : Fld := ⟨15, 0, .prw⟩

/-! ENG_MIRROR (spec/14 R391) -/
def engMirror.men : Fld := ⟨31, 31, .prw⟩
def engMirror.mhi : Fld := ⟨27, 16, .prw⟩
def engMirror.mlo : Fld := ⟨11, 0, .prw⟩

/-! ENG_CKMASK (spec/14 R391) -/
def engCkmask.mask : Fld := ⟨31, 0, .prw⟩

/-! ENG_CKSTAT (spec/14 R391) -/
def engCkstat.records : Fld := ⟨31, 16, .ro⟩
def engCkstat.ckskip : Fld := ⟨15, 0, .rc⟩

/-! ENG_FSTAT (spec/14 R392) -/
def engFstat.reserve : Fld := ⟨31, 28, .ro⟩
def engFstat.testing : Fld := ⟨27, 24, .ro⟩
def engFstat.takeover : Fld := ⟨23, 23, .ro⟩
def engFstat.trole : Fld := ⟨22, 20, .ro⟩
def engFstat.swap : Fld := ⟨19, 19, .ro⟩
def engFstat.dfault : Fld := ⟨18, 18, .w1c⟩
def engFstat.oos : Fld := ⟨8, 0, .ro⟩

/-! ENG_FDECL (spec/14 R392) -/
def engFdecl.kind : Fld := ⟨31, 30, .wo⟩
def engFdecl.target : Fld := ⟨8, 0, .wo⟩

/-! ENG_FCNT (spec/14 R392) -/
def engFcnt.faults : Fld := ⟨31, 16, .ro⟩
def engFcnt.newest : Fld := ⟨3, 0, .ro⟩

/-! ENG_ROLL (spec/14 R392) -/
def engRoll.en : Fld := ⟨31, 31, .prw⟩
def engRoll.acg : Fld := ⟨30, 26, .prw⟩
def engRoll.acgv : Fld := ⟨25, 25, .prw⟩
def engRoll.rollint : Fld := ⟨19, 0, .prw⟩

/-! ENG_ROLLSTAT (spec/14 R392) -/
def engRollstat.phase : Fld := ⟨31, 29, .ro⟩
def engRollstat.lastfail : Fld := ⟨28, 28, .w1c⟩
def engRollstat.rollptr : Fld := ⟨26, 24, .ro⟩
def engRollstat.swaps : Fld := ⟨15, 0, .ro⟩

/-! ENG_PWR (spec/18 R493) -/
def engPwr.wake : Fld := ⟨18, 18, .wo⟩
def engPwr.sleepreq : Fld := ⟨17, 17, .w1s⟩
def engPwr.sleepKeepTime : Fld := ⟨16, 16, .prw⟩
def engPwr.dozeEn : Fld := ⟨8, 8, .prw⟩
def engPwr.dozedly : Fld := ⟨7, 0, .prw⟩

/-! ENG_PWRSTAT (spec/18 R493) -/
def engPwrstat.state : Fld := ⟨31, 30, .ro⟩
def engPwrstat.hs : Fld := ⟨29, 29, .ro⟩
def engPwrstat.wch : Fld := ⟨23, 16, .ro⟩
def engPwrstat.wcause : Fld := ⟨15, 12, .ro⟩
def engPwrstat.sleeps : Fld := ⟨11, 0, .ro⟩

/-! ENG_RST (spec/18 R493) -/
def engRst.kind : Fld := ⟨31, 30, .wo⟩
def engRst.target : Fld := ⟨8, 0, .wo⟩

/-! ENG_RSTCAUSE (spec/18 R493) -/
def engRstcause.warmcnt : Fld := ⟨31, 16, .ro⟩
def engRstcause.last : Fld := ⟨1, 0, .ro⟩

/-! LANE_CTRL (spec/06 R161) -/
def laneCtrl.quota : Fld := ⟨21, 12, .prw⟩
def laneCtrl.domv : Fld := ⟨11, 11, .prw⟩
def laneCtrl.dom : Fld := ⟨10, 8, .prw⟩
def laneCtrl.mode : Fld := ⟨4, 2, .rw⟩
def laneCtrl.en : Fld := ⟨0, 0, .rw⟩

/-! LANE_STAT (spec/06 R161) -/
def laneStat.qdepth : Fld := ⟨21, 12, .ro⟩
def laneStat.calfail : Fld := ⟨10, 10, .ro⟩
def laneStat.retired : Fld := ⟨9, 9, .ro⟩
def laneStat.spare : Fld := ⟨8, 8, .ro⟩
def laneStat.bypass : Fld := ⟨7, 7, .ro⟩
def laneStat.outrank : Fld := ⟨6, 4, .ro⟩
def laneStat.pend : Fld := ⟨2, 2, .ro⟩
def laneStat.state : Fld := ⟨1, 0, .ro⟩

/-! LANE_SAFE (spec/06 R161) -/
def laneSafe.safeSrc : Fld := ⟨2, 2, .prw⟩
def laneSafe.safeOut : Fld := ⟨1, 1, .prw⟩
def laneSafe.safeOe : Fld := ⟨0, 0, .prw⟩

/-! LANE_IO (spec/06 R161) -/
def laneIo.skew : Fld := ⟨15, 12, .prw⟩
def laneIo.filt : Fld := ⟨11, 8, .rw⟩
def laneIo.loopdly : Fld := ⟨7, 4, .rw⟩
def laneIo.loopen : Fld := ⟨3, 3, .rw⟩
def laneIo.invIn : Fld := ⟨1, 1, .rw⟩
def laneIo.invOut : Fld := ⟨0, 0, .rw⟩

/-! LANE_ERR (spec/06 R161) -/
def laneErr.erra : Fld := ⟨31, 16, .rc⟩
def laneErr.errb : Fld := ⟨15, 0, .rc⟩

/-! LANE_CAL (spec/06 R161) -/
def laneCal.outTaps : Fld := ⟨23, 16, .ro⟩
def laneCal.inTaps : Fld := ⟨15, 8, .ro⟩
def laneCal.calcnt : Fld := ⟨7, 0, .ro⟩

/-! LANE_XBAR (spec/06 R161) -/
def laneXbar.core : Fld := ⟨8, 0, .prw⟩

/-! LANE_SHCTRL (spec/06 R156) -/
def laneShctrl.muli : Fld := ⟨21, 16, .ro⟩
def laneShctrl.mulf : Fld := ⟨15, 0, .ro⟩

/-! LANE_SHSTAT (spec/06 R156) -/
def laneShstat.gap : Fld := ⟨7, 7, .w1c⟩
def laneShstat.locklost : Fld := ⟨6, 6, .w1c⟩
def laneShstat.holdover : Fld := ⟨5, 5, .ro⟩
def laneShstat.calfailany : Fld := ⟨4, 4, .ro⟩
def laneShstat.caldone : Fld := ⟨3, 3, .ro⟩
def laneShstat.lock : Fld := ⟨2, 2, .ro⟩

/-! LANE_TIMELO (spec/06 R156) -/
def laneTimelo.time : Fld := ⟨31, 0, .ro⟩

/-! LANE_SYNC (spec/06 R156) -/
def laneSync.res : Fld := ⟨12, 8, .ro⟩
def laneSync.refused : Fld := ⟨3, 3, .w1c⟩
def laneSync.loaded : Fld := ⟨2, 2, .w1c⟩
def laneSync.ppsseen : Fld := ⟨1, 1, .w1c⟩
def laneSync.arm : Fld := ⟨0, 0, .prw⟩

/-! LANE_NEXTLO (spec/06 R156) -/
def laneNextlo.nextLo : Fld := ⟨31, 5, .prw⟩

/-! LANE_NEXTHI (spec/06 R156) -/
def laneNexthi.nextHi : Fld := ⟨31, 0, .prw⟩

/-! LANE_PPSCAP (spec/06 R156) -/
def lanePpscap.pps : Fld := ⟨31, 0, .ro⟩

/-! LANE_SCHSTAT (spec/06 R187) -/
def laneSchstat.free : Fld := ⟨16, 0, .ro⟩

/-! LANE_SCHREJ (spec/06 R187) -/
def laneSchrej.latex : Fld := ⟨31, 16, .rc⟩
def laneSchrej.reject : Fld := ⟨15, 0, .rc⟩

/-! LANE_SCHQUOTA (spec/06 R187) -/
def laneSchquota.total : Fld := ⟨16, 0, .ro⟩

/-! WEIR_CFG (spec/07 R211) -/
def weirCfg.fbmax : Fld := ⟨31, 24, .prw⟩
def weirCfg.res : Fld := ⟨23, 20, .prw⟩
def weirCfg.cg : Fld := ⟨19, 15, .prw⟩
def weirCfg.pair : Fld := ⟨14, 14, .prw⟩
def weirCfg.policy : Fld := ⟨13, 12, .prw⟩
def weirCfg.ovg : Fld := ⟨8, 4, .prw⟩
def weirCfg.oven : Fld := ⟨3, 3, .prw⟩
def weirCfg.kind : Fld := ⟨2, 0, .prw⟩

/-! WEIR_STAGE (spec/07 R211) -/
def weirStage.value : Fld := ⟨31, 0, .rw⟩

/-! WEIR_INIT (spec/07 R211) -/
def weirInit.init : Fld := ⟨31, 0, .prw⟩

/-! WEIR_STAT (spec/07 R211) -/
def weirStat.fbrun : Fld := ⟨31, 24, .ro⟩
def weirStat.tag : Fld := ⟨23, 16, .ro⟩
def weirStat.ovwr : Fld := ⟨8, 8, .w1c⟩
def weirStat.locked : Fld := ⟨7, 7, .ro⟩
def weirStat.lastcause : Fld := ⟨6, 4, .ro⟩
def weirStat.clamped : Fld := ⟨3, 3, .ro⟩
def weirStat.poison : Fld := ⟨1, 1, .ro⟩
def weirStat.valid : Fld := ⟨0, 0, .ro⟩

/-! WEIR_CNT (spec/07 R211) -/
def weirCnt.late : Fld := ⟨31, 16, .rc⟩
def weirCnt.stale : Fld := ⟨15, 0, .rc⟩

/-! WEIR_LIMD (spec/07 R211) -/
def weirLimd.dmax : Fld := ⟨31, 16, .prw⟩
def weirLimd.dmin : Fld := ⟨15, 0, .prw⟩

/-! WEIR_LIMS (spec/07 R211) -/
def weirLims.slew : Fld := ⟨15, 0, .prw⟩

/-! WEIR_LIMP (spec/07 R211) -/
def weirLimp.deadt : Fld := ⟨31, 16, .prw⟩
def weirLimp.minpw : Fld := ⟨15, 0, .prw⟩

/-! WEIR_LIMT (spec/07 R211) -/
def weirLimt.maxon : Fld := ⟨23, 0, .prw⟩

/-! WEIR_WIN (spec/07 R211) -/
def weirWin.winen : Fld := ⟨31, 31, .prw⟩
def weirWin.winbit : Fld := ⟨30, 30, .prw⟩
def weirWin.role : Fld := ⟨29, 27, .prw⟩
def weirWin.thread : Fld := ⟨26, 22, .prw⟩
def weirWin.winoff : Fld := ⟨15, 0, .prw⟩

/-! WEIR_LAST (spec/07 R211) -/
def weirLast.last : Fld := ⟨31, 0, .ro⟩

/-! WEIR_HIST (spec/07 R211) -/
def weirHist.hist : Fld := ⟨31, 0, .ro⟩

/-! WEIR_CGCTL (spec/07 R212) -/
def weirCgctl.inl : Fld := ⟨15, 10, .prw⟩
def weirCgctl.strict : Fld := ⟨9, 9, .prw⟩
def weirCgctl.coh : Fld := ⟨8, 8, .prw⟩
def weirCgctl.src : Fld := ⟨7, 7, .prw⟩
def weirCgctl.domv : Fld := ⟨3, 3, .prw⟩
def weirCgctl.dom : Fld := ⟨2, 0, .prw⟩

/-! WEIR_CGPER (spec/07 R212) -/
def weirCgper.per : Fld := ⟨23, 0, .prw⟩

/-! WEIR_CGPH (spec/07 R212) -/
def weirCgph.phase : Fld := ⟨23, 0, .prw⟩

/-! WEIR_CGLD (spec/07 R212) -/
def weirCgld.stboff : Fld := ⟨27, 16, .prw⟩
def weirCgld.lead : Fld := ⟨9, 0, .prw⟩

/-! WEIR_CGSTAT (spec/07 R212) -/
def weirCgstat.stbmiss : Fld := ⟨31, 16, .rc⟩
def weirCgstat.stbign : Fld := ⟨15, 0, .rc⟩

/-! WEIR_CGPNUM (spec/07 R212) -/
def weirCgpnum.pnum : Fld := ⟨31, 0, .ro⟩

/-! CNT_CTRL (spec/08 R229) -/
def cntCtrl.chain : Fld := ⟨31, 31, .prw⟩
def cntCtrl.ledge : Fld := ⟨29, 28, .prw⟩
def cntCtrl.domv : Fld := ⟨27, 27, .prw⟩
def cntCtrl.dom : Fld := ⟨26, 24, .prw⟩
def cntCtrl.presc : Fld := ⟨23, 20, .prw⟩
def cntCtrl.clklane : Fld := ⟨19, 12, .prw⟩
def cntCtrl.clkch : Fld := ⟨11, 8, .prw⟩
def cntCtrl.clksrc : Fld := ⟨7, 6, .prw⟩
def cntCtrl.mode : Fld := ⟨5, 4, .prw⟩
def cntCtrl.arm : Fld := ⟨1, 1, .rw⟩
def cntCtrl.en : Fld := ⟨0, 0, .rw⟩

/-! CNT_STAT (spec/08 R229) -/
def cntStat.done : Fld := ⟨7, 7, .ro⟩
def cntStat.dir : Fld := ⟨6, 6, .ro⟩
def cntStat.mb : Fld := ⟨5, 5, .w1c⟩
def cntStat.ma : Fld := ⟨4, 4, .w1c⟩
def cntStat.pend : Fld := ⟨2, 2, .ro⟩
def cntStat.state : Fld := ⟨1, 0, .ro⟩

/-! CNT_COUNT (spec/08 R229) -/
def cntCount.count : Fld := ⟨15, 0, .rw⟩

/-! CNT_TOP (spec/08 R229) -/
def cntTop.top : Fld := ⟨15, 0, .rw⟩

/-! CNT_CMPA (spec/08 R229) -/
def cntCmpa.cmp : Fld := ⟨15, 0, .rw⟩

/-! CNT_CMPB (spec/08 R229) -/
def cntCmpb.cmp : Fld := ⟨15, 0, .rw⟩

/-! CNT_EVT (spec/08 R229) -/
def cntEvt.aen : Fld := ⟨15, 15, .prw⟩
def cntEvt.ben : Fld := ⟨14, 14, .prw⟩
def cntEvt.role : Fld := ⟨13, 11, .prw⟩
def cntEvt.thread : Fld := ⟨10, 6, .prw⟩
def cntEvt.abit : Fld := ⟨5, 5, .prw⟩
def cntEvt.bbit : Fld := ⟨4, 4, .prw⟩

/-! CNT_GO (spec/08 R230) -/
def cntGo.go : Fld := ⟨0, 0, .wo⟩

/-! CNT_SNAP (spec/08 R230) -/
def cntSnap.seq : Fld := ⟨31, 16, .ro⟩
def cntSnap.group : Fld := ⟨3, 0, .wo⟩

/-! CNT_FABFN (spec/08 R230) -/
def cntFabfn.tgt : Fld := ⟨13, 8, .prw⟩
def cntFabfn.func : Fld := ⟨2, 0, .prw⟩

/-! CNT_SNAPV (spec/08 R230) -/
def cntSnapv.value : Fld := ⟨31, 0, .ro⟩

/-! POS_CTRL (spec/08 R240) -/
def posCtrl.idxedge : Fld := ⟨16, 16, .prw⟩
def posCtrl.idxmode : Fld := ⟨15, 14, .prw⟩
def posCtrl.spdavg : Fld := ⟨13, 12, .prw⟩

/-! POS_STAT (spec/08 R240) -/
def posStat.armed : Fld := ⟨10, 10, .ro⟩
def posStat.behindAtArm : Fld := ⟨9, 9, .ro⟩
def posStat.match : Fld := ⟨8, 8, .w1c⟩
def posStat.idxseen : Fld := ⟨7, 7, .w1c⟩
def posStat.illegal : Fld := ⟨6, 6, .w1c⟩
def posStat.pendrev : Fld := ⟨5, 5, .ro⟩
def posStat.still : Fld := ⟨4, 4, .ro⟩
def posStat.dir : Fld := ⟨3, 3, .ro⟩

/-! POS_POS (spec/08 R240) -/
def posPos.pos : Fld := ⟨31, 0, .rw⟩

/-! POS_IDXCAP (spec/08 R240) -/
def posIdxcap.idxcap : Fld := ⟨31, 0, .ro⟩

/-! POS_SPEED (spec/08 R240) -/
def posSpeed.speed : Fld := ⟨31, 0, .ro⟩

/-! POS_TMO (spec/08 R240) -/
def posTmo.speedTimeout : Fld := ⟨23, 0, .prw⟩

/-! POS_CMPV (spec/08 R240) -/
def posCmpv.cmpv : Fld := ⟨31, 0, .rw⟩

/-! POS_CMPC (spec/08 R240) -/
def posCmpc.upen : Fld := ⟨31, 31, .rw⟩
def posCmpc.dnen : Fld := ⟨30, 30, .rw⟩
def posCmpc.even : Fld := ⟨15, 15, .prw⟩
def posCmpc.role : Fld := ⟨14, 12, .prw⟩
def posCmpc.thread : Fld := ⟨11, 7, .prw⟩
def posCmpc.bit : Fld := ⟨6, 6, .prw⟩

/-! POS_IDXVAL (spec/08 R240) -/
def posIdxval.idxval : Fld := ⟨31, 0, .prw⟩

/-! POS_LASTT (spec/08 R240) -/
def posLastt.lastt : Fld := ⟨31, 0, .ro⟩

/-! INL_DATA (spec/09 R254) -/
def inlData.ovr : Fld := ⟨23, 23, .ro⟩
def inlData.ready : Fld := ⟨22, 22, .ro⟩
def inlData.tag : Fld := ⟨21, 16, .ro⟩
def inlData.data : Fld := ⟨15, 0, .ro⟩

/-! INL_TIME (spec/09 R254) -/
def inlTime.time : Fld := ⟨31, 0, .ro⟩

/-! INL_RTIME (spec/09 R254) -/
def inlRtime.rtime : Fld := ⟨31, 0, .ro⟩

/-! INL_CTRL (spec/09 R254) -/
def inlCtrl.tmask : Fld := ⟨31, 26, .prw⟩
def inlCtrl.tval : Fld := ⟨25, 20, .prw⟩
def inlCtrl.tagen : Fld := ⟨19, 19, .prw⟩
def inlCtrl.signed : Fld := ⟨18, 18, .prw⟩
def inlCtrl.winen : Fld := ⟨17, 17, .prw⟩
def inlCtrl.even : Fld := ⟨16, 16, .prw⟩
def inlCtrl.role : Fld := ⟨15, 13, .prw⟩
def inlCtrl.thread : Fld := ⟨12, 8, .prw⟩
def inlCtrl.ebit : Fld := ⟨7, 7, .prw⟩
def inlCtrl.domv : Fld := ⟨6, 6, .prw⟩
def inlCtrl.dom : Fld := ⟨5, 3, .prw⟩
def inlCtrl.en : Fld := ⟨0, 0, .rw⟩

/-! INL_STAT (spec/09 R254) -/
def inlStat.winhit : Fld := ⟨7, 7, .w1c⟩
def inlStat.winside : Fld := ⟨6, 6, .ro⟩
def inlStat.locked : Fld := ⟨5, 5, .ro⟩
def inlStat.pend : Fld := ⟨2, 2, .ro⟩
def inlStat.state : Fld := ⟨1, 0, .ro⟩

/-! INL_WIN (spec/09 R254) -/
def inlWin.hi : Fld := ⟨31, 16, .prw⟩
def inlWin.lo : Fld := ⟨15, 0, .prw⟩

/-! INL_CNT (spec/09 R254) -/
def inlCnt.ovrcnt : Fld := ⟨31, 16, .rc⟩
def inlCnt.wincnt : Fld := ⟨15, 8, .rc⟩
def inlCnt.drop : Fld := ⟨7, 0, .rc⟩

/-! INL_DEC (spec/09 R254) -/
def inlDec.shift : Fld := ⟨12, 9, .prw⟩
def inlDec.osr : Fld := ⟨8, 0, .prw⟩

/-! FAB_CH (spec/10 R277) -/
def fabCh.arg : Fld := ⟨23, 16, .rw⟩
def fabCh.omode : Fld := ⟨15, 14, .rw⟩
def fabCh.wakeEn : Fld := ⟨13, 13, .rw⟩
def fabCh.ringStop : Fld := ⟨12, 12, .rw⟩
def fabCh.lsus : Fld := ⟨11, 11, .rw⟩
def fabCh.gsel : Fld := ⟨9, 8, .rw⟩
def fabCh.gpol : Fld := ⟨7, 7, .rw⟩
def fabCh.tapen : Fld := ⟨3, 0, .rw⟩

/-! FAB_CST (spec/10 R277) -/
def fabCst.ovrcnt : Fld := ⟨31, 24, .ro⟩
def fabCst.passcnt : Fld := ⟨23, 8, .ro⟩
def fabCst.replaced : Fld := ⟨7, 7, .ro⟩
def fabCst.disabled : Fld := ⟨6, 6, .ro⟩
def fabCst.level : Fld := ⟨5, 5, .ro⟩
def fabCst.merge : Fld := ⟨4, 4, .w1c⟩
def fabCst.relref : Fld := ⟨3, 3, .w1c⟩
def fabCst.ring : Fld := ⟨2, 2, .w1c⟩
def fabCst.coinc : Fld := ⟨1, 1, .w1c⟩
def fabCst.ovr : Fld := ⟨0, 0, .w1c⟩

/-! FAB_EVPOL (spec/10 R277) -/
def fabEvpol.pol : Fld := ⟨31, 0, .rw⟩

/-! FAB_EVIN (spec/10 R277) -/
def fabEvin.lvl : Fld := ⟨31, 0, .ro⟩

/-! FAB_FIRE (spec/10 R277) -/
def fabFire.ch : Fld := ⟨7, 0, .wo⟩

/-! FAB_TRIP (spec/10 R277) -/
def fabTrip.trip : Fld := ⟨31, 0, .w1c⟩

/-! FAB_SPMAP (spec/10 R277) -/
def fabSpmap.en : Fld := ⟨31, 31, .prw⟩
def fabSpmap.active : Fld := ⟨30, 30, .ro⟩
def fabSpmap.tgt : Fld := ⟨6, 0, .prw⟩

/-! FAB_SPLAT (spec/10 R277) -/
def fabSplat.time : Fld := ⟨31, 0, .ro⟩

/-! FAB_SUM (spec/10 R277) -/
def fabSum.ringany : Fld := ⟨3, 3, .ro⟩
def fabSum.ovrany : Fld := ⟨2, 2, .ro⟩
def fabSum.coincany : Fld := ⟨1, 1, .ro⟩
def fabSum.tripany : Fld := ⟨0, 0, .ro⟩

/-! LCK_REQ (spec/13 R355) -/
def lckReq.code : Fld := ⟨1, 0, .ro⟩

/-! LCK_REL (spec/13 R355) -/
def lckRel.released : Fld := ⟨0, 0, .ro⟩

/-! LCK_STAT (spec/13 R355) -/
def lckStat.held : Fld := ⟨31, 31, .ro⟩
def lckStat.abandoned : Fld := ⟨30, 30, .ro⟩
def lckStat.holder : Fld := ⟨25, 16, .ro⟩
def lckStat.nwait : Fld := ⟨9, 0, .ro⟩

/-! LCK_GRIGHTS (spec/13 R355) -/
def lckGrights.hprio : Fld := ⟨23, 21, .prw⟩
def lckGrights.hsec : Fld := ⟨20, 20, .prw⟩
def lckGrights.host : Fld := ⟨19, 19, .prw⟩
def lckGrights.privmask : Fld := ⟨18, 16, .prw⟩
def lckGrights.rolemask : Fld := ⟨8, 0, .prw⟩

/-! LCK_FREL (spec/13 R355) -/
def lckFrel.abandon : Fld := ⟨31, 31, .wo⟩
def lckFrel.holder : Fld := ⟨25, 16, .wo⟩
def lckFrel.lock : Fld := ⟨7, 0, .wo⟩

/-! LCK_HMREL (spec/13 R355) -/
def lckHmrel.master : Fld := ⟨7, 0, .wo⟩

/-! LCK_STATS (spec/13 R355) -/
def lckStats.abandons : Fld := ⟨31, 16, .rc⟩
def lckStats.forced : Fld := ⟨15, 8, .rc⟩
def lckStats.fmiss : Fld := ⟨7, 0, .rc⟩

/-! MEM_BCTL (spec/11 R308) -/
def memBctl.owner : Fld := ⟨11, 8, .srw⟩
def memBctl.autoWake : Fld := ⟨1, 1, .prw⟩
def memBctl.en : Fld := ⟨0, 0, .prw⟩

/-! MEM_BSTAT (spec/11 R308) -/
def memBstat.phys : Fld := ⟨21, 16, .ro⟩
def memBstat.prev : Fld := ⟨15, 12, .ro⟩
def memBstat.handover : Fld := ⟨11, 11, .ro⟩
def memBstat.pend : Fld := ⟨2, 2, .ro⟩
def memBstat.state : Fld := ⟨1, 0, .ro⟩

/-! MEM_BCONF (spec/11 R308) -/
def memBconf.wakes : Fld := ⟨31, 16, .rc⟩
def memBconf.conflict : Fld := ⟨15, 0, .rc⟩

/-! MEM_LRCOL (spec/11 R308) -/
def memLrcol.count : Fld := ⟨15, 0, .rc⟩

/-! MEM_TARN (spec/11 R308) -/
def memTarn.cause : Fld := ⟨5, 4, .ro⟩
def memTarn.wiped : Fld := ⟨1, 1, .w1c⟩
def memTarn.wiping : Fld := ⟨0, 0, .ro⟩

/-! MEM_ISTAT (spec/12 R339) -/
def memIstat.schue : Fld := ⟨6, 6, .w1c⟩
def memIstat.retdone : Fld := ⟨5, 5, .w1c⟩
def memIstat.migdone : Fld := ⟨4, 4, .w1c⟩
def memIstat.bgtfail : Fld := ⟨3, 3, .w1c⟩
def memIstat.logovf : Fld := ⟨2, 2, .w1c⟩
def memIstat.ue : Fld := ⟨1, 1, .w1c⟩
def memIstat.lbhit : Fld := ⟨0, 0, .w1c⟩

/-! MEM_CECNT (spec/12 R339) -/
def memCecnt.cecnt : Fld := ⟨31, 0, .ro⟩

/-! MEM_UECNT (spec/12 R339) -/
def memUecnt.uecnt : Fld := ⟨15, 0, .rc⟩

/-! MEM_UELAST (spec/12 R339) -/
def memUelast.src : Fld := ⟨31, 26, .ro⟩
def memUelast.word : Fld := ⟨15, 0, .ro⟩

/-! MEM_LOGV (spec/12 R339) -/
def memLogv.valid : Fld := ⟨31, 0, .w1c⟩

/-! MEM_LOGOVF (spec/12 R339) -/
def memLogovf.ovf : Fld := ⟨15, 0, .rc⟩

/-! MEM_STEST0 (spec/12 R339) -/
def memStest0.faillo : Fld := ⟨31, 0, .ro⟩

/-! MEM_STEST1 (spec/12 R339) -/
def memStest1.done : Fld := ⟨31, 31, .ro⟩
def memStest1.sched : Fld := ⟨21, 21, .ro⟩
def memStest1.tarn : Fld := ⟨20, 20, .ro⟩
def memStest1.pstore : Fld := ⟨19, 11, .ro⟩
def memStest1.lram : Fld := ⟨10, 2, .ro⟩
def memStest1.failhi : Fld := ⟨1, 0, .ro⟩

/-! MEM_SPSTAT (spec/12 R339) -/
def memSpstat.b33 : Fld := ⟨3, 2, .ro⟩
def memSpstat.b32 : Fld := ⟨1, 0, .ro⟩

/-! MEM_CLRW (spec/12 R339) -/
def memClrw.addr : Fld := ⟨23, 3, .wo⟩

/-! MEM_LB (spec/12 R339) -/
def memLb.hit : Fld := ⟨21, 21, .w1c⟩
def memLb.k : Fld := ⟨20, 16, .prw⟩
def memLb.thresh : Fld := ⟨15, 8, .prw⟩
def memLb.level : Fld := ⟨7, 0, .ro⟩

/-! MEM_RETIRE (spec/12 R339) -/
def memRetire.valid : Fld := ⟨31, 31, .prw⟩
def memRetire.remap : Fld := ⟨30, 30, .prw⟩
def memRetire.copy : Fld := ⟨29, 29, .ro⟩
def memRetire.sb : Fld := ⟨24, 24, .prw⟩
def memRetire.spage : Fld := ⟨20, 16, .prw⟩
def memRetire.slot : Fld := ⟨9, 5, .prw⟩
def memRetire.page : Fld := ⟨4, 0, .prw⟩

/-! MEM_MIGCTL (spec/12 R339) -/
def memMigctl.go : Fld := ⟨31, 31, .w1s⟩
def memMigctl.src : Fld := ⟨20, 16, .prw⟩
def memMigctl.dst : Fld := ⟨0, 0, .prw⟩

/-! MEM_MIGSTAT (spec/12 R339) -/
def memMigstat.state : Fld := ⟨31, 30, .ro⟩
def memMigstat.progress : Fld := ⟨14, 0, .ro⟩

/-! MEM_BGTCTL (spec/12 R339) -/
def memBgtctl.en : Fld := ⟨0, 0, .prw⟩

/-! MEM_BGTINT (spec/12 R339) -/
def memBgtint.interval : Fld := ⟨23, 0, .prw⟩

/-! MEM_BGTSTAT (spec/12 R339) -/
def memBgtstat.state : Fld := ⟨31, 29, .ro⟩
def memBgtstat.bank : Fld := ⟨25, 20, .ro⟩
def memBgtstat.region : Fld := ⟨19, 11, .ro⟩
def memBgtstat.passes : Fld := ⟨10, 0, .ro⟩

/-! MEM_BGTFAIL (spec/12 R339) -/
def memBgtfail.bank : Fld := ⟨31, 26, .ro⟩
def memBgtfail.region : Fld := ⟨25, 17, .ro⟩
def memBgtfail.word : Fld := ⟨16, 12, .ro⟩
def memBgtfail.failcnt : Fld := ⟨7, 0, .rc⟩

/-! CD_CTRL (spec/11 R309) -/
def cdCtrl.kick : Fld := ⟨2, 2, .w1s⟩
def cdCtrl.en : Fld := ⟨0, 0, .prw⟩

/-! CD_CFG (spec/11 R309) -/
def cdCfg.lane0 : Fld := ⟨31, 24, .prw⟩
def cdCfg.nlm1 : Fld := ⟨19, 16, .prw⟩
def cdCfg.tcnt : Fld := ⟨13, 8, .prw⟩
def cdCfg.trig : Fld := ⟨5, 4, .prw⟩
def cdCfg.kind : Fld := ⟨2, 0, .prw⟩

/-! CD_PBASE (spec/11 R309) -/
def cdPbase.base : Fld := ⟨23, 3, .prw⟩

/-! CD_PLEN (spec/11 R309) -/
def cdPlen.len : Fld := ⟨19, 3, .prw⟩

/-! CD_LADDR (spec/11 R309) -/
def cdLaddr.role : Fld := ⟨19, 16, .prw⟩
def cdLaddr.offset : Fld := ⟨14, 3, .prw⟩

/-! CD_XLEN (spec/11 R309) -/
def cdXlen.len : Fld := ⟨14, 3, .prw⟩

/-! CD_STAT (spec/11 R309) -/
def cdStat.donecnt : Fld := ⟨31, 16, .ro⟩
def cdStat.trigovr : Fld := ⟨15, 8, .rc⟩
def cdStat.trigpend : Fld := ⟨7, 7, .ro⟩
def cdStat.err : Fld := ⟨6, 4, .ro⟩
def cdStat.pend : Fld := ⟨2, 2, .ro⟩
def cdStat.state : Fld := ⟨1, 0, .ro⟩

/-! CD_EVT (spec/11 R309) -/
def cdEvt.even : Fld := ⟨15, 15, .prw⟩
def cdEvt.role : Fld := ⟨14, 12, .prw⟩
def cdEvt.thread : Fld := ⟨11, 7, .prw⟩
def cdEvt.half : Fld := ⟨6, 6, .prw⟩

/-! CD_POS (spec/11 R309) -/
def cdPos.offset : Fld := ⟨19, 3, .ro⟩

/-! WELL_STAT (spec/15 R420) -/
def wellStat.step : Fld := ⟨31, 28, .ro⟩
def wellStat.haltc : Fld := ⟨27, 24, .ro⟩
def wellStat.lcs : Fld := ⟨23, 21, .ro⟩
def wellStat.slotB : Fld := ⟨20, 20, .ro⟩
def wellStat.encrypted : Fld := ⟨19, 19, .ro⟩
def wellStat.unsigned : Fld := ⟨18, 18, .ro⟩
def wellStat.tarnWiped : Fld := ⟨17, 17, .ro⟩
def wellStat.lcschg : Fld := ⟨16, 16, .w1c⟩
def wellStat.tamper : Fld := ⟨15, 15, .w1c⟩
def wellStat.keySlot : Fld := ⟨14, 13, .ro⟩

/-! WELL_CAUSEA (spec/15 R420) -/
def wellCausea.code : Fld := ⟨31, 24, .ro⟩
def wellCausea.offset : Fld := ⟨23, 0, .ro⟩

/-! WELL_CAUSEB (spec/15 R420) -/
def wellCauseb.code : Fld := ⟨31, 24, .ro⟩
def wellCauseb.offset : Fld := ⟨23, 0, .ro⟩

/-! WELL_RBI (spec/15 R420) -/
def wellRbi.rbi : Fld := ⟨31, 0, .ro⟩

/-! WELL_FLOOR (spec/15 R420) -/
def wellFloor.floor : Fld := ⟨31, 0, .ro⟩

/-! WELL_FLASH (spec/15 R420) -/
def wellFlash.mode : Fld := ⟨31, 30, .ro⟩
def wellFlash.twoDev : Fld := ⟨29, 29, .ro⟩
def wellFlash.addr4 : Fld := ⟨28, 28, .ro⟩
def wellFlash.div : Fld := ⟨23, 16, .ro⟩
def wellFlash.density : Fld := ⟨15, 8, .ro⟩

/-! WELL_BOOTT (spec/15 R420) -/
def wellBoott.time : Fld := ⟨31, 0, .ro⟩

/-! WELL_CFG (spec/15 R420) -/
def wellCfg.tampact : Fld := ⟨1, 0, .ro⟩

/-! WELL_KEYSTAT (spec/15 R420) -/
def wellKeystat.pkhrev : Fld := ⟨31, 28, .ro⟩
def wellKeystat.pkhset : Fld := ⟨27, 24, .ro⟩
def wellKeystat.keyclr : Fld := ⟨1, 1, .ro⟩
def wellKeystat.keyin : Fld := ⟨0, 0, .ro⟩

/-! WELL_TAMP (spec/15 R420) -/
def wellTamp.tampcnt : Fld := ⟨31, 16, .rc⟩
def wellTamp.level : Fld := ⟨1, 1, .ro⟩
def wellTamp.boot : Fld := ⟨0, 0, .ro⟩

/-! OUT_CTRL (spec/19 R508) -/
def outCtrl.xlane0 : Fld := ⟨31, 24, .prw⟩
def outCtrl.xnlm1 : Fld := ⟨23, 22, .prw⟩
def outCtrl.xen : Fld := ⟨21, 21, .prw⟩
def outCtrl.trcen : Fld := ⟨2, 2, .prw⟩
def outCtrl.logen : Fld := ⟨1, 1, .prw⟩
def outCtrl.en : Fld := ⟨0, 0, .prw⟩

/-! OUT_STAT (spec/19 R508) -/
def outStat.storm : Fld := ⟨31, 31, .ro⟩
def outStat.ringerr : Fld := ⟨30, 30, .ro⟩
def outStat.loss : Fld := ⟨29, 29, .w1c⟩
def outStat.xerr : Fld := ⟨28, 28, .w1c⟩
def outStat.gappend : Fld := ⟨27, 27, .ro⟩
def outStat.active : Fld := ⟨26, 26, .ro⟩
def outStat.almq : Fld := ⟨25, 19, .ro⟩
def outStat.logq : Fld := ⟨18, 13, .ro⟩
def outStat.trcq : Fld := ⟨12, 7, .ro⟩

/-! OUT_RBASE (spec/19 R508) -/
def outRbase.base : Fld := ⟨23, 4, .prw⟩

/-! OUT_RLEN (spec/19 R508) -/
def outRlen.len : Fld := ⟨19, 4, .prw⟩

/-! OUT_WRPTR (spec/19 R508) -/
def outWrptr.ptr : Fld := ⟨19, 4, .ro⟩

/-! OUT_RDPTR (spec/19 R508) -/
def outRdptr.ptr : Fld := ⟨19, 4, .prw⟩

/-! OUT_RES (spec/19 R508) -/
def outRes.trcres : Fld := ⟨31, 16, .prw⟩
def outRes.almres : Fld := ⟨15, 0, .prw⟩

/-! OUT_STORM (spec/19 R508) -/
def outStorm.window : Fld := ⟨31, 24, .prw⟩
def outStorm.thresh : Fld := ⟨23, 12, .prw⟩
def outStorm.low : Fld := ⟨11, 0, .prw⟩

/-! OUT_CNT (spec/19 R508) -/
def outCnt.logdrop : Fld := ⟨31, 16, .rc⟩
def outCnt.trcdrop : Fld := ⟨15, 0, .rc⟩

/-! OUT_RAISE (spec/19 R508) -/
def outRaise.code : Fld := ⟨7, 0, .wo⟩

/-! OUT_XCNT (spec/19 R508) -/
def outXcnt.expdrop : Fld := ⟨15, 0, .rc⟩

/-! OUT_TSEL (spec/19 R508) -/
def outTsel.en : Fld := ⟨31, 31, .prw⟩
def outTsel.kind : Fld := ⟨30, 28, .prw⟩
def outTsel.index : Fld := ⟨7, 0, .prw⟩

/-! EDGE M0 (spec/06 R176) -/
def edgeM0.initOut : Fld := ⟨1, 1, .rw⟩
def edgeM0.initOe : Fld := ⟨0, 0, .rw⟩

/-! STREAM M0 (spec/06 R176) -/
def streamM0.cden : Fld := ⟨21, 21, .rw⟩
def streamM0.conduit : Fld := ⟨20, 16, .rw⟩
def streamM0.phase : Fld := ⟨14, 10, .rw⟩
def streamM0.bitdiv : Fld := ⟨9, 4, .rw⟩
def streamM0.start : Fld := ⟨3, 3, .rw⟩
def streamM0.idleLvl : Fld := ⟨2, 2, .rw⟩
def streamM0.msbf : Fld := ⟨1, 1, .rw⟩
def streamM0.dir : Fld := ⟨0, 0, .rw⟩

/-! STREAM M1 (spec/06 R176) -/
def streamM1.startTime : Fld := ⟨31, 0, .rw⟩

/-! STREAM M2 (CDEN = 0) (spec/06 R176) -/
def streamM2.data : Fld := ⟨15, 0, .rw⟩

/-! STREAM M3 (spec/06 R176) -/
def streamM3.replast : Fld := ⟨8, 8, .rw⟩
def streamM3.level : Fld := ⟨4, 0, .ro⟩

/-! CAPTURE M0 (spec/06 R176) -/
def captureM0.edges : Fld := ⟨1, 0, .rw⟩

/-! CAPTURE M1 (spec/06 R176) -/
def captureM1.time : Fld := ⟨31, 0, .rc⟩

/-! CAPTURE M2 (spec/06 R176) -/
def captureM2.count : Fld := ⟨21, 18, .ro⟩
def captureM2.valid : Fld := ⟨17, 17, .ro⟩
def captureM2.rising : Fld := ⟨16, 16, .ro⟩
def captureM2.timeHi : Fld := ⟨15, 0, .ro⟩

/-! DECIMATE M0 (spec/06 R176) -/
def decimateM0.mclkTmo : Fld := ⟨23, 16, .rw⟩
def decimateM0.clkedge : Fld := ⟨13, 13, .rw⟩
def decimateM0.clklane : Fld := ⟨12, 5, .rw⟩
def decimateM0.dec : Fld := ⟨4, 0, .rw⟩

/-! DECIMATE M1 (spec/06 R176) -/
def decimateM1.decconf : Fld := ⟨1, 1, .ro⟩
def decimateM1.clkloss : Fld := ⟨0, 0, .w1c⟩

/-! MIRROR M0 (spec/06 R176) -/
def mirrorM0.oe : Fld := ⟨9, 9, .rw⟩
def mirrorM0.inv : Fld := ⟨8, 8, .rw⟩
def mirrorM0.src : Fld := ⟨7, 0, .rw⟩

/-! TIMER M0 (spec/06 R176) -/
def timerM0.oe : Fld := ⟨15, 15, .rw⟩
def timerM0.initOut : Fld := ⟨14, 14, .rw⟩
def timerM0.actz : Fld := ⟨13, 12, .rw⟩
def timerM0.actb : Fld := ⟨11, 10, .rw⟩
def timerM0.acta : Fld := ⟨9, 8, .rw⟩
def timerM0.cnt : Fld := ⟨5, 0, .rw⟩

/-! QUAD M0 (spec/06 R176) -/
def quadM0.posu : Fld := ⟨5, 2, .rw⟩
def quadM0.role : Fld := ⟨1, 0, .rw⟩

/-! QUAD M1 (spec/06 R176) -/
def quadM1.pairerr : Fld := ⟨0, 0, .ro⟩

end F

/-- The fields of a register, as its map lists them; reserved bits belong to none. -/
def Reg.fields : Reg → List Fld
  | .topVersion => [F.topVersion.major, F.topVersion.minor]
  | .topFeat _ => [F.topFeat.value]
  | .topCopyseq => [F.topCopyseq.sclksrc, F.topCopyseq.seq]
  | .mbxSel => [F.mbxSel.sel]
  | .mbxStat => [F.mbxStat.seq, F.mbxStat.mid, F.mbxStat.filt, F.mbxStat.badsel, F.mbxStat.busy, F.mbxStat.valid]
  | .mbxData _ => [F.mbxData.data]
  | .topTdoor => [F.topTdoor.role, F.topTdoor.thread]
  | .topHdoor => [F.topHdoor.bits]
  | .topHdoorset => [F.topHdoorset.bits]
  | .topIraw => [F.topIraw.src]
  | .topIstat => [F.topIstat.hviol, F.topIstat.supflt]
  | .topHroute _ => [F.topHroute.mask]
  | .topHviol => [F.topHviol.count]
  | .topHvlast => [F.topHvlast.mid, F.topHvlast.kind, F.topHvlast.write]
  | .topHvaddr => [F.topHvaddr.addr]
  | .engCtrl _ => [F.engCtrl.swap, F.engCtrl.icinv, F.engCtrl.en]
  | .engStat _ => [F.engStat.role, F.engStat.activeMap, F.engStat.resting, F.engStat.pend, F.engStat.state]
  | .engFarbase _ => [F.engFarbase.farbase]
  | .engParkcnt _ => [F.engParkcnt.count]
  | .engIssuecnt _ => [F.engIssuecnt.issue]
  | .engPaircnt _ => [F.engPaircnt.pair]
  | .engStallcnt _ => [F.engStallcnt.stall]
  | .engIcmiss _ => [F.engIcmiss.miss]
  | .engRotcnt _ => [F.engRotcnt.rot]
  | .engSmapA _ _ => [F.engSmapA.slot3, F.engSmapA.slot2, F.engSmapA.slot1, F.engSmapA.slot0]
  | .engSmapB _ _ => [F.engSmapB.slot3, F.engSmapB.slot2, F.engSmapB.slot1, F.engSmapB.slot0]
  | .engBp _ _ => [F.engBp.en, F.engBp.allt, F.engBp.thread, F.engBp.addr]
  | .engDbgctl _ => [F.engDbgctl.cmd, F.engDbgctl.thread]
  | .engDbgstat _ => [F.engDbgstat.halted]
  | .engDbghit _ => [F.engDbghit.hit, F.engDbghit.thread, F.engDbghit.bp]
  | .engTpc _ _ => [F.engTpc.pc]
  | .engTfetch _ _ => [F.engTfetch.nearOnly]
  | .engTcseg _ _ => [F.engTcseg.csegHi, F.engTcseg.csegLo]
  | .engTpark _ _ => [F.engTpark.cause, F.engTpark.parkPc]
  | .engTsegb _ _ _ => [F.engTsegb.control, F.engTsegb.secure, F.engTsegb.write, F.engTsegb.read, F.engTsegb.base]
  | .engTsegl _ _ _ => [F.engTsegl.limit]
  | .engUop _ _ _ => [F.engUop.kind, F.engUop.op, F.engUop.d, F.engUop.s, F.engUop.imm]
  | .engCusthdr _ _ => [F.engCusthdr.len]
  | .engTastat _ _ => [F.engTastat.odd, F.engTastat.even]
  | .engTstate _ _ => [F.engTstate.viol, F.engTstate.inhdl, F.engTstate.prio, F.engTstate.priv, F.engTstate.cmd, F.engTstate.fcause, F.engTstate.state]
  | .engTevt _ _ => [F.engTevt.urgmask, F.engTevt.evt]
  | .engTurg _ _ => [F.engTurg.uret, F.engTurg.uvec]
  | .engDctl _ => [F.engDctl.cmd, F.engDctl.holdmax, F.engDctl.refcg, F.engDctl.loopflt, F.engDctl.dfa, F.engDctl.policy, F.engDctl.drst, F.engDctl.en]
  | .engDstat _ => [F.engDstat.holdcnt, F.engDstat.degraded, F.engDstat.longper, F.engDstat.limitLock, F.engDstat.sub, F.engDstat.pend, F.engDstat.state]
  | .engDfault _ => [F.engDfault.code, F.engDfault.role, F.engDfault.thread, F.engDfault.lane, F.engDfault.lanev]
  | .engDftime _ => [F.engDftime.time]
  | .engDcnt _ => [F.engDcnt.takeovers, F.engDcnt.rollbacks, F.engDcnt.freezes, F.engDcnt.laneswaps]
  | .engCont _ => [F.engCont.cen, F.engCont.cslot, F.engCont.ckint]
  | .engMirror _ => [F.engMirror.men, F.engMirror.mhi, F.engMirror.mlo]
  | .engCkmask _ => [F.engCkmask.mask]
  | .engCkstat _ => [F.engCkstat.records, F.engCkstat.ckskip]
  | .engFstat => [F.engFstat.reserve, F.engFstat.testing, F.engFstat.takeover, F.engFstat.trole, F.engFstat.swap, F.engFstat.dfault, F.engFstat.oos]
  | .engFdecl => [F.engFdecl.kind, F.engFdecl.target]
  | .engFcnt => [F.engFcnt.faults, F.engFcnt.newest]
  | .engRoll => [F.engRoll.en, F.engRoll.acg, F.engRoll.acgv, F.engRoll.rollint]
  | .engRollstat => [F.engRollstat.phase, F.engRollstat.lastfail, F.engRollstat.rollptr, F.engRollstat.swaps]
  | .engPwr => [F.engPwr.wake, F.engPwr.sleepreq, F.engPwr.sleepKeepTime, F.engPwr.dozeEn, F.engPwr.dozedly]
  | .engPwrstat => [F.engPwrstat.state, F.engPwrstat.hs, F.engPwrstat.wch, F.engPwrstat.wcause, F.engPwrstat.sleeps]
  | .engRst => [F.engRst.kind, F.engRst.target]
  | .engRstcause => [F.engRstcause.warmcnt, F.engRstcause.last]
  | .laneCtrl _ => [F.laneCtrl.quota, F.laneCtrl.domv, F.laneCtrl.dom, F.laneCtrl.mode, F.laneCtrl.en]
  | .laneStat _ => [F.laneStat.qdepth, F.laneStat.calfail, F.laneStat.retired, F.laneStat.spare, F.laneStat.bypass, F.laneStat.outrank, F.laneStat.pend, F.laneStat.state]
  | .laneSafe _ => [F.laneSafe.safeSrc, F.laneSafe.safeOut, F.laneSafe.safeOe]
  | .laneIo _ => [F.laneIo.skew, F.laneIo.filt, F.laneIo.loopdly, F.laneIo.loopen, F.laneIo.invIn, F.laneIo.invOut]
  | .laneM0 _ => []
  | .laneM1 _ => []
  | .laneM2 _ => []
  | .laneM3 _ => []
  | .laneErr _ => [F.laneErr.erra, F.laneErr.errb]
  | .laneCal _ => [F.laneCal.outTaps, F.laneCal.inTaps, F.laneCal.calcnt]
  | .laneXbar _ => [F.laneXbar.core]
  | .laneShctrl => [F.laneShctrl.muli, F.laneShctrl.mulf]
  | .laneShstat => [F.laneShstat.gap, F.laneShstat.locklost, F.laneShstat.holdover, F.laneShstat.calfailany, F.laneShstat.caldone, F.laneShstat.lock]
  | .laneTimelo => [F.laneTimelo.time]
  | .laneSync => [F.laneSync.res, F.laneSync.refused, F.laneSync.loaded, F.laneSync.ppsseen, F.laneSync.arm]
  | .laneNextlo => [F.laneNextlo.nextLo]
  | .laneNexthi => [F.laneNexthi.nextHi]
  | .lanePpscap => [F.lanePpscap.pps]
  | .laneSchstat => [F.laneSchstat.free]
  | .laneSchrej => [F.laneSchrej.latex, F.laneSchrej.reject]
  | .laneSchquota => [F.laneSchquota.total]
  | .weirCfg _ => [F.weirCfg.fbmax, F.weirCfg.res, F.weirCfg.cg, F.weirCfg.pair, F.weirCfg.policy, F.weirCfg.ovg, F.weirCfg.oven, F.weirCfg.kind]
  | .weirStage _ => [F.weirStage.value]
  | .weirInit _ => [F.weirInit.init]
  | .weirStat _ => [F.weirStat.fbrun, F.weirStat.tag, F.weirStat.ovwr, F.weirStat.locked, F.weirStat.lastcause, F.weirStat.clamped, F.weirStat.poison, F.weirStat.valid]
  | .weirCnt _ => [F.weirCnt.late, F.weirCnt.stale]
  | .weirLimd _ => [F.weirLimd.dmax, F.weirLimd.dmin]
  | .weirLims _ => [F.weirLims.slew]
  | .weirLimp _ => [F.weirLimp.deadt, F.weirLimp.minpw]
  | .weirLimt _ => [F.weirLimt.maxon]
  | .weirWin _ => [F.weirWin.winen, F.weirWin.winbit, F.weirWin.role, F.weirWin.thread, F.weirWin.winoff]
  | .weirLast _ => [F.weirLast.last]
  | .weirHist _ => [F.weirHist.hist]
  | .weirCgctl _ => [F.weirCgctl.inl, F.weirCgctl.strict, F.weirCgctl.coh, F.weirCgctl.src, F.weirCgctl.domv, F.weirCgctl.dom]
  | .weirCgper _ => [F.weirCgper.per]
  | .weirCgph _ => [F.weirCgph.phase]
  | .weirCgld _ => [F.weirCgld.stboff, F.weirCgld.lead]
  | .weirCgstat _ => [F.weirCgstat.stbmiss, F.weirCgstat.stbign]
  | .weirCgpnum _ => [F.weirCgpnum.pnum]
  | .cntCtrl _ => [F.cntCtrl.chain, F.cntCtrl.ledge, F.cntCtrl.domv, F.cntCtrl.dom, F.cntCtrl.presc, F.cntCtrl.clklane, F.cntCtrl.clkch, F.cntCtrl.clksrc, F.cntCtrl.mode, F.cntCtrl.arm, F.cntCtrl.en]
  | .cntStat _ => [F.cntStat.done, F.cntStat.dir, F.cntStat.mb, F.cntStat.ma, F.cntStat.pend, F.cntStat.state]
  | .cntCount _ => [F.cntCount.count]
  | .cntTop _ => [F.cntTop.top]
  | .cntCmpa _ => [F.cntCmpa.cmp]
  | .cntCmpb _ => [F.cntCmpb.cmp]
  | .cntEvt _ => [F.cntEvt.aen, F.cntEvt.ben, F.cntEvt.role, F.cntEvt.thread, F.cntEvt.abit, F.cntEvt.bbit]
  | .cntGo => [F.cntGo.go]
  | .cntSnap => [F.cntSnap.seq, F.cntSnap.group]
  | .cntFabfn _ => [F.cntFabfn.tgt, F.cntFabfn.func]
  | .cntSnapv _ _ => [F.cntSnapv.value]
  | .posCtrl _ => [F.posCtrl.idxedge, F.posCtrl.idxmode, F.posCtrl.spdavg]
  | .posStat _ => [F.posStat.armed, F.posStat.behindAtArm, F.posStat.match, F.posStat.idxseen, F.posStat.illegal, F.posStat.pendrev, F.posStat.still, F.posStat.dir]
  | .posPos _ => [F.posPos.pos]
  | .posIdxcap _ => [F.posIdxcap.idxcap]
  | .posSpeed _ => [F.posSpeed.speed]
  | .posTmo _ => [F.posTmo.speedTimeout]
  | .posCmpv _ => [F.posCmpv.cmpv]
  | .posCmpc _ => [F.posCmpc.upen, F.posCmpc.dnen, F.posCmpc.even, F.posCmpc.role, F.posCmpc.thread, F.posCmpc.bit]
  | .posIdxval _ => [F.posIdxval.idxval]
  | .posLastt _ => [F.posLastt.lastt]
  | .inlData _ => [F.inlData.ovr, F.inlData.ready, F.inlData.tag, F.inlData.data]
  | .inlTime _ => [F.inlTime.time]
  | .inlRtime _ => [F.inlRtime.rtime]
  | .inlCtrl _ => [F.inlCtrl.tmask, F.inlCtrl.tval, F.inlCtrl.tagen, F.inlCtrl.signed, F.inlCtrl.winen, F.inlCtrl.even, F.inlCtrl.role, F.inlCtrl.thread, F.inlCtrl.ebit, F.inlCtrl.domv, F.inlCtrl.dom, F.inlCtrl.en]
  | .inlStat _ => [F.inlStat.winhit, F.inlStat.winside, F.inlStat.locked, F.inlStat.pend, F.inlStat.state]
  | .inlWin _ => [F.inlWin.hi, F.inlWin.lo]
  | .inlCnt _ => [F.inlCnt.ovrcnt, F.inlCnt.wincnt, F.inlCnt.drop]
  | .inlDec _ => [F.inlDec.shift, F.inlDec.osr]
  | .fabCh _ => [F.fabCh.arg, F.fabCh.omode, F.fabCh.wakeEn, F.fabCh.ringStop, F.fabCh.lsus, F.fabCh.gsel, F.fabCh.gpol, F.fabCh.tapen]
  | .fabCst _ => [F.fabCst.ovrcnt, F.fabCst.passcnt, F.fabCst.replaced, F.fabCst.disabled, F.fabCst.level, F.fabCst.merge, F.fabCst.relref, F.fabCst.ring, F.fabCst.coinc, F.fabCst.ovr]
  | .fabEvpol _ => [F.fabEvpol.pol]
  | .fabEvin _ => [F.fabEvin.lvl]
  | .fabFire => [F.fabFire.ch]
  | .fabTrip _ => [F.fabTrip.trip]
  | .fabSpmap _ => [F.fabSpmap.en, F.fabSpmap.active, F.fabSpmap.tgt]
  | .fabSplat _ => [F.fabSplat.time]
  | .fabSum => [F.fabSum.ringany, F.fabSum.ovrany, F.fabSum.coincany, F.fabSum.tripany]
  | .lckReq _ => [F.lckReq.code]
  | .lckRel _ => [F.lckRel.released]
  | .lckStat _ => [F.lckStat.held, F.lckStat.abandoned, F.lckStat.holder, F.lckStat.nwait]
  | .lckGrights _ => [F.lckGrights.hprio, F.lckGrights.hsec, F.lckGrights.host, F.lckGrights.privmask, F.lckGrights.rolemask]
  | .lckFrel => [F.lckFrel.abandon, F.lckFrel.holder, F.lckFrel.lock]
  | .lckHmrel => [F.lckHmrel.master]
  | .lckStats => [F.lckStats.abandons, F.lckStats.forced, F.lckStats.fmiss]
  | .memBctl _ => [F.memBctl.owner, F.memBctl.autoWake, F.memBctl.en]
  | .memBstat _ => [F.memBstat.phys, F.memBstat.prev, F.memBstat.handover, F.memBstat.pend, F.memBstat.state]
  | .memBconf _ => [F.memBconf.wakes, F.memBconf.conflict]
  | .memLrcol _ => [F.memLrcol.count]
  | .memTarn => [F.memTarn.cause, F.memTarn.wiped, F.memTarn.wiping]
  | .memIstat => [F.memIstat.schue, F.memIstat.retdone, F.memIstat.migdone, F.memIstat.bgtfail, F.memIstat.logovf, F.memIstat.ue, F.memIstat.lbhit]
  | .memCecnt => [F.memCecnt.cecnt]
  | .memUecnt => [F.memUecnt.uecnt]
  | .memUelast => [F.memUelast.src, F.memUelast.word]
  | .memLogv => [F.memLogv.valid]
  | .memLogovf => [F.memLogovf.ovf]
  | .memStest0 => [F.memStest0.faillo]
  | .memStest1 => [F.memStest1.done, F.memStest1.sched, F.memStest1.tarn, F.memStest1.pstore, F.memStest1.lram, F.memStest1.failhi]
  | .memSpstat => [F.memSpstat.b33, F.memSpstat.b32]
  | .memClrw => [F.memClrw.addr]
  | .memLb _ => [F.memLb.hit, F.memLb.k, F.memLb.thresh, F.memLb.level]
  | .memRetire _ => [F.memRetire.valid, F.memRetire.remap, F.memRetire.copy, F.memRetire.sb, F.memRetire.spage, F.memRetire.slot, F.memRetire.page]
  | .memMigctl => [F.memMigctl.go, F.memMigctl.src, F.memMigctl.dst]
  | .memMigstat => [F.memMigstat.state, F.memMigstat.progress]
  | .memBgtctl => [F.memBgtctl.en]
  | .memBgtint => [F.memBgtint.interval]
  | .memBgtstat => [F.memBgtstat.state, F.memBgtstat.bank, F.memBgtstat.region, F.memBgtstat.passes]
  | .memBgtfail => [F.memBgtfail.bank, F.memBgtfail.region, F.memBgtfail.word, F.memBgtfail.failcnt]
  | .cdCtrl _ => [F.cdCtrl.kick, F.cdCtrl.en]
  | .cdCfg _ => [F.cdCfg.lane0, F.cdCfg.nlm1, F.cdCfg.tcnt, F.cdCfg.trig, F.cdCfg.kind]
  | .cdPbase _ => [F.cdPbase.base]
  | .cdPlen _ => [F.cdPlen.len]
  | .cdLaddr _ => [F.cdLaddr.role, F.cdLaddr.offset]
  | .cdXlen _ => [F.cdXlen.len]
  | .cdStat _ => [F.cdStat.donecnt, F.cdStat.trigovr, F.cdStat.trigpend, F.cdStat.err, F.cdStat.pend, F.cdStat.state]
  | .cdEvt _ => [F.cdEvt.even, F.cdEvt.role, F.cdEvt.thread, F.cdEvt.half]
  | .cdPos _ _ => [F.cdPos.offset]
  | .wellStat => [F.wellStat.step, F.wellStat.haltc, F.wellStat.lcs, F.wellStat.slotB, F.wellStat.encrypted, F.wellStat.unsigned, F.wellStat.tarnWiped, F.wellStat.lcschg, F.wellStat.tamper, F.wellStat.keySlot]
  | .wellCausea => [F.wellCausea.code, F.wellCausea.offset]
  | .wellCauseb => [F.wellCauseb.code, F.wellCauseb.offset]
  | .wellRbi => [F.wellRbi.rbi]
  | .wellFloor => [F.wellFloor.floor]
  | .wellFlash => [F.wellFlash.mode, F.wellFlash.twoDev, F.wellFlash.addr4, F.wellFlash.div, F.wellFlash.density]
  | .wellBoott => [F.wellBoott.time]
  | .wellCfg => [F.wellCfg.tampact]
  | .wellKeystat => [F.wellKeystat.pkhrev, F.wellKeystat.pkhset, F.wellKeystat.keyclr, F.wellKeystat.keyin]
  | .wellTamp => [F.wellTamp.tampcnt, F.wellTamp.level, F.wellTamp.boot]
  | .outCtrl => [F.outCtrl.xlane0, F.outCtrl.xnlm1, F.outCtrl.xen, F.outCtrl.trcen, F.outCtrl.logen, F.outCtrl.en]
  | .outStat => [F.outStat.storm, F.outStat.ringerr, F.outStat.loss, F.outStat.xerr, F.outStat.gappend, F.outStat.active, F.outStat.almq, F.outStat.logq, F.outStat.trcq]
  | .outRbase => [F.outRbase.base]
  | .outRlen => [F.outRlen.len]
  | .outWrptr => [F.outWrptr.ptr]
  | .outRdptr => [F.outRdptr.ptr]
  | .outRes => [F.outRes.trcres, F.outRes.almres]
  | .outStorm => [F.outStorm.window, F.outStorm.thresh, F.outStorm.low]
  | .outCnt => [F.outCnt.logdrop, F.outCnt.trcdrop]
  | .outRaise => [F.outRaise.code]
  | .outXcnt => [F.outXcnt.expdrop]
  | .outTsel _ => [F.outTsel.en, F.outTsel.kind, F.outTsel.index]
  | .edgeM0 _ => [F.edgeM0.initOut, F.edgeM0.initOe]
  | .streamM0 _ => [F.streamM0.cden, F.streamM0.conduit, F.streamM0.phase, F.streamM0.bitdiv, F.streamM0.start, F.streamM0.idleLvl, F.streamM0.msbf, F.streamM0.dir]
  | .streamM1 _ => [F.streamM1.startTime]
  | .streamM2 _ => [F.streamM2.data]
  | .streamM3 _ => [F.streamM3.replast, F.streamM3.level]
  | .captureM0 _ => [F.captureM0.edges]
  | .captureM1 _ => [F.captureM1.time]
  | .captureM2 _ => [F.captureM2.count, F.captureM2.valid, F.captureM2.rising, F.captureM2.timeHi]
  | .decimateM0 _ => [F.decimateM0.mclkTmo, F.decimateM0.clkedge, F.decimateM0.clklane, F.decimateM0.dec]
  | .decimateM1 _ => [F.decimateM1.decconf, F.decimateM1.clkloss]
  | .mirrorM0 _ => [F.mirrorM0.oe, F.mirrorM0.inv, F.mirrorM0.src]
  | .timerM0 _ => [F.timerM0.oe, F.timerM0.initOut, F.timerM0.actz, F.timerM0.actb, F.timerM0.acta, F.timerM0.cnt]
  | .quadM0 _ => [F.quadM0.posu, F.quadM0.role]
  | .quadM1 _ => [F.quadM1.pairerr]

/-- The key under which the state keeps a register: its block address (spec/17 R454), or for the
contents of a lane mode a key above the address space. -/
def Reg.key : Reg → Nat
  | .topVersion => 0x700000
  | .topFeat i => 0x700010 + 0x4 * i
  | .topCopyseq => 0x700040
  | .mbxSel => 0x700080
  | .mbxStat => 0x700084
  | .mbxData i => 0x700090 + 0x4 * i
  | .topTdoor => 0x7000c0
  | .topHdoor => 0x7000c4
  | .topHdoorset => 0x7000c8
  | .topIraw => 0x700100
  | .topIstat => 0x700104
  | .topHroute i => 0x700140 + 0x4 * i
  | .topHviol => 0x700200
  | .topHvlast => 0x700204
  | .topHvaddr => 0x700208
  | .engCtrl i => 0x710000 + 0x1000 * i
  | .engStat i => 0x710004 + 0x1000 * i
  | .engFarbase i => 0x710008 + 0x1000 * i
  | .engParkcnt i => 0x71000c + 0x1000 * i
  | .engIssuecnt i => 0x710010 + 0x1000 * i
  | .engPaircnt i => 0x710014 + 0x1000 * i
  | .engStallcnt i => 0x710018 + 0x1000 * i
  | .engIcmiss i => 0x71001c + 0x1000 * i
  | .engRotcnt i => 0x710020 + 0x1000 * i
  | .engSmapA i j => 0x710100 + 0x1000 * i + 0x4 * j
  | .engSmapB i j => 0x710140 + 0x1000 * i + 0x4 * j
  | .engBp i j => 0x710180 + 0x1000 * i + 0x4 * j
  | .engDbgctl i => 0x7101a0 + 0x1000 * i
  | .engDbgstat i => 0x7101a4 + 0x1000 * i
  | .engDbghit i => 0x7101a8 + 0x1000 * i
  | .engTpc i j => 0x710200 + 0x1000 * i + 0x10 * j
  | .engTfetch i j => 0x710204 + 0x1000 * i + 0x10 * j
  | .engTcseg i j => 0x710208 + 0x1000 * i + 0x10 * j
  | .engTpark i j => 0x71020c + 0x1000 * i + 0x10 * j
  | .engTsegb i j k => 0x710400 + 0x1000 * i + 0x40 * j + 0x8 * k
  | .engTsegl i j k => 0x710404 + 0x1000 * i + 0x40 * j + 0x8 * k
  | .engUop i j k => 0x710c00 + 0x1000 * i + 0x20 * j + 0x4 * k
  | .engCusthdr i j => 0x710e00 + 0x1000 * i + 0x4 * j
  | .engTastat i j => 0x710e40 + 0x1000 * i + 0x4 * j
  | .engTstate i j => 0x710e80 + 0x1000 * i + 0x4 * j
  | .engTevt i j => 0x710f00 + 0x1000 * i + 0x4 * j
  | .engTurg i j => 0x710f80 + 0x1000 * i + 0x4 * j
  | .engDctl i => 0x719000 + 0x20 * i
  | .engDstat i => 0x719004 + 0x20 * i
  | .engDfault i => 0x719008 + 0x20 * i
  | .engDftime i => 0x71900c + 0x20 * i
  | .engDcnt i => 0x719010 + 0x20 * i
  | .engCont i => 0x719200 + 0x10 * i
  | .engMirror i => 0x719204 + 0x10 * i
  | .engCkmask i => 0x719208 + 0x10 * i
  | .engCkstat i => 0x71920c + 0x10 * i
  | .engFstat => 0x719300
  | .engFdecl => 0x719304
  | .engFcnt => 0x719308
  | .engRoll => 0x719310
  | .engRollstat => 0x719314
  | .engPwr => 0x719400
  | .engPwrstat => 0x719404
  | .engRst => 0x719408
  | .engRstcause => 0x71940c
  | .laneCtrl i => 0x720000 + 0x40 * i
  | .laneStat i => 0x720004 + 0x40 * i
  | .laneSafe i => 0x720008 + 0x40 * i
  | .laneIo i => 0x72000c + 0x40 * i
  | .laneM0 i => 0x720010 + 0x40 * i
  | .laneM1 i => 0x720014 + 0x40 * i
  | .laneM2 i => 0x720018 + 0x40 * i
  | .laneM3 i => 0x72001c + 0x40 * i
  | .laneErr i => 0x720020 + 0x40 * i
  | .laneCal i => 0x720024 + 0x40 * i
  | .laneXbar i => 0x724400 + 0x4 * i
  | .laneShctrl => 0x728000
  | .laneShstat => 0x728004
  | .laneTimelo => 0x728008
  | .laneSync => 0x728010
  | .laneNextlo => 0x728014
  | .laneNexthi => 0x728018
  | .lanePpscap => 0x72801c
  | .laneSchstat => 0x729000
  | .laneSchrej => 0x729004
  | .laneSchquota => 0x729008
  | .weirCfg i => 0x730000 + 0x40 * i
  | .weirStage i => 0x730004 + 0x40 * i
  | .weirInit i => 0x730008 + 0x40 * i
  | .weirStat i => 0x73000c + 0x40 * i
  | .weirCnt i => 0x730010 + 0x40 * i
  | .weirLimd i => 0x730014 + 0x40 * i
  | .weirLims i => 0x730018 + 0x40 * i
  | .weirLimp i => 0x73001c + 0x40 * i
  | .weirLimt i => 0x730020 + 0x40 * i
  | .weirWin i => 0x730024 + 0x40 * i
  | .weirLast i => 0x730028 + 0x40 * i
  | .weirHist i => 0x73002c + 0x40 * i
  | .weirCgctl i => 0x734000 + 0x20 * i
  | .weirCgper i => 0x734004 + 0x20 * i
  | .weirCgph i => 0x734008 + 0x20 * i
  | .weirCgld i => 0x73400c + 0x20 * i
  | .weirCgstat i => 0x734010 + 0x20 * i
  | .weirCgpnum i => 0x734014 + 0x20 * i
  | .cntCtrl i => 0x740000 + 0x20 * i
  | .cntStat i => 0x740004 + 0x20 * i
  | .cntCount i => 0x740008 + 0x20 * i
  | .cntTop i => 0x74000c + 0x20 * i
  | .cntCmpa i => 0x740010 + 0x20 * i
  | .cntCmpb i => 0x740014 + 0x20 * i
  | .cntEvt i => 0x740018 + 0x20 * i
  | .cntGo => 0x741000
  | .cntSnap => 0x741004
  | .cntFabfn i => 0x741040 + 0x4 * i
  | .cntSnapv i j => 0x741100 + 0x10 * i + 0x4 * j
  | .posCtrl i => 0x742000 + 0x40 * i
  | .posStat i => 0x742004 + 0x40 * i
  | .posPos i => 0x742008 + 0x40 * i
  | .posIdxcap i => 0x74200c + 0x40 * i
  | .posSpeed i => 0x742010 + 0x40 * i
  | .posTmo i => 0x742014 + 0x40 * i
  | .posCmpv i => 0x742018 + 0x40 * i
  | .posCmpc i => 0x74201c + 0x40 * i
  | .posIdxval i => 0x742020 + 0x40 * i
  | .posLastt i => 0x742024 + 0x40 * i
  | .inlData i => 0x750000 + 0x20 * i
  | .inlTime i => 0x750004 + 0x20 * i
  | .inlRtime i => 0x750008 + 0x20 * i
  | .inlCtrl i => 0x75000c + 0x20 * i
  | .inlStat i => 0x750010 + 0x20 * i
  | .inlWin i => 0x750014 + 0x20 * i
  | .inlCnt i => 0x750018 + 0x20 * i
  | .inlDec i => 0x75001c + 0x20 * i
  | .fabCh i => 0x760000 + 0x8 * i
  | .fabCst i => 0x760004 + 0x8 * i
  | .fabEvpol i => 0x760800 + 0x4 * i
  | .fabEvin i => 0x760808 + 0x4 * i
  | .fabFire => 0x760810
  | .fabTrip i => 0x760820 + 0x4 * i
  | .fabSpmap i => 0x760840 + 0x4 * i
  | .fabSplat i => 0x760860 + 0x4 * i
  | .fabSum => 0x760880
  | .lckReq i => 0x770000 + 0x4 * i
  | .lckRel i => 0x770400 + 0x4 * i
  | .lckStat i => 0x770800 + 0x4 * i
  | .lckGrights i => 0x770c00 + 0x4 * i
  | .lckFrel => 0x770c20
  | .lckHmrel => 0x770c24
  | .lckStats => 0x770c28
  | .memBctl i => 0x780000 + 0x10 * i
  | .memBstat i => 0x780004 + 0x10 * i
  | .memBconf i => 0x780008 + 0x10 * i
  | .memLrcol i => 0x780200 + 0x4 * i
  | .memTarn => 0x780240
  | .memIstat => 0x780400
  | .memCecnt => 0x780404
  | .memUecnt => 0x780408
  | .memUelast => 0x78040c
  | .memLogv => 0x780410
  | .memLogovf => 0x780414
  | .memStest0 => 0x780418
  | .memStest1 => 0x78041c
  | .memSpstat => 0x780420
  | .memClrw => 0x780424
  | .memLb i => 0x780480 + 0x4 * i
  | .memRetire i => 0x780600 + 0x4 * i
  | .memMigctl => 0x780a00
  | .memMigstat => 0x780a04
  | .memBgtctl => 0x780a10
  | .memBgtint => 0x780a14
  | .memBgtstat => 0x780a18
  | .memBgtfail => 0x780a1c
  | .cdCtrl i => 0x781000 + 0x80 * i
  | .cdCfg i => 0x781004 + 0x80 * i
  | .cdPbase i => 0x781008 + 0x80 * i
  | .cdPlen i => 0x78100c + 0x80 * i
  | .cdLaddr i => 0x781010 + 0x80 * i
  | .cdXlen i => 0x781014 + 0x80 * i
  | .cdStat i => 0x781018 + 0x80 * i
  | .cdEvt i => 0x78101c + 0x80 * i
  | .cdPos i j => 0x781040 + 0x80 * i + 0x4 * j
  | .wellStat => 0x790000
  | .wellCausea => 0x790004
  | .wellCauseb => 0x790008
  | .wellRbi => 0x79000c
  | .wellFloor => 0x790010
  | .wellFlash => 0x790014
  | .wellBoott => 0x790018
  | .wellCfg => 0x79001c
  | .wellKeystat => 0x790020
  | .wellTamp => 0x790024
  | .outCtrl => 0x7a0000
  | .outStat => 0x7a0004
  | .outRbase => 0x7a0008
  | .outRlen => 0x7a000c
  | .outWrptr => 0x7a0010
  | .outRdptr => 0x7a0014
  | .outRes => 0x7a0018
  | .outStorm => 0x7a001c
  | .outCnt => 0x7a0020
  | .outRaise => 0x7a0024
  | .outXcnt => 0x7a0028
  | .outTsel i => 0x7a0040 + 0x4 * i
  | .edgeM0 i => 0x1000000 + i
  | .streamM0 i => 0x1001000 + i
  | .streamM1 i => 0x1002000 + i
  | .streamM2 i => 0x1003000 + i
  | .streamM3 i => 0x1004000 + i
  | .captureM0 i => 0x1005000 + i
  | .captureM1 i => 0x1006000 + i
  | .captureM2 i => 0x1007000 + i
  | .decimateM0 i => 0x1008000 + i
  | .decimateM1 i => 0x1009000 + i
  | .mirrorM0 i => 0x100a000 + i
  | .timerM0 i => 0x100b000 + i
  | .quadM0 i => 0x100c000 + i
  | .quadM1 i => 0x100d000 + i

/-- The value a register holds after power-on reset (spec/00 R5). -/
def Reg.reset : Reg → BitVec 32
  | .topVersion => 0x30002
  | .topFeat _ => 0x0
  | .topCopyseq => 0x0
  | .mbxSel => 0x0
  | .mbxStat => 0x0
  | .mbxData _ => 0x0
  | .topTdoor => 0x0
  | .topHdoor => 0x0
  | .topHdoorset => 0x0
  | .topIraw => 0x0
  | .topIstat => 0x0
  | .topHroute _ => 0x0
  | .topHviol => 0x0
  | .topHvlast => 0x0
  | .topHvaddr => 0x0
  | .engCtrl _ => 0x0
  | .engStat _ => 0xf00
  | .engFarbase _ => 0x0
  | .engParkcnt _ => 0x0
  | .engIssuecnt _ => 0x0
  | .engPaircnt _ => 0x0
  | .engStallcnt _ => 0x0
  | .engIcmiss _ => 0x0
  | .engRotcnt _ => 0x0
  | .engSmapA _ _ => 0x20202020
  | .engSmapB _ _ => 0x20202020
  | .engBp _ _ => 0x0
  | .engDbgctl _ => 0x0
  | .engDbgstat _ => 0x0
  | .engDbghit _ => 0x0
  | .engTpc _ _ => 0x0
  | .engTfetch _ _ => 0x0
  | .engTcseg _ _ => 0xffff0000
  | .engTpark _ _ => 0x0
  | .engTsegb _ _ _ => 0x0
  | .engTsegl _ _ _ => 0x0
  | .engUop _ _ _ => 0x0
  | .engCusthdr _ _ => 0x0
  | .engTastat _ _ => 0x0
  | .engTstate _ j => if j = 0 then 0x400 else 0
  | .engTevt _ _ => 0x0
  | .engTurg _ _ => 0x0
  | .engDctl _ => 0x10
  | .engDstat _ => 0x0
  | .engDfault _ => 0xf000000
  | .engDftime _ => 0x0
  | .engDcnt _ => 0x0
  | .engCont _ => 0x14
  | .engMirror _ => 0x0
  | .engCkmask _ => 0x0
  | .engCkstat _ => 0x0
  | .engFstat => 0xf000000
  | .engFdecl => 0x0
  | .engFcnt => 0x0
  | .engRoll => 0x80000258
  | .engRollstat => 0x0
  | .engPwr => 0x1010a
  | .engPwrstat => 0x0
  | .engRst => 0x0
  | .engRstcause => 0x1
  | .laneCtrl _ => 0xf8000
  | .laneStat i => if i < 256 then 0x10 else 0x110
  | .laneSafe _ => 0x0
  | .laneIo _ => 0x20
  | .laneM0 _ => 0x0
  | .laneM1 _ => 0x0
  | .laneM2 _ => 0x0
  | .laneM3 _ => 0x0
  | .laneErr _ => 0x0
  | .laneCal _ => 0x0
  | .laneXbar i => BitVec.ofNat 32 (i % 512)
  | .laneShctrl => 0x80000
  | .laneShstat => 0x0
  | .laneTimelo => 0x0
  | .laneSync => 0x0
  | .laneNextlo => 0x0
  | .laneNexthi => 0x0
  | .lanePpscap => 0x0
  | .laneSchstat => 0x10000
  | .laneSchrej => 0x0
  | .laneSchquota => 0xffc0
  | .weirCfg _ => 0x0
  | .weirStage _ => 0x0
  | .weirInit _ => 0x0
  | .weirStat _ => 0x0
  | .weirCnt _ => 0x0
  | .weirLimd _ => 0xffff0000
  | .weirLims _ => 0xffff
  | .weirLimp _ => 0x0
  | .weirLimt _ => 0x0
  | .weirWin _ => 0x0
  | .weirLast _ => 0x0
  | .weirHist _ => 0x0
  | .weirCgctl _ => 0x0
  | .weirCgper _ => 0x190
  | .weirCgph _ => 0x0
  | .weirCgld _ => 0xa80020
  | .weirCgstat _ => 0x0
  | .weirCgpnum _ => 0x0
  | .cntCtrl _ => 0x10000000
  | .cntStat _ => 0x0
  | .cntCount _ => 0x0
  | .cntTop _ => 0xffff
  | .cntCmpa _ => 0x0
  | .cntCmpb _ => 0x0
  | .cntEvt _ => 0x0
  | .cntGo => 0x0
  | .cntSnap => 0x0
  | .cntFabfn _ => 0x0
  | .cntSnapv _ _ => 0x0
  | .posCtrl _ => 0x0
  | .posStat _ => 0x10
  | .posPos _ => 0x0
  | .posIdxcap _ => 0x0
  | .posSpeed _ => 0x0
  | .posTmo _ => 0xc35
  | .posCmpv _ => 0x0
  | .posCmpc _ => 0x0
  | .posIdxval _ => 0x0
  | .posLastt _ => 0x0
  | .inlData _ => 0x0
  | .inlTime _ => 0x0
  | .inlRtime _ => 0x0
  | .inlCtrl _ => 0x40000
  | .inlStat _ => 0x0
  | .inlWin _ => 0x7fff8000
  | .inlCnt _ => 0x0
  | .inlDec _ => 0x640
  | .fabCh _ => 0x0
  | .fabCst _ => 0x0
  | .fabEvpol _ => 0x0
  | .fabEvin _ => 0x0
  | .fabFire => 0x0
  | .fabTrip _ => 0x0
  | .fabSpmap _ => 0x0
  | .fabSplat _ => 0x0
  | .fabSum => 0x0
  | .lckReq _ => 0x0
  | .lckRel _ => 0x0
  | .lckStat _ => 0x3ff0000
  | .lckGrights _ => 0x0
  | .lckFrel => 0x0
  | .lckHmrel => 0x0
  | .lckStats => 0x0
  | .memBctl _ => 0xf01
  | .memBstat i => BitVec.ofNat 32 (0xF002 + 0x10000 * (i % 64))
  | .memBconf _ => 0x0
  | .memLrcol _ => 0x0
  | .memTarn => 0x32
  | .memIstat => 0x0
  | .memCecnt => 0x0
  | .memUecnt => 0x0
  | .memUelast => 0x0
  | .memLogv => 0x0
  | .memLogovf => 0x0
  | .memStest0 => 0x0
  | .memStest1 => 0x0
  | .memSpstat => 0x0
  | .memClrw => 0x0
  | .memLb _ => 0xa1000
  | .memRetire _ => 0x0
  | .memMigctl => 0x0
  | .memMigstat => 0x0
  | .memBgtctl => 0x1
  | .memBgtint => 206800
  | .memBgtstat => 0x0
  | .memBgtfail => 0x0
  | .cdCtrl _ => 0x0
  | .cdCfg _ => 0x0
  | .cdPbase _ => 0x0
  | .cdPlen _ => 0x0
  | .cdLaddr _ => 0x0
  | .cdXlen _ => 0x8
  | .cdStat _ => 0x0
  | .cdEvt _ => 0x0
  | .cdPos _ _ => 0x0
  | .wellStat => 0x0
  | .wellCausea => 0x0
  | .wellCauseb => 0x0
  | .wellRbi => 0x0
  | .wellFloor => 0x0
  | .wellFlash => 0x0
  | .wellBoott => 0x0
  | .wellCfg => 0x0
  | .wellKeystat => 0x0
  | .wellTamp => 0x2
  | .outCtrl => 0x2
  | .outStat => 0x0
  | .outRbase => 0x0
  | .outRlen => 0x0
  | .outWrptr => 0x0
  | .outRdptr => 0x0
  | .outRes => 0x400010
  | .outStorm => 0xa040008
  | .outCnt => 0x0
  | .outRaise => 0x0
  | .outXcnt => 0x0
  | .outTsel _ => 0x0
  | .edgeM0 _ => 0x0
  | .streamM0 _ => 0x200002
  | .streamM1 _ => 0x0
  | .streamM2 _ => 0x0
  | .streamM3 _ => 0x0
  | .captureM0 _ => 0x3
  | .captureM1 _ => 0x0
  | .captureM2 _ => 0x0
  | .decimateM0 _ => 0x200000
  | .decimateM1 _ => 0x0
  | .mirrorM0 _ => 0x0
  | .timerM0 _ => 0x0
  | .quadM0 _ => 0x0
  | .quadM1 _ => 0x0

/-- The rights class of a register (spec/17 R457). Every weir register but WEIR_STAGE lies in the
dangerous set, by the table of R457 (DEDUCED, assumption log 103). -/
def Reg.cls : Reg → RegClass
  | .topIstat => .dangerous
  | .topHroute _ => .dangerous
  | .topHviol => .dangerous
  | .topHvlast => .dangerous
  | .topHvaddr => .dangerous
  | .engCtrl _ => .dangerous
  | .engFarbase _ => .dangerous
  | .engSmapA _ _ => .dangerous
  | .engSmapB _ _ => .dangerous
  | .engBp _ _ => .dangerous
  | .engDbgctl _ => .dangerous
  | .engDbgstat _ => .dangerous
  | .engDbghit _ => .dangerous
  | .engTpc _ _ => .dangerous
  | .engTfetch _ _ => .dangerous
  | .engTcseg _ _ => .dangerous
  | .engTpark _ _ => .dangerous
  | .engUop _ _ _ => .secureOnly
  | .engCusthdr _ _ => .secureOnly
  | .engDctl _ => .dangerous
  | .engCont _ => .dangerous
  | .engMirror _ => .dangerous
  | .engCkmask _ => .dangerous
  | .engFdecl => .dangerous
  | .engRoll => .dangerous
  | .engPwr => .dangerous
  | .engRst => .dangerous
  | .weirCfg _ => .dangerous
  | .weirInit _ => .dangerous
  | .weirStat _ => .dangerous
  | .weirCnt _ => .dangerous
  | .weirLimd _ => .dangerous
  | .weirLims _ => .dangerous
  | .weirLimp _ => .dangerous
  | .weirLimt _ => .dangerous
  | .weirWin _ => .dangerous
  | .weirLast _ => .dangerous
  | .weirHist _ => .dangerous
  | .weirCgctl _ => .dangerous
  | .weirCgper _ => .dangerous
  | .weirCgph _ => .dangerous
  | .weirCgld _ => .dangerous
  | .weirCgstat _ => .dangerous
  | .weirCgpnum _ => .dangerous
  | .cntGo => .dangerous
  | .cntFabfn _ => .dangerous
  | .fabSpmap _ => .dangerous
  | .lckGrights _ => .dangerous
  | .lckFrel => .dangerous
  | .lckHmrel => .dangerous
  | .memClrw => .secureOnly
  | .memRetire _ => .dangerous
  | .memMigctl => .dangerous
  | .memBgtctl => .dangerous
  | .memBgtint => .dangerous
  | .wellStat => .dangerous
  | .wellCausea => .dangerous
  | .wellCauseb => .dangerous
  | .wellRbi => .dangerous
  | .wellFloor => .dangerous
  | .wellFlash => .dangerous
  | .wellBoott => .dangerous
  | .wellCfg => .dangerous
  | .wellKeystat => .secureOnly
  | .wellTamp => .secureOnly
  | .outRaise => .dangerous
  | _ => .normal

/-- Entry `i` of an array of `n` registers at `base`, `stride` bytes apart, that address `a` names. -/
def arrayAt (base stride n a : Nat) : Option Nat :=
  if base ≤ a ∧ (a - base) % stride = 0 ∧ (a - base) / stride < n then some ((a - base) / stride) else none

/-- Indices of a two-level array. -/
def arrayAt2 (base stride n stride2 n2 a : Nat) : Option (Nat × Nat) :=
  if base ≤ a ∧ (a - base) / stride < n ∧ (a - base) % stride % stride2 = 0
      ∧ (a - base) % stride / stride2 < n2 then
    some ((a - base) / stride, (a - base) % stride / stride2) else none

/-- Indices of a three-level array. -/
def arrayAt3 (base stride n stride2 n2 stride3 n3 a : Nat) : Option (Nat × Nat × Nat) :=
  if base ≤ a ∧ (a - base) / stride < n ∧ (a - base) % stride / stride2 < n2
      ∧ (a - base) % stride % stride2 % stride3 = 0 ∧ (a - base) % stride % stride2 / stride3 < n3 then
    some ((a - base) / stride, (a - base) % stride / stride2, (a - base) % stride % stride2 / stride3)
  else none

/-- The first register of a list of candidates. -/
def firstSome : List (Option Reg) → Option Reg
  | [] => none
  | some r :: _ => some r
  | none :: l => firstSome l


/-- The registers of the TOP window (spec/17 R454). -/
def regTop (a : Nat) : Option Reg :=
  firstSome [
    if a = 0x700000 then some .topVersion else none,
    (arrayAt 0x700010 0x4 8 a).map .topFeat,
    if a = 0x700040 then some .topCopyseq else none,
    if a = 0x700080 then some .mbxSel else none,
    if a = 0x700084 then some .mbxStat else none,
    (arrayAt 0x700090 0x4 4 a).map .mbxData,
    if a = 0x7000c0 then some .topTdoor else none,
    if a = 0x7000c4 then some .topHdoor else none,
    if a = 0x7000c8 then some .topHdoorset else none,
    if a = 0x700100 then some .topIraw else none,
    if a = 0x700104 then some .topIstat else none,
    (arrayAt 0x700140 0x4 16 a).map .topHroute,
    if a = 0x700200 then some .topHviol else none,
    if a = 0x700204 then some .topHvlast else none,
    if a = 0x700208 then some .topHvaddr else none]

/-- The registers of the ENG window (spec/17 R454). -/
def regEng (a : Nat) : Option Reg :=
  firstSome [
    (arrayAt 0x710000 0x1000 9 a).map .engCtrl,
    (arrayAt 0x710004 0x1000 9 a).map .engStat,
    (arrayAt 0x710008 0x1000 9 a).map .engFarbase,
    (arrayAt 0x71000c 0x1000 9 a).map .engParkcnt,
    (arrayAt 0x710010 0x1000 9 a).map .engIssuecnt,
    (arrayAt 0x710014 0x1000 9 a).map .engPaircnt,
    (arrayAt 0x710018 0x1000 9 a).map .engStallcnt,
    (arrayAt 0x71001c 0x1000 9 a).map .engIcmiss,
    (arrayAt 0x710020 0x1000 9 a).map .engRotcnt,
    (arrayAt2 0x710100 0x1000 9 0x4 16 a).map fun x => .engSmapA x.1 x.2,
    (arrayAt2 0x710140 0x1000 9 0x4 16 a).map fun x => .engSmapB x.1 x.2,
    (arrayAt2 0x710180 0x1000 9 0x4 8 a).map fun x => .engBp x.1 x.2,
    (arrayAt 0x7101a0 0x1000 9 a).map .engDbgctl,
    (arrayAt 0x7101a4 0x1000 9 a).map .engDbgstat,
    (arrayAt 0x7101a8 0x1000 9 a).map .engDbghit,
    (arrayAt2 0x710200 0x1000 9 0x10 32 a).map fun x => .engTpc x.1 x.2,
    (arrayAt2 0x710204 0x1000 9 0x10 32 a).map fun x => .engTfetch x.1 x.2,
    (arrayAt2 0x710208 0x1000 9 0x10 32 a).map fun x => .engTcseg x.1 x.2,
    (arrayAt2 0x71020c 0x1000 9 0x10 32 a).map fun x => .engTpark x.1 x.2,
    (arrayAt3 0x710400 0x1000 9 0x40 32 0x8 8 a).map fun x => .engTsegb x.1 x.2.1 x.2.2,
    (arrayAt3 0x710404 0x1000 9 0x40 32 0x8 8 a).map fun x => .engTsegl x.1 x.2.1 x.2.2,
    (arrayAt3 0x710c00 0x1000 9 0x20 16 0x4 8 a).map fun x => .engUop x.1 x.2.1 x.2.2,
    (arrayAt2 0x710e00 0x1000 9 0x4 16 a).map fun x => .engCusthdr x.1 x.2,
    (arrayAt2 0x710e40 0x1000 9 0x4 16 a).map fun x => .engTastat x.1 x.2,
    (arrayAt2 0x710e80 0x1000 9 0x4 32 a).map fun x => .engTstate x.1 x.2,
    (arrayAt2 0x710f00 0x1000 9 0x4 32 a).map fun x => .engTevt x.1 x.2,
    (arrayAt2 0x710f80 0x1000 9 0x4 32 a).map fun x => .engTurg x.1 x.2,
    (arrayAt 0x719000 0x20 8 a).map .engDctl,
    (arrayAt 0x719004 0x20 8 a).map .engDstat,
    (arrayAt 0x719008 0x20 8 a).map .engDfault,
    (arrayAt 0x71900c 0x20 8 a).map .engDftime,
    (arrayAt 0x719010 0x20 8 a).map .engDcnt,
    (arrayAt 0x719200 0x10 8 a).map .engCont,
    (arrayAt 0x719204 0x10 8 a).map .engMirror,
    (arrayAt 0x719208 0x10 8 a).map .engCkmask,
    (arrayAt 0x71920c 0x10 8 a).map .engCkstat,
    if a = 0x719300 then some .engFstat else none,
    if a = 0x719304 then some .engFdecl else none,
    if a = 0x719308 then some .engFcnt else none,
    if a = 0x719310 then some .engRoll else none,
    if a = 0x719314 then some .engRollstat else none,
    if a = 0x719400 then some .engPwr else none,
    if a = 0x719404 then some .engPwrstat else none,
    if a = 0x719408 then some .engRst else none,
    if a = 0x71940c then some .engRstcause else none]

/-- The registers of the LANE window (spec/17 R454). -/
def regLane (a : Nat) : Option Reg :=
  firstSome [
    (arrayAt 0x720000 0x40 264 a).map .laneCtrl,
    (arrayAt 0x720004 0x40 264 a).map .laneStat,
    (arrayAt 0x720008 0x40 264 a).map .laneSafe,
    (arrayAt 0x72000c 0x40 264 a).map .laneIo,
    (arrayAt 0x720010 0x40 264 a).map .laneM0,
    (arrayAt 0x720014 0x40 264 a).map .laneM1,
    (arrayAt 0x720018 0x40 264 a).map .laneM2,
    (arrayAt 0x72001c 0x40 264 a).map .laneM3,
    (arrayAt 0x720020 0x40 264 a).map .laneErr,
    (arrayAt 0x720024 0x40 264 a).map .laneCal,
    (arrayAt 0x724400 0x4 256 a).map .laneXbar,
    if a = 0x728000 then some .laneShctrl else none,
    if a = 0x728004 then some .laneShstat else none,
    if a = 0x728008 then some .laneTimelo else none,
    if a = 0x728010 then some .laneSync else none,
    if a = 0x728014 then some .laneNextlo else none,
    if a = 0x728018 then some .laneNexthi else none,
    if a = 0x72801c then some .lanePpscap else none,
    if a = 0x729000 then some .laneSchstat else none,
    if a = 0x729004 then some .laneSchrej else none,
    if a = 0x729008 then some .laneSchquota else none]

/-- The registers of the WEIR window (spec/17 R454). -/
def regWeir (a : Nat) : Option Reg :=
  firstSome [
    (arrayAt 0x730000 0x40 256 a).map .weirCfg,
    (arrayAt 0x730004 0x40 256 a).map .weirStage,
    (arrayAt 0x730008 0x40 256 a).map .weirInit,
    (arrayAt 0x73000c 0x40 256 a).map .weirStat,
    (arrayAt 0x730010 0x40 256 a).map .weirCnt,
    (arrayAt 0x730014 0x40 256 a).map .weirLimd,
    (arrayAt 0x730018 0x40 256 a).map .weirLims,
    (arrayAt 0x73001c 0x40 256 a).map .weirLimp,
    (arrayAt 0x730020 0x40 256 a).map .weirLimt,
    (arrayAt 0x730024 0x40 256 a).map .weirWin,
    (arrayAt 0x730028 0x40 256 a).map .weirLast,
    (arrayAt 0x73002c 0x40 256 a).map .weirHist,
    (arrayAt 0x734000 0x20 32 a).map .weirCgctl,
    (arrayAt 0x734004 0x20 32 a).map .weirCgper,
    (arrayAt 0x734008 0x20 32 a).map .weirCgph,
    (arrayAt 0x73400c 0x20 32 a).map .weirCgld,
    (arrayAt 0x734010 0x20 32 a).map .weirCgstat,
    (arrayAt 0x734014 0x20 32 a).map .weirCgpnum]

/-- The registers of the CNT window (spec/17 R454). -/
def regCnt (a : Nat) : Option Reg :=
  firstSome [
    (arrayAt 0x740000 0x20 64 a).map .cntCtrl,
    (arrayAt 0x740004 0x20 64 a).map .cntStat,
    (arrayAt 0x740008 0x20 64 a).map .cntCount,
    (arrayAt 0x74000c 0x20 64 a).map .cntTop,
    (arrayAt 0x740010 0x20 64 a).map .cntCmpa,
    (arrayAt 0x740014 0x20 64 a).map .cntCmpb,
    (arrayAt 0x740018 0x20 64 a).map .cntEvt,
    if a = 0x741000 then some .cntGo else none,
    if a = 0x741004 then some .cntSnap else none,
    (arrayAt 0x741040 0x4 16 a).map .cntFabfn,
    (arrayAt2 0x741100 0x10 16 0x4 4 a).map fun x => .cntSnapv x.1 x.2,
    (arrayAt 0x742000 0x40 16 a).map .posCtrl,
    (arrayAt 0x742004 0x40 16 a).map .posStat,
    (arrayAt 0x742008 0x40 16 a).map .posPos,
    (arrayAt 0x74200c 0x40 16 a).map .posIdxcap,
    (arrayAt 0x742010 0x40 16 a).map .posSpeed,
    (arrayAt 0x742014 0x40 16 a).map .posTmo,
    (arrayAt 0x742018 0x40 16 a).map .posCmpv,
    (arrayAt 0x74201c 0x40 16 a).map .posCmpc,
    (arrayAt 0x742020 0x40 16 a).map .posIdxval,
    (arrayAt 0x742024 0x40 16 a).map .posLastt]

/-- The registers of the INL window (spec/17 R454). -/
def regInl (a : Nat) : Option Reg :=
  firstSome [
    (arrayAt 0x750000 0x20 64 a).map .inlData,
    (arrayAt 0x750004 0x20 64 a).map .inlTime,
    (arrayAt 0x750008 0x20 64 a).map .inlRtime,
    (arrayAt 0x75000c 0x20 64 a).map .inlCtrl,
    (arrayAt 0x750010 0x20 64 a).map .inlStat,
    (arrayAt 0x750014 0x20 64 a).map .inlWin,
    (arrayAt 0x750018 0x20 64 a).map .inlCnt,
    (arrayAt 0x75041c 0x20 32 a).map fun i => .inlDec (32 + i)]

/-- The registers of the FAB window (spec/17 R454). -/
def regFab (a : Nat) : Option Reg :=
  firstSome [
    (arrayAt 0x760000 0x8 136 a).map .fabCh,
    (arrayAt 0x760004 0x8 136 a).map .fabCst,
    (arrayAt 0x760800 0x4 2 a).map .fabEvpol,
    (arrayAt 0x760808 0x4 2 a).map .fabEvin,
    if a = 0x760810 then some .fabFire else none,
    (arrayAt 0x760820 0x4 2 a).map .fabTrip,
    (arrayAt 0x760840 0x4 8 a).map .fabSpmap,
    (arrayAt 0x760860 0x4 8 a).map .fabSplat,
    if a = 0x760880 then some .fabSum else none]

/-- The registers of the LCK window (spec/17 R454). -/
def regLck (a : Nat) : Option Reg :=
  firstSome [
    (arrayAt 0x770000 0x4 256 a).map .lckReq,
    (arrayAt 0x770400 0x4 256 a).map .lckRel,
    (arrayAt 0x770800 0x4 256 a).map .lckStat,
    (arrayAt 0x770c00 0x4 8 a).map .lckGrights,
    if a = 0x770c20 then some .lckFrel else none,
    if a = 0x770c24 then some .lckHmrel else none,
    if a = 0x770c28 then some .lckStats else none]

/-- The registers of the MEM window (spec/17 R454). -/
def regMem (a : Nat) : Option Reg :=
  firstSome [
    (arrayAt 0x780000 0x10 32 a).map .memBctl,
    (arrayAt 0x780004 0x10 32 a).map .memBstat,
    (arrayAt 0x780008 0x10 32 a).map .memBconf,
    (arrayAt 0x780200 0x4 9 a).map .memLrcol,
    if a = 0x780240 then some .memTarn else none,
    if a = 0x780400 then some .memIstat else none,
    if a = 0x780404 then some .memCecnt else none,
    if a = 0x780408 then some .memUecnt else none,
    if a = 0x78040c then some .memUelast else none,
    if a = 0x780410 then some .memLogv else none,
    if a = 0x780414 then some .memLogovf else none,
    if a = 0x780418 then some .memStest0 else none,
    if a = 0x78041c then some .memStest1 else none,
    if a = 0x780420 then some .memSpstat else none,
    if a = 0x780424 then some .memClrw else none,
    (arrayAt 0x780480 0x4 54 a).map .memLb,
    (arrayAt 0x780600 0x4 256 a).map .memRetire,
    if a = 0x780a00 then some .memMigctl else none,
    if a = 0x780a04 then some .memMigstat else none,
    if a = 0x780a10 then some .memBgtctl else none,
    if a = 0x780a14 then some .memBgtint else none,
    if a = 0x780a18 then some .memBgtstat else none,
    if a = 0x780a1c then some .memBgtfail else none,
    (arrayAt 0x781000 0x80 32 a).map .cdCtrl,
    (arrayAt 0x781004 0x80 32 a).map .cdCfg,
    (arrayAt 0x781008 0x80 32 a).map .cdPbase,
    (arrayAt 0x78100c 0x80 32 a).map .cdPlen,
    (arrayAt 0x781010 0x80 32 a).map .cdLaddr,
    (arrayAt 0x781014 0x80 32 a).map .cdXlen,
    (arrayAt 0x781018 0x80 32 a).map .cdStat,
    (arrayAt 0x78101c 0x80 32 a).map .cdEvt,
    (arrayAt2 0x781040 0x80 32 0x4 16 a).map fun x => .cdPos x.1 x.2]

/-- The registers of the WELL window (spec/17 R454). -/
def regWell (a : Nat) : Option Reg :=
  firstSome [
    if a = 0x790000 then some .wellStat else none,
    if a = 0x790004 then some .wellCausea else none,
    if a = 0x790008 then some .wellCauseb else none,
    if a = 0x79000c then some .wellRbi else none,
    if a = 0x790010 then some .wellFloor else none,
    if a = 0x790014 then some .wellFlash else none,
    if a = 0x790018 then some .wellBoott else none,
    if a = 0x79001c then some .wellCfg else none,
    if a = 0x790020 then some .wellKeystat else none,
    if a = 0x790024 then some .wellTamp else none]

/-- The registers of the OUT window (spec/17 R454). -/
def regOut (a : Nat) : Option Reg :=
  firstSome [
    if a = 0x7a0000 then some .outCtrl else none,
    if a = 0x7a0004 then some .outStat else none,
    if a = 0x7a0008 then some .outRbase else none,
    if a = 0x7a000c then some .outRlen else none,
    if a = 0x7a0010 then some .outWrptr else none,
    if a = 0x7a0014 then some .outRdptr else none,
    if a = 0x7a0018 then some .outRes else none,
    if a = 0x7a001c then some .outStorm else none,
    if a = 0x7a0020 then some .outCnt else none,
    if a = 0x7a0024 then some .outRaise else none,
    if a = 0x7a0028 then some .outXcnt else none,
    (arrayAt 0x7a0040 0x4 8 a).map .outTsel]

/-- The register at a block address, if a chapter assigns one (spec/17 R454, R455). -/
def regAt (a : Nat) : Option Reg :=
  match a / 0x10000 with
  | 0x70 => regTop a
  | 0x71 => regEng a
  | 0x72 => regLane a
  | 0x73 => regWeir a
  | 0x74 => regCnt a
  | 0x75 => regInl a
  | 0x76 => regFab a
  | 0x77 => regLck a
  | 0x78 => regMem a
  | 0x79 => regWell a
  | 0x7a => regOut a
  | _ => none

end Sys2Proof.Machine
end

