-- ==== Sys2Proof/Machine/SMap.lean ====
section
/-! DEFINITION. Sparse data by key: a list of key and value pairs in one canonical form. What an
unlisted key reads as is given by the reader. -/

namespace Sys2Proof.Machine

/-- A sparse map. In the canonical form the keys rise strictly and no entry holds the default. -/
abbrev SMap (V : Type) := List (Nat × V)

/-- The value at key `k`; `d` where nothing is listed. -/
def SMap.get {V : Type} : SMap V → Nat → V → V
  | [], _, d => d
  | (k', v) :: m, k, d => if k' = k then v else SMap.get m k d

/-- All entries of `m` but those at key `k`. -/
def SMap.erase {V : Type} : SMap V → Nat → SMap V
  | [], _ => []
  | (k', v) :: m, k => if k' = k then SMap.erase m k else (k', v) :: SMap.erase m k

/-- An entry put before the first greater key. -/
def SMap.insert {V : Type} : SMap V → Nat → V → SMap V
  | [], k, v => [(k, v)]
  | (k', v') :: m, k, v =>
    if k < k' then (k, v) :: (k', v') :: m else (k', v') :: SMap.insert m k v

/-- `m` with `v` at key `k`; writing the default `d` removes the entry. -/
def SMap.put {V : Type} [DecidableEq V] (m : SMap V) (k : Nat) (v d : V) : SMap V :=
  if v = d then m.erase k else (m.erase k).insert k v

/-- The keys rise strictly. -/
def SMap.rising {V : Type} : SMap V → Bool
  | [] => true
  | (k, _) :: m =>
    match m with
    | [] => true
    | (k', _) :: _ => decide (k < k') && SMap.rising m

/-- The canonical form over a default that is the same for every key. -/
def SMap.wf {V : Type} [DecidableEq V] (m : SMap V) (d : V) : Bool :=
  m.rising && m.all (fun c => decide (c.2 ≠ d))

end Sys2Proof.Machine
end

