-- ==== Sys2Proof/Machine/State.lean ====
section
/-! DEFINITION. The state of the block: every register of its maps, its memories with their check
bits, and what the chapters give each unit beside its registers. All of it is plain data. -/

namespace Sys2Proof.Machine

/-- Why the machine stops. -/
inductive Fault where
  /-- Raised by every command but POWER_ON_RESET and the TAP's own instructions while the block is in
  scan mode, memory BIST or logic BIST (spec/18 R492: "functional state is undefined"). Safe: the
  manual gives no behaviour until power-on reset. -/
  | functionalStateUndefined
deriving DecidableEq, Repr

/-- Why a command has no meaning. -/
inductive Refusal where
  /-- Raised by an arm of `exec` whose command has no meaning yet. Safe. -/
  | notModelled (mnemonic : String)
deriving DecidableEq, Repr

/-- The six thread states (spec/05 R124). -/
inductive TState where
  | parked | ready | waiting | diverted | faulted | quiesced
deriving DecidableEq, Repr

/-- The state code of ENG_TSTATE.STATE. -/
def TState.code : TState → Nat
  | .parked => 0 | .ready => 1 | .waiting => 2 | .diverted => 3 | .faulted => 4 | .quiesced => 5

/-- A load issued by a thread whose destination is not yet written (spec/02 R45, R46): the registers
that still take it, their values, and whether the instruction directly after the load is still to come. -/
structure Load where
  dests    : List (Nat × Word)
  poison   : Bool
  fresh    : Bool
  complete : Bool
deriving DecidableEq, Repr

/-- The registers of the long-op unit (spec/03 R66). -/
inductive LongReg where
  | mr | acc0 | acc1 | ir
deriving DecidableEq, Repr

/-- A long operation in flight: its result register, its value (an accumulator uses all 40 bits), the
ASTAT bits it will set, and whether later MACs may chain to it (spec/02 R44, spec/03 R82, R83). -/
structure LongOp where
  reg    : LongReg
  val    : BitVec 40
  sticky : Word
  mac    : Bool
deriving DecidableEq, Repr

/-- A REP or REPI sequence (spec/03 R87, R90): the target's address, the count that remains, and whether a
repetition has issued. -/
structure Rep where
  urgent  : Bool
  target  : Word
  count   : Nat
  started : Bool
deriving DecidableEq, Repr

/-- A custom instruction in progress (spec/04 R118): its entry, its operand registers and the next
micro-op. The thread's pc stays at its first word. -/
structure Cust where
  n  : Nat
  a  : Nat
  b  : Nat
  c  : Nat
  k  : Nat
deriving DecidableEq, Repr

/-- What an issued FENCE, UNLOCK or SLOTSWAP still has to do once `left` store-buffer entries have
drained (spec/02 R51). -/
inductive DrainThen where
  | fence
  | unlock (rd k : Nat)
  | swap
deriving DecidableEq, Repr

/-- A drain in progress. -/
structure Drain where
  left : Nat
  act  : DrainThen
deriving DecidableEq, Repr

/-- The pairing classes (spec/02 "Issue and pairing"). -/
inductive PairClass where
  | a | m | b | s | x
deriving DecidableEq, Repr

/-- The first instruction of a thread's present issue, kept for the pairing test (spec/02 R32, R33): its class,
the line that holds it, the registers it writes, whether it is a load or a long-op, and the address after it. -/
structure PairPrev where
  cls    : PairClass
  line   : Nat
  writes : List Nat
  load   : Bool
  long   : Bool
  next   : Word
deriving DecidableEq, Repr

/-- The architectural registers of a thread (spec/03 R66): sparse, unlisted registers hold zero,
unpoisoned. Keys 1 to 15 are w1 to w15. -/
structure Regs where
  w      : SMap Word
  wp     : SMap Bool
  acc0   : BitVec 40
  acc1   : BitVec 40
  acc0p  : Bool
  acc1p  : Bool
  mr     : BitVec 32
  mrp    : Bool
  ir     : BitVec 32
  irp    : Bool
  link   : Word
  astat  : Word
deriving DecidableEq, Repr

def Regs.zero : Regs :=
  { w := [], wp := [], acc0 := 0, acc1 := 0, acc0p := false, acc1p := false, mr := 0, mrp := false,
    ir := 0, irp := false, link := 0, astat := 0 }

/-- A continuity record of a thread (spec/03 R95, spec/14 R370): its registers, the pc of the next
instruction, the thread state with the WAIT mask, URET, the repeat state and EVT; and what must still happen
before it is usable: the thread's earlier stores that have not drained, and its long operations in flight; and
which of the thread's two records in the continuity area it is. DESIGN CHOICE, assumption log 62. -/
structure CkRecord where
  regs     : Regs
  pc       : Word
  st       : TState
  prior    : TState
  inhdl    : Bool
  waitMask : Word
  waitDst  : Nat
  uret     : Word
  rep      : Option Rep
  savedRep : Option Rep
  evt      : Word
  stores   : Nat
  muls     : Nat
  iters    : Nat
  usable   : Bool
  slot     : Nat
deriving DecidableEq, Repr

/-- A line of an instruction cache or of a thread's line buffer: its line address, its Pool word (spec/02 R37, R38) and the
syndrome its check bits show (spec/12 R318, R319). -/
structure CacheLine where
  line : Nat
  data : BitVec 64
  syn  : BitVec 16
deriving DecidableEq, Repr

/-- A thread: its registers, its state and what the engine holds for it (spec/02, spec/05). `midPair` is set
between the two instructions of a pair; `flipped` lists the general registers whose parity is wrong (spec/05 R142);
`haltReq` and `stepping` are a debug HALT and a STEP not yet done;
`miss` is an outstanding far fetch, `bite` a poisoned store that has drained to control space. -/
structure Thread where
  regs     : Regs
  pc       : Word
  st       : TState
  inhdl    : Bool
  fcause   : Nat
  priv     : Nat
  prio     : Nat
  viol     : Nat
  evt      : Word
  urgmask  : Word
  uret     : Word
  uvec     : Word
  parkCause : Nat
  parkPc   : Word
  waitMask : Word
  waitDst  : Nat
  prior    : TState
  byStop   : Bool
  rep      : Option Rep
  savedRep : Option Rep
  cust     : Option Cust
  loads    : List Load
  mul      : List LongOp
  iter     : Option LongOp
  drain    : Option Drain
  halted   : Bool
  haltReq  : Bool
  stepping : Bool
  bpSkip   : Bool
  miss     : Option Nat
  missStale : Bool
  lineBuf  : Option CacheLine
  pair     : Option PairPrev
  midPair  : Bool
  bite     : Bool
  flipped  : List Nat
  cmdQueue : List Nat
  ck       : List CkRecord
  rollback : Bool
  rolled   : Bool
deriving DecidableEq, Repr

/-- A thread after a power-on reset (spec/05 R125, R144); thread 0 of an engine is a supervisor.
DEDUCED, assumption log 52. -/
def Thread.init (t : Nat) : Thread :=
  { regs := .zero, pc := 0, st := .parked, inhdl := false, fcause := 0, priv := if t = 0 then 1 else 0,
    prio := 0, viol := 0, evt := 0, urgmask := 0, uret := 0, uvec := 0, parkCause := 7, parkPc := 0,
    waitMask := 0, waitDst := 0, prior := .ready, byStop := false, rep := none, savedRep := none,
    cust := none, loads := [], mul := [], iter := none, drain := none, halted := false,
    haltReq := false, stepping := false, bpSkip := false,
    miss := none, missStale := false, lineBuf := none, pair := none, midPair := false,
    bite := false, flipped := [], cmdQueue := [], ck := [],
    rollback := false, rolled := false }

/-- An entry of an engine's store buffer (spec/02 R48): the thread, one aligned 4-byte unit, a mask,
data bytes and a poison bit. -/
structure StoreEntry where
  thr    : Nat
  unit   : Nat
  mask   : BitVec 4
  data   : BitVec 32
  poison : Bool
deriving DecidableEq, Repr

/-- A write of a local RAM word through one of the two ports (spec/11 R281, R282): the port, the word, the elapsed tick
and the bytes. -/
structure LramWrite where
  service : Bool
  word    : Nat
  tick    : Nat
  mask    : BitVec 8
deriving DecidableEq, Repr

/-- What an engine holds beside its registers and its threads (spec/02). Each set of the cache lists
its lines, most recently used first. `slot` is the slot of the rotation that comes next, 64 behind the last (R24);
`lramLast` is the last write of local RAM and `lramTies` how often two writes may have met in one RAM cycle (spec/11
R282; the model's own, assumption log 119). `slotAt` is the elapsed tick of the last slot used, and `stall` the tick since
which the engine has been ON with a thread to issue at every tick start (spec/14 R356). -/
structure Engine where
  sb       : List StoreEntry
  icache   : SMap (List CacheLine)
  slot     : Nat
  boosted  : List (Nat × Nat)
  boostPtr : Nat
  lramLast : Option LramWrite
  lramTies : Nat
  slotAt   : Nat
  stall    : Option Nat
  iterWait : List Nat
  iterPtr  : Nat
deriving DecidableEq, Repr

/-- DESIGN CHOICE, assumption log 101. -/
def Engine.init : Engine :=
  { sb := [], icache := [], slot := 0, boosted := [], boostPtr := 0, lramLast := none, lramTies := 0,
    slotAt := 0, stall := none, iterWait := [], iterPtr := 0 }

/-- An entry of the alarm queue (spec/19 R496). -/
structure Alarm where
  code   : Nat
  count  : Nat
  detail : BitVec 32
  time   : Time
deriving DecidableEq, Repr

/-- A record of the log FIFO or of the trace FIFO: its two ring words (spec/19 R494). -/
structure Record where
  word0 : BitVec 64
  word1 : BitVec 64
deriving DecidableEq, Repr

/-- What the outlet holds beside its registers (spec/19): the alarm queue, the two FIFOs, the pending
GAP, the counts of OUTCNT, the alarms of the present storm window and the elapsed tick, plus 1, in which a window last
ended, and the export lane whose turn is next. -/
structure Outlet where
  alarms   : List Alarm
  logs     : List Record
  traces   : List Record
  gap      : Nat
  gapTime  : Time
  written  : Nat
  logLost  : Nat
  trcLost  : Nat
  almTotal : Nat
  window   : Nat
  windowAt : Nat
  turn     : Nat
deriving DecidableEq, Repr

/-- DESIGN CHOICE, assumption log 101. -/
def Outlet.init : Outlet :=
  { alarms := [], logs := [], traces := [], gap := 0, gapTime := 0, written := 0, logLost := 0,
    trcLost := 0, almTotal := 0, window := 0, windowAt := 0, turn := 0 }

/-- An entry of the correction log (spec/12 R325), with the elapsed tick of its last error and the syndromes of the errors
of that tick, newest first, for a free of the same tick (R327). -/
structure LogEntry where
  bank  : Nat
  word  : Nat
  sr    : BitVec 8
  sc    : BitVec 8
  multi : Bool
  count : Nat
  first : Time
  last  : Time
  tick  : Nat
  now   : List (BitVec 8 × BitVec 8)
deriving DecidableEq, Repr

/-- What the integrity units hold beside their registers (spec/12): the correction log, the entry of
MEM_RETIRE being copied, the background test's buffered region, whether it is to be tested again and the elapsed tick of the
last start (R336). By number, with 1 added: the elapsed tick in which a bucket last dropped (R324), a slot was last handed
over (spec/11 R291), and a removal was last accepted by an entry of MEM_RETIRE (R328). -/
structure Integrity where
  log      : SMap (Option LogEntry)
  copying  : Option Nat
  bgtSaved : Option (Nat × Nat)
  bgtAgain : Bool
  bgtAt    : Nat
  leaks    : SMap Nat
  handed   : SMap Nat
  removed  : SMap Nat
deriving DecidableEq, Repr

def Integrity.init : Integrity :=
  { log := [], copying := none, bgtSaved := none, bgtAgain := false, bgtAt := 0, leaks := [], handed := [], removed := [] }

/-- The flash signals as presented to the pad cells (spec/16 R445): output values with their enables. -/
structure Nvm where
  sckO  : Bool
  sckOe : Bool
  csO   : BitVec 2
  csOe  : Bool
  dqO   : BitVec 8
  dqOe  : Bool
deriving DecidableEq, Repr

/-- The bus undriven, with the levels of spec/15 R400 behind the enables. DESIGN CHOICE, assumption log 126. -/
def Nvm.off : Nvm := { sckO := false, sckOe := false, csO := 3, csOe := false, dqO := 0, dqOe := false }

/-- The bus between two commands of boot steps 3 to 7 (spec/16 R445, R446). DESIGN CHOICE, assumption log 126. -/
def Nvm.idle : Nvm := { sckO := false, sckOe := true, csO := 3, csOe := true, dqO := 0x0C, dqOe := true }

/-- The ports the model holds: the retention and power handshakes (spec/16 R450, R451), the event inputs and
outputs, the lanes' input and safe levels (R438, R439, R442), and the flash bus. -/
structure Ports where
  retReq : BitVec 35
  retAck : BitVec 35
  pwrReq : Bool
  pwrTgt : Nat
  pwrAck : Bool
  evin   : BitVec 64
  evout  : BitVec 16
  laneIn : BitVec 256
  laneSafe : BitVec 256
  nvm    : Nvm
deriving DecidableEq, Repr

/-- DESIGN CHOICE, assumption log 27 and 85. -/
def Ports.init : Ports :=
  { retReq := 0, retAck := 0, pwrReq := false, pwrTgt := 0, pwrAck := false, evin := 0, evout := 0,
    laneIn := 0, laneSafe := 0, nvm := .off }

/-- A hardware lock (spec/13): its holder's index, the queued requesters, ABANDONED, the rotating pointer,
and whether the holder has been told its grant code. -/
structure Lock where
  holder    : Option Nat
  queue     : List Nat
  abandoned : Bool
  ptr       : Nat
  told      : Bool
deriving DecidableEq, Repr

/-- DESIGN CHOICE, assumption log 101. -/
def Lock.init : Lock := { holder := none, queue := [], abandoned := false, ptr := 0, told := true }

/-- What the power controller of the block holds beside ENG_PWR and ENG_PWRSTAT (spec/18 R479 to R482):
the request to make once the present handshake has ended; the step that SLEEP entry has reached (0 none, 1 before the
quiescing, 2 quiescing, 3 retention, 4 the handshake, 5 acknowledged); whether a wake is in progress; and the elapsed tick
since which every engine has been at rest at every tick start. -/
structure Power where
  next   : Option Nat
  stage  : Nat
  waking : Bool
  restAt : Option Nat
deriving DecidableEq, Repr

def Power.init : Power := { next := none, stage := 0, waking := false, restAt := none }

/-- The producers that the taps of the fabric are wired to (spec/10 R256). -/
inductive Producer where
  | evin (j : Nat)
  | inw (n : Nat)
  | cma (n : Nat)
  | cmb (n : Nat)
  | pos (u : Nat)
  | echo (c : Nat)
deriving DecidableEq, Repr

/-- What a fabric channel holds beside FAB_CH and FAB_CST (spec/10): its combined level as last seen, refractory time
and an edge that arrived in it, the elapsed step in which it last passed an event, the count of a loop window with the
window's number, WPEND, the ticks in which the counter bank sampled events that it has not yet acted on, the tick in
which an evout pulse ends, and of a spare the tick in which its stand-in was accepted. -/
structure Channel where
  high     : Bool
  refr     : Bool
  edge     : Bool
  passAt   : Option Nat
  window   : Nat
  winNo    : Nat
  wpend    : Bool
  fnHeld   : List Nat
  pulseEnd : Nat
  standAt  : Nat
deriving DecidableEq, Repr

/-- DESIGN CHOICE, assumption log 101. -/
def Channel.init : Channel :=
  { high := false, refr := false, edge := false, passAt := none, window := 0, winNo := 0, wpend := false,
    fnHeld := [], pulseEnd := 0, standAt := 0 }

/-- An entry of the edge schedule (spec/06 R177): its place in the table, its shore time, action, tag and
argument; the instant of its effect as an elapsed step, and the elapsed tick of its insertion. The lane core's
number follows from the crossbar (R185). -/
structure Entry where
  idx  : Nat
  time : Time
  due  : Nat
  act  : Nat
  tag  : Nat
  arg  : Nat
  ins  : Nat
  syn  : BitVec 16
deriving DecidableEq, Repr

/-- The period a lane repeats in FAULT-HOLD (spec/14 R363): its start, its length in steps, the level and
enable at its start, and its entries as (offset, action, argument). -/
structure Held where
  start : Nat
  len   : Nat
  lvl   : Bool
  oe    : Bool
  ents  : List (Nat × Nat × Nat)
deriving DecidableEq, Repr

/-- What a pin lane holds beside its registers (spec/06, spec/07). Instants are elapsed steps, ticks elapsed
ticks.

* `lvl`, `oe`: the level and enable its mode requests; `next`: the level a TIMER action sets at the next tick start.
* `passed` to `grant`: the pin-level limits: the level passed on and since when, a cut of MAXON, and whether dead
  time and overlap have let the lane turn on. `offAt`: when the lane went off.
* `pinOut`, `pinOe`: the pin as last driven; `edgeAt`: the instant of its last edge at the port, SKEW included.
* `queue`, `core`: its schedule queue and its core's entries with the tick of their arrival; `ranTick`,
  `ranCount`: how many entries the core executed in which tick.
* `since`: the first tick of the present STARTING or STOPPING; `onAt`: the tick in which the lane reached ON.
* `filt`, `accAt`, `cand`: the level its input filter has accepted, the instant and time of its last accepted edge, and
  those of a change not yet accepted;
  `inTick`: the tick, plus 1, of its last input edge.
* `echo`: edges a MIRROR lane has accepted that have not yet reached its pin; `bypass`: untimed operation;
  `hold`: the instant at which the hold of a switch ends.
* `capture`: the CAPTURE FIFO; `fifo`, `txWord`, `txStart`, `started`: the STREAM FIFO, the word in progress
  and its first bit's start.
* `clkAt`: the tick of the last modulator clock edge; `clkLost`: CLKLOSS was found and no edge has come since.
* `compares`: loopback compares in progress, with the tick of their change; `held`: the held period. -/
structure Lane where
  lvl      : Bool
  oe       : Bool
  next     : Option Bool
  passed   : Bool
  passedAt : Nat
  cut      : Bool
  grant    : Bool
  pinOut   : Bool
  pinOe    : Bool
  edgeAt   : Nat
  offAt    : Option Nat
  queue    : List Entry
  core     : List (Entry × Nat)
  ranTick  : Nat
  ranCount : Nat
  since    : Nat
  onAt     : Nat
  filt     : Bool
  accAt    : Nat × Time
  cand     : Option (Nat × Time)
  inTick   : Nat
  echo     : List (Nat × Bool)
  bypass   : Bool
  hold     : Nat
  capture  : List (Bool × BitVec 48)
  fifo     : List Word
  txWord   : Option Word
  txStart  : Nat
  started  : Bool
  clkAt    : Nat
  clkLost  : Bool
  compares : List (Bool × Nat)
  held     : Option Held
deriving DecidableEq, Repr

/-- DESIGN CHOICE, assumption log 101. -/
def Lane.init : Lane :=
  { lvl := false, oe := false, next := none, passed := false, passedAt := 0, cut := false, grant := false,
    pinOut := false, pinOe := false, edgeAt := 0, offAt := none, queue := [], core := [], ranTick := 0,
    ranCount := 0, since := 0, onAt := 0, filt := false, accAt := (0, 0), cand := none, inTick := 0, echo := [], bypass := false, hold := 0,
    capture := [], fifo := [], txWord := none, txStart := 0, started := false, clkAt := 0, clkLost := false,
    compares := [], held := none }

/-- A lane core (spec/06 R150, R151, R158): consecutive calibration failures and measured spans waiting for
their exchange per delay line, the lines in service (lines 0 and 1 are output lines, 2 and 3 input lines; `second`
names the pairs whose odd line serves), the lines calibrated so far, CALFAIL, and whether it serves a pin (a spare
taken into use) or is retired. -/
structure Core where
  fails   : SMap Nat
  spans   : SMap Nat
  second  : BitVec 2
  done    : BitVec 4
  calfail : Bool
  used    : Bool
  retired : Bool
deriving DecidableEq, Repr

def Core.init : Core := { fails := [], spans := [], second := 0, done := 0, calfail := false, used := false, retired := false }

/-- A spare swap in progress (spec/06 R159): the pin lane, the former core, the state the lane had, and the
elapsed tick in which the write was accepted. -/
structure Swap where
  lane : Nat
  old  : Nat
  st   : Nat
  tick : Nat
deriving DecidableEq, Repr

/-- A synchronisation load waiting for its tick (spec/06 R154): NEXT at the edge, the edge's step in its
tick and the elapsed tick of the edge. -/
structure SyncLoad where
  next : Time
  step : Nat
  tick : Nat
deriving DecidableEq, Repr

/-- What the shore holds beside its registers: the step of the present tick up to which the pins have followed, lane_in
as sampled at the start of the present tick and of the one before (spec/08 R215), the swap and the load in progress, the time of the last tsync_pps edge, and the dispatcher's pointer with how many
entries it moved in which elapsed tick (spec/06 R182). -/
structure Shore where
  step      : Nat
  sampled   : BitVec 256
  before    : BitVec 256
  swap      : Option Swap
  load      : Option SyncLoad
  pps       : Time
  dispPtr   : Nat
  dispTick  : Nat
  dispCount : Nat
deriving DecidableEq, Repr

/-- DESIGN CHOICE, assumption log 101. -/
def Shore.init : Shore :=
  { step := 0, sampled := 0, before := 0, swap := none, load := none, pps := 0, dispPtr := 0, dispTick := 0, dispCount := 0 }

/-- A period of a weir (spec/07 R195, R199): its start, the level and enable that end the period before it,
and its entries as (offset, action, argument). -/
structure Period where
  start : Nat
  lvl   : Bool
  oe    : Bool
  ents  : List (Nat × Nat × Nat)
deriving DecidableEq, Repr

/-- What a weir holds beside its registers (spec/07): the elapsed tick in which its stage was accepted, and its
periods since its lane reached ON, newest first, back to the last one that has started; starts are elapsed steps. -/
structure Weir where
  acc     : Nat
  periods : List Period
deriving DecidableEq, Repr

def Weir.init : Weir := { acc := 0, periods := [] }

/-- What a commit group holds beside its registers (spec/07 R189 to R191), in elapsed ticks: the tick in which its
domain reached ARMED, its deadlines since then, newest first, back to the last whose period has started, and the
deadline pending from an accepted strobe. -/
structure Group where
  armed     : Nat
  deadlines : List Nat
  strobe    : Option Nat
deriving DecidableEq, Repr

def Group.init : Group := { armed := 0, deadlines := [], strobe := none }

/-- What a domain holds beside its registers (spec/14), in elapsed ticks: the sub-state left at entry to COAST, the tick
of the decision to freeze with the sub-state before it, whether commit has stopped (C) and the lanes have switched (F) in a
freeze, the sub-state asked for at the next period start with the tick of its decision, and the tick of F. -/
structure Domain where
  saved    : Nat
  froze    : Option (Nat × Nat)
  stopped  : Bool
  switched : Bool
  next     : Option Nat
  asked    : Nat
  fTick    : Nat
deriving DecidableEq, Repr

def Domain.init : Domain := { saved := 0, froze := none, stopped := false, switched := false, next := none, asked := 0, fTick := 0 }

/-- A fault record (spec/14 R358): the four words of selector FREC. -/
structure FaultRec where
  code    : Nat
  role    : Nat
  engine  : Nat
  thread  : Nat
  lane    : Nat
  laneV   : Bool
  mask    : Nat
  outcome : Nat
  time    : Time
deriving DecidableEq, Repr

/-- A takeover in progress (spec/14 R372): the role, the failed engine, and the engine that has taken the role. -/
structure Takeover where
  role   : Nat
  failed : Nat
  engine : Option Nat
deriving DecidableEq, Repr

/-- What continuity holds beside its registers (spec/14): the ring of fault records, the takeover in progress,
the engines that wait for BIST, those that passed it and wait for the reserve role, the role a planned swap
moves, the elapsed tick in which the last rolling test started, and by role the elapsed tick, plus 1, of its last
checkpoints by the interval. -/
structure Continuity where
  faults   : SMap FaultRec
  takeover : Option Takeover
  bist     : List Nat
  waiting  : List Nat
  rollRole : Nat
  rollAt   : Nat
  ckTick   : SMap Nat
deriving DecidableEq, Repr

/-- DESIGN CHOICE, assumption log 101. -/
def Continuity.init : Continuity :=
  { faults := [], takeover := none, bist := [], waiting := [], rollRole := 0, rollAt := 0, ckTick := [] }

/-- What a counter holds beside its registers (spec/08), in elapsed ticks: the TOP in force (R219), the first tick of its
present STARTING or STOPPING, the tick in which STARTING ends where that is settled, the tick in which it reached ON,
that in which it last entered a value, and that of the last capture of its group (kept at the group's lowest
counter). -/
structure Counter where
  top    : Nat
  since  : Nat
  onDue  : Option Nat
  onAt   : Nat
  cntAt  : Option Nat
  snapAt : Option Nat
deriving DecidableEq, Repr

/-- DESIGN CHOICE, assumption log 101. -/
def Counter.init : Counter := { top := 0xFFFF, since := 0, onDue := none, onAt := 0, cntAt := none, snapAt := none }

/-- A change of A and B that a position unit has sampled and that counts in the present tick: the new levels, and the
instant and the time of the edge at the pin. -/
structure QuadStep where
  a    : Bool
  b    : Bool
  at_  : Nat
  time : Time
deriving DecidableEq, Repr

/-- What a position unit holds beside its registers (spec/08 R231 to R237): the reported position P since its A lane last
reached ON (before that, and after a write, POS_POS holds it), the raw count R, the levels of A, B and index as last
sampled, the change of A and B and the index edge that act in the present tick, the instants of the counted edges in the
present direction since the last reversal or standstill, newest first, and whether an index edge has acted since the
A lane reached ON. -/
structure PosUnit where
  pos   : Option (BitVec 32)
  raw   : BitVec 32
  a     : Bool
  b     : Bool
  z     : Bool
  step  : Option QuadStep
  index : Bool
  edges : List Nat
  indexed : Bool
deriving DecidableEq, Repr

/-- DESIGN CHOICE, assumption log 101. -/
def PosUnit.init : PosUnit :=
  { pos := none, raw := 0, a := false, b := false, z := false, step := none, index := false, edges := [], indexed := false }

/-- A sample taken by an inlet and not yet in its register (spec/09 R243): the data, the tag, the strobe's time
and the elapsed tick in which it enters. -/
structure Sample where
  data : BitVec 16
  tag  : Nat
  time : Time
  due  : Nat
deriving DecidableEq, Repr

/-- What an entry has replaced, for a clearing read of the same tick (spec/09 R244): the elapsed tick of the entry, the
words of INL_DATA and INL_TIME and the count OVRCNT before it, and the entry's trace record. -/
structure Entered where
  tick   : Nat
  data   : BitVec 32
  time   : BitVec 32
  ovrcnt : Nat
  traced : Record
deriving DecidableEq, Repr

/-- The sinc filter of a decimator (spec/09 R249). -/
structure Sinc where
  i1 : BitVec 32
  i2 : BitVec 32
  i3 : BitVec 32
  z1 : BitVec 32
  z2 : BitVec 32
  z3 : BitVec 32
  nb : Nat
  skip : Nat
deriving DecidableEq, Repr

/-- DESIGN CHOICE, assumption log 101. -/
def Sinc.init : Sinc := { i1 := 0, i2 := 0, i3 := 0, z1 := 0, z2 := 0, z3 := 0, nb := 0, skip := 2 }

/-- What an inlet holds beside its registers (spec/09): the first tick of its present STARTING or STOPPING, the samples on
their way to the register, the elapsed step of the last edge taken, the last entry, the decimator's filter, and whether the
filter is to be cleared before its next bit because the clock was lost (R250). -/
structure Inlet where
  since    : Nat
  waiting  : List Sample
  lastEdge : Option Nat
  entered  : Option Entered
  sinc     : Sinc
  owed     : Bool
deriving DecidableEq, Repr

def Inlet.init : Inlet := { since := 0, waiting := [], lastEdge := none, entered := none, sinc := .init, owed := false }

/-- What a conduit holds beside its registers (spec/11 R299, R300, R302): a COPY transfer in progress, that an
error of code 1, 2 or 5 has stopped it until it is disabled, and the rotating pointer over its lanes. -/
structure Conduit where
  busy : Bool
  dead : Bool
  ptr  : Nat
deriving DecidableEq, Repr

/-- DESIGN CHOICE, assumption log 101. -/
def Conduit.init : Conduit := { busy := false, dead := false, ptr := 0 }

/-- A command that the Wellhead sends on the flash bus (spec/15 R397 to R399), with its chip select: the software reset
(0x66, then 0x99) in a mode, a read of SFDP (0x5A) in a mode, the Quad Enable sequence of a method, the table's sequence into
8D-8D-8D, the 4-byte entry method, and the read of a slot from a start address. Modes are those of WELL_FLASH, 4 is
4S-4S-4S. -/
inductive FlashCmd where
  | reset (cs mode : Nat)
  | sfdp (cs mode : Nat)
  | quadEnable (cs method : Nat)
  | enterOctal (cs : Nat)
  | enter4 (cs : Nat)
  | read (cs mode start : Nat) (addr4 : Bool)
deriving DecidableEq, Repr

/-- What the Wellhead holds beside its registers (spec/15): the surroundings it met at the release, the commands it has sent to the flash, in order, whether the
reset was warm and lcs has been sampled, the records of the present slot applied so far, the SHORE records among
them and their ratio, whether an encrypted record was applied, the registers and the Pool words written by
records (for the scrub of R409), whether a record broke a whole-image rule that its registers do not show, and the
shore time at which step 8 completed (spec/17 R468). -/
structure Boot where
  env     : Option BootEnv
  flash   : List FlashCmd
  warm    : Bool
  sampled : Bool
  count   : Nat
  shores  : Nat
  muli    : Nat
  mulf    : Nat
  enc     : Bool
  regs    : List Nat
  pool    : List Nat
  broken  : Bool
  doneAt  : Time
deriving DecidableEq, Repr

def Boot.init : Boot :=
  { env := none, flash := [], warm := false, sampled := false, count := 0, shores := 0, muli := 0, mulf := 0, enc := false,
    regs := [], pool := [], broken := false, doneAt := 0 }

/-- The security state that no register shows (spec/15 R414 to R417, spec/11 R295): the level of lcs and its level as
last sampled in boot step 2, whether tamper or a life-cycle change has closed debug, the trigger of the wipe in
progress, and the words of the image key. -/
structure Security where
  lcs       : Nat
  sampled   : Nat
  debugShut : Bool
  wipe      : Nat
  key       : List (BitVec 32)
deriving DecidableEq, Repr

/-- DESIGN CHOICE, assumption log 27. -/
def Security.init : Security := { lcs := 0, sampled := 0, debugShut := false, wipe := 0, key := [] }

/-- The TAP (spec/18 R490, R491): its instruction register, the data it captures, and the data and DONE of the
last DBGACC access. DESIGN CHOICE, assumption log 95. -/
structure Tap where
  ir   : Nat
  dr   : BitVec 32
  data : BitVec 32
  done : Bool
deriving DecidableEq, Repr

def Tap.init : Tap := { ir := 1, dr := 0, data := 0, done := false }

/-- The test modes of the TAP (spec/18 R492). -/
inductive TestMode where
  | scan | mbist | lbist
deriving DecidableEq, Repr

/-- A register write as it reaches a unit (spec/17 R453, R458). -/
structure Wr where
  who  : Who
  addr : Nat
  d    : BitVec 32
  strb : BitVec 4
deriving DecidableEq, Repr

/-- What a command has settled in a tick and the start of the next tick performs: a write accepted by a tick-clocked unit
(spec/01 R7), `poison` for one that drained poisoned (spec/05 R143); an injection and a trip release of the fabric
(spec/10 R259); a pulse of a producer (R257); a thread event of a compare match (spec/08 R224), and what a CMPA match of
counter `n` triggers (spec/11 R300); the capture of a mailbox selector (spec/17 R468); the stop of a counter or an
inlet by a domain reset (R220, spec/09 R251); a fault declared of an engine or a lane (spec/14 R356), the reset of a lane,
and a request to arm a domain or to reset it (spec/18 R483). -/
inductive Soon where
  | write (w : Wr) (poison : Bool)
  | inject (ch : Nat)
  | release (g : Nat)
  | fire (p : Producer)
  | event (role thread bit : Nat)
  | matched (n : Nat)
  | capture (sel : Nat)
  | stopCounter (n : Nat)
  | stopInlet (n : Nat)
  | declareEngine (e : Nat)
  | declareLane (p : Nat)
  | resetLane (p : Nat)
  | domain (d en : Nat)
deriving DecidableEq, Repr

/-- The state of the block. `time` is shore time at the start of the present tick, which a synchronisation load and the
wrap of its 64 bits change (spec/06 R145, R154); `ticks` is the number of ticks that have passed, from which every
elapsed-time activity counts (R509). `soon` holds what acts at the start of the next tick. `regs` and the maps of units are sparse: what is not listed is as after
reset. -/
structure State where
  pending  : List Instr
  regs     : SMap (BitVec 32)
  mem      : List Host.Cell
  chk      : SMap (BitVec 16)
  threads  : SMap Thread
  engines  : SMap Engine
  outlet   : Outlet
  integ    : Integrity
  locks    : SMap Lock
  channels : SMap Channel
  lanes    : SMap Lane
  cores    : SMap Core
  shore    : Shore
  weirs    : SMap Weir
  groups   : SMap Group
  domains  : SMap Domain
  cont     : Continuity
  threadDom : SMap (Option Nat)
  startPc  : SMap Word
  counters : SMap Counter
  posUnits : SMap PosUnit
  inlets   : SMap Inlet
  conduits : SMap Conduit
  power    : Power
  boot     : Boot
  security : Security
  tap      : Tap
  mbx      : Option (List (BitVec 32))
  copies   : SMap (BitVec 32)
  ports    : Ports
  time     : Time
  ticks    : Nat
  soon     : List Soon
  shoreRuns : Bool
  inReset  : Bool
  test     : Option TestMode
  rdata    : BitVec 32
deriving DecidableEq, Repr

/-- The state in power-on reset, before its release. DESIGN CHOICE, assumption log 1 and 27. -/
def State.reset : State :=
  { pending := [], regs := [], mem := [], chk := [], threads := [], engines := [], outlet := .init,
    integ := .init, locks := [], channels := [], lanes := [], cores := [],
    shore := .init, weirs := [], groups := [], domains := [], cont := .init, threadDom := [], startPc := [],
    counters := [], posUnits := [], inlets := [], conduits := [],
    power := .init, boot := .init, security := .init, tap := .init, mbx := none, copies := [], ports := .init,
    time := 0, ticks := 0, soon := [], shoreRuns := false, inReset := true, test := none, rdata := 0 }

end Sys2Proof.Machine
end

