-- ==== Sys2Proof/Machine/Nguano.lean ====
section
/-! DEFINITION. The Nguano-14 instructions (spec/03) and their encoding (spec/04): what a pair of 14-bit words
means, the words of an instruction, its pairing class and the registers it reads and writes. -/

namespace Sys2Proof.Machine

/-- The register-register operations (spec/03 R70), in the order of their codes (spec/04 R100). -/
inductive Alu where
  | mov | add | sub | adds | subs | and | or | xor | shl | shr | sar | ror | neg | negs | abs | abss
deriving DecidableEq, Repr

/-- The immediate shifts (spec/03 R73). -/
inductive Shift where
  | shl | shr | sar | ror
deriving DecidableEq, Repr

/-- The compare-immediate group (spec/03 R73). -/
inductive CmpI where
  | seq | sne | slt | sltu
deriving DecidableEq, Repr

/-- The sizes of an access (spec/03 R75): LD and ST, LDB and STB, LDD and STD. -/
inductive Size where
  | word | byte | pair
deriving DecidableEq, Repr

def Size.bytes : Size → Nat
  | .word => 2
  | .byte => 1
  | .pair => 4

/-- The conditions of the compare-and-branch instructions (spec/03 R76). -/
inductive Cond where
  | eq | ne | lt | ge | ltu | geu
deriving DecidableEq, Repr

/-- The 16 x 16 multiplies into MR (spec/03 R82). -/
inductive Mul where
  | mul | mulu | mulq
deriving DecidableEq, Repr

/-- The operations of the iterators that read one or two registers (spec/03 R82): CORDIC. -/
inductive Cordic where
  | sincos | atan2 | mag
deriving DecidableEq, Repr

/-- An instruction with its operands. An access holds its byte offset; `load` and `store` name a word register,
or the pair for `Size.pair`. -/
inductive Op where
  | alu (o : Alu) (a b : Nat)
  | movi (d : Nat) (i : Int)
  | addi (d : Nat) (i : Int)
  | shift (o : Shift) (d n : Nat)
  | cmpi (o : CmpI) (d : Nat) (i : Int)
  | load (z : Size) (d k off : Nat)
  | store (z : Size) (d k off : Nat)
  | branch (c : Cond) (a b : Nat) (off : Int)
  | branchI (c : Cond) (a : Nat) (i off : Int)
  | bz (nz : Bool) (a : Nat) (off : Int)
  | mul (o : Mul) (a b : Nat)
  | mac (msc : Bool) (n a b : Nat)
  | scl (n i : Nat)
  | aclr (n : Nat)
  | aset (n dn : Nat)
  | div (signed : Bool) (dn b : Nat)
  | sqrt (dn : Nat)
  | cordic (o : Cordic) (a b : Nat)
  | lrd (f : LrdForm)
  | rep (urgent : Bool) (c : RepCount)
  | wait (d m : Nat)
  | fence
  | lock (d k : Nat)
  | unlock (d k : Nat)
  | log (c dn : Nat)
  | mfs (d sr : Nat)
  | mts (sr a : Nat)
  | slotswap
  | checkpoint
  | park
  | cust (n a b c : Nat)
  | reserved (len : Nat)
deriving DecidableEq, Repr

/-! ### Encoding (spec/04 R99 to R110) -/

/-- The signed value of the low `n` bits of `x`. -/
def sext (n x : Nat) : Int := if x % 2 ^ n < 2 ^ (n - 1) then (x % 2 ^ n : Nat) else ((x % 2 ^ n : Nat) : Int) - 2 ^ n

/-- The low `n` bits of an integer. -/
def lowBits (n : Nat) (x : Int) : Nat := (x % (2 ^ n : Int)).toNat

def aluOf : Nat → Alu
  | 0 => .mov | 1 => .add | 2 => .sub | 3 => .adds | 4 => .subs | 5 => .and | 6 => .or | 7 => .xor
  | 8 => .shl | 9 => .shr | 10 => .sar | 11 => .ror | 12 => .neg | 13 => .negs | 14 => .abs | _ => .abss

def Alu.code : Alu → Nat
  | .mov => 0 | .add => 1 | .sub => 2 | .adds => 3 | .subs => 4 | .and => 5 | .or => 6 | .xor => 7
  | .shl => 8 | .shr => 9 | .sar => 10 | .ror => 11 | .neg => 12 | .negs => 13 | .abs => 14 | .abss => 15

def shiftOf : Nat → Shift
  | 0 => .shl | 1 => .shr | 2 => .sar | _ => .ror

def Shift.code : Shift → Nat
  | .shl => 0 | .shr => 1 | .sar => 2 | .ror => 3

def cmpiOf : Nat → CmpI
  | 0 => .seq | 1 => .sne | 2 => .slt | _ => .sltu

def CmpI.code : CmpI → Nat
  | .seq => 0 | .sne => 1 | .slt => 2 | .sltu => 3

/-- Group 01 (R101). -/
def decodeShort (w : Nat) : Op :=
  let d := bitsOf w 0 4
  match bitsOf w 10 2 with
  | 0 => .movi d (sext 6 (bitsOf w 4 6))
  | 1 => .addi d (sext 6 (bitsOf w 4 6))
  | 2 => .shift (shiftOf (bitsOf w 8 2)) d (bitsOf w 4 4)
  | _ =>
    let o := cmpiOf (bitsOf w 8 2)
    .cmpi o d (if o = .sltu then (bitsOf w 4 4 : Nat) else sext 4 (bitsOf w 4 4))

/-- Group 10 (R102). -/
def decodeMem (w : Nat) : Op :=
  let z := if bitsOf w 10 1 = 0 then Size.word else .byte
  let off := z.bytes * bitsOf w 7 3
  if bitsOf w 11 1 = 0 then .load z (bitsOf w 0 4) (bitsOf w 4 3) off
  else .store z (bitsOf w 0 4) (bitsOf w 4 3) off

/-- Group 111110 (R103, R104). -/
def decodeEq (x y : Nat) (off : Int) : Op := if x ≤ y then .branch .eq x y off else .branch .ne y x off

/-- The conditions of groups 1100, 1110 and 11110 (R103). -/
def condOf : Nat → Cond
  | 0 => .lt | 1 => .ge | 2 => .ltu | _ => .geu

def condIOf : Nat → Cond
  | 0 => .eq | 1 => .ne | 2 => .lt | _ => .ge

/-- The two-word instructions of the system group (R106, R109), by opcode, with their operand word. -/
def decodeSys2 (o v : Nat) : Op :=
  let hi := bitsOf v 4 4
  let lo := bitsOf v 0 4
  let n3 := bitsOf v 0 3
  let n := bitsOf v 8 1
  match o with
  | 0x10 => .wait hi lo
  | 0x11 => .lock hi lo
  | 0x12 => .unlock hi lo
  | 0x13 => .log hi n3
  | 0x14 => .mfs lo (bitsOf v 4 5)
  | 0x15 => .mts (bitsOf v 4 5) lo
  | 0x16 => .rep false (.reg lo)
  | 0x17 => .rep true (.reg lo)
  | 0x18 =>
    if n = 0 then (if hi < 10 then .lrd (.half hi lo) else .reserved 2)
    else if n3 = 0 then .reserved 2 else .lrd (.pair (bitsOf v 4 2) n3)
  | 0x19 => if n3 = 0 then .reserved 2 else .load .pair n3 (bitsOf v 4 3) (4 * bitsOf v 7 2)
  | 0x1A => .store .pair n3 (bitsOf v 4 3) (4 * bitsOf v 7 2)
  | 0x20 => .mul .mul hi lo
  | 0x21 => .mul .mulu hi lo
  | 0x22 => .mul .mulq hi lo
  | 0x23 => .mac false n hi lo
  | 0x24 => .mac true n hi lo
  | 0x25 => .scl n lo
  | 0x26 => .aset n n3
  | 0x27 => .div true (bitsOf v 4 3) lo
  | 0x28 => .div false (bitsOf v 4 3) lo
  | 0x29 => .sqrt n3
  | 0x2A => .cordic .sincos lo 0
  | 0x2B => .cordic .atan2 hi lo
  | 0x2C => .cordic .mag hi lo
  | o => if 0x30 ≤ o then .cust (o - 0x30) (bitsOf v 8 4) hi lo else .reserved 2

/-- The system group (R106). -/
def decodeSys (o v : Nat) : Op :=
  if 0x10 ≤ o ∧ o < 0x40 then decodeSys2 o v
  else if 0x40 ≤ o ∧ o < 0x80 then .rep false (.imm (o - 0x40 + 1))
  else if 0x80 ≤ o ∧ o < 0xC0 then .rep true (.imm (o - 0x80 + 1))
  else match o with
    | 0 => .park
    | 1 => .fence
    | 2 => .slotswap
    | 3 => .checkpoint
    | 4 => .aclr 0
    | 5 => .aclr 1
    | _ => .reserved 1

/-- The instruction that begins with word `w`; `v` is the word after it, used by two-word instructions (R99). -/
def decode14 (w v : Nat) : Op :=
  if w = 0 then .park
  else
    let a := bitsOf w 4 4
    let b := bitsOf w 0 4
    let off := sext 14 v
    match bitsOf w 12 2 with
    | 0 => .alu (aluOf (bitsOf w 8 4)) a b
    | 1 => decodeShort w
    | 2 => decodeMem w
    | _ =>
      let g := bitsOf w 8 4
      if g < 4 then .branch (condOf g) a b off
      else if g < 8 then .bz (g ≥ 6) b (sext 5 (bitsOf w 4 5))
      else if g < 12 then .branchI (condIOf (g - 8)) a (sext 4 b) off
      else if g < 14 then .branchI (if g = 12 then .ltu else .geu) a (b : Nat) off
      else if g = 14 then decodeEq a b off
      else decodeSys (bitsOf w 0 8) v

/-- The length of an instruction in words (R99, R106). -/
def Op.len : Op → Nat
  | .branch .. => 2
  | .branchI .. => 2
  | .wait .. => 2
  | .lock .. => 2
  | .unlock .. => 2
  | .log .. => 2
  | .mfs .. => 2
  | .mts .. => 2
  | .rep _ (.reg _) => 2
  | .lrd _ => 2
  | .load .pair _ _ _ => 2
  | .store .pair _ _ _ => 2
  | .mul .. => 2
  | .mac .. => 2
  | .scl .. => 2
  | .aset .. => 2
  | .div .. => 2
  | .sqrt _ => 2
  | .cordic .. => 2
  | .cust .. => 2
  | .reserved n => n
  | _ => 1

/-- A first word of the system group with its opcode. -/
def sysWord (o : Nat) : Nat := 0x3F00 + o

/-- The words of an instruction; the second is 0 for one-word instructions. BEQ and BNE are written as R104 says,
BNE of one register with itself as BLT. -/
def encode14 : Op → Nat × Nat
  | .alu o a b => (256 * o.code + 16 * a + b, 0)
  | .movi d i => (0x1000 + 16 * lowBits 6 i + d, 0)
  | .addi d i => (0x1400 + 16 * lowBits 6 i + d, 0)
  | .shift o d n => (0x1800 + 256 * o.code + 16 * n + d, 0)
  | .cmpi o d i => (0x1C00 + 256 * o.code + 16 * lowBits 4 i + d, 0)
  | .load .word d k off => (0x2000 + 128 * (off / 2) + 16 * k + d, 0)
  | .load .byte d k off => (0x2400 + 128 * off + 16 * k + d, 0)
  | .load .pair n k off => (sysWord 0x19, 128 * (off / 4) + 16 * k + n)
  | .store .word d k off => (0x2800 + 128 * (off / 2) + 16 * k + d, 0)
  | .store .byte d k off => (0x2C00 + 128 * off + 16 * k + d, 0)
  | .store .pair n k off => (sysWord 0x1A, 128 * (off / 4) + 16 * k + n)
  | .branch c a b off =>
    let f := 16 * a + b
    let x := 16 * min a b + max a b
    let y := 16 * max a b + min a b
    (match c with
      | .lt => 0x3000 + f
      | .ge => 0x3100 + f
      | .ltu => 0x3200 + f
      | .geu => 0x3300 + f
      | .eq => 0x3E00 + x
      | .ne => if a = b then 0x3000 + f else 0x3E00 + y, lowBits 14 off)
  | .branchI c a i off =>
    let f := 16 * a + lowBits 4 i
    (match c with
      | .eq => 0x3800 + f
      | .ne => 0x3900 + f
      | .lt => 0x3A00 + f
      | .ge => 0x3B00 + f
      | .ltu => 0x3C00 + f
      | .geu => 0x3D00 + f, lowBits 14 off)
  | .bz nz a off => (0x3400 + (if nz then 512 else 0) + 16 * lowBits 5 off + a, 0)
  | .mul .mul a b => (sysWord 0x20, 16 * a + b)
  | .mul .mulu a b => (sysWord 0x21, 16 * a + b)
  | .mul .mulq a b => (sysWord 0x22, 16 * a + b)
  | .mac false n a b => (sysWord 0x23, 256 * n + 16 * a + b)
  | .mac true n a b => (sysWord 0x24, 256 * n + 16 * a + b)
  | .scl n i => (sysWord 0x25, 256 * n + i)
  | .aclr n => (sysWord (4 + n), 0)
  | .aset n dn => (sysWord 0x26, 256 * n + dn)
  | .div true dn b => (sysWord 0x27, 16 * dn + b)
  | .div false dn b => (sysWord 0x28, 16 * dn + b)
  | .sqrt dn => (sysWord 0x29, dn)
  | .cordic .sincos a _ => (sysWord 0x2A, a)
  | .cordic .atan2 a b => (sysWord 0x2B, 16 * a + b)
  | .cordic .mag a b => (sysWord 0x2C, 16 * a + b)
  | .lrd (.half src d) => (sysWord 0x18, 16 * src + d)
  | .lrd (.pair src n) => (sysWord 0x18, 256 + 16 * src + n)
  | .rep false (.imm n) => (sysWord (0x40 + (n - 1)), 0)
  | .rep true (.imm n) => (sysWord (0x80 + (n - 1)), 0)
  | .rep false (.reg k) => (sysWord 0x16, k)
  | .rep true (.reg k) => (sysWord 0x17, k)
  | .wait d m => (sysWord 0x10, 16 * d + m)
  | .fence => (sysWord 1, 0)
  | .lock d k => (sysWord 0x11, 16 * d + k)
  | .unlock d k => (sysWord 0x12, 16 * d + k)
  | .log c dn => (sysWord 0x13, 16 * c + dn)
  | .mfs d sr => (sysWord 0x14, 16 * sr + d)
  | .mts sr a => (sysWord 0x15, 16 * sr + a)
  | .slotswap => (sysWord 2, 0)
  | .checkpoint => (sysWord 3, 0)
  | .park => (0, 0)
  | .cust n a b c => (sysWord (0x30 + n), 256 * a + 16 * b + c)
  | .reserved 1 => (sysWord 6, 0)
  | .reserved _ => (sysWord 0x1B, 0)

/-! ### Well-formed operands -/

/-- A register number. -/
def reg? (k : Nat) : Bool := decide (k < 16)

def inRange (lo hi x : Int) : Bool := decide (lo ≤ x ∧ x ≤ hi)

/-- The offsets of an access (R75). -/
def Size.offset? : Size → Nat → Bool
  | .word, o => o % 2 == 0 && decide (o ≤ 14)
  | .byte, o => decide (o ≤ 7)
  | .pair, o => o % 4 == 0 && decide (o ≤ 12)

/-- The register number of an access: a word register or a pair. -/
def Size.reg? : Size → Nat → Bool
  | .pair, n => decide (n < 8)
  | _, d => Sys2Proof.Machine.reg? d

/-- Every operand is within the range its table gives. -/
def Op.wf : Op → Bool
  | .alu _ a b => reg? a && reg? b
  | .movi d i => reg? d && inRange (-32) 31 i
  | .addi d i => reg? d && inRange (-32) 31 i
  | .shift _ d n => reg? d && decide (n < 16)
  | .cmpi o d i => reg? d && (if o = .sltu then inRange 0 15 i else inRange (-8) 7 i)
  | .load z d k off => z.reg? d && decide (k < 8) && z.offset? off
  | .store z d k off => z.reg? d && decide (k < 8) && z.offset? off
  | .branch _ a b off => reg? a && reg? b && inRange (-8192) 8191 off
  | .branchI c a i off =>
    reg? a && (if c = .ltu ∨ c = .geu then inRange 0 15 i else inRange (-8) 7 i) && inRange (-8192) 8191 off
  | .bz _ a off => reg? a && inRange (-16) 15 off
  | .mul _ a b => reg? a && reg? b
  | .mac _ n a b => decide (n < 2) && reg? a && reg? b
  | .scl n i => decide (n < 2 ∧ i < 16)
  | .aclr n => decide (n < 2)
  | .aset n dn => decide (n < 2 ∧ dn < 8)
  | .div _ dn b => decide (dn < 8) && reg? b
  | .sqrt dn => decide (dn < 8)
  | .cordic _ a b => reg? a && reg? b
  | .lrd (.half src d) => decide (src < 16) && reg? d
  | .lrd (.pair src n) => decide (src < 4 ∧ n < 8)
  | .rep _ (.imm n) => decide (1 ≤ n ∧ n ≤ 64)
  | .rep _ (.reg k) => reg? k
  | .wait d m => reg? d && reg? m
  | .lock d k => reg? d && reg? k
  | .unlock d k => reg? d && reg? k
  | .log c dn => reg? c && decide (dn < 8)
  | .mfs d sr => reg? d && decide (sr < 32)
  | .mts sr a => decide (sr < 32) && reg? a
  | .cust n a b c => decide (n < 16) && reg? a && reg? b && reg? c
  | .reserved n => decide (n = 1 ∨ n = 2)
  | _ => true

/-- What the words of a form execute as (R40, R100, R110): MOV w0, w0 is the word 0x0000, PARK; a pair destination d0
and the LRD sources 10 to 15 are reserved encodings. -/
def Op.normal : Op → Op
  | .alu .mov 0 0 => .park
  | .load .pair 0 _ _ => .reserved 2
  | .lrd (.pair _ 0) => .reserved 2
  | .lrd (.half src d) => if src < 10 then .lrd (.half src d) else .reserved 2
  | o => o

/-- The form in which decoding gives an instruction back: BEQ names the lower register first, BNE of a register
with itself is BLT (R104), SINCOS has one operand. -/
def Op.canonical : Op → Bool
  | .branch .eq a b _ => decide (a ≤ b)
  | .branch .ne a b _ => decide (a < b)
  | .cordic .sincos _ b => b == 0
  | .load .pair n _ _ => n != 0
  | .lrd (.pair _ n) => n != 0
  | .lrd (.half src _) => decide (src < 10)
  | .alu .mov a b => !(a == 0 && b == 0)
  | _ => true

/-! ### Pairing (spec/02 R32; spec/03 R97) -/

def Op.cls : Op → PairClass
  | .alu .. => .a
  | .movi .. => .a
  | .addi .. => .a
  | .shift .. => .a
  | .cmpi .. => .a
  | .mul .. => .a
  | .mac .. => .a
  | .scl .. => .a
  | .aclr _ => .a
  | .aset .. => .a
  | .div .. => .a
  | .sqrt _ => .a
  | .cordic .. => .a
  | .lrd _ => .a
  | .load .. => .m
  | .store .. => .m
  | .branch .. => .b
  | .branchI .. => .b
  | .bz .. => .b
  | .rep .. => .x
  | .cust .. => .x
  | _ => .s

/-- A long-op start or a long-op read. -/
def Op.isLong : Op → Bool
  | .mul .. => true
  | .mac .. => true
  | .scl .. => true
  | .aclr _ => true
  | .aset .. => true
  | .div .. => true
  | .sqrt _ => true
  | .cordic .. => true
  | .lrd _ => true
  | _ => false

def Op.isLoad : Op → Bool
  | .load .. => true
  | _ => false

/-- Both halves of a pair. -/
def pairRegs (n : Nat) : List Nat := [2 * n, 2 * n + 1]

/-- The data registers of an access. -/
def Size.regs : Size → Nat → List Nat
  | .pair, n => pairRegs n
  | _, d => [d]

/-- accN among the registers of the pairing test. -/
def accReg (n : Nat) : Nat := 16 + n

/-- The accumulator a long-op read names (R109). -/
def lrdAcc : LrdForm → Option Nat
  | .half src _ => if src < 4 then none else if src < 7 then some 0 else some 1
  | .pair src _ => if src < 2 then none else some (src - 2)

/-- The registers an instruction reads, w0 and the accumulators as 16 and 17 among them. -/
def Op.reads : Op → List Nat
  | .alu .mov _ b => [b]
  | .alu .neg _ b => [b]
  | .alu .negs _ b => [b]
  | .alu .abs _ b => [b]
  | .alu .abss _ b => [b]
  | .alu _ a b => [a, b]
  | .addi d _ => [d]
  | .shift _ d _ => [d]
  | .cmpi _ d _ => [d]
  | .load _ _ k _ => [8 + k]
  | .store z d k _ => (8 + k) :: z.regs d
  | .branch _ a b _ => [a, b]
  | .branchI _ a _ _ => [a]
  | .bz _ a _ => [a]
  | .mul _ a b => [a, b]
  | .mac _ n a b => [a, b, accReg n]
  | .scl n _ => [accReg n]
  | .aset _ dn => pairRegs dn
  | .div _ dn b => b :: pairRegs dn
  | .sqrt dn => pairRegs dn
  | .cordic .sincos a _ => [a]
  | .cordic _ a b => [a, b]
  | .lrd f => match lrdAcc f with
    | some n => [accReg n]
    | none => []
  | .rep _ (.reg k) => [k]
  | .wait _ m => [m]
  | .lock _ k => [k]
  | .unlock _ k => [k]
  | .log c dn => c :: pairRegs dn
  | .mts 29 _ => []
  | .mts _ a => [a]
  | _ => []

/-- The registers an instruction writes. -/
def Op.writes : Op → List Nat
  | .alu _ a _ => [a]
  | .movi d _ => [d]
  | .addi d _ => [d]
  | .shift _ d _ => [d]
  | .cmpi _ d _ => [d]
  | .load z d _ _ => z.regs d
  | .mac _ n _ _ => [accReg n]
  | .aclr n => [accReg n]
  | .aset n _ => [accReg n]
  | .lrd (.half _ d) => [d]
  | .lrd (.pair _ n) => pairRegs n
  | .wait d _ => [d]
  | .lock d _ => [d]
  | .unlock d _ => [d]
  | .mfs d _ => [d]
  | _ => []

/-- The registers whose poison an instruction consumes (spec/03 R98, spec/05 R141): every use but MOV, LRD, store
data and LOG. -/
def Op.consumes : Op → List Nat
  | .alu .mov _ _ => []
  | .store _ _ k _ => [8 + k]
  | .log _ _ => []
  | .lrd _ => []
  | o => o.reads

/-- Class pairs that form (R32). -/
def classesPair : PairClass → PairClass → Bool
  | .a, .a => true
  | .a, .m => true
  | .m, .a => true
  | .a, .b => true
  | .m, .b => true
  | _, _ => false

/-- Lists of registers that share one; w0 never counts. -/
def shareReg (l m : List Nat) : Bool := l.any fun r => r != 0 && m.contains r

/-- What the pairing test keeps of an instruction at `pc` that issued as the first of its slot. -/
def Op.asFirst (o : Op) (pc : Word) : PairPrev :=
  { cls := o.cls, line := pc.toNat / 4, writes := o.writes, load := o.isLoad, long := o.isLong,
    next := pc + BitVec.ofNat 16 o.len }

/-- Instruction `o` at `pc` pairs behind `p` (R32, R33): `afterLoad` says that a load stood directly before the
first instruction. A first instruction that leaves its line has a next address beyond it. -/
def pairsWith (p : PairPrev) (o : Op) (pc : Word) (afterLoad : Bool) : Bool :=
  p.next == pc && classesPair p.cls o.cls && !(p.long && o.isLong) &&
  (p.load || !shareReg p.writes o.reads) && !shareReg p.writes o.writes &&
  p.line == pc.toNat / 4 && p.line == (pc.toNat + o.len - 1) / 4 && !afterLoad

end Sys2Proof.Machine
end

