-- ==== Sys2Proof/Machine/Flags.lean ====
section
/-! DEFINITION. ASTAT (spec/03 R72, R83, R86) and the results of the ALU with their saturation (R70, R71, R73). -/

namespace Sys2Proof.Machine

/-- ASTAT.SAT, ARITH and DIVZ (R86). -/
def astatSat : Word := 0x0100
def astatArith : Word := 0x0200
def astatDivz : Word := 0x0400

/-- ASTAT.SATMAC (R86). -/
def satMac (astat : Word) : Bool := astat.getLsbD 0

/-- ASTAT after MTS: SATMAC takes bit 0, each sticky bit written as 1 clears (R86). -/
def writeAstat (astat v : Word) : Word := (astat &&& ~~~v &&& 0x0700) ||| (v &&& 1)

/-- A result with the sticky bits it sets. -/
abbrev Result := Word × Word

/-- A signed result that wraps (R71). -/
def wrapped (x : Int) : Result := (BitVec.ofInt 16 x, 0)

/-- A signed result that saturates, with SAT where it clamps (R71, R72). -/
def saturated (x : Int) : Result := (BitVec.ofInt 16 (clampSigned 16 x), if clampSigned 16 x = x then 0 else astatSat)

/-- A shift by a count of 0 to 31 (R71): counts of 16 and more empty the word, or fill it with the sign; a rotate
uses the count modulo 16. -/
def shifted (o : Shift) (x : Word) (n : Nat) : Word :=
  match o with
  | .shl => x <<< n
  | .shr => x >>> n
  | .sar => x.sshiftRight n
  | .ror => x.rotateRight (n % 16)

/-- The register-register operations on wa and wb (R70, R71). -/
def aluResult (o : Alu) (a b : Word) : Result :=
  match o with
  | .mov => (b, 0)
  | .add => wrapped (a.toInt + b.toInt)
  | .sub => wrapped (a.toInt - b.toInt)
  | .adds => saturated (a.toInt + b.toInt)
  | .subs => saturated (a.toInt - b.toInt)
  | .and => (a &&& b, 0)
  | .or => (a ||| b, 0)
  | .xor => (a ^^^ b, 0)
  | .shl => (shifted .shl a (b.toNat % 32), 0)
  | .shr => (shifted .shr a (b.toNat % 32), 0)
  | .sar => (shifted .sar a (b.toNat % 32), 0)
  | .ror => (shifted .ror a (b.toNat % 32), 0)
  | .neg => wrapped (-b.toInt)
  | .negs => saturated (-b.toInt)
  | .abs => wrapped b.toInt.natAbs
  | .abss => saturated b.toInt.natAbs

/-- A truth value as a word. -/
def flagWord (b : Bool) : Word := if b then 1 else 0

/-- The compare-immediate group (R73). -/
def cmpiResult (o : CmpI) (x : Word) (i : Int) : Word :=
  match o with
  | .seq => flagWord (decide (x.toInt = i))
  | .sne => flagWord (decide (x.toInt ≠ i))
  | .slt => flagWord (decide (x.toInt < i))
  | .sltu => flagWord (decide ((x.toNat : Int) < i))

/-- Two words compared (R76). -/
def condHolds (c : Cond) (a b : Word) : Bool :=
  match c with
  | .eq => a == b
  | .ne => a != b
  | .lt => decide (a.toInt < b.toInt)
  | .ge => decide (b.toInt ≤ a.toInt)
  | .ltu => decide (a.toNat < b.toNat)
  | .geu => decide (b.toNat ≤ a.toNat)

/-- A word compared with an immediate (R76): the word of an immediate of −8 to 15 has that signed and, from 0 on,
that unsigned value. -/
def condIHolds (c : Cond) (a : Word) (i : Int) : Bool := condHolds c a (BitVec.ofInt 16 i)

end Sys2Proof.Machine
end

