-- ==== Sys2Proof/Machine/LongOps.lean ====
section
/-! DEFINITION. The results of the long operations (spec/03 R82 to R84). Multiply, accumulate, scale, divide and
square root are exact; a CORDIC result is the correctly rounded value with a free error inside its bound
(assumption log 3). -/

namespace Sys2Proof.Machine

/-! ### Multiply and accumulate (R82) -/

/-- sext32(clamp16(x)). -/
def clamp16 (x : Int) : BitVec 32 := BitVec.ofInt 32 (clampSigned 16 x)

/-- SAT where a value does not fit 16 bits. -/
def satIf (n : Nat) (x : Int) : Word := if clampSigned n x = x then 0 else astatSat

/-- MUL, MULU and MULQ: the value for MR and the sticky bits. -/
def mulResult (o : Mul) (a b : Word) : BitVec 32 × Word :=
  match o with
  | .mul => (BitVec.ofInt 32 (a.toInt * b.toInt), 0)
  | .mulu => (BitVec.ofNat 32 (a.toNat * b.toNat), 0)
  | .mulq =>
    let x := (a.toInt * b.toInt + 0x4000) / 2 ^ 15
    (clamp16 x, satIf 16 x)

/-- MAC and MSC: the accumulator afterwards, wrapping, or clamping with SATMAC. -/
def macResult (msc sat : Bool) (acc : BitVec 40) (a b : Word) : BitVec 40 × Word :=
  let x := if msc then acc.toInt - a.toInt * b.toInt else acc.toInt + a.toInt * b.toInt
  if sat then (BitVec.ofInt 40 (clampSigned 40 x), satIf 40 x) else (BitVec.ofInt 40 x, 0)

/-- SCL: the value for MR. -/
def sclResult (acc : BitVec 40) (i : Nat) : BitVec 32 × Word :=
  let x := acc.toInt / 2 ^ i
  (clamp16 x, satIf 16 x)

/-! ### Divide and square root (R83) -/

/-- A quotient below a remainder, as IR holds them. -/
def irPair (q r : Int) : BitVec 32 := BitVec.ofInt 16 r ++ BitVec.ofInt 16 q

/-- DIV. -/
def divResult (d : BitVec 32) (v : Word) : BitVec 32 × Word :=
  let n := d.toInt
  if v = 0 then (irPair (if 0 ≤ n then 32767 else -32768) n, astatDivz)
  else
    let q := n.tdiv v.toInt
    if 32767 < q then (irPair 32767 0, astatArith)
    else if q < -32768 then (irPair (-32768) 0, astatArith)
    else (irPair q (n.tmod v.toInt), 0)

/-- DIVU. -/
def divuResult (d : BitVec 32) (v : Word) : BitVec 32 × Word :=
  let n := d.toNat
  if v = 0 then (irPair 0xFFFF n, astatDivz)
  else if 0xFFFF < n / v.toNat then (irPair 0xFFFF 0, astatArith)
  else (irPair (n / v.toNat : Nat) (n % v.toNat : Nat), 0)

/-- The integer square root of `n`, from bit `k - 1` down: `r` holds the bits found. -/
def isqrtFrom (n : Nat) : Nat → Nat → Nat
  | 0, r => r
  | k + 1, r => if (r + 2 ^ k) * (r + 2 ^ k) ≤ n then isqrtFrom n k (r + 2 ^ k) else isqrtFrom n k r

/-- The floor of the square root of a number below 2^40. -/
def isqrt (n : Nat) : Nat := isqrtFrom n 20 0

/-- SQRT. -/
def sqrtResult (d : BitVec 32) : BitVec 32 := irPair (isqrt d.toNat) 0

/-! ### CORDIC (R84) -/

/-- One in the fixed-point format of the trigonometric functions, 2^96. -/
def fixOne : Int := 2 ^ 96

/-- π in that format, rounded down. -/
def fixPi : Int := 248902613312231085230521944622

/-- The cosine and sine of `x` by their series, `n` terms each: `c` and `s` are the sums so far, `p` the term. -/
def trigSeries (x : Int) : Nat → Nat → Int → Int → Int → Int × Int
  | 0, _, _, c, s => (c, s)
  | n + 1, k, p, c, s =>
    let p1 := p * x / fixOne / (k + 1)
    let p2 := -(p1 * x / fixOne / (k + 2))
    trigSeries x n (k + 2) p2 (c + p2) (s + p1)

/-- Cosine and sine of an angle of 0 to one eighth of a turn, in units of 1/131072 of a turn. -/
def trigOctant (h : Nat) : Int × Int := trigSeries (fixPi * h / 65536) 16 0 fixOne fixOne 0

/-- Cosine and sine of an angle in units of 1/131072 of a turn: by octants. -/
def trig (h : Nat) : Int × Int :=
  let q := h / 32768 % 4
  let r := h % 32768
  let x := if r ≤ 16384 then trigOctant r else ((trigOctant (32768 - r)).2, (trigOctant (32768 - r)).1)
  match q with
  | 0 => x
  | 1 => (-x.2, x.1)
  | 2 => (-x.1, -x.2)
  | _ => (x.2, -x.1)

/-- A value in Q15, rounded to nearest and clamped. -/
def toQ15 (x : Int) : Int := clampSigned 16 ((x * 2 ^ 16 / fixOne + 1) / 2)

/-- An error within a bound. -/
def within (bound : Int) (x : Int) : Int := if x < -bound then -bound else if bound < x then bound else x

/-- SINCOS: exact at the four quadrant angles. -/
def sincosResult (a : Word) : BitVec 32 :=
  match a.toNat with
  | 0 => irPair 32767 0
  | 0x4000 => irPair 0 32767
  | 0x8000 => irPair (-32768) 0
  | 0xC000 => irPair 0 (-32768)
  | n =>
    let x := trig (2 * n)
    irPair (clampSigned 16 (toQ15 x.1 + within 2 (Config.cosError a)))
      (clampSigned 16 (toQ15 x.2 + within 2 (Config.sinError a)))

/-- The angle of the point (x, y) lies at or beyond `j` half units and a half (of 1/65536 of a turn): the boundary
below the angle `j`. Both angles lie in the same half of the turn, or the point's half decides. -/
def atOrBeyond (y x : Int) (j : Nat) : Bool :=
  let h := 2 * j - 1
  let t := trig h
  let lower := decide (y < 0)
  if lower ≠ decide (65536 ≤ h) then lower else decide (0 ≤ t.1 * y - t.2 * x)

/-- The greatest `j` below `2^k` above `r` whose boundary the angle has reached. -/
def angleFrom (y x : Int) : Nat → Nat → Nat
  | 0, r => r
  | k + 1, r => if atOrBeyond y x (r + 2 ^ k) then angleFrom y x k (r + 2 ^ k) else angleFrom y x k r

/-- The correctly rounded angle of a point off the axes; 65536 is 0 again. -/
def roundedAngle (y x : Int) : Int := angleFrom y x 16 0 + (if atOrBeyond y x 65536 then 1 else 0)

/-- The correctly rounded magnitude. -/
def roundedMag (y x : Int) : Int := ((isqrt (4 * (y * y + x * x)).toNat + 1) / 2 : Nat)

/-- The magnitude of ATAN2 and MAG: exact on the axes and at its greatest value. -/
def magnitude (a b : Word) : Int :=
  let m := roundedMag a.toInt b.toInt
  if a = 0 ∨ b = 0 ∨ (a = 0x8000 ∧ b = 0x8000) then m
  else min 46341 (max 0 (m + within 1 (Config.magError a b)))

/-- ATAN2 of y = `a` and x = `b`: exact at the four quadrant angles. -/
def atan2Result (a b : Word) : BitVec 32 :=
  let y := a.toInt
  let x := b.toInt
  let ang : Int :=
    if y = 0 then (if x < 0 then 0x8000 else 0)
    else if x = 0 then (if 0 < y then 0x4000 else 0xC000)
    else roundedAngle y x + within 2 (Config.angleError a b)
  irPair ang (magnitude a b)

/-- The CORDIC starts (R82). -/
def cordicResult (o : Cordic) (a b : Word) : BitVec 32 :=
  match o with
  | .sincos => sincosResult a
  | .atan2 => atan2Result a b
  | .mag => irPair (magnitude a b) 0

end Sys2Proof.Machine
end

