-- ==== Sys2Proof/Machine/Ops.lean ====
section
/-! DEFINITION. The operations every unit shares: reading and changing registers, threads and engines,
the rights of an access, violations, thread events, alarms and the life-cycle convention. -/

namespace Sys2Proof.Machine

/-! ### Registers -/

/-- The word a register holds. -/
def State.rd (s : State) (r : Reg) : BitVec 32 := SMap.get s.regs r.key r.reset

/-- The state with a register's word replaced. -/
def State.wr (s : State) (r : Reg) (v : BitVec 32) : State :=
  { s with regs := SMap.put s.regs r.key v r.reset }

/-- The value of a field. -/
def State.fld (s : State) (r : Reg) (f : Fld) : Nat := f.get (s.rd r)

/-- A one-bit field as a Boolean. -/
def State.bit (s : State) (r : Reg) (f : Fld) : Bool := s.fld r f != 0

/-- The state with one field replaced. -/
def State.setFld (s : State) (r : Reg) (f : Fld) (v : Nat) : State := s.wr r (f.put (s.rd r) v)

/-- A saturating counter field one further. -/
def State.incSat (s : State) (r : Reg) (f : Fld) : State := s.setFld r f (satInc f.width (s.fld r f))

/-- A wrapping counter field one further. -/
def State.incWrap (s : State) (r : Reg) (f : Fld) : State := s.setFld r f (s.fld r f + 1)

/-! ### Threads and engines -/

def State.thread (s : State) (e t : Nat) : Thread := SMap.get s.threads (32 * e + t) (.init t)

def State.setThread (s : State) (e t : Nat) (x : Thread) : State :=
  { s with threads := SMap.put s.threads (32 * e + t) x (.init t) }

def State.modThread (s : State) (e t : Nat) (f : Thread → Thread) : State :=
  s.setThread e t (f (s.thread e t))

def State.engine (s : State) (e : Nat) : Engine := SMap.get s.engines e .init

def State.setEngine (s : State) (e : Nat) (x : Engine) : State :=
  { s with engines := SMap.put s.engines e x .init }

def State.modEngine (s : State) (e : Nat) (f : Engine → Engine) : State := s.setEngine e (f (s.engine e))

/-- Numbers 0 to 31: the threads of an engine. -/
def allThreads : List Nat := List.range 32

/-- Numbers 0 to 8: the engines. -/
def allEngines : List Nat := List.range 9

/-- The role engine `e` holds: 0 to 7, 8 the reserve, 15 none (spec/02 R62). -/
def State.roleOf (s : State) (e : Nat) : Nat := s.fld (.engStat e) F.engStat.role

/-- The engine that holds role `r` (spec/02 R62). DEDUCED, assumption log 79. -/
def State.engineOf (s : State) (r : Nat) : Option Nat := allEngines.find? fun e => s.roleOf e == r

/-- A unit's STATE code for ON (spec/01 R19). -/
def lifeOn : Nat := 2

/-- The engine that holds role `r` and is ON (spec/02 R512, spec/11 R280). -/
def State.engineOn (s : State) (r : Nat) : Option Nat :=
  allEngines.find? fun e => s.roleOf e == r && s.fld (.engStat e) F.engStat.state == lifeOn

/-! ### The registers of a thread -/

/-- A general register; w0 reads as zero (spec/03 R67). -/
def Regs.get (r : Regs) (k : Nat) : Word := if k = 0 then 0 else SMap.get r.w k 0

/-- The poison bit of a general register (spec/05 R140); w0 is never poisoned. -/
def Regs.poison (r : Regs) (k : Nat) : Bool := if k = 0 then false else SMap.get r.wp k false

/-- A write of a general register with its poison bit; a write of w0 is discarded (spec/03 R67). -/
def Regs.set (r : Regs) (k : Nat) (v : Word) (p : Bool) : Regs :=
  if k = 0 then r else { r with w := SMap.put r.w k v 0, wp := SMap.put r.wp k p false }

/-- A pair dn as a source: w(2n + 1) above w(2n) (spec/03 R66); d0 reads w1 above zero. -/
def Regs.pair (r : Regs) (n : Nat) : BitVec 32 := pairOf (r.get (2 * n)) (r.get (2 * n + 1))

/-! ### Rights and violations (spec/17 R456 to R464) -/

/-- The rights class of an access. -/
inductive Rights where
  | plain | priv | secure
deriving DecidableEq, Repr

/-- The class of an access (spec/17 R456). -/
def State.rights (s : State) : Who → Rights
  | .host _ priv sec => if sec then .secure else if priv then .priv else .plain
  | .thread e t => match (s.thread e t).priv with
    | 0 => .plain
    | 1 => .priv
    | _ => .secure

/-- Privileged or secure. -/
def Rights.supervisor : Rights → Bool
  | .plain => false
  | _ => true

def Rights.isSecure : Rights → Bool
  | .secure => true
  | _ => false

/-- Whether a field answers an access of a rights class (spec/17 R457). -/
def permits (c : RegClass) (a : Acc) (r : Rights) : Bool :=
  match c, a with
  | .secureOnly, _ => r.isSecure
  | _, .srw => r.isSecure
  | .dangerous, _ => r.supervisor
  | _, .prw => r.supervisor
  | _, .pwo => r.supervisor
  | _, _ => true

/-- A violation of a thread advances its VIOL (spec/05 R134); one of a host master TOP_HVIOL, and is
recorded (spec/17 R462). -/
def State.violate (s : State) (who : Who) (kind addr : Nat) (write : Bool) : State :=
  match who with
  | .thread e t => s.modThread e t fun x => { x with viol := satInc 16 x.viol }
  | .host mid _ _ =>
    ((((((s.incSat .topHviol F.topHviol.count).setFld .topHvlast F.topHvlast.mid mid.toNat).setFld
      .topHvlast F.topHvlast.kind kind).setFld .topHvlast F.topHvlast.write (if write then 1 else 0)).setFld
      .topHvaddr F.topHvaddr.addr (addr / 4)).setFld .topIstat F.topIstat.hviol 1)

/-- The bits of the bytes a write selects. -/
def Wr.mask (w : Wr) : BitVec 32 :=
  (if w.strb.getLsbD 0 then 0xFF else 0) ||| (if w.strb.getLsbD 1 then 0xFF00 else 0) |||
  (if w.strb.getLsbD 2 then 0xFF0000 else 0) ||| (if w.strb.getLsbD 3 then 0xFF000000 else 0)

/-- Some selected byte holds a bit of the field. -/
def Wr.any (w : Wr) (f : Fld) : Bool := decide (w.mask &&& f.mask ≠ 0)

/-- Every byte that holds a bit of the field is selected. -/
def Wr.full (w : Wr) (f : Fld) : Bool := decide (f.mask &&& ~~~w.mask = 0)

/-- The field as written where an unselected byte counts as zero: W1C, W1S and WO fields. -/
def Wr.bits (w : Wr) (f : Fld) : Nat := f.get (w.d &&& w.mask)

/-- The field as written where an unselected byte keeps its bits: RW, PRW and SRW fields. -/
def Wr.val (w : Wr) (f : Fld) (old : BitVec 32) : Nat := f.get ((old &&& ~~~w.mask) ||| (w.d &&& w.mask))

/-- The codes whose fields a write can change or command (spec/17 R457). -/
def Acc.writable : Acc → Bool
  | .ro => false
  | .rc => false
  | _ => true

/-- RC fields are not commanded by a write, but R457 counts them as writable by no code. -/
def State.may (s : State) (w : Wr) (r : Reg) (f : Fld) : Bool := permits r.cls f.acc (s.rights w.who)

/-- A strobed byte holds a bit of a filtered writable field: a violation of kind 2 (spec/17 R457). -/
def State.filtered (s : State) (w : Wr) (r : Reg) : Bool :=
  r.fields.any fun f => f.acc.writable && w.any f && !s.may w r f

/-- A field takes a write under its access code and the rights filter (spec/17 R457, R458); command
fields and read-only fields keep their contents. -/
def State.take (s : State) (w : Wr) (r : Reg) (f : Fld) : State :=
  if !(s.may w r f && w.any f) then s
  else match f.acc with
    | .rw | .prw | .srw => s.setFld r f (w.val f (s.rd r))
    | .w1c => s.wr r (s.rd r &&& ~~~(f.mask &&& w.d &&& w.mask))
    | .w1s => s.wr r (s.rd r ||| (f.mask &&& w.d &&& w.mask))
    | _ => s

/-- Several fields take a write. -/
def State.takeAll (s : State) (w : Wr) (r : Reg) (fs : List Fld) : State :=
  fs.foldl (fun s f => s.take w r f) s

/-- The write would change the field (spec/17 R510), and it may reach it. -/
def State.changes (s : State) (w : Wr) (r : Reg) (f : Fld) : Bool :=
  s.may w r f && w.any f && w.val f (s.rd r) != s.fld r f

/-- A field that a unit rule accepts only while `ok`: it takes the write, or a write that would change
it is refused and counted (spec/17 R510). -/
def State.takeIf (ok : Bool) (x : State × Bool) (w : Wr) (r : Reg) (f : Fld) : State × Bool :=
  if ok then (x.1.take w r f, x.2)
  else (x.1, x.2 || x.1.changes w r f)

/-- A write of 1 reaches a one-bit W1S or WO field. -/
def State.wrote1 (s : State) (w : Wr) (r : Reg) (f : Fld) : Bool := s.may w r f && w.bits f != 0

/-- Boot step 8 has completed (spec/15 R396). DEDUCED, assumption log 78. -/
def State.booted (s : State) : Bool := s.fld .wellStat F.wellStat.step == 8

/-- The host port takes writes outside those windows: after step 8, and in BLANK-IDLE, where the host loads the
units directly (spec/15 R396, R412). DEDUCED, assumption log 78. -/
def State.accepting (s : State) : Bool := s.booted || s.fld .wellStat F.wellStat.step == 14

/-- The windows whose writes the host port accepts during boot (spec/15 R396). DEDUCED, assumption log 76. -/
def bootWindow (addr : Nat) : Bool := addr / 0x10000 == 0x70 || addr / 0x10000 == 0x79

def isHost : Who → Bool
  | .host .. => true
  | .thread .. => false

/-- In SLEEP: ENG_PWRSTAT.STATE reads SLEEP (spec/18 R480). -/
def State.asleep (s : State) : Bool := s.fld .engPwrstat F.engPwrstat.state == 2

/-- An effect that acts at the start of the next tick (spec/01 R7). -/
def State.later (s : State) (x : Soon) : State := { s with soon := s.soon ++ [x] }

/-- A register write takes effect, with `h` the unit's rule: `h` answers the new state and whether the rule refused and
counts. The rights filter counts kind 2, a unit rule kind 3, once per access (spec/17 R457, R462 to R464). -/
def State.perform (s : State) (w : Wr) (r : Reg) (h : State → State × Bool) : State :=
  let x := h s
  if s.filtered w r then x.1.violate w.who 2 w.addr true
  else if x.2 then x.1.violate w.who 3 w.addr true
  else x.1

/-- A write to a tick-clocked unit: the lanes, the weirs, the counters and the inlets (spec/01 "How the block works", R7).
The crossbar's write is taken in its own tick (spec/06 R159). -/
def tickClocked (addr : Nat) : Bool :=
  decide (0x720000 ≤ addr ∧ addr < 0x760000) && !decide (0x724400 ≤ addr ∧ addr < 0x724800)

/-- A write to a tick-clocked unit waits for the start of the next tick, in SLEEP for the first after the shore restarts
(spec/01 R7). DEDUCED, assumption log 8. -/
def State.defers (s : State) (addr : Nat) : Bool := tickClocked addr && (s.shoreRuns || s.asleep)

/-- A write of register `r` by an access, with `h` the unit's rule, and whether it drained poisoned: a write with no
strobed byte has no effect (spec/17 R458); a host write before boot step 8 outside the TOP and WELL windows is ignored
and counted (spec/15 R396); one to a tick-clocked unit is accepted in this tick and takes effect from the next
(spec/01 R7). -/
def State.accept (s : State) (w : Wr) (r : Reg) (poison : Bool) (h : State → State × Bool) : State :=
  if w.strb = 0 then s
  else if isHost w.who && !s.accepting && !bootWindow w.addr then s.violate w.who 3 w.addr true
  else if s.defers w.addr then s.later (.write w poison)
  else s.perform w r h

/-- A write of register `r` by an access that is not poisoned. -/
def State.access (s : State) (w : Wr) (r : Reg) (h : State → State × Bool) : State := s.accept w r false h

/-- The unit rule of a register without one of its own: every field takes the write. -/
def State.plainWrite (s : State) (w : Wr) (r : Reg) : State × Bool := (s.takeAll w r r.fields, false)

/-! ### Outcomes of commands -/

/-- The outcome of a command that acts when `guard` holds and otherwise changes nothing. In a test mode
the functional state is undefined (spec/18 R492); in reset nothing but the reset's own commands acts.
DESIGN CHOICE, assumption log 7. DEDUCED, assumption log 26. -/
def State.run (s : State) (guard : Bool) (f : State → State) : Host.Outcome State Fault Refusal :=
  match s.test with
  | some _ => .fault .functionalStateUndefined
  | none => if s.inReset then .next s else if guard then .next (f s) else .next s

/-! ### Life-cycles (spec/01 R19 to R21) -/

/-- STATE, PEND and EN of a unit. -/
structure Life where
  st   : Nat
  pend : Nat
  en   : Nat
deriving DecidableEq, Repr

/-- A request written to EN (spec/01 R20). -/
def Life.request (l : Life) (en : Nat) : Life :=
  match l.st, en with
  | 0, 0 => { l with en := 0 }
  | 0, _ => { l with st := 1, en := 1 }
  | 1, 0 => { l with pend := 1, en := 0 }
  | 1, _ => { l with pend := 0, en := 1 }
  | 2, 0 => { l with st := 3, en := 0 }
  | 2, _ => { l with en := 1 }
  | _, 0 => { l with pend := 0, en := 0 }
  | _, _ => { l with pend := 1, en := 1 }

/-- The start or stop sequence in progress ends: ON, or OFF (spec/01 R20). -/
def Life.arrive (l : Life) : Life :=
  match l.st with
  | 1 => { l with st := 2 }
  | 3 => { l with st := 0 }
  | _ => l

/-- A unit that has reached ON or OFF with a latched request leaves it in the same tick: it passes through each of its
states and skips none (spec/01 R20, R21). -/
def Life.onward (l : Life) : Life :=
  match l.st, l.pend with
  | 2, 1 => { l with st := 3, pend := 0 }
  | 0, 1 => { l with st := 1, pend := 0 }
  | _, _ => l

/-! ### Shore time -/

/-- The tick number: 32 steps to a tick (spec/06 R145). -/
def State.tick (s : State) : Nat := s.time.toNat / 32

/-- Shore time at the start of the present tick. -/
def State.tickTime (s : State) : Time := BitVec.ofNat 64 (32 * s.tick)

/-- The elapsed steps at the start of the present tick (spec/06 R509). -/
def State.now (s : State) : Nat := 32 * s.ticks

/-- The shore time of an elapsed step, as the present tick numbers it. -/
def State.timeAt (s : State) (t : Nat) : Time := s.time + BitVec.ofNat 64 t - BitVec.ofNat 64 s.now

/-- The elapsed instant `t` lies in the present tick or before it. -/
def State.dueBy (s : State) (t : Nat) : Bool := decide (t < s.now + 32)


/-! ### Thread events (spec/05 R135 to R139) -/

/-- A register leaves the destinations of a load in flight: a later instruction has written it (spec/02 R46). -/
def Load.drop (l : Load) (k : Nat) : Load := { l with dests := l.dests.filter fun d => d.1 != k }

/-- An instruction writes a general register, its parity with it (spec/02 R46, spec/05 R142). -/
def Thread.setReg (x : Thread) (k : Nat) (v : Word) (p : Bool) : Thread :=
  { x with regs := x.regs.set k v p, loads := x.loads.map (fun l => l.drop k), flipped := x.flipped.filter (· != k) }

/-- A waiting thread whose mask finds an event takes the delivered bits into wd and goes on behind the
WAIT, DIVERTED where a diversion is in force (spec/03 R92, spec/05 R139). -/
def Thread.waitTest (x : Thread) : Thread :=
  if x.st = .waiting ∧ x.evt &&& x.waitMask ≠ 0 then
    { x.setReg x.waitDst (x.evt &&& x.waitMask) false with
      evt := x.evt &&& ~~~x.waitMask, st := if x.inhdl then .diverted else .ready, pc := x.pc + 2 }
  else x

/-- A source sets EVT bits of a thread. -/
def State.setEvt (s : State) (e t : Nat) (bits : Word) : State :=
  s.modThread e t fun x => Thread.waitTest { x with evt := x.evt ||| bits }

/-- Bit `n` of an event register. -/
def evtBit (n : Nat) : Word := BitVec.ofNat 16 (2 ^ n)

/-- Role `r` is being taken over: from the failure to the end of the restore (spec/14 R372). -/
def State.takingOver (s : State) (r : Nat) : Bool :=
  match s.cont.takeover with
  | some x => x.role == r
  | none => false

/-- A source names a thread by active role: the bit is set where the role's contexts are held, and is lost
while no engine holds the role and until the end of the restore of a takeover (spec/05 R511). -/
def State.roleEvt (s : State) (r t n : Nat) : State :=
  if s.takingOver r then s
  else match s.engineOf r with
    | some e => s.setEvt e t (evtBit n)
    | none => s

/-! ### Alarms and traces (spec/19) -/

def State.setOutlet (s : State) (o : Outlet) : State := { s with outlet := o }

/-- An occurrence joins the queued entry of its code or appends one (spec/19 R496). -/
def joinAlarm (l : List Alarm) (code : Nat) (detail : BitVec 32) (time : Time) : List Alarm :=
  if l.any (fun a => a.code == code) then
    l.map fun a => if a.code = code then { a with count := satInc 16 a.count } else a
  else l ++ [{ code := code, count := 1, detail := detail, time := time }]

/-- One alarm occurrence, without the storm count. -/
def State.queueAlarm (s : State) (code : Nat) (detail : BitVec 32) : State :=
  s.setOutlet { s.outlet with alarms := joinAlarm s.outlet.alarms code detail s.tickTime,
                              almTotal := s.outlet.almTotal + 1 }

/-- A dropped trace is counted and makes LOSS (spec/19 R503, R508). -/
def State.dropTraces (s : State) (n : Nat) : State :=
  if n = 0 then s
  else
    let s := s.setFld .outCnt F.outCnt.trcdrop (min 0xFFFF (s.fld .outCnt F.outCnt.trcdrop + n))
    let s := s.setFld .outStat F.outStat.loss 1
    s.setOutlet { s.outlet with trcLost := min 0xFFFFFFFF (s.outlet.trcLost + n) }

/-- Storm mode begins when the count of the window passes THRESH (spec/19 R504). -/
def State.stormTest (s : State) : State :=
  let th := s.fld .outStorm F.outStorm.thresh
  if th ≠ 0 ∧ th < s.outlet.window ∧ !s.bit .outStat F.outStat.storm then
    let s := s.setFld .outStat F.outStat.storm 1
    let s := s.queueAlarm 0x01 (BitVec.ofNat 32 s.outlet.window)
    let n := s.outlet.traces.length
    (s.setOutlet { s.outlet with traces := [] }).dropTraces n
  else s

/-- A storm window ends at the start of the present tick, and has not been ended yet (spec/19 R504). -/
def State.windowEnds (s : State) : Bool :=
  s.shoreRuns && s.tick % (800 * max 1 (s.fld .outStorm F.outStorm.window)) == 0 && s.outlet.windowAt != s.ticks + 1

/-- A storm window ends (spec/19 R504): storm mode ends with one whose count is LOW or less. -/
def State.endWindow (s : State) : State :=
  let n := s.outlet.window
  let s := s.setOutlet { s.outlet with window := 0, windowAt := s.ticks + 1 }
  if s.bit .outStat F.outStat.storm && decide (n ≤ s.fld .outStorm F.outStorm.low) then
    (s.setFld .outStat F.outStat.storm 0).queueAlarm 0x02 (BitVec.ofNat 32 n)
  else s

/-- One occurrence of an alarm (spec/19 R495, R496, R504), in the window that the present tick begins where it begins
one. -/
def State.alarm (s : State) (code : Nat) (detail : BitVec 32) : State :=
  let s := (if s.windowEnds then s.endWindow else s).queueAlarm code detail
  (s.setOutlet { s.outlet with window := s.outlet.window + 1 }).stormTest

/-- Word 1 of a record from its fields, as (low bit, value) pairs. -/
def recWord (fs : List (Nat × Nat)) : BitVec 64 :=
  fs.foldl (fun x f => x ||| BitVec.ofNat 64 (f.2 * 2 ^ f.1)) 0

/-- Conduits and the outlet pause from the quiescing of SLEEP entry to the end of the wake (spec/18 R480, R482). -/
def State.paused (s : State) : Bool := s.asleep || decide (2 ≤ s.power.stage) || s.power.waking

/-- An enabled trace selector names this event (spec/19 R508). DEDUCED, assumption log 13. -/
def State.traced (s : State) (kind index : Nat) : Bool :=
  s.bit .outCtrl F.outCtrl.trcen && (List.range 8).any fun i =>
    s.bit (.outTsel i) F.outTsel.en && s.fld (.outTsel i) F.outTsel.kind == kind &&
    s.fld (.outTsel i) F.outTsel.index == index

/-- A traced event enters the trace FIFO, or is dropped whole: FIFO full, storm mode, SLEEP, or the ring
in error (spec/19 R499, R503). DEDUCED, assumption log 13. -/
def State.trace (s : State) (kind index : Nat) (r : Record) : State :=
  if !s.traced kind index then s
  else if s.outlet.traces.length ≥ 32 || s.bit .outStat F.outStat.storm || s.asleep
      || s.bit .outStat F.outStat.ringerr then s.dropTraces 1
  else s.setOutlet { s.outlet with traces := s.outlet.traces ++ [r] }

end Sys2Proof.Machine
end

