-- ==== Sys2Proof/Machine/Memory.lean ====
section
/-! DEFINITION. The data memories: physical 64-bit words with their check bits (spec/12 R310 to R318), what
a read counts and logs (R315, R316, R324, R325), the map from Pool addresses to physical banks (spec/11
R284, spec/12 R328), and who may use a slot (spec/11 R288 to R306).

Memory is a list of byte cells over physical word keys times 8; what no write has reached reads zero with
valid check bits, as the power-on fill leaves it (R320). Check bits are kept as syndromes: 0 where the
stored check bits are those of the stored data, SR in the high byte and SC in the low byte elsewhere. -/

namespace Sys2Proof.Machine

/-! ### Physical words -/

/-- Word `w` of physical Pool bank `b`. -/
def bankWord (b w : Nat) : Nat := b * 16384 + w
/-- Word `w` of the local RAM of physical engine `e`. -/
def lramWord (e w : Nat) : Nat := 0x100000 + e * 4096 + w
/-- Word `w` of the Tarn. -/
def tarnWord (w : Nat) : Nat := 0x110000 + w
/-- Line `l` of the program store of engine `e`: four 14-bit words in the low 56 bits. -/
def pstoreWord (e l : Nat) : Nat := 0x120000 + e * 4096 + l
/-- Word `i` of the background test buffer. -/
def bufWord (i : Nat) : Nat := 0x140000 + i

/-- The byte of memory at a physical byte address (assumption log 2). DEDUCED, assumption log 2. -/
def State.byte (s : State) (a : Nat) : BitVec 8 := SMap.get s.mem a 0

/-- The state with one byte of memory replaced. -/
def State.setByte (s : State) (a : Nat) (v : BitVec 8) : State := { s with mem := SMap.put s.mem a v 0 }

/-- The data bits of a physical word, byte 0 lowest. -/
def State.word (s : State) (k : Nat) : BitVec 64 :=
  s.byte (8 * k + 7) ++ s.byte (8 * k + 6) ++ s.byte (8 * k + 5) ++ s.byte (8 * k + 4) ++
  s.byte (8 * k + 3) ++ s.byte (8 * k + 2) ++ s.byte (8 * k + 1) ++ s.byte (8 * k)

/-- Byte `i` of a word. -/
def byteOf (d : BitVec 64) (i : Nat) : BitVec 8 := d.extractLsb' (8 * i) 8

/-- The bytes a mask selects are stored. -/
def State.setBytes (s : State) (k : Nat) (mask : BitVec 8) (d : BitVec 64) : State :=
  (List.range 8).foldl (fun s i => if mask.getLsbD i then s.setByte (8 * k + i) (byteOf d i) else s) s

/-- The syndrome of a physical word. DEDUCED, assumption log 2. DESIGN CHOICE, assumption log 100. -/
def State.syn (s : State) (k : Nat) : BitVec 16 := SMap.get s.chk k 0

def State.setSyn (s : State) (k : Nat) (v : BitVec 16) : State := { s with chk := SMap.put s.chk k v 0 }

/-! ### The row-and-column code -/

/-- The row parities of a word (spec/12 R311): bit i is the XOR of byte i. -/
def rowParity (d : BitVec 64) : BitVec 8 :=
  (List.range 8).foldl (fun x i =>
    x ||| (if (List.range 8).foldl (fun p j => p ^^ d.getLsbD (8 * i + j)) false then BitVec.ofNat 8 (2 ^ i) else 0)) 0

/-- The column parities of a word (spec/12 R311): the XOR of its bytes. -/
def colParity (d : BitVec 64) : BitVec 8 := (List.range 8).foldl (fun x i => x ^^^ byteOf d i) 0

/-- What the decoder decides on a read (spec/12 R312). -/
inductive EccKind where
  | clean | corrected | poisoned | uncorrectable
deriving DecidableEq, Repr

/-- The number of the one bit set in a syndrome byte, if just one is. -/
def oneBit (x : BitVec 8) : Option Nat := (List.range 8).find? fun i => x == BitVec.ofNat 8 (2 ^ i)

/-- The decoder of R312: the decision, and the data as corrected or as stored. -/
def eccDecode (d : BitVec 64) (sr sc allRows : BitVec 8) : EccKind × BitVec 64 :=
  if sr = 0 ∧ sc = 0 then (.clean, d)
  else if sr = allRows ∧ sc = 0xFF then (.poisoned, d)
  else match oneBit sr, oneBit sc with
    | some i, some j => (.corrected, d ^^^ (1#64 <<< (8 * i + j)))
    | some _, none => if sc = 0 then (.corrected, d) else (.uncorrectable, d)
    | none, some _ => if sr = 0 then (.corrected, d) else (.uncorrectable, d)
    | none, none => (.uncorrectable, d)

/-- The rows of a memory's words: a program-store line has seven (spec/12 R318). -/
def allRowsOf (k : Nat) : BitVec 8 := if 0x120000 ≤ k ∧ k < 0x140000 then 0x7F else 0xFF

/-- The decoder on a physical word. DESIGN CHOICE, assumption log 100. -/
def State.decodeWord (s : State) (k : Nat) : EccKind × BitVec 64 :=
  eccDecode (s.word k) ((s.syn k).extractLsb' 8 8) ((s.syn k).extractLsb' 0 8) (allRowsOf k)

/-- The syndrome of the poison code (spec/12 R317, R318). -/
def poisonSyn (k : Nat) : BitVec 16 := allRowsOf k ++ (0xFF#8)

/-- The word receives the poison code: data 0 with every check bit set. -/
def State.poisonWord (s : State) (k : Nat) : State := (s.setBytes k 0xFF 0).setSyn k (poisonSyn k)

/-! ### Counting and logging (spec/12 R316, R324, R325) -/

/-- The bucket of a physical word (spec/12 R324); 54 for the test buffer, which has none. -/
def bucketOf (k : Nat) : Nat :=
  if k < 0x100000 then k / 16384
  else if k < 0x110000 then 34 + (k - 0x100000) / 4096
  else if k < 0x120000 then 52
  else if k < 0x140000 then 43 + (k - 0x120000) / 4096
  else 54

/-- The number of a word within its memory. -/
def wordNumber (k : Nat) : Nat :=
  if k < 0x100000 then k % 16384
  else if k < 0x110000 then (k - 0x100000) % 4096
  else if k < 0x120000 then k - 0x110000
  else if k < 0x140000 then (k - 0x120000) % 4096
  else k - 0x140000

/-- One corrected error in a bucket: LEVEL advances, and on coming to equal THRESH from below HIT and LBHIT
are set and an alarm is recorded (spec/12 R324). -/
def State.bucketAdd (s : State) (b : Nat) : State :=
  let old := s.fld (.memLb b) F.memLb.level
  let new := satInc 8 old
  let th := s.fld (.memLb b) F.memLb.thresh
  let s := s.setFld (.memLb b) F.memLb.level new
  if old < th ∧ new = th then
    ((s.setFld (.memLb b) F.memLb.hit 1).setFld .memIstat F.memIstat.lbhit 1).alarm 0x11 (BitVec.ofNat 32 b)
  else s

def State.setInteg (s : State) (i : Integrity) : State := { s with integ := i }

def State.logEntry (s : State) (i : Nat) : Option LogEntry := SMap.get s.integ.log i none

def State.setLogEntry (s : State) (i : Nat) (x : Option LogEntry) : State :=
  s.setInteg { s.integ with log := SMap.put s.integ.log i x none }

/-- The syndromes of the errors of the present tick that entry `x` has met. -/
def State.logNow (s : State) (x : LogEntry) : List (BitVec 8 × BitVec 8) := if x.tick = s.ticks then x.now else []

/-- A Pool correction enters the correction log (spec/12 R325). -/
def State.logCorrection (s : State) (bank word : Nat) (sr sc : BitVec 8) : State :=
  let valid := fun i => (s.fld .memLogv F.memLogv.valid).testBit i
  let holds := fun i => valid i && match s.logEntry i with
    | some x => x.bank == bank && x.word == word
    | none => false
  match (List.range 32).find? holds with
  | some i =>
    match s.logEntry i with
    | some x => s.setLogEntry i (some { x with count := satInc 16 x.count, last := s.tickTime,
                                               multi := x.multi || x.sr != sr || x.sc != sc, sr := sr, sc := sc,
                                               tick := s.ticks, now := (sr, sc) :: s.logNow x })
    | none => s
  | none =>
    match (List.range 32).find? fun i => !valid i with
    | some i =>
      (s.setLogEntry i (some { bank := bank, word := word, sr := sr, sc := sc, multi := false, count := 1,
                               first := s.tickTime, last := s.tickTime, tick := s.ticks, now := [(sr, sc)] })).setFld .memLogv F.memLogv.valid
        (s.fld .memLogv F.memLogv.valid ||| 2 ^ i)
    | none => (s.incSat .memLogovf F.memLogovf.ovf).setFld .memIstat F.memIstat.logovf 1

/-- A corrected error is counted: its bucket, and for the Pool MEM_CECNT and the log. -/
def State.countCorrected (s : State) (k : Nat) : State :=
  let syn := s.syn k
  if k < 0x100000 then
    ((s.bucketAdd (bucketOf k)).incWrap .memCecnt F.memCecnt.cecnt).logCorrection (bucketOf k) (wordNumber k)
      (syn.extractLsb' 8 8) (syn.extractLsb' 0 8)
  else if bucketOf k = 54 then s
  else s.bucketAdd (bucketOf k)

/-- An uncorrectable word was read (spec/12 R316). -/
def State.countUncorrectable (s : State) (k : Nat) : State :=
  let s := s.incSat .memUecnt F.memUecnt.uecnt
  let s := s.setFld .memUelast F.memUelast.src (bucketOf k)
  let s := s.setFld .memUelast F.memUelast.word (wordNumber k)
  let s := s.setFld .memIstat F.memIstat.ue 1
  s.alarm 0x10 (s.rd .memUelast)

/-- While a region is in the background test its words are served by the test buffer (spec/12 R335). -/
def State.served (s : State) (k : Nat) : Nat :=
  match s.integ.bgtSaved with
  | some (b, r) => if bankWord b (32 * r) ≤ k ∧ k < bankWord b (32 * r + 32) then bufWord (k - bankWord b (32 * r)) else k
  | none => k

/-- A read of a physical word: the data delivered, whether it is poisoned, and the state with what the read
counts (spec/12 R312, R315, R316). DESIGN CHOICE, assumption log 22. -/
def State.readWord (s : State) (k₀ : Nat) : BitVec 64 × Bool × State :=
  let k := s.served k₀
  match s.decodeWord k with
  | (.clean, d) => (d, false, s)
  | (.corrected, d) => (d, false, s.countCorrected k)
  | (.poisoned, d) => (Config.poisonData d (s.syn k), true, s)
  | (.uncorrectable, d) => (Config.poisonData d (s.syn k), true, s.countUncorrectable k)

/-- A write of the bytes in `mask` of a physical word (spec/12 R317): all eight bytes store a clean word; a
part merges into the corrected word, is lost in a poisoned word, and stores the poison code in an
uncorrectable one. DESIGN CHOICE, assumption log 99. -/
def State.writeWord (s : State) (k₀ : Nat) (mask : BitVec 8) (d : BitVec 64) : State :=
  let k := s.served k₀
  if mask = 0 then s
  else if mask = 0xFF then (s.setBytes k 0xFF d).setSyn k 0
  else match s.decodeWord k with
    | (.clean, _) => s.setBytes k mask d
    | (.corrected, x) => (((s.countCorrected k).setBytes k 0xFF x).setBytes k mask d).setSyn k 0
    | (.poisoned, _) => s
    | (.uncorrectable, _) => s.poisonWord k

/-! ### The Pool (spec/11 R284 to R306) -/

/-- Slot of a Pool address. -/
def poolSlot (a : Nat) : Nat := (a - 0x100000) / 0x20000
/-- Word of a Pool address within its slot. -/
def slotWord (a : Nat) : Nat := a / 8 % 16384

def inPool (a : Nat) : Bool := decide (0x100000 ≤ a ∧ a < 0x500000)
def inTarn (a : Nat) : Bool := decide (0x600000 ≤ a ∧ a < 0x604000)

/-- The valid retirement entry of a page (spec/12 R328). -/
def State.retireOf (s : State) (n page : Nat) : Option Nat :=
  (List.range 256).find? fun i => s.bit (.memRetire i) F.memRetire.valid &&
    s.fld (.memRetire i) F.memRetire.slot == n && s.fld (.memRetire i) F.memRetire.page == page

/-- What was last settled under number `n` of `m` was settled in the present tick (spec/01 R7). -/
def State.justNow (s : State) (m : SMap Nat) (n : Nat) : Bool := s.shoreRuns && SMap.get m n 0 == s.ticks + 1

/-- The physical word that serves word `w` of slot `n`; none in a removed page, from the tick after its entry was accepted
(spec/11 R284, spec/12 R328, R330). -/
def State.slotPhys (s : State) (n w : Nat) : Option Nat :=
  match s.retireOf n (w / 512) with
  | none => some (bankWord (s.fld (.memBstat n) F.memBstat.phys) w)
  | some i =>
    if !s.bit (.memRetire i) F.memRetire.remap && !s.justNow s.integ.removed i then none
    else if !s.bit (.memRetire i) F.memRetire.remap || s.bit (.memRetire i) F.memRetire.copy then some (bankWord (s.fld (.memBstat n) F.memBstat.phys) w)
    else some (bankWord (32 + s.fld (.memRetire i) F.memRetire.sb) (512 * s.fld (.memRetire i) F.memRetire.spage + w % 512))

/-- Who asks the Pool for an access (spec/11 R288). -/
inductive Requester where
  | engine (e : Nat) (sup : Bool)
  | conduit
  | host (r : Rights)
  | outlet
  | copier
deriving DecidableEq, Repr

/-- Whether an owner admits a requester; `role` is the requesting engine's (spec/11 R288). -/
def admits (owner role : Nat) (q : Requester) (write : Bool) : Bool :=
  match q with
  | .copier => true
  | .engine _ sup =>
    if owner ≤ 8 then role == owner
    else if owner = 0xB then sup && !write
    else owner == 0xC && decide (role ≤ 8)
  | .conduit => owner == 0xA || owner == 0xC
  | .host r => owner == 9 || (owner == 0xB && r.supervisor && !write)
  | .outlet => owner == 0xB

/-- What a request meets at a slot (spec/11 R285, R291, R306). -/
inductive SlotAnswer where
  | go | refuse | stall | wake
deriving DecidableEq, Repr

/-- Word `w` of slot `n` lies in the protected part of a continuity area, offsets 0x0_0000 to 0x1_4FFF of the
CSLOT of a role with CEN set (spec/14 R367). -/
def State.inContArea (s : State) (n w : Nat) : Bool :=
  decide (w < 0x15000 / 8) && (List.range 8).any fun r =>
    s.bit (.engCont r) F.engCont.cen && s.fld (.engCont r) F.engCont.cslot == n

/-- Whose ownership slot `n` checks: that of PREV in the tick in which a hand-over is accepted (spec/11 R291). -/
def State.slotOwner (s : State) (n : Nat) : Nat :=
  if s.justNow s.integ.handed n then s.fld (.memBstat n) F.memBstat.prev else s.fld (.memBctl n) F.memBctl.owner

/-- What a request meets at a slot (spec/11 R285, R291, R306). -/
def State.slotAnswer (s : State) (n : Nat) (q : Requester) (write : Bool) : SlotAnswer :=
  let role := match q with
    | .engine e _ => s.roleOf e
    | _ => 15
  if !admits (s.slotOwner n) role q write then .refuse
  else match s.fld (.memBstat n) F.memBstat.state with
    | 2 => if s.bit (.memBstat n) F.memBstat.handover && !s.justNow s.integ.handed n then .stall else .go
    | 1 => .stall
    | _ => if s.bit (.memBctl n) F.memBctl.autoWake then .wake else .refuse

/-- What a request meets at a Pool address: the slot's answer, and a refusal in a removed page. -/
def State.poolAnswer (s : State) (a : Nat) (q : Requester) (write : Bool) : SlotAnswer :=
  if !inPool a then .refuse
  else match s.slotPhys (poolSlot a) (slotWord a) with
    | none => .refuse
    | some _ =>
      if write && q != .copier && s.inContArea (poolSlot a) (slotWord a) then .refuse
      else s.slotAnswer (poolSlot a) q write

/-- The physical word of a Pool address; 0 where `poolAnswer` refuses. -/
def State.poolPhys (s : State) (a : Nat) : Nat := (s.slotPhys (poolSlot a) (slotWord a)).getD 0

/-- The life-cycle of a slot's retention. -/
def State.bankLife (s : State) (n : Nat) : Life :=
  { st := s.fld (.memBstat n) F.memBstat.state, pend := s.fld (.memBstat n) F.memBstat.pend,
    en := s.fld (.memBctl n) F.memBctl.en }

def State.setBankLife (s : State) (n : Nat) (l : Life) : State :=
  ((s.setFld (.memBstat n) F.memBstat.state l.st).setFld (.memBstat n) F.memBstat.pend l.pend).setFld
    (.memBctl n) F.memBctl.en l.en

def State.setPorts (s : State) (p : Ports) : State := { s with ports := p }

/-- The background test of a bank leaves SAVE or MARCH for RESTORE, and will test the region again (spec/12
R335). -/
def State.bgtAbort (s : State) (bank : Nat) : State :=
  let st := s.fld .memBgtstat F.memBgtstat.state
  if (st = 1 ∨ st = 2) ∧ s.fld .memBgtstat F.memBgtstat.bank = bank then
    (s.setFld .memBgtstat F.memBgtstat.state 3).setInteg { s.integ with bgtAgain := true }
  else s

/-- The background test is at work on a bank. -/
def State.bgtHolds (s : State) (bank : Nat) : Bool :=
  s.fld .memBgtstat F.memBgtstat.state != 0 && s.fld .memBgtstat F.memBgtstat.bank == bank

/-- An access to slot `n` is outstanding: a buffered store of some engine, or the background test of its bank (spec/11 R291,
R305; spec/12 R335). -/
def State.slotBusy (s : State) (n : Nat) : Bool :=
  s.bgtHolds (s.fld (.memBstat n) F.memBstat.phys) ||
  allEngines.any fun e => (s.engine e).sb.any fun x => inPool (4 * x.unit) && poolSlot (4 * x.unit) == n

/-- The request of the retention handshake follows the slot's life-cycle: it rises in STOPPING once the
outstanding accesses have drained, and falls in STARTING (spec/16 R451). -/
def State.retFollow (s : State) (n : Nat) : State :=
  let b := s.fld (.memBstat n) F.memBstat.phys
  match s.fld (.memBstat n) F.memBstat.state with
  | 3 => if s.slotBusy n then s else s.setPorts { s.ports with retReq := s.ports.retReq ||| BitVec.ofNat 35 (2 ^ b) }
  | 1 => s.setPorts { s.ports with retReq := s.ports.retReq &&& ~~~BitVec.ofNat 35 (2 ^ b) }
  | _ => s

/-- A change of a slot's life-cycle with its retention request; a test of its bank goes to RESTORE when it enters STOPPING
(spec/12 R335). -/
def State.moveBank (s : State) (n : Nat) (l : Life) : State :=
  let t := s.setBankLife n l
  (if l.st = 3 then t.bgtAbort (t.fld (.memBstat n) F.memBstat.phys) else t).retFollow n

/-- An access wakes a slot with AUTO_WAKE set (spec/11 R306). -/
def State.autoWake (s : State) (n : Nat) : State :=
  let l := s.bankLife n
  let s := s.moveBank n (l.request 1)
  if l.st = 0 then s.incSat (.memBconf n) F.memBconf.wakes else s

/-- The Tarn is closed or being wiped: every access is a violation (spec/11 R294, R295; spec/15 R414,
R416). -/
def State.tarnShut (s : State) : Bool :=
  s.bit .memTarn F.memTarn.wiping || !s.bit .wellTamp F.wellTamp.level ||
  s.fld .wellStat F.wellStat.lcs == 3 || s.fld .wellStat F.wellStat.lcs == 4

/-- The Pool address of a far line (R36). -/
def State.farAddr (s : State) (e la : Nat) : Nat := s.fld (.engFarbase e) F.engFarbase.farbase * 64 + 8 * la

/-- The 4 bytes of an aligned unit out of a word. -/
def unitOf (d : BitVec 64) (a : Nat) : BitVec 32 := d.extractLsb' (8 * (a / 4 % 2 * 4)) 32

/-- The byte mask of a 4-byte unit within its word. -/
def unitMask (a : Nat) (m : BitVec 4) : BitVec 8 := if a / 4 % 2 = 0 then 0#4 ++ m else m ++ 0#4

/-- The data of a unit placed in its word. -/
def unitData (a : Nat) (d : BitVec 32) : BitVec 64 := if a / 4 % 2 = 0 then 0#32 ++ d else d ++ 0#32

/-- The owner of the slot that holds the continuity area of role `r` admits the role: it is role r or COMMON (R289, spec/14
R367). -/
def State.admitsRole (s : State) (r : Nat) : Bool :=
  let o := s.slotOwner (s.fld (.engCont r) F.engCont.cslot)
  o == r || o == 0xC

/-- The Pool address of the mirror of local RAM word `w` of engine `e`, where its role mirrors it (spec/14
R367, R369); mirror writes act as the role, and a slot that does not admit it takes none (R289). -/
def State.mirrorAddr (s : State) (e w : Nat) : Option Nat :=
  let r := s.roleOf e
  if r < 8 ∧ s.bit (.engMirror r) F.engMirror.men ∧ s.admitsRole r ∧ s.fld (.engMirror r) F.engMirror.mlo ≤ w ∧
      w ≤ s.fld (.engMirror r) F.engMirror.mhi
  then some (0x100000 + 0x20000 * s.fld (.engCont r) F.engCont.cslot + 0x8000 + 8 * w) else none

/-- The slot of a local RAM word's mirror does not answer yet: the write waits for both (spec/14 R369). -/
def State.mirrorWaits (s : State) (e w : Nat) : Bool :=
  match s.mirrorAddr e w with
  | some a => s.fld (.memBstat (poolSlot a)) F.memBstat.state != 2 || s.bit (.memBstat (poolSlot a)) F.memBstat.handover
  | none => false

/-- A write of a local RAM word, and of its mirror (spec/11 R281, spec/14 R369). -/
def State.writeLram (s : State) (e w : Nat) (mask : BitVec 8) (d : BitVec 64) : State :=
  let s' := s.writeWord (lramWord e w) mask d
  match s.mirrorAddr e w with
  | some a => match s.slotPhys (poolSlot a) (slotWord a) with
    | some k => s'.writeWord k mask d
    | none => s'
  | none => s'

/-- A write of local RAM word `w` follows one through the other port in the same tick: the two may meet in one RAM cycle
(spec/11 R282). -/
def Engine.lramNear (x : Engine) (service : Bool) (w tick : Nat) : Bool :=
  match x.lramLast with
  | some y => y.service != service && y.word == w && y.tick == tick
  | none => false

/-- A write reaches local RAM word `w` of engine `e` through one of its ports: the bytes it stores, and the state with what
the meeting counts. Where the two writes meet in one RAM cycle, every byte that both write keeps the thread port's value
(spec/11 R282). DESIGN CHOICE, assumption log 119. -/
def State.lramPort (s : State) (e : Nat) (service : Bool) (w : Nat) (mask : BitVec 8) : BitVec 8 × State :=
  let x := s.engine e
  let near := x.lramNear service w s.ticks
  let tie := near && Config.ramTie e x.lramTies
  let before := (x.lramLast.map (·.mask)).getD 0
  let s := s.modEngine e fun x => { x with lramLast := some ⟨service, w, s.ticks, mask⟩,
                                           lramTies := if near then x.lramTies + 1 else x.lramTies }
  (if tie && service then mask &&& ~~~before else mask, if tie then s.incSat (.memLrcol e) F.memLrcol.count else s)

/-- A local RAM word receives the poison code, and so does its mirror. -/
def State.poisonLram (s : State) (e w : Nat) : State :=
  let s' := s.poisonWord (lramWord e w)
  match s.mirrorAddr e w with
  | some a => match s.slotPhys (poolSlot a) (slotWord a) with
    | some k => s'.poisonWord (s'.served k)
    | none => s'
  | none => s'

/-- `f` acts on words `w` to `w + len - 1` of a slot, page by page: on the physical word, the offset from `w` and the
number of words. A removed page has no words. -/
def State.slotRange (s : State) (n w len : Nat) (f : Nat → Nat → Nat → State → State) : State :=
  (List.range 32).foldl (fun s i =>
    let a := max w (512 * i)
    let b := min (w + len) (512 * i + 512)
    if a < b then match s.slotPhys n a with
      | some k => f k (a - w) (b - a) s
      | none => s
    else s) s

/-- The configuration copy of role `r`, where it has a continuity area, is brought up to the role's registers: words whose
layout is open, from the role, the word and the tick (spec/14 R367, R368). DESIGN CHOICE, assumption log 62. -/
def State.copyRole (s : State) (r : Nat) : State :=
  if r < 8 ∧ s.bit (.engCont r) F.engCont.cen then
    s.slotRange (s.fld (.engCont r) F.engCont.cslot) 0x2800 512 fun k i c s =>
      (List.range c).foldl (fun s j => s.writeWord (k + j) 0xFF (Config.configWord r (i + j) s.ticks)) s
  else s

/-- A write of a register that the configuration copy holds reaches the copy of the engine's role (spec/14 R368, spec/04
R123). -/
def State.copyThrough (s : State) (e : Nat) : State := s.copyRole (s.roleOf e)

/-- The canonical form of memory: addresses rise strictly and no listed byte is what an unlisted one reads as.
DEDUCED, assumption log 2. -/
def Memory.wf (m : List Host.Cell) : Bool := SMap.wf m 0

end Sys2Proof.Machine
end

