-- ==== Sys2Proof/Machine/Handshake.lean ====
section
/-! DEFINITION. The power handshake (spec/16 R450) and the wake of the block (spec/18 R481, R482), as the units
that wake it call them. The power commands are in Machine/Power.lean. -/

namespace Sys2Proof.Machine

def State.setPower (s : State) (p : Power) : State := { s with power := p }

/-- The block asks the power controller for a state: at once where no handshake is in progress, else after
the present one has ended (R450). -/
def State.requestPower (s : State) (tgt : Nat) : State :=
  if s.ports.pwrReq || s.ports.pwrAck then s.setPower { s.power with next := some tgt }
  else (s.setPorts { s.ports with pwrReq := true, pwrTgt := tgt }).setFld .engPwrstat F.engPwrstat.hs 1

/-- The Tarn leaves retention where its request has been acknowledged; else when it is (spec/16 R451).
DEDUCED, assumption log 86. -/
def State.wakeTarn (s : State) : State :=
  if s.ports.retAck.getLsbD 34 then
    s.setPorts { s.ports with retReq := s.ports.retReq &&& ~~~BitVec.ofNat 35 (2 ^ 34) }
  else s

/-- Every slot with EN = 1 that SLEEP retained begins STARTING, and the Tarn leaves retention (R482). -/
def State.wakeSlots (s : State) : State :=
  let s := (List.range 32).foldl (fun s n =>
    let l := s.bankLife n
    if l.en = 1 ∧ (l.st = 0 ∨ l.st = 3) then s.moveBank n (l.request 1) else s) s
  s.wakeTarn

/-- A wake event: in SLEEP, or while SLEEP is being entered, it starts the wake sequence and is recorded
(R480 to R482); in DOZE it requests RUN (spec/10 R271). In RUN it has no effect on power. DEDUCED, assumption log 28. -/
def State.wakeBlock (s : State) (cause wch : Nat) : State :=
  let st := s.fld .engPwrstat F.engPwrstat.state
  if (st = 2 ∧ !s.power.waking) ∨ s.power.stage ≠ 0 then
    let s := s.setFld .engPwrstat F.engPwrstat.wcause cause
    let s := if cause = 1 then s.setFld .engPwrstat F.engPwrstat.wch wch else s
    let s := s.setFld .engPwr F.engPwr.sleepreq 0
    let s := s.setPower { s.power with stage := 0, waking := true }
    (s.wakeSlots).requestPower 0
  else if st = 1 then
    (if cause = 1 then s.setFld .engPwrstat F.engPwrstat.wch wch else s).requestPower 0
  else s

end Sys2Proof.Machine
end

