-- ==== Sys2Proof/Machine/Pins.lean ====
section
/-! DEFINITION. The pins: which source decides a lane's output (spec/01 R10), the pin-level limits of the weirs
(spec/07 R203, R204), and the level and enable a pin shows. -/

namespace Sys2Proof.Machine

def State.lane (s : State) (p : Nat) : Lane := SMap.get s.lanes p .init
def State.setLane (s : State) (p : Nat) (x : Lane) : State := { s with lanes := SMap.put s.lanes p x .init }
def State.modLane (s : State) (p : Nat) (f : Lane → Lane) : State := s.setLane p (f (s.lane p))

def State.core (s : State) (c : Nat) : Core := SMap.get s.cores c .init
def State.setCore (s : State) (c : Nat) (x : Core) : State := { s with cores := SMap.put s.cores c x .init }

def State.domain (s : State) (d : Nat) : Domain := SMap.get s.domains d .init
def State.setDomain (s : State) (d : Nat) (x : Domain) : State := { s with domains := SMap.put s.domains d x .init }

def State.weir (s : State) (p : Nat) : Weir := SMap.get s.weirs p .init
def State.setWeir (s : State) (p : Nat) (x : Weir) : State := { s with weirs := SMap.put s.weirs p x .init }

def State.group (s : State) (g : Nat) : Group := SMap.get s.groups g .init
def State.setGroup (s : State) (g : Nat) (x : Group) : State := { s with groups := SMap.put s.groups g x .init }

def State.inlet (s : State) (n : Nat) : Inlet := SMap.get s.inlets n .init
def State.setInlet (s : State) (n : Nat) (x : Inlet) : State := { s with inlets := SMap.put s.inlets n x .init }
def State.modInlet (s : State) (n : Nat) (f : Inlet → Inlet) : State := s.setInlet n (f (s.inlet n))

def State.setShore (s : State) (x : Shore) : State := { s with shore := x }

/-- The mode a lane's LANE_CTRL names (spec/06 R161). -/
def State.mode (s : State) (p : Nat) : Nat := s.fld (.laneCtrl p) F.laneCtrl.mode
def modeEdge : Nat := 0
def modeStream : Nat := 1
def modeCapture : Nat := 2
def modeDecimate : Nat := 3
def modeMirror : Nat := 4
def modeTimer : Nat := 5
def modeQuad : Nat := 6

/-- A lane is ON (spec/06 R163). -/
def State.laneOn (s : State) (p : Nat) : Bool := s.fld (.laneStat p) F.laneStat.state == lifeOn

/-- The domain a lane belongs to (spec/01 R15). -/
def State.laneDomain (s : State) (p : Nat) : Option Nat :=
  if s.bit (.laneCtrl p) F.laneCtrl.domv then some (s.fld (.laneCtrl p) F.laneCtrl.dom) else none

/-- Sub-states of a domain (ENG_DSTAT.SUB). -/
def subArmed : Nat := 1
def subRun : Nat := 2
def subCoast : Nat := 3
def subHold : Nat := 4
def subSafe : Nat := 5

def State.sub (s : State) (d : Nat) : Nat := s.fld (.engDstat d) F.engDstat.sub

/-- A domain is in an ON sub-state (spec/01 R17). -/
def State.domainOn (s : State) (d : Nat) : Bool := s.fld (.engDstat d) F.engDstat.state == lifeOn

/-- Trip latch of lane group `g` (spec/10 R261). -/
def State.tripped (s : State) (g : Nat) : Bool := (s.fld (.fabTrip (g / 32)) F.fabTrip.trip).testBit (g % 32)

/-- A swap of lane `p` has been accepted: nothing is dispatched to it (spec/06 R159). -/
def State.swapStop (s : State) (p : Nat) : Bool :=
  match s.shore.swap with
  | some x => x.lane == p
  | none => false

/-- The swap in progress on lane `p`: from the tick after its acceptance its core is in reset (spec/06 R159). -/
def State.swapping (s : State) (p : Nat) : Bool :=
  match s.shore.swap with
  | some x => x.lane == p && decide (x.tick < s.ticks)
  | none => false

/-- Lane `p` repeats its held period: it is ON in EDGE mode and its domain is in FAULT-HOLD with DFA = HOLD, from C on
(spec/14 R363). -/
def State.holding (s : State) (p : Nat) : Bool :=
  match s.laneDomain p with
  | none => false
  | some d => s.domainOn d && s.sub d == subHold && (s.domain d).stopped && !s.bit (.engDctl d) F.engDctl.dfa &&
      s.laneOn p && s.mode p == modeEdge

/-- The rank of spec/01 R10 that decides the pin of lane `p`; at the entry to a test mode every lane goes inert
(spec/18 R492). DEDUCED, assumption log 26. -/
def State.rank (s : State) (p : Nat) : Nat :=
  if s.inReset || s.test.isSome || s.swapping p then 1
  else if s.tripped (p / 4) then 2
  else match s.laneDomain p with
    | none => 6
    | some d =>
      if !s.domainOn d then 4
      else if s.sub d = subSafe then 3
      else if s.holding p then 5
      else 6

/-- The safe level and enable of a lane (spec/06 R161). -/
def State.safeLevel (s : State) (p : Nat) : Bool :=
  if s.bit (.laneSafe p) F.laneSafe.safeSrc then s.bit (.laneSafe p) F.laneSafe.safeOut
  else s.ports.laneSafe.getLsbD p

def State.safePattern (s : State) (p : Nat) : Bool × Bool := (s.safeLevel p, s.bit (.laneSafe p) F.laneSafe.safeOe)

/-- *Inert*: enable low, level at lane_safe (spec/01 "Paths to a pin"). -/
def State.inert (s : State) (p : Nat) : Bool × Bool := (s.ports.laneSafe.getLsbD p, false)

/-- An action of the schedule on a level and an enable (spec/06 R178). -/
def actOn (act arg : Nat) (x : Bool × Bool) : Bool × Bool :=
  match act with
  | 0 => (true, x.2)
  | 1 => (false, x.2)
  | 2 => (!x.1, x.2)
  | 3 => (arg.testBit 0, arg.testBit 1)
  | 4 => (x.1, arg.testBit 0)
  | _ => x

/-- The level and enable a held period requests at instant `t`: it repeats from its start, and entries beyond
its length are dropped (spec/14 R363). -/
def Held.at (h : Held) (t : Nat) : Bool × Bool :=
  (h.ents.filter fun e => decide (e.1 ≤ (t - h.start) % h.len ∧ e.1 < h.len)).foldl
    (fun x e => actOn e.2.1 e.2.2 x) (h.lvl, h.oe)

/-! ### What a lane's mode requests -/

/-- The tick of an entry's instant. -/
def Entry.tick (e : Entry) : Nat := e.due / 32

/-- How many more entries the core of lane `p` may execute in the present tick (spec/06 R182). -/
def State.runsLeft (s : State) (p : Nat) : Nat :=
  2 - (if (s.lane p).ranTick = s.ticks then (s.lane p).ranCount else 0)

/-- The entries the core of lane `p` executes in the present tick, in order: received in an earlier tick, their tick
come, at most two (spec/06 R182); an entry that cannot yet execute keeps those behind it waiting (R181). -/
def State.executable (s : State) (p : Nat) : List Entry :=
  if s.shoreRuns && s.laneOn p && s.mode p == modeEdge && !s.swapStop p then
    (((s.lane p).core.takeWhile fun e => decide (e.2 < s.ticks ∧ e.1.tick ≤ s.ticks)).take (s.runsLeft p)).map (·.1)
  else []

/-- The instant at which an entry executed in the present tick takes effect: its step, or the tick's first step when it
is late by one tick; a later one has no effect (spec/06 R183). -/
def State.effectAt (s : State) (e : Entry) : Option Nat :=
  if e.tick = s.ticks then some e.due else if e.tick + 1 = s.ticks then some s.now else none

/-- The level and enable an EDGE lane requests at instant `t` of the present tick: those it has, and the entries that
take effect by then, all those of one step together (spec/06 R164, R178, R181). -/
def State.edgeLevel (s : State) (p t : Nat) : Bool × Bool :=
  (s.executable p).foldl (fun x e => match s.effectAt e with
    | some u => if u ≤ t then actOn e.act e.arg x else x
    | none => x) ((s.lane p).lvl, (s.lane p).oe)

/-- The outlet exports records on lane `p` (spec/19 R505): the lane is ON in STREAM mode, transmitting, with
CDEN = 0. -/
def State.exporting (s : State) (p : Nat) : Bool :=
  let p0 := s.fld .outCtrl F.outCtrl.xlane0
  s.bit .outCtrl F.outCtrl.xen && decide (p < 256 ∧ p0 ≤ p ∧ p ≤ p0 + s.fld .outCtrl F.outCtrl.xnlm1) &&
    s.laneOn p && s.mode p == modeStream && !s.bit (.streamM0 p) F.streamM0.dir && !s.bit (.streamM0 p) F.streamM0.cden

/-- What a transmitting lane sends at a word boundary (spec/06 R169; spec/19 R505): a word of its FIFO, the outlet's
filler, the last word again, or IDLE_LVL for lack of a word. -/
inductive NextWord where
  | fifo (w : Word) | filler | again (w : Word) | idle
deriving DecidableEq, Repr

/-- DEDUCED, assumption log 47. REPLAST before any word has been sent has no last word: the lane sends IDLE_LVL and
counts it, as without REPLAST. DESIGN CHOICE, assumption log 112. -/
def State.peekWord (s : State) (p : Nat) : NextWord :=
  match (s.lane p).fifo with
  | w :: _ => .fifo w
  | [] =>
    if s.exporting p && !s.asleep then .filler
    else if s.bit (.streamM3 p) F.streamM3.replast then match (s.lane p).txWord with
      | some w => .again w
      | none => .idle
    else .idle

/-- The 16 bits of a next word. -/
def State.wordBits (s : State) (p : Nat) : NextWord → Word
  | .fifo w => w
  | .filler => 0xFFFF
  | .again w => w
  | .idle => if s.bit (.streamM0 p) F.streamM0.idleLvl then 0xFFFF else 0

/-- The bit period of a STREAM lane in steps (spec/06 R167). -/
def State.bitPeriod (s : State) (p : Nat) : Nat := 16 * (s.fld (.streamM0 p) F.streamM0.bitdiv + 1)

/-- The tick in which a STREAM lane's first bit starts (spec/06 R168): with START = 0 the tick after that of ON; with
START = 1 the first tick after it whose shore time [31:5] equals START_TIME [31:5], resolved against shore time as it
now counts (R155), unless that instant is more than 2^31 steps after ON. DEDUCED, assumption log 113. -/
def State.streamTick (s : State) (p : Nat) : Nat :=
  let on := (s.lane p).onAt
  let d := ((s.fld (.streamM1 p) F.streamM1.startTime : Int) / 32 - s.tick) % 2 ^ 27
  let d := if d = 0 ∧ s.ticks ≤ on then 2 ^ 27 else d.toNat
  if !s.bit (.streamM0 p) F.streamM0.start || decide (2 ^ 31 < 32 * (s.ticks - on + d)) then on + 1 else s.ticks + d

/-- The word on the pin of a transmitting lane at instant `t`, and its start; none before the first. -/
def State.wordAt (s : State) (p t : Nat) : Option (Word × Nat) :=
  let x := s.lane p
  if !x.started then
    if 32 * s.streamTick p ≤ t then some (s.wordBits p (s.peekWord p), 32 * s.streamTick p) else none
  else if x.txStart + 16 * s.bitPeriod p ≤ t then
    if (s.fld (.laneStat p) F.laneStat.state) = lifeOn then
      some (s.wordBits p (s.peekWord p), x.txStart + 16 * s.bitPeriod p) else none
  else x.txWord.map fun w => (w, x.txStart)

/-- The level a transmitting lane sends at instant `t`: before its first bit, and after its last, IDLE_LVL
(spec/06 R167 to R169). DESIGN CHOICE, assumption log 112. -/
def State.streamLevel (s : State) (p t : Nat) : Bool :=
  match s.wordAt p t with
  | some (w, start) =>
    let k := (t - start) / s.bitPeriod p
    w.getLsbD (if s.bit (.streamM0 p) F.streamM0.msbf then 15 - k else k)
  | none => s.bit (.streamM0 p) F.streamM0.idleLvl

/-- The level a MIRROR lane sends at instant `t`: that of its last edge that has reached the pin (spec/06 R173). -/
def Lane.mirrored (x : Lane) (t : Nat) : Bool := x.echo.foldl (fun b e => if e.1 ≤ t then e.2 else b) x.lvl

/-- The level and enable that lane `p`'s own mode requests at instant `t` of the present tick. -/
def State.wants (s : State) (p t : Nat) : Bool × Bool :=
  match s.mode p with
  | 0 => s.edgeLevel p t
  | 1 => (s.streamLevel p t, true)
  | 4 => ((s.lane p).mirrored t, s.bit (.mirrorM0 p) F.mirrorM0.oe)
  | _ => ((s.lane p).lvl, (s.lane p).oe)

/-- The level and enable that the limits process at instant `t`: those of the held period while it repeats, whatever
rank decides the pin, else those of the lane's own mode (spec/07 R203, spec/14 R363). -/
def State.request (s : State) (p t : Nat) : Bool × Bool :=
  if s.holding p then match (s.lane p).held with
    | some h => h.at t
    | none => s.wants p t
  else s.wants p t

/-! ### The pin-level limits -/

/-- The weir's pin-level limits act on a TIMER lane, and on an EDGE lane whose weir produces entries (spec/07 R188,
R203). DEDUCED, assumption log 108. -/
def State.limited (s : State) (p : Nat) : Bool :=
  s.laneOn p && (s.mode p == modeTimer || (s.mode p == modeEdge &&
    decide (1 ≤ s.fld (.weirCfg p) F.weirCfg.kind ∧ s.fld (.weirCfg p) F.weirCfg.kind ≤ 5)))

/-- MINPW of a lane in steps, and MAXON in steps (spec/07 R203). -/
def State.minpw (s : State) (p : Nat) : Nat := s.fld (.weirLimp p) F.weirLimp.minpw
def State.maxon (s : State) (p : Nat) : Nat := 32 * s.fld (.weirLimt p) F.weirLimt.maxon

/-- MINPW at instant `t`: the level passed on takes the requested level once it has held its present value for MINPW
steps; a new rise ends a cut of MAXON (spec/07 R203, orders 1 and 2). DEDUCED, assumption log 24. -/
def Lane.pass (x : Lane) (lvl : Bool) (minpw t : Nat) : Lane :=
  if lvl = x.passed ∨ t < x.passedAt + minpw then x
  else { x with passed := lvl, passedAt := t, cut := if lvl then false else x.cut }

/-- MAXON at instant `t`: a level that has been passed on as 1 for MAXON is forced to 0; 0 disables the rule. -/
def Lane.limit (x : Lane) (maxon t : Nat) : Lane :=
  if maxon ≠ 0 ∧ x.passed = true ∧ x.passedAt + maxon ≤ t then { x with cut := true } else x

/-- MINPW and MAXON of lane `p` at instant `t`. -/
def State.passLevel (s : State) (p t : Nat) : State :=
  s.modLane p fun x => (x.pass (s.request p t).1 (s.minpw p) t).limit (s.maxon p) t

/-- The level after MINPW and MAXON. -/
def Lane.limited (x : Lane) : Bool := x.passed && !x.cut

/-- The level and enable an EDGE or TIMER lane shows before INV_OUT: its limited level where limits act, with a rise
that dead time or overlap holds back at 0 (spec/07 R203). -/
def State.shown (s : State) (p t : Nat) : Bool × Bool :=
  let r := s.request p t
  (if s.limited p then (s.lane p).limited && ((s.lane p).grant || !r.2) else r.1, r.2)

/-- The output of a lane's own mode (rank 6) or its held period (rank 5) at instant `t` (spec/06 R163 to R175): a lane
that is not ON is inert; one that only observes, a receiving STREAM lane among them, shows its safe level.
DESIGN CHOICE, assumption log 112. -/
def State.modeOutput (s : State) (p t : Nat) : Bool × Bool :=
  let inv := s.bit (.laneIo p) F.laneIo.invOut
  if !s.laneOn p then s.inert p
  else match s.mode p with
    | 0 => (xor (s.shown p t).1 inv, (s.shown p t).2)
    | 5 => (xor (s.shown p t).1 inv, (s.shown p t).2)
    | 1 =>
      if s.bit (.streamM0 p) F.streamM0.dir then (s.safeLevel p, false) else (xor (s.wants p t).1 inv, true)
    | 4 => (xor (s.wants p t).1 inv, (s.wants p t).2)
    | _ => (s.safeLevel p, false)

/-- The pin of lane `p` at instant `t`: level and enable (spec/01 R10). A lane that only observes shows its safe level
whatever its held period. -/
def State.pinAt (s : State) (p t : Nat) : Bool × Bool :=
  match s.rank p with
  | 1 => s.inert p
  | 2 => s.safePattern p
  | 3 => s.safePattern p
  | 4 => s.inert p
  | 5 => if (s.lane p).held.isSome then s.modeOutput p t else s.safePattern p
  | _ => s.modeOutput p t

/-- The instant of the present tick up to which the pins have followed. -/
def State.here (s : State) : Nat := s.now + s.shore.step

/-- The pin of lane `p` now. -/
def State.pin (s : State) (p : Nat) : Bool × Bool := s.pinAt p s.here

/-- A lane is *on*: enabled, with lane_out at 1 XOR INV_OUT (spec/07 R203). -/
def State.isOn (s : State) (p : Nat) (x : Bool × Bool) : Bool := x.2 && x.1 == !s.bit (.laneIo p) F.laneIo.invOut
def State.pinIsOn (s : State) (p t : Nat) : Bool := s.isOn p (s.pinAt p t)

/-- The lane's own mode (rank 6) or its held period (rank 5) decides the pin; a lane with no held period shows its
safe pattern (spec/06 R166, spec/14 R363). -/
def State.ownDecides (s : State) (p : Nat) : Bool := s.rank p == 6 || (s.rank p == 5 && (s.lane p).held.isSome)

/-- A lane asks to be on: its limited level is 1 and its enable is set, and its own mode or held period decides. -/
def State.wantsOn (s : State) (p t : Nat) : Bool :=
  s.limited p && s.ownDecides p && (s.lane p).limited && (s.request p t).2

/-- The other lane of a pair (spec/07 R203). -/
def partner (p : Nat) : Nat := if p % 2 = 0 then p + 1 else p - 1

/-- A number put into a rising list that need not hold it yet. -/
def insertNum : List Nat → Nat → List Nat
  | [], n => [n]
  | m :: l, n => if n < m then n :: m :: l else if n = m then m :: l else m :: insertNum l n

/-- The lanes that hold anything, or whose safe pattern may be on, in ascending order. -/
def State.busyLanes (s : State) : List Nat :=
  ((s.lanes.map (·.1) ++ s.regs.filterMap fun x => arrayAt (Reg.laneSafe 0).key 0x40 256 x.1).filter
    fun p => decide (p < 256)).foldl insertNum []

/-- DEADT of the pair of lane `p`, kept by its even weir (spec/07 R203). -/
def State.deadt (s : State) (p : Nat) : Nat := s.fld (.weirLimp (p / 2 * 2)) F.weirLimp.deadt

/-- Dead time lets lane `p` turn on at instant `t`: with PAIR set and DEADT not 0, its partner has been off for DEADT
steps. DESIGN CHOICE, assumption log 20. -/
def State.deadTimeOk (s : State) (p t : Nat) : Bool :=
  if !s.bit (.weirCfg (p / 2 * 2)) F.weirCfg.pair || s.deadt p == 0 then true
  else !s.pinIsOn (partner p) t && match (s.lane (partner p)).offAt with
    | none => true
    | some o => decide (o + s.deadt p ≤ t)

/-- The overlap rule lets lane `p` turn on: no other lane of its overlap group is on. -/
def State.overlapOk (s : State) (p t : Nat) : Bool :=
  !s.bit (.weirCfg p) F.weirCfg.oven ||
  !(s.busyLanes.any fun q => q != p && s.bit (.weirCfg q) F.weirCfg.oven &&
      s.fld (.weirCfg q) F.weirCfg.ovg == s.fld (.weirCfg p) F.weirCfg.ovg && s.pinIsOn q t)

/-! ### The pins follow -/

/-- A change of the pin that starts a loopback compare: a change of lane_out or a rise of lane_oe while the
enable is 1, decided by the lane's mode or held period, in a mode that drives (spec/06 R166). -/
def State.comparable (s : State) (p : Nat) : Bool :=
  s.bit (.laneIo p) F.laneIo.loopen && s.ownDecides p && s.laneOn p &&
  (s.mode p == modeEdge || s.mode p == modeTimer || s.mode p == modeMirror ||
    (s.mode p == modeStream && !s.bit (.streamM0 p) F.streamM0.dir))

/-- SKEW of an output edge of lane `p` in steps: none where the safe pattern, the inert state or the safe level of an
observing lane shows (spec/06 R152, R161, R163). -/
def State.skew (s : State) (p : Nat) : Int :=
  if s.ownDecides p && s.laneOn p && (s.mode p == modeEdge || s.mode p == modeTimer || s.mode p == modeMirror ||
      s.mode p == modeStream && !s.bit (.streamM0 p) F.streamM0.dir) then
    (BitVec.ofNat 4 (s.fld (.laneIo p) F.laneIo.skew)).toInt
  else 0

/-- The pin of lane `p` is recorded at instant `t`: the instant of an edge at the port is `t` and SKEW; a change starts
a compare in its tick at the port; the instant the lane went off is kept. DESIGN CHOICE, assumption log 20 and 114. -/
def State.recordPin (s : State) (p t : Nat) : State :=
  let x := s.lane p
  let y := s.pinAt p t
  let at_ := (t + s.skew p).toNat
  let edge := y.1 != x.pinOut || y.2 != x.pinOe
  let starts := y.2 && (y.1 != x.pinOut || !x.pinOe) && s.comparable p
  s.setLane p { x with pinOut := y.1, pinOe := y.2, edgeAt := if edge then at_ else x.edgeAt,
                       offAt := if s.isOn p (x.pinOut, x.pinOe) && !s.isOn p y then some t else x.offAt,
                       compares := if starts then x.compares ++ [(y.1, at_ / 32)] else x.compares }

/-- A lane that no longer asks to be on loses its grant. -/
def State.releaseGrant (s : State) (p t : Nat) : State :=
  if (s.lane p).grant && !s.wantsOn p t then s.modLane p fun x => { x with grant := false } else s

/-- A lane that asks to be on takes its grant where dead time and overlap let it (spec/07 R203, R204). -/
def State.takeGrant (s : State) (p t : Nat) : State :=
  if s.wantsOn p t && !(s.lane p).grant && s.deadTimeOk p t && s.overlapOk p t
  then s.modLane p fun x => { x with grant := true } else s

/-- The pins at instant `t` of the present tick: MINPW and MAXON of every lane; then every lane that no longer asks to
be on loses its grant; then, in ascending order, lanes that ask take it where dead time and overlap let them (spec/07
R203, R204). -/
def State.settleAt (s : State) (t : Nat) : State :=
  let l := s.busyLanes
  let s := l.foldl (fun s p => if s.limited p then s.passLevel p t else s) s
  let s := l.foldl (fun s p => (s.releaseGrant p t).recordPin p t) s
  l.foldl (fun s p => (s.takeGrant p t).recordPin p t) s

/-- The pins follow a change that takes effect now. -/
def State.settle (s : State) : State := s.settleAt s.here

/-- The pins follow `n` steps further in the present tick, step by step (spec/07 R203). -/
def State.follow (s : State) : Nat → State
  | 0 => s
  | n + 1 =>
    let s := s.setShore { s.shore with step := s.shore.step + 1 }
    (s.settleAt s.here).follow n

/-- The pins follow up to instant `t` of the present tick, or stay where they are when they have passed it.
DESIGN CHOICE, assumption log 19. -/
def State.settleTo (s : State) (t : Nat) : State := s.follow (min t (s.now + 31) - s.here)

end Sys2Proof.Machine
end

