-- ==== Sys2Proof/Machine/Fabric.lean ====
section
/-! DEFINITION. The ripple fabric (spec/10): the producers and their wiring, the combined level of a channel and the
passing of its events, the five kinds of consumer, refractory time, loop windows, spare channels, and the fabric's
registers. A path of the fabric takes no time in the model; its latencies are bounds in ns (R260). DESIGN CHOICE,
assumption log 10. -/

namespace Sys2Proof.Machine

def State.channel (s : State) (c : Nat) : Channel := SMap.get s.channels c .init

def State.setChannel (s : State) (c : Nat) (x : Channel) : State :=
  { s with channels := SMap.put s.channels c x .init }

def State.modChannel (s : State) (c : Nat) (f : Channel → Channel) : State := s.setChannel c (f (s.channel c))

/-! ### Wiring -/

/-- The spare that stands in for channel `c` (R272). -/
def State.spareFor (s : State) (c : Nat) : Option Nat :=
  (List.range 8).find? fun i => s.bit (.fabSpmap i) F.fabSpmap.en && s.fld (.fabSpmap i) F.fabSpmap.tgt == c

/-- The channel whose configuration and status FAB_CH[c] and FAB_CST[c] reach (R272). -/
def State.chanOf (s : State) (c : Nat) : Nat :=
  match s.spareFor c with
  | some i => 128 + i
  | none => c

/-- The row of R256 a channel works as: a spare standing in takes its target's. -/
def State.rowOf (s : State) (c : Nat) : Nat :=
  if 128 ≤ c ∧ s.bit (.fabSpmap (c - 128)) F.fabSpmap.en then s.fld (.fabSpmap (c - 128)) F.fabSpmap.tgt else c

/-- The producer that tap `tap` of row `row` carries (R256). -/
def tapOf (row tap : Nat) : Option Producer :=
  if row < 64 then match tap with
    | 0 => some (.evin row)
    | 1 => some (.inw row)
    | 2 => some (if row = 0 then .evin 63 else if row % 8 = 0 then .echo 0 else .echo (8 * (row / 8)))
    | 3 => some (.cmb row)
    | _ => none
  else if row < 96 then match tap with
    | 0 => some (.evin (32 + (row - 64)))
    | 1 => some (.cma (row - 64))
    | 2 => some (.cmb (32 + (row - 64)))
    | 3 => some (.pos ((row - 64) % 16))
    | _ => none
  else if row < 112 then match tap with
    | 0 => some (.evin (48 + (row - 96)))
    | 1 => some (.cma (32 + (row - 96)))
    | 2 => some (.cma (48 + (row - 96)))
    | 3 => some (.pos (row - 96))
    | _ => none
  else if row < 128 then match tap with
    | 0 => some (.cma (row - 112))
    | 1 => some (.cmb (16 + (row - 112)))
    | 2 => some (.echo (8 * ((row - 112) % 8)))
    | 3 => some (.pos (row - 112))
    | _ => none
  else match tap with
    | 0 => some (.echo row)
    | 1 => some (.echo (128 + (row - 128 + 1) % 8))
    | 2 => some (.evin (8 * (row - 128) + 7))
    | 3 => some (.echo (112 + 2 * (row - 128)))
    | _ => none

/-- The channels of the fabric: CH0 to CH127 and the eight spares. -/
def allChannels : List Nat := List.range 136

/-- A channel that a stand-in has replaced takes no events (R272). -/
def State.connected (s : State) (c : Nat) : Bool := decide (c < 136) && !s.bit (.fabCst c) F.fabCst.replaced

/-- Channel `c` has an enabled tap that carries producer `x`. -/
def State.hears (s : State) (c : Nat) (x : Producer) : Bool :=
  (List.range 4).any fun t => (s.fld (.fabCh c) F.fabCh.tapen).testBit t && decide (tapOf (s.rowOf c) t = some x)

/-! ### The combined level (R255, R257, R258) -/

/-- The chain base of counter `n`: the nearest counter at or below it in its group of four without CHAIN
(spec/08 R216). -/
def State.chainBase (s : State) (n : Nat) : Nat :=
  let free := fun m => m % 4 == 0 || !s.bit (.cntCtrl m) F.cntCtrl.chain
  if free n then n else if free (n - 1) then n - 1 else if free (n - 2) then n - 2 else n - 3

/-- A counter's STATE is that of its chain base (spec/08 R216). -/
def State.cntState (s : State) (n : Nat) : Nat := s.fld (.cntStat (s.chainBase n)) F.cntStat.state

/-- The gate level of the channel with row `row` (R258). -/
def State.gateLevel (s : State) (gsel row : Nat) : Bool :=
  match gsel with
  | 0 => true
  | 1 => s.ports.laneIn.getLsbD ((2 * row + 1) % 256)
  | 2 =>
    let n := row % 64
    let v := s.fld (.cntCount n) F.cntCount.count
    s.cntState n == lifeOn && decide (s.fld (.cntCmpa n) F.cntCmpa.cmp ≤ v) &&
      decide (v < s.fld (.cntCmpb n) F.cntCmpb.cmp)
  | _ =>
    if row < 64 then s.bit (.laneCtrl (4 * row)) F.laneCtrl.domv && s.domainOn (s.fld (.laneCtrl (4 * row)) F.laneCtrl.dom)
    else s.domainOn (row % 8)

/-- The gate of channel `c` is open: gate level XOR GPOL (R255). -/
def State.gateOpen (s : State) (c : Nat) : Bool :=
  xor (s.gateLevel (s.fld (.fabCh c) F.fabCh.gsel) (s.rowOf c)) (s.bit (.fabCh c) F.fabCh.gpol)

/-- EVIN j: the level of evin[j] after its polarity (R257). -/
def State.evinLevel (s : State) (j : Nat) : Bool :=
  xor (s.ports.evin.getLsbD j) ((s.fld (.fabEvpol (j / 32)) F.fabEvpol.pol).testBit (j % 32))

/-- The signal of a producer between its pulses: only event inputs have a level (R257). -/
def State.steady (s : State) : Option Producer → Bool
  | some (.evin j) => s.evinLevel j
  | _ => false

/-- The combined level of channel `c` (R255); the pulses of the other producers have no length here. -/
def State.combined (s : State) (c : Nat) : Bool :=
  s.connected c && s.gateOpen c &&
    (List.range 4).any fun t => (s.fld (.fabCh c) F.fabCh.tapen).testBit t && s.steady (tapOf (s.rowOf c) t)

/-! ### Consumers -/

/-- The effect and the target of counter-bank function `j`, where another channel can name the same: GO has one
target, START and SNAP a group, RESET a counter; COUNT acts on the channel's own counters (spec/08 R227). -/
def State.bankEffect (s : State) (j : Nat) : Option (Nat × Nat) :=
  let tgt := s.fld (.cntFabfn j) F.cntFabfn.tgt
  match s.fld (.cntFabfn j) F.cntFabfn.func with
  | 1 => some (1, 0)
  | 2 => some (2, tgt % 16)
  | 4 => some (4, tgt)
  | 5 => some (5, tgt % 16)
  | _ => none

/-- The row of a counter-bank channel. -/
def bankRow (row : Nat) : Bool := decide (96 ≤ row ∧ row < 112)

/-- The consumer a channel shares with another: a stand-in with its target until ACTIVE, and counter-bank
channels that have the same effect on the same target (R264, R266). -/
def State.sharesConsumer (s : State) (c c' : Nat) : Bool :=
  let r := s.rowOf c
  let r' := s.rowOf c'
  c != c' && (r == r' || (bankRow r && bankRow r' &&
    (s.bankEffect (r - 96)).isSome && s.bankEffect (r - 96) == s.bankEffect (r' - 96)))

/-- An event of another channel has reached the same consumer input within 1 tick of instant `t`, for the counter bank
in the same tick (R266); no instants are counted while the shore is stopped. DEDUCED, assumption log 115. -/
def State.coincides (s : State) (c t : Nat) : Option Nat :=
  if !s.shoreRuns then none
  else allChannels.find? fun c' => s.sharesConsumer c c' && match (s.channel c').passAt with
    | some u => if bankRow (s.rowOf c) then u / 32 == t / 32 else decide (t < u + 32)
    | none => false

/-- A consumer overrun: OVR is set and OVRCNT advances (R261, R263 to R265). -/
def State.overrun (s : State) (c : Nat) : State :=
  (s.incSat (.fabCst c) F.fabCst.ovrcnt).setFld (.fabCst c) F.fabCst.ovr 1

def State.setTrip (s : State) (g : Nat) : State :=
  s.wr (.fabTrip (g / 32)) (s.rd (.fabTrip (g / 32)) ||| BitVec.ofNat 32 (2 ^ (g % 32)))

/-- An event output pin. -/
def State.setEvout (s : State) (m : Nat) (v : Bool) : State :=
  s.setPorts { s.ports with evout := if v then s.ports.evout ||| BitVec.ofNat 16 (2 ^ m)
                                     else s.ports.evout &&& ~~~BitVec.ofNat 16 (2 ^ m) }

/-- Channel `c` is an event output in LEVEL mode (R265). -/
def State.levelOut (s : State) (c : Nat) : Option Nat :=
  let row := s.rowOf c
  if 112 ≤ row ∧ row < 128 ∧ s.fld (.fabCh c) F.fabCh.omode = 2 then some (row - 112) else none

/-- The trip consumer of row `row` (R261). -/
def State.consumeTrip (s : State) (c row : Nat) : State :=
  if s.tripped row then s.overrun c else ((s.setTrip row).alarm 0x0B (BitVec.ofNat 32 row)).settle

/-- The wake consumer of row `row` (R263): WPEND holds the event; it overruns while WPEND is set, or WAKEj is set in the
watch thread. -/
def State.consumeWake (s : State) (c row : Nat) : State :=
  let i := row - 64
  let watch := s.fld (.fabCh c) F.fabCh.arg % 32
  let set := match s.engineOf (i / 4) with
    | some e => (s.thread e watch).evt.getLsbD (i % 4)
    | none => false
  let s := if (s.channel c).wpend || set then s.overrun c else s
  s.modChannel c fun x => { x with wpend := true }

/-- The counter-bank consumer (R264, R270): the event is sampled in the present tick; while the shore is stopped one is
held, and each further one overruns. -/
def State.consumeBank (s : State) (c : Nat) : State :=
  if !s.shoreRuns && !(s.channel c).fnHeld.isEmpty then s.overrun c
  else s.modChannel c fun x => { x with fnHeld := x.fnHeld ++ [s.ticks] }

/-- The event-output consumer of row `row` (R265): a pulse lasts ARG + 1 ticks from the tick of its event. -/
def State.consumeEvout (s : State) (c row : Nat) : State :=
  let m := row - 112
  match s.fld (.fabCh c) F.fabCh.omode with
  | 1 => s.setEvout m (!s.ports.evout.getLsbD m)
  | 2 => s
  | _ =>
    if s.ports.evout.getLsbD m then s.overrun c
    else (s.setEvout m true).modChannel c fun x => { x with pulseEnd := s.ticks + s.fld (.fabCh c) F.fabCh.arg + 1 }

/-- The consumer of channel `c` acts on an event at instant `t` (R261, R263 to R265, R267). -/
def State.consume (s : State) (c t : Nat) : State :=
  let row := s.rowOf c
  if row < 64 then s.consumeTrip c row
  else if row < 96 then s.consumeWake c row
  else if row < 112 then s.consumeBank c
  else if row < 128 then s.consumeEvout c row
  else if s.shoreRuns then s.setFld (.fabSplat (row - 128)) F.fabSplat.time (s.timeAt t).toNat
  else s

/-! ### The passing of events -/

/-- Channel `c` passes an event to its consumer at instant `t`; an event that meets another at the consumer's input
acts once (R255, R266, R271). -/
def State.passEvent (s : State) (c t : Nat) : State :=
  let s := s.incWrap (.fabCst c) F.fabCst.passcnt
  let s := s.trace 3 c { word0 := s.timeAt t, word1 := recWord [(60, 6), (40, c)] }
  let s := if s.bit (.fabCh c) F.fabCh.wakeEn then s.wakeBlock 1 c else s
  let s := match s.coincides c t with
    | some c' => (s.setFld (.fabCst c) F.fabCst.coinc 1).setFld (.fabCst c') F.fabCst.coinc 1
    | none => s.consume c t
  s.modChannel c fun x => { x with refr := true, edge := false, passAt := some t }

/-- The number of the present loop window: 800 ticks each while the shore runs (R269). -/
def State.windowNo (s : State) : Nat := s.ticks / 800

/-- An event of channel `c` enters the count of its window; the answer is the count. -/
def State.countLoop (s : State) (c : Nat) : State × Nat :=
  let x := s.channel c
  let n := if x.winNo = s.windowNo then x.window + 1 else 1
  (s.setChannel c { x with window := n, winNo := s.windowNo }, n)

/-- The loop watch of R269, then the pass at instant `t`; whether the event passed. The 65th event of a window sets RING,
and stops the channel where RING_STOP is set; a channel that has RING set when RING_STOP is set stops at its next event.
DEDUCED, assumption log 109. -/
def State.loopPass (s : State) (c t : Nat) : State × Bool :=
  if !s.bit (.fabCh c) F.fabCh.lsus then (s.passEvent c t, true)
  else if s.bit (.fabCh c) F.fabCh.ringStop && s.bit (.fabCst c) F.fabCst.ring then
    (s.setFld (.fabCst c) F.fabCst.disabled 1, false)
  else
    let x := s.countLoop c
    if x.2 = 65 then
      let s := (x.1.setFld (.fabCst c) F.fabCst.ring 1).alarm 0x0C (BitVec.ofNat 32 c)
      if s.bit (.fabCh c) F.fabCh.ringStop then (s.setFld (.fabCst c) F.fabCst.disabled 1, false)
      else (s.passEvent c t, true)
    else (x.1.passEvent c t, true)

/-- Channel `c` is stopped by RING_STOP; a channel without LSUS never is (R269). -/
def State.stopped (s : State) (c : Nat) : Bool := s.bit (.fabCst c) F.fabCst.disabled && s.bit (.fabCh c) F.fabCh.lsus

/-- A rising edge or an injection reaches channel `c` at instant `t`; whether the channel passed it: a stopped channel
passes nothing; in refractory time one event is kept for its end and every further edge is lost and sets MERGE (R268,
R269). -/
def State.edge (s : State) (c t : Nat) : State × Bool :=
  if s.stopped c then (s, false)
  else if (s.channel c).refr then
    if (s.channel c).edge then (s.setFld (.fabCst c) F.fabCst.merge 1, false)
    else (s.modChannel c fun x => { x with edge := true }, false)
  else s.loopPass c t

/-- The refractory time of channel `c`, two ticks (2.5 ns), has ended by instant `t` (R268); while the shore is stopped it
is not counted in steps. -/
def State.refrOver (s : State) (c t : Nat) : Bool :=
  (s.channel c).refr && s.shoreRuns && match (s.channel c).passAt with
    | some u => decide (u + 64 ≤ t)
    | none => true

/-- The channels that an event of producer `x` gives a rising edge: those that hear it, with an open gate and a combined
level that is low (R255). -/
def State.listeners (s : State) (x : Producer) : List Nat :=
  allChannels.filter fun c => s.connected c && s.hears c x && s.gateOpen c && !(s.channel c).high

/-- Edges reach the channels `cs` at instant `t`; the channels that passed an event. -/
def State.hit (s : State) (t : Nat) (cs : List Nat) : State × List Nat :=
  cs.foldl (fun x c => let y := x.1.edge c t; (y.1, if y.2 then x.2 ++ [c] else x.2)) (s, [])

/-- Edges reach the channels `cs` at instant `t`, and the echoes of the events they pass go on from channel to channel
(R256, R257); a channel passes at most one event at an instant, so that `n` rounds are enough. -/
def State.ripple (s : State) (t : Nat) : Nat → List Nat → State
  | 0, _ => s
  | _ + 1, [] => s
  | n + 1, cs =>
    let x := s.hit t cs
    x.1.ripple t n ((x.2.flatMap fun c => x.1.listeners (.echo c)).foldl insertNum [])

/-- Channel `c`'s refractory time ends at instant `t`: an edge kept in it passes (R268). A replaced channel has been
disconnected and passes nothing (R272). -/
def State.endRefractory (s : State) (c t : Nat) : State :=
  let e := (s.channel c).edge && s.connected c
  let s := s.modChannel c fun x => { x with refr := false, edge := false }
  if e then s.ripple t 137 [c] else s

/-- The refractory times that have ended by instant `t`. -/
def State.endRefractories (s : State) (t : Nat) : State :=
  (s.channels.map (·.1)).foldl (fun s c => if s.refrOver c t then
    s.endRefractory c (((s.channel c).passAt.getD s.now) + 64) else s) s

/-- Edges reach channels at instant `t`, after the refractory times that have ended by then. -/
def State.edges (s : State) (t : Nat) (f : State → List Nat) : State :=
  let s := s.endRefractories t
  s.ripple t 137 (f s)

/-- An event of producer `x` at instant `t` (R256, R257). -/
def State.fire (s : State) (x : Producer) (t : Nat) : State := s.edges t fun s => s.listeners x

/-- The combined level of channel `c` as it now is: a rise is an edge, and an event output in LEVEL mode follows (R255,
R265). The answer is whether it rose. -/
def State.seeLevel (s : State) (c : Nat) : State × Bool :=
  let v := s.combined c
  let s := match s.levelOut c with
    | some m => s.setEvout m v
    | none => s
  (s.modChannel c fun x => { x with high := v }, v && !(s.channel c).high)

/-- The event output that channel `c` holds high in LEVEL mode. -/
def State.holdsOut (s : State) (c : Nat) : Bool :=
  match s.levelOut c with
  | some m => s.ports.evout.getLsbD m
  | none => false

/-- The channels whose combined level, or level output, can differ from what it was: those with enabled taps, or high. -/
def State.liveChannels (s : State) : List Nat :=
  allChannels.filter fun c => s.fld (.fabCh c) F.fabCh.tapen != 0 || (s.channel c).high || s.holdsOut c

/-- Every combined level is looked at, at instant `t`: rises pass events (R255). -/
def State.scanFabric (s : State) (t : Nat) : State :=
  let s := s.endRefractories t
  let x := s.liveChannels.foldl (fun x c => let y := x.1.seeLevel c; (y.1, if y.2 then x.2 ++ [c] else x.2)) (s, [])
  x.1.ripple t 137 x.2

/-- evin[j] takes the level that EVIN j has as `v` (R257). -/
def State.setEvin (s : State) (j : Nat) (v : Bool) : State :=
  s.setPorts { s.ports with evin := if xor v ((s.fld (.fabEvpol (j / 32)) F.fabEvpol.pol).testBit (j % 32))
                                    then s.ports.evin ||| BitVec.ofNat 64 (2 ^ j)
                                    else s.ports.evin &&& ~~~BitVec.ofNat 64 (2 ^ j) }

/-- The event input a tap carries, where it carries one (R256). -/
def tapEvin (row tap : Nat) : Option Nat :=
  match tapOf row tap with
  | some (.evin j) => some j
  | _ => none

/-- The instant of step `step` of the present tick; while the shore is stopped time does not count. -/
def State.stepAt (s : State) (step : Nat) : Nat := if s.shoreRuns then s.now + step else s.here

/-! ### Commands -/

/-- CHANNEL_EVENT (R255, R257): the event input on tap `tap` of channel `c` rises. Every channel wired to that input sees
it. The other producers fire by themselves. DESIGN CHOICE, assumption log 10. -/
def execChannelEvent (c tap : Nat) (pulse : Pulse) (s : State) : Host.Outcome State Fault Refusal :=
  match tapEvin (s.rowOf c) tap with
  | none => s.run false id
  | some j => s.run (s.connected c && decide (pulse.step < 32) && !s.evinLevel j) fun s =>
    let s := (s.settleTo (s.stepAt pulse.step)).setEvin j true
    let s := s.scanFabric (s.stepAt pulse.step)
    if pulse.held then s else (s.setEvin j false).scanFabric (s.stepAt pulse.step)

/-- CHANNEL_LEVEL_FALL (R257, R265): the event input on tap `tap` of channel `c` falls. DESIGN CHOICE, assumption
log 10. -/
def execChannelLevelFall (x : ChannelTap) (s : State) : Host.Outcome State Fault Refusal :=
  match tapEvin (s.rowOf x.channel) x.tap with
  | none => s.run false id
  | some j => s.run (s.connected x.channel && s.evinLevel j) fun s => (s.setEvin j false).scanFabric s.here

/-- The engine that accepts wake events for role `r`: it holds the role ON, and no takeover, planned swap or SLEEP keeps
it from accepting (R263). -/
def State.wakeAccepts (s : State) (r : Nat) : Option Nat :=
  if s.takingOver r || (s.bit .engFstat F.engFstat.swap && s.cont.rollRole == r) || s.asleep then none else s.engineOn r

/-- WAKE_DELIVERY (R263): an engine that accepts events for the role sets WAKEj in every thread of it. -/
def execWakeDelivery (c : Nat) (s : State) : Host.Outcome State Fault Refusal :=
  let i := s.rowOf c - 64
  match s.wakeAccepts (i / 4) with
  | none => s.run false id
  | some e =>
    s.run (decide (c < 136 ∧ 64 ≤ s.rowOf c ∧ s.rowOf c < 96) && (s.channel c).wpend) fun s =>
      allThreads.foldl (fun s t => s.setEvt e t (evtBit (i % 4))) (s.modChannel c fun x => { x with wpend := false })

/-- A pulse on evout[m] is to end: its ticks have passed, or the shore is stopped and a delay line times it (R265). -/
def State.pulseOver (s : State) (m : Nat) : Bool :=
  let c := s.chanOf (112 + m)
  let om := s.fld (.fabCh c) F.fabCh.omode
  (om == 0 || om == 3) && s.ports.evout.getLsbD m && (!s.shoreRuns || decide (max (s.channel c).pulseEnd (s.channel (112 + m)).pulseEnd ≤ s.ticks))

/-- EVOUT_PULSE_END (R265). -/
def execEvoutPulseEnd (m : Nat) (s : State) : Host.Outcome State Fault Refusal :=
  s.run (decide (m < 16) && s.pulseOver m) fun s => s.setEvout m false

/-- REFRACTORY_END (R268): while the shore runs, in the tick in which the 2.5 ns end. -/
def execRefractoryEnd (c : Nat) (s : State) : Host.Outcome State Fault Refusal :=
  s.run (decide (c < 136) && (s.channel c).refr && (!s.shoreRuns || s.refrOver c (s.now + 31))) fun s =>
    s.endRefractory c (if s.shoreRuns then ((s.channel c).passAt.getD s.now) + 64 else s.here)

/-- LOOP_WINDOW_END (R269): a window of 800 ticks has ended, or while the shore is stopped one of the internal
oscillator. -/
def execLoopWindowEnd (c : Nat) (s : State) : Host.Outcome State Fault Refusal :=
  s.run (decide (c < 136) && (!s.shoreRuns || (s.channel c).winNo != s.windowNo)) fun s =>
    s.modChannel c fun x => { x with window := 0, winNo := s.windowNo }

/-! ### Registers -/

/-- FAB_FIRE (R259): while the shore runs, one event is injected past taps and gate at the start of the next tick.
DEDUCED, assumption log 16. -/
def writeFabFire (s : State) (w : Wr) : State × Bool :=
  let c := w.bits F.fabFire.ch
  if w.full F.fabFire.ch && decide (c < 136) && s.shoreRuns then (s.later (.inject c), false) else (s, false)

/-- FAB_FIRE (R259). -/
def execFabFire (w : Who) (d : BitVec 32) (strb : BitVec 4) (s : State) : Host.Outcome State Fault Refusal :=
  let x : Wr := ⟨w, (Reg.fabFire).key, d, strb⟩
  s.run true fun s => s.access x .fabFire fun s => writeFabFire s x

/-- FAB_TRIP0, FAB_TRIP1 (R262): a release asked for acts at the start of the next tick. Releases are not accepted while
the shore is stopped (R270). DEDUCED, assumption log 16. -/
def writeFabTrip (s : State) (w : Wr) (k : Nat) : State × Bool :=
  if !s.shoreRuns then (s, false)
  else ((List.range 32).foldl (fun s i =>
    if (w.bits F.fabTrip.trip).testBit i && s.tripped (32 * k + i) then s.later (.release (32 * k + i)) else s) s, false)

/-- TRIP_RELEASE (R262). -/
def execTripRelease (w : Who) (k : Nat) (d : BitVec 32) (strb : BitVec 4) (s : State) :
    Host.Outcome State Fault Refusal :=
  let x : Wr := ⟨w, (Reg.fabTrip k).key, d, strb⟩
  s.run (decide (k < 2)) fun s => s.access x (.fabTrip k) fun s => writeFabTrip s x k

/-- A release of group `g` acts: the trip clears while its channel's combined level is low; else RELREF is set (R262). -/
def State.releaseTrip (s : State) (g : Nat) : State :=
  let c := s.chanOf g
  if s.combined c then s.setFld (.fabCst c) F.fabCst.relref 1
  else (s.wr (.fabTrip (g / 32)) (s.rd (.fabTrip (g / 32)) &&& ~~~BitVec.ofNat 32 (2 ^ (g % 32)))).settle

/-- An injection acts at the start of a tick (R259). -/
def State.injectEvent (s : State) (c : Nat) : State := s.edges s.now fun s => [s.chanOf c]

/-- FAB_CH (R255, R273): every field takes the write; a combined level that it makes rise passes an event. -/
def writeFabCh (s : State) (w : Wr) (c₀ : Nat) : State × Bool :=
  let c := s.chanOf c₀
  ((s.takeAll w (.fabCh c) (Reg.fabCh c).fields).scanFabric s.here, false)

/-- FAB_CH_WRITE (R273). -/
def execFabChWrite (w : Who) (c : Nat) (d : BitVec 32) (strb : BitVec 4) (s : State) :
    Host.Outcome State Fault Refusal :=
  let x : Wr := ⟨w, (Reg.fabCh c).key, d, strb⟩
  s.run (decide (c < 136)) fun s => s.access x (.fabCh c) fun s => writeFabCh s x c

/-- FAB_EVPOL0, FAB_EVPOL1 (R257): a polarity that makes a combined level rise passes an event. -/
def writeFabEvpol (s : State) (w : Wr) (k : Nat) : State × Bool :=
  ((s.takeAll w (.fabEvpol k) (Reg.fabEvpol k).fields).scanFabric s.here, false)

/-- FAB_CST: W1C; clearing OVR clears OVRCNT, clearing RING re-enables the channel (R269, R277). -/
def writeFabCst (s : State) (w : Wr) (c₀ : Nat) : State × Bool :=
  let c := s.chanOf c₀
  let s := s.takeAll w (.fabCst c) (Reg.fabCst c).fields
  let s := if w.bits F.fabCst.ovr = 1 then s.setFld (.fabCst c) F.fabCst.ovrcnt 0 else s
  (if w.bits F.fabCst.ring = 1 then s.setFld (.fabCst c) F.fabCst.disabled 0 else s, false)

/-- FAB_SPMAP (R272): a spare takes its target's configuration, or the write is ignored and counted; its combined
level starts as the target's. -/
def writeFabSpmap (s : State) (w : Wr) (i : Nat) : State × Bool :=
  let r := Reg.fabSpmap i
  let t := s.takeAll w r r.fields
  if t.rd r = s.rd r then (s, false)
  else if s.bit r F.fabSpmap.en then (s, true)
  else if t.bit r F.fabSpmap.en then
    let c := t.fld r F.fabSpmap.tgt
    if !s.shoreRuns || (s.spareFor c).isSome then (s, true)
    else ((t.wr (.fabCh (128 + i)) (t.rd (.fabCh c))).modChannel (128 + i) fun x =>
      { x with standAt := s.ticks, high := (s.channel c).high }, false)
  else (t, false)

/-- SPARE_STAND_IN (R272). -/
def execSpareStandIn (w : Who) (n : Nat) (d : BitVec 32) (strb : BitVec 4) (s : State) :
    Host.Outcome State Fault Refusal :=
  let x : Wr := ⟨w, (Reg.fabSpmap n).key, d, strb⟩
  s.run (decide (n < 8)) fun s => s.access x (.fabSpmap n) fun s => writeFabSpmap s x n

/-- Tick a + 17 of spare `n`'s stand-in has come (R272). -/
def State.standInDue (s : State) (n : Nat) : Bool :=
  s.shoreRuns && s.bit (.fabSpmap n) F.fabSpmap.en && !s.bit (.fabSpmap n) F.fabSpmap.active &&
    decide ((s.channel (128 + n)).standAt + 17 ≤ s.ticks)

/-- The replaced channel is disconnected (R272). -/
def State.standInDone (s : State) (n : Nat) : State :=
  (s.setFld (.fabSpmap n) F.fabSpmap.active 1).setFld (.fabCst (s.fld (.fabSpmap n) F.fabSpmap.tgt)) F.fabCst.replaced 1

/-- STAND_IN_COMPLETE (R272). -/
def execStandInComplete (n : Nat) (s : State) : Host.Outcome State Fault Refusal :=
  s.run (decide (n < 8) && s.standInDue n) fun s => s.standInDone n

/-- What the fabric does by itself in a tick: refractory times, evout pulses and stand-ins end. -/
def State.fabricTick (s : State) : State :=
  let s := s.endRefractories (s.now + 31)
  let s := (List.range 16).foldl (fun s m => if s.pulseOver m then s.setEvout m false else s) s
  (List.range 8).foldl (fun s n => if s.standInDue n then s.standInDone n else s) s

/-- FAB_CST[c] as read: that of the channel that serves `c`, with LEVEL its combined level now and REPLACED of `c`
itself (R272, R277). -/
def State.readFabCst (s : State) (c : Nat) : BitVec 32 :=
  F.fabCst.level.put (s.rd (.fabCst (s.chanOf c))) (if s.combined (s.chanOf c) then 1 else 0) |||
    (s.rd (.fabCst c) &&& F.fabCst.replaced.mask)

/-- FAB_CH[c] as read: that of the channel that serves `c` (R272). -/
def State.readFabCh (s : State) (c : Nat) : BitVec 32 := s.rd (.fabCh (s.chanOf c))

/-- FAB_SUM (R277). -/
def State.fabSummary (s : State) : BitVec 32 :=
  let any := fun f => (List.range 136).any fun c => s.bit (.fabCst c) f
  F.fabSum.ringany.put (F.fabSum.ovrany.put (F.fabSum.coincany.put (F.fabSum.tripany.put 0
    (if s.rd (.fabTrip 0) ≠ 0 ∨ s.rd (.fabTrip 1) ≠ 0 then 1 else 0))
    (if any F.fabCst.coinc then 1 else 0)) (if any F.fabCst.ovr then 1 else 0)) (if any F.fabCst.ring then 1 else 0)

/-- FAB_EVIN (R257): the levels after polarity. -/
def State.readFabEvin (s : State) (i : Nat) : BitVec 32 := s.ports.evin.extractLsb' (32 * i) 32 ^^^ s.rd (.fabEvpol i)

end Sys2Proof.Machine
end

