-- ==== Sys2Proof/Machine/Lanes.lean ====
section
/-! DEFINITION. Shore time, lane cores and the edge schedule (spec/06): the commands of the shore, the lane
life-cycle, the lane modes, and the registers of the lanes window. The decimator's bits are in
Machine/Inlets.lean, the loopback compare in Machine/Faults.lean. -/

namespace Sys2Proof.Machine

/-! ### Shore time -/

/-- HOLDOVER_ENTRY (R147). -/
def execHoldoverEntry (s : State) : Host.Outcome State Fault Refusal :=
  s.run (s.shoreRuns && s.bit .laneShstat F.laneShstat.lock) fun s =>
    let s := s.setFld .laneShstat F.laneShstat.holdover 1
    let s := s.setFld .laneShstat F.laneShstat.lock 0
    (s.setFld .laneShstat F.laneShstat.locklost 1).alarm 0x08 0

/-- MULTIPLIER_RELOCK (R147). -/
def execMultiplierRelock (s : State) : Host.Outcome State Fault Refusal :=
  s.run (s.bit .laneShstat F.laneShstat.holdover) fun s =>
    (s.setFld .laneShstat F.laneShstat.holdover 0).setFld .laneShstat F.laneShstat.lock 1

/-- PPS_EDGE (R153, R154, R444): a tsync_pps edge at step `step` of the present tick, `load` the level of
tsync_load. A load edge clears ARM (R156); one before the previous load has been applied is only timestamped.
DEDUCED, assumption log 25. -/
def execPpsEdge (step : Nat) (load : Bool) (s : State) : Host.Outcome State Fault Refusal :=
  s.run (decide (step < 32) && s.shoreRuns) fun s =>
    let t : Time := s.tickTime + BitVec.ofNat 64 step
    let isLoad := (load || s.bit .laneSync F.laneSync.arm) && s.shore.load.isNone
    let s := s.wr .lanePpscap (BitVec.ofNat 32 t.toNat)
    let s := s.setFld .laneSync F.laneSync.ppsseen 1
    let s := s.setShore { s.shore with pps := t }
    let s := if isLoad then s.setFld .laneSync F.laneSync.arm 0 else s
    let x : SyncLoad := ⟨s.rd .laneNexthi ++ (s.rd .laneNextlo &&& 0xFFFFFFE0), step, s.ticks⟩
    if isLoad then s.setShore { s.shore with load := some x } else s

/-- Every domain is DISARMED (R155). -/
def State.allDisarmed (s : State) : Bool := (List.range 8).all fun d => s.fld (.engDstat d) F.engDstat.state == 0

/-- The fourth tick after the tick of a load edge has come (R154). -/
def State.loadDue (s : State) : Bool :=
  s.shoreRuns && match s.shore.load with
    | some x => decide (x.tick + 4 ≤ s.ticks)
    | none => false

/-- A load is applied or refused (R154, R155, R509): only shore time changes; everything that counts elapsed time goes on.
DEDUCED, assumption log 25. -/
def State.applyLoad (s : State) (x : SyncLoad) : State :=
  let s := s.setShore { s.shore with load := none }
  if s.allDisarmed then
    let ref := if x.step < 16 then 4 else 3
    let edge : Time := if x.step < 16 then x.next + BitVec.ofNat 64 x.step else x.next - BitVec.ofNat 64 (32 - x.step)
    let s := { s with time := x.next + BitVec.ofNat 64 (32 * ref) }
    let s := s.setFld .laneSync F.laneSync.res x.step
    let s := s.setFld .laneSync F.laneSync.loaded 1
    let s := s.wr .lanePpscap (BitVec.ofNat 32 edge.toNat)
    s.setShore { s.shore with pps := edge }
  else s.setFld .laneSync F.laneSync.refused 1

/-- SYNC_LOAD_APPLY (R154, R155): the load is applied at the start of the fourth tick after the edge's tick, or
refused while some domain is not DISARMED. -/
def execSyncLoadApply (s : State) : Host.Outcome State Fault Refusal :=
  match s.shore.load with
  | none => s.run false id
  | some x => s.run s.loadDue fun s => s.applyLoad x

/-! ### Calibration -/

/-- The core that serves lane `p` (R157). -/
def State.coreOf (s : State) (p : Nat) : Nat := s.fld (.laneXbar p) F.laneXbar.core

/-- A line of a pair is the one in service (R150): `second` names the pairs whose odd line serves. -/
def Core.inService (x : Core) (line : Nat) : Bool := x.second.getLsbD (line / 2) == (line % 2 == 1)

/-- The calibrator measures `taps` on delay line `line` of core `core`: a span of 36 to 120 taps is held for the exchange;
any other is a failure, whose third in a row sets CALFAIL, and leaves nothing to exchange (R150, R151). -/
def State.calibrate (s : State) (core line taps : Nat) : State :=
  let x := s.core core
  if 36 ≤ taps ∧ taps ≤ 120 then
    let s := s.setCore core { x with fails := SMap.put x.fails line 0 0, spans := SMap.put x.spans line taps 0,
                                     done := x.done ||| BitVec.ofNat 4 (2 ^ line) }
    let s := s.incWrap (.laneCal core) F.laneCal.calcnt
    if (List.range 264).all fun c => (s.core c).done == 15 then s.setFld .laneShstat F.laneShstat.caldone 1 else s
  else
    let n := SMap.get x.fails line 0 + 1
    let s := s.setCore core { x with fails := SMap.put x.fails line n 0, spans := SMap.put x.spans line 0 0,
                                     calfail := x.calfail || decide (3 ≤ n) }
    if n = 3 then (s.setFld .laneShstat F.laneShstat.calfailany 1).alarm 0x09 (BitVec.ofNat 32 core) else s

/-- DELAY_LINE_CALIBRATION (R150, R151): the calibrator measures `taps` on a line that is not in service: 0 and 1 are
output lines, 2 and 3 input lines. DEDUCED, assumption log 21. -/
def execDelayLineCalibration (core line taps : Nat) (s : State) : Host.Outcome State Fault Refusal :=
  s.run (decide (core < 264 ∧ line < 4) && s.shoreRuns && !(s.core core).inService line) fun s => s.calibrate core line taps

/-- The pin lane that core `c` serves. -/
def State.laneOfCore (s : State) (c : Nat) : Option Nat := (List.range 256).find? fun p => s.coreOf p == c

/-- Lane `p` has no output action in the present tick or the next, as far as they are settled, and no input edge has come
in this tick (R150). DEDUCED, assumption log 21. -/
def State.quietLane (s : State) (p : Nat) : Bool :=
  let x := s.lane p
  let soon := fun t => decide (t < s.now + 64)
  !(x.queue ++ x.core.map (·.1)).any (fun e => soon e.due) && !x.echo.any (fun e => soon e.1) && x.next.isNone &&
    x.txWord.isNone && decide (x.edgeAt < s.now ∨ s.ticks = 0) && x.inTick != s.ticks + 1

/-- CALIBRATION_EXCHANGE (R150): the calibrated line replaces the line in service, at a tick boundary at which the lane is
quiet. -/
def execCalibrationExchange (core line : Nat) (s : State) : Host.Outcome State Fault Refusal :=
  let quiet := match s.laneOfCore core with
    | some p => s.quietLane p
    | none => true
  s.run (decide (core < 264 ∧ line < 4) && s.shoreRuns && SMap.get (s.core core).spans line 0 != 0 &&
      !(s.core core).inService line && s.shore.step == 0 && quiet) fun s =>
    let x := s.core core
    let n := SMap.get x.spans line 0
    (s.setCore core { x with spans := SMap.put x.spans line 0 0,
                             second := x.second ^^^ BitVec.ofNat 2 (2 ^ (line / 2)) }).setFld (.laneCal core)
      (if line < 2 then F.laneCal.outTaps else F.laneCal.inTaps) n

/-- The delay line whose visit falls in the present tick: each of the 1056 lines has one in every 800,000 ticks, near the
end of the interval, so that no interval of that length is without one (R150). The line visited is the one of its pair
that is not in service. DESIGN CHOICE, assumption log 134. -/
def State.visitDue (s : State) : Option (Nat × Nat) :=
  let n := s.ticks % 800000
  if 798944 ≤ n then
    let i := n - 798944
    some (i / 4, if (s.core (i / 4)).inService (i % 4) then i % 4 / 2 * 2 + (1 - i % 2) else i % 4)
  else none

/-- The calibrator's visit of the present tick: what it measures is open. DESIGN CHOICE, assumption log 134. -/
def State.visitLine (s : State) : State :=
  match s.visitDue with
  | some (c, l) => s.calibrate c l (Config.lineSpan c l s.ticks)
  | none => s

/-! ### The schedule -/

/-- All entries in the table. -/
def State.allEntries (s : State) : List Entry := s.lanes.flatMap fun x => x.2.queue ++ x.2.core.map (·.1)

/-- Entries held for a lane, in its queue and its core (R180). -/
def State.qdepth (s : State) (p : Nat) : Nat := (s.lane p).queue.length + (s.lane p).core.length

/-- A place of the table that no entry uses, for an entry of lane `p`: which one is open. DESIGN CHOICE, assumption
log 11. -/
def State.freeEntry (s : State) (p : Nat) : Nat :=
  let used := s.allEntries.map (·.idx)
  let first := Config.entryPlace p s.tick used.length
  (((List.range (used.length + 1)).map fun i => (first + i) % 65536).find? fun i => !used.contains i).getD 0

/-- An entry in its place, in order of time and of insertion (R181). -/
def insertEntry : List Entry → Entry → List Entry
  | [], e => [e]
  | x :: l, e => if e.due < x.due then e :: x :: l else x :: insertEntry l e

/-- An entry in its place in a lane core, with the tick of its arrival (R181, R182). -/
def insertCore : List (Entry × Nat) → Entry × Nat → List (Entry × Nat)
  | [], e => [e]
  | x :: l, e => if e.1.due < x.1.due then e :: x :: l else x :: insertCore l e

/-- An entry is inserted for lane `p` (R179, R180): its time is resolved to a signed distance from shore time; it is
rejected when its time has passed, lies more than 2^39 − 1 steps ahead, or its action is reserved; discarded and counted
in ERRA over the quota. DESIGN CHOICE, assumption log 11. -/
def State.insert (s : State) (p : Nat) (time : Time) (act tag arg : Nat) : State :=
  let d := (time - s.time).toNat
  if 6 ≤ act ∨ 2 ^ 39 ≤ d then s.incSat .laneSchrej F.laneSchrej.reject
  else if s.fld (.laneCtrl p) F.laneCtrl.quota ≤ s.qdepth p then s.incSat (.laneErr p) F.laneErr.erra
  else s.modLane p fun x =>
    { x with queue := insertEntry x.queue { idx := s.freeEntry p, time := time, due := s.now + d, act := act,
                                            tag := tag % 256, arg := arg, ins := s.ticks, syn := 0 } }

/-- The entries of a lane are discarded without being counted (R184). -/
def State.dropEntries (s : State) (p : Nat) : State := s.modLane p fun x => { x with queue := [], core := [] }

/-- The 64 bits of an entry (R177). -/
def State.entryWord (s : State) (p : Nat) (e : Entry) : BitVec 64 :=
  BitVec.ofNat 64 (e.time.toNat % 2 ^ 40 * 2 ^ 24 + s.coreOf p * 2 ^ 15 + e.act * 2 ^ 12 + e.tag * 2 ^ 4 + e.arg)

/-- Entry `i` of the schedule window (R186); an entry not in use reads zero. DESIGN CHOICE, assumption log 11. -/
def State.schedEntry (s : State) (i : Nat) : BitVec 64 :=
  s.lanes.foldl (fun v x => (x.2.queue ++ x.2.core.map (·.1)).foldl
    (fun v e => if e.idx = i then s.entryWord x.1 e else v) v) 0

/-- An entry of lane `p` is eligible for dispatch: its tick is at most 32 ticks ahead, and it was inserted in an earlier
tick (R182). -/
def State.eligible (s : State) (e : Entry) : Bool := decide (e.tick ≤ s.ticks + 32 ∧ e.ins < s.ticks)

/-- The lane and the entry the dispatcher takes next: eligible, earliest tick first, then ascending pin lane from the
rotating pointer (R22, R182). A lane in a spare swap is not served (R159), nor one whose core is full. -/
def State.dispatchNext (s : State) : Option (Nat × Entry) :=
  s.lanes.foldl (fun b x =>
    if decide (8 ≤ x.2.core.length) || s.swapStop x.1 then b
    else match x.2.queue.find? s.eligible with
    | none => b
    | some e =>
      let d := fun p => (p + 256 - s.shore.dispPtr) % 256
      match b with
      | none => some (x.1, e)
      | some (p, f) => if e.tick < f.tick || (e.tick == f.tick && decide (d x.1 < d p)) then some (x.1, e) else b) none

/-- How many more entries the dispatcher may move in the present tick: 8 in all (R182). -/
def State.dispatchesLeft (s : State) : Nat := 8 - (if s.shore.dispTick = s.ticks then s.shore.dispCount else 0)

/-- An entry is read from the table for dispatch (spec/12 R312, R315, R316): whether its word is good, and what the read
counts. DESIGN CHOICE, assumption log 100. -/
def State.readEntry (s : State) (e : Entry) : Bool × State :=
  match (eccDecode 0 (e.syn.extractLsb' 8 8) (e.syn.extractLsb' 0 8) 0xFF).1 with
  | .clean => (true, s)
  | .corrected => (true, s.bucketAdd 53)
  | .poisoned => (false, s.setFld .memIstat F.memIstat.schue 1)
  | .uncorrectable =>
    let s := s.incSat .memUecnt F.memUecnt.uecnt
    let s := (s.setFld .memUelast F.memUelast.src 53).setFld .memUelast F.memUelast.word e.idx
    let s := (s.setFld .memIstat F.memIstat.ue 1).setFld .memIstat F.memIstat.schue 1
    (false, s.alarm 0x10 (s.rd .memUelast))

/-- One entry moves into its lane core, or is discarded and counted where the lane is not ON in EDGE mode
(R184) or its word is uncorrectable (spec/12 R316). -/
def State.dispatchOne (s : State) : State :=
  match s.dispatchNext with
  | none => s
  | some (p, e) =>
    let s := s.setShore { s.shore with dispPtr := (p + 1) % 256, dispTick := s.ticks,
                                       dispCount := 9 - s.dispatchesLeft }
    let s := s.modLane p fun x => { x with queue := x.queue.erase e }
    let x := s.readEntry e
    let s := x.2
    if x.1 && s.laneOn p && s.mode p == modeEdge then
      s.modLane p fun x => { x with core := insertCore x.core ({ e with syn := 0 }, s.ticks) }
    else s.incSat (.laneErr p) F.laneErr.erra

/-- The dispatcher moves all the entries it may in the present tick (R182). -/
def State.dispatchAll (s : State) : State := (List.range s.dispatchesLeft).foldl (fun s _ => s.dispatchOne) s

/-- ENTRY_DISPATCH (R182): at most 8 entries in a tick. -/
def execEntryDispatch (s : State) : Host.Outcome State Fault Refusal :=
  s.run (s.shoreRuns && decide (0 < s.dispatchesLeft)) fun s => s.dispatchAll

/-- The core of `p` executes an entry with action `act` next in the present tick (R182). -/
def State.entryReady (s : State) (p act : Nat) : Bool :=
  match s.executable p with
  | [] => false
  | e :: _ => e.act == act

/-- The core's first entry leaves it, and is counted among those of the present tick (R182). -/
def Lane.takeEntry (x : Lane) (ticks : Nat) : Lane :=
  { x with core := x.core.tail, ranTick := ticks, ranCount := if x.ranTick = ticks then x.ranCount + 1 else 1 }

/-- A late entry of lane `p` is counted in LATEX, with an alarm (R183). -/
def State.countLate (s : State) (p : Nat) : State := (s.incSat .laneSchrej F.laneSchrej.latex).alarm 0x0A (BitVec.ofNat 32 p)

/-- The effect of an entry that takes effect: the lane's level and enable, or the weir's window event of a MARK (R178;
spec/07 R199). -/
def State.applyEntry (s : State) (p : Nat) (e : Entry) : State :=
  if e.act = 5 then s.roleEvt (s.fld (.weirWin p) F.weirWin.role) (s.fld (.weirWin p) F.weirWin.thread) (10 + e.arg % 2)
  else
    let v := actOn e.act e.arg ((s.lane p).lvl, (s.lane p).oe)
    s.modLane p fun x => { x with lvl := v.1, oe := v.2 }

/-- The core of lane `p` executes its first entry (R178, R183): at its step when its tick is the present one, at the
tick's first step when it is late by one tick, and not at all when it is later, which ERRA counts. The pins have
followed up to its instant, this entry and all others of that step included (R181). -/
def State.executeEntry (s : State) (p : Nat) (e : Entry) : State :=
  let s := s.settleTo ((s.effectAt e).getD s.now)
  let u := s.effectAt e
  let s := s.modLane p fun x => x.takeEntry s.ticks
  let s := if e.tick = s.ticks then s else s.countLate p
  match u with
  | some _ => s.applyEntry p e
  | none => s.incSat (.laneErr p) F.laneErr.erra

/-- The entry command of action `act` on lane `p`. -/
def State.runEntry (s : State) (p act : Nat) : Host.Outcome State Fault Refusal :=
  match s.executable p with
  | [] => s.run false id
  | e :: _ => s.run (e.act == act) fun s => s.executeEntry p e

/-- SET (R178). -/
def execSetEntry (p : Nat) (s : State) : Host.Outcome State Fault Refusal := s.runEntry p 0

/-- CLEAR (R178). -/
def execClearEntry (p : Nat) (s : State) : Host.Outcome State Fault Refusal := s.runEntry p 1

/-- TOGGLE (R178). -/
def execToggleEntry (p : Nat) (s : State) : Host.Outcome State Fault Refusal := s.runEntry p 2

/-- LEVEL (R178): ARG[0] is the level, ARG[1] the enable. -/
def execLevelEntry (p : Nat) (s : State) : Host.Outcome State Fault Refusal := s.runEntry p 3

/-- OE (R178). -/
def execOeEntry (p : Nat) (s : State) : Host.Outcome State Fault Refusal := s.runEntry p 4

/-- MARK (R178; spec/07 R199): no pin change; the weir's window event is raised in its thread. -/
def execMarkEntry (p : Nat) (s : State) : Host.Outcome State Fault Refusal := s.runEntry p 5

/-- Every core executes the entries it still has for the present tick. -/
def State.executeAll (s : State) : State :=
  (s.lanes.map (·.1)).foldl (fun s p => (s.executable p).foldl (fun s e => s.executeEntry p e) s) s

/-! ### The lane life-cycle -/

def State.laneLife (s : State) (p : Nat) : Life :=
  { st := s.fld (.laneStat p) F.laneStat.state, pend := s.fld (.laneStat p) F.laneStat.pend,
    en := s.fld (.laneCtrl p) F.laneCtrl.en }

def State.setLaneLife (s : State) (p : Nat) (l : Life) : State :=
  ((s.setFld (.laneStat p) F.laneStat.state l.st).setFld (.laneStat p) F.laneStat.pend l.pend).setFld
    (.laneCtrl p) F.laneCtrl.en l.en

/-- A lane enters STARTING in the present tick: a CAPTURE lane's FIFO is emptied (R170). DEDUCED, assumption log 18. -/
def State.enterStarting (s : State) (p : Nat) : State :=
  s.modLane p fun x => { x with since := s.ticks, capture := if s.mode p = modeCapture then [] else x.capture }

/-- The level of lane_in[q] behind the INV_IN of lane `p`. -/
def State.behindInv (s : State) (p q : Nat) : Bool := xor (s.ports.laneIn.getLsbD q) (s.bit (.laneIo p) F.laneIo.invIn)

/-- The pin whose input lane `p` filters: the source of a MIRROR lane, else its own (R171, R173). -/
def State.inputPin (s : State) (p : Nat) : Nat := if s.mode p = modeMirror then s.fld (.mirrorM0 p) F.mirrorM0.src else p

/-- The level a MIRROR lane sends for a level of its source behind INV_IN (R173). -/
def State.mirrorInv (s : State) (p : Nat) (v : Bool) : Bool := xor v (s.bit (.mirrorM0 p) F.mirrorM0.inv)

/-- The present level of a MIRROR lane's source as it copies it: after its own INV_IN, then INV (R173). -/
def State.mirrorLevel (s : State) (p : Nat) : Bool := s.mirrorInv p (s.behindInv p (s.inputPin p))

def State.posUnit (s : State) (u : Nat) : PosUnit := SMap.get s.posUnits u .init
def State.setPosUnit (s : State) (u : Nat) (x : PosUnit) : State := { s with posUnits := SMap.put s.posUnits u x .init }

/-- The level of lane_in[p] behind the lane's INV_IN. -/
def State.inputLevel (s : State) (p : Nat) : Bool := s.behindInv p p

/-- A lane's position unit starts when lane `p`, as its A lane, reaches ON (spec/08 R231). -/
def State.startUnit (s : State) (p : Nat) : State :=
  let u := s.fld (.quadM0 p) F.quadM0.posu
  if s.mode p ≠ modeQuad ∨ s.fld (.quadM0 p) F.quadM0.role ≠ 0 ∨ p % 2 = 1 then s
  else
    let s := s.setPosUnit u { PosUnit.init with pos := some (s.rd (.posPos u)), raw := s.rd (.posPos u),
                                                a := s.inputLevel p, b := s.inputLevel (p + 1), z := (s.posUnit u).z }
    let s := s.wr (.posSpeed u) 0
    let s := [F.posStat.dir, F.posStat.pendrev, F.posStat.armed, F.posStat.behindAtArm].foldl
      (fun s f => s.setFld (.posStat u) f 0) s
    s.setFld (.posStat u) F.posStat.still 1

/-- The level and enable with which a lane reaches ON (R164, R173, R175). -/
def State.initLevel (s : State) (p : Nat) : Bool × Bool :=
  match s.mode p with
  | 0 => (s.bit (.edgeM0 p) F.edgeM0.initOut, s.bit (.edgeM0 p) F.edgeM0.initOe)
  | 5 => (s.bit (.timerM0 p) F.timerM0.initOut, s.bit (.timerM0 p) F.timerM0.oe)
  | 4 => (s.mirrorLevel p, s.bit (.mirrorM0 p) F.mirrorM0.oe)
  | _ => (false, false)

/-- A lane reaches ON in the present tick: its level and enable start as its mode says, its filter is settled on the
present level, and the limits begin there (R164, R168, R173, R175; spec/07 R203). -/
def State.reachOnLane (s : State) (p : Nat) : State :=
  let v := s.initLevel p
  (s.startUnit p).modLane p fun x =>
    { x with lvl := v.1, oe := v.2, next := none, passed := v.1, passedAt := s.now, cut := false, grant := false,
             onAt := s.ticks, filt := s.behindInv p (s.inputPin p), cand := none, echo := [],
             bypass := !s.shoreRuns && s.mode p == modeMirror, hold := 0,
             started := false, txWord := none, clkAt := s.ticks, clkLost := false }

/-- A lane reaches ON: its weir has no period of it yet (spec/07 R188). -/
def State.enterOn (s : State) (p : Nat) : State := (s.setWeir p { s.weir p with periods := [] }).reachOnLane p

/-- The end of the word in progress of a STREAM lane as a tick, or the present tick where none is (R163). -/
def State.wordEnd (s : State) (p : Nat) : Nat :=
  let x := s.lane p
  if s.mode p = modeStream ∧ x.started then max s.ticks ((x.txStart + 16 * s.bitPeriod p) / 32) else s.ticks

/-- A lane enters STOPPING in the present tick: its entries are discarded without being counted (R184); the 4 ticks of a
STREAM lane count from the end of the word in progress (R163). -/
def State.enterStopping (s : State) (p : Nat) : State := (s.dropEntries p).modLane p fun x => { x with since := s.wordEnd p }

/-- What follows a change of a lane's state. -/
def State.laneEntered (s : State) (p : Nat) (l : Life) : State :=
  match l.st with
  | 1 => s.enterStarting p
  | 2 => s.enterOn p
  | 3 => s.enterStopping p
  | _ => s

/-- A lane moves in its life-cycle, and the pins follow. -/
def State.moveLane (s : State) (p : Nat) (l : Life) : State :=
  let old := (s.laneLife p).st
  let s := s.setLaneLife p l
  (if old = l.st then s else s.laneEntered p l).settle

/-- A lane's STARTING or STOPPING ends; a latched request is taken in the same tick, so that a lane that is to stop at
once still passes through ON (R20, R21). -/
def State.laneArrive (s : State) (p : Nat) : State :=
  let s := s.moveLane p (s.laneLife p).arrive
  s.moveLane p (s.laneLife p).onward

/-- A transmitting STREAM lane fed by a conduit stays in STARTING until its FIFO holds four words (R163). -/
def State.primed (s : State) (p : Nat) : Bool :=
  s.mode p != modeStream || s.bit (.streamM0 p) F.streamM0.dir || !s.bit (.streamM0 p) F.streamM0.cden ||
    decide (4 ≤ (s.lane p).fifo.length)

/-- The 4 ticks of lane `p`'s STARTING, and the wait of a STREAM lane for its words, have ended (R163). -/
def State.laneStartDue (s : State) (p : Nat) : Bool :=
  s.shoreRuns && (s.laneLife p).st == 1 && !s.swapStop p && s.primed p && decide ((s.lane p).since + 4 ≤ s.ticks)

/-- The 4 ticks of lane `p`'s STOPPING have ended, for a STREAM lane from the end of its word (R163). -/
def State.laneStopDue (s : State) (p : Nat) : Bool :=
  s.shoreRuns && (s.laneLife p).st == 3 && !s.swapStop p && decide ((s.lane p).since + 4 ≤ s.ticks)

/-- LANE_START_DONE (R163). -/
def execLaneStartDone (p : Nat) (s : State) : Host.Outcome State Fault Refusal :=
  s.run (decide (p < 256) && s.laneStartDue p) fun s => s.laneArrive p

/-- LANE_STOP_DONE (R163). -/
def execLaneStopDone (p : Nat) (s : State) : Host.Outcome State Fault Refusal :=
  s.run (decide (p < 256) && s.laneStopDue p) fun s => s.laneArrive p

/-- Core `c` is an unused spare (R158). DEDUCED, assumption log 12. -/
def State.isSpare (s : State) (c : Nat) : Bool := decide (256 ≤ c ∧ c < 264) && !(s.core c).used && !(s.core c).retired

/-- The registers of window `p` that a swap copies to the spare (R159), and a retired spare keeps in its own window. -/
def windowRegs (p : Nat) : List Reg := [.laneCtrl p, .laneSafe p, .laneIo p, .laneErr p]

/-- The registers of window `p` are copied to window `c`. -/
def State.copyWindow (s : State) (p c : Nat) : State :=
  ((windowRegs p).zip (windowRegs c)).foldl (fun s x => s.wr x.2 (s.rd x.1)) s

/-- A spare swap of lane `p` to core `c` starts (R158, R159): the former core is retired, and what window `p` holds is the
spare's from now on; a spare that is retired keeps its copy. TOTAL counts the QUOTA of every core, so it changes by what
the spare's becomes (R187). -/
def State.startSwap (s : State) (p c : Nat) : State :=
  let old := s.coreOf p
  let q := s.fld (.laneCtrl p) F.laneCtrl.quota
  let total := s.fld .laneSchquota F.laneSchquota.total + q - s.fld (.laneCtrl c) F.laneCtrl.quota
  let st := (s.laneLife p).st
  let s := if 256 ≤ old then (s.copyWindow p old).setFld (.laneCtrl old) F.laneCtrl.en 0 else s
  let s := s.setFld .laneSchquota F.laneSchquota.total total
  let s := s.setCore c { s.core c with used := true }
  let s := s.setCore old { s.core old with retired := true, used := false }
  let s := s.setFld (.laneXbar p) F.laneXbar.core c
  let s := s.setShore { s.shore with swap := some { lane := p, old := old, st := st, tick := s.ticks } }
  (if st = 0 then s else s.setFld (.laneStat p) F.laneStat.state 1).settle

/-- LANE_XBAR (R158). -/
def writeLaneXbar (s : State) (w : Wr) (p : Nat) : State × Bool :=
  if s.changes w (.laneXbar p) F.laneXbar.core then
    let c := w.val F.laneXbar.core (s.rd (.laneXbar p))
    if !s.isSpare c || s.shore.swap.isSome then (s, true) else (s.startSwap p c, false)
  else (s, false)

/-- LANE_SPARE_SWAP (R158). -/
def execLaneSpareSwap (w : Who) (p : Nat) (d : BitVec 32) (strb : BitVec 4) (s : State) :
    Host.Outcome State Fault Refusal :=
  let x : Wr := ⟨w, (Reg.laneXbar p).key, d, strb⟩
  s.run (decide (p < 256)) fun s => s.access x (.laneXbar p) fun s => writeLaneXbar s x p

/-- A swap completes (R159): a lane that was OFF at tick n + 64; any other when, after the copy of 64 ticks, the 4 ticks of
STARTING have passed and a STREAM lane has its words, at the latest at n + 1600. DEDUCED, assumption log 75. -/
def State.swapDue (s : State) (x : Swap) : Bool :=
  s.shoreRuns && (if x.st = 0 then decide (x.tick + 64 ≤ s.ticks)
    else (decide (x.tick + 69 ≤ s.ticks) && s.primed x.lane) || decide (x.tick + 1600 ≤ s.ticks))

/-- Entries of lane `p` whose instant has passed are discarded and counted; those left wait in the queue (R159). -/
def State.discardPassed (s : State) (p : Nat) : State :=
  let all := (s.lane p).core.map (·.1) ++ (s.lane p).queue
  let n := (all.filter fun e => decide (e.due < s.now)).length
  let s := s.setFld (.laneErr p) F.laneErr.erra (min 0xFFFF (s.fld (.laneErr p) F.laneErr.erra + n))
  s.modLane p fun l => { l with queue := all.filter fun e => !decide (e.due < s.now), core := [] }

/-- The spare serves the pin (R159): a lane that was OFF stays OFF, one that was STOPPING is OFF; the periods of the weir
go on (spec/07 R188). DEDUCED, assumption log 75. -/
def State.endSwap (s : State) (x : Swap) : State :=
  let p := x.lane
  let s := (s.setShore { s.shore with swap := none }).discardPassed p
  match x.st with
  | 0 => s.settle
  | 3 => s.moveLane p { st := if (s.laneLife p).pend = 1 then 1 else 0, pend := 0, en := (s.laneLife p).en }
  | _ =>
    let s := ((s.setLaneLife p (s.laneLife p).arrive).reachOnLane p).settle
    s.moveLane p (s.laneLife p).onward

/-- SPARE_SWAP_COMPLETE (R159). -/
def execSpareSwapComplete (s : State) : Host.Outcome State Fault Refusal :=
  match s.shore.swap with
  | none => s.run false id
  | some x => s.run (s.swapDue x) fun s => s.endSwap x

/-! ### Registers of a lane core -/

/-- LIMIT_LOCK of a lane's domain (spec/07 R207). -/
def State.laneLocked (s : State) (p : Nat) : Bool :=
  match s.laneDomain p with
  | some d => s.bit (.engDstat d) F.engDstat.limitLock
  | none => false

/-- A domain is DISARMED (spec/01 R15). -/
def State.disarmed (s : State) (d : Nat) : Bool := s.fld (.engDstat d) F.engDstat.state == 0

/-- DOM and DOMV of a resource take a write only while the domains it leaves and joins are both DISARMED
(spec/01 R15). -/
def State.takeDomain (s : State) (w : Wr) (r : Reg) (fv fd : Fld) : State × Bool :=
  let t := (s.take w r fv).take w r fd
  let old := s.bit r fv
  let new := t.bit r fv
  if old = new ∧ (!new ∨ t.fld r fd = s.fld r fd) then (t, false)
  else if (!old || s.disarmed (s.fld r fd)) && (!new || s.disarmed (t.fld r fd)) then (t, false)
  else (s, true)

/-- Window `i` reaches a core: pin lanes always, 256 to 263 while that core serves no pin (R160). -/
def State.laneWindow (s : State) (i : Nat) : Bool := decide (i < 256) || !(s.core i).used

/-- LANE_CTRL (R161, R162, R180; spec/01 R15, R20). A lane whose spare swap runs is not OFF for these writes, whatever its
STATE was: what is copied does not change under the copy. DESIGN CHOICE, assumption log 116. -/
def writeLaneCtrl (s : State) (w : Wr) (p : Nat) : State × Bool :=
  let r := Reg.laneCtrl p
  if !s.laneWindow p then (s, false)
  else
    let off := (s.laneLife p).st == 0 && !s.swapStop p
    let x := s.takeDomain w r F.laneCtrl.domv F.laneCtrl.dom
    let x := State.takeIf off x w r F.laneCtrl.mode
    let total := x.1.fld .laneSchquota F.laneSchquota.total + w.val F.laneCtrl.quota (x.1.rd r) - x.1.fld r F.laneCtrl.quota
    let changed := x.1.changes w r F.laneCtrl.quota
    let y := State.takeIf (off && decide (total ≤ 65536)) x w r F.laneCtrl.quota
    let t := if changed && off && decide (total ≤ 65536) then y.1.setFld .laneSchquota F.laneSchquota.total total else y.1
    let t := if w.any F.laneCtrl.en && decide (p < 256) then
        t.moveLane p ((t.laneLife p).request (w.bits F.laneCtrl.en)) else t
    (t, y.2)

/-- LANE_EN_WRITE (R163; spec/01 R20). -/
def execLaneEnWrite (w : Who) (p : Nat) (d : BitVec 32) (strb : BitVec 4) (s : State) :
    Host.Outcome State Fault Refusal :=
  let x : Wr := ⟨w, (Reg.laneCtrl p).key, d, strb⟩
  s.run (decide (p < 264)) fun s => s.access x (.laneCtrl p) fun s => writeLaneCtrl s x p

/-- LANE_SAFE (R162): locked with the domain's limits. -/
def writeLaneSafe (s : State) (w : Wr) (p : Nat) : State × Bool :=
  let r := Reg.laneSafe p
  if !s.laneWindow p then (s, false)
  else
    let ok := !s.laneLocked p
    let x := State.takeIf ok (s, false) w r F.laneSafe.safeSrc
    let x := State.takeIf ok x w r F.laneSafe.safeOut
    let x := State.takeIf ok x w r F.laneSafe.safeOe
    (x.1.settle, x.2)

/-- LANE_IO (R162): FILT only while OFF, SKEW not under LIMIT_LOCK. -/
def writeLaneIo (s : State) (w : Wr) (p : Nat) : State × Bool :=
  let r := Reg.laneIo p
  if !s.laneWindow p then (s, false)
  else
    let x := State.takeIf (!s.laneLocked p) (s, false) w r F.laneIo.skew
    let x := State.takeIf ((s.laneLife p).st == 0 && !s.swapStop p) x w r F.laneIo.filt
    ((x.1.takeAll w r [F.laneIo.loopdly, F.laneIo.loopen, F.laneIo.invIn, F.laneIo.invOut]).settle, x.2)

/-- The register LANE_Mi shows in the mode LANE_CTRL names (R176). -/
def State.modeReg (s : State) (p i : Nat) : Option Reg :=
  match s.mode p, i with
  | 0, 0 => some (.edgeM0 p)
  | 1, 0 => some (.streamM0 p)
  | 1, 1 => some (.streamM1 p)
  | 1, 2 => some (.streamM2 p)
  | 1, 3 => some (.streamM3 p)
  | 2, 0 => some (.captureM0 p)
  | 2, 1 => some (.captureM1 p)
  | 2, 2 => some (.captureM2 p)
  | 3, 0 => some (.decimateM0 p)
  | 3, 1 => some (.decimateM1 p)
  | 4, 0 => some (.mirrorM0 p)
  | 5, 0 => some (.timerM0 p)
  | 6, 0 => some (.quadM0 p)
  | 6, 1 => some (.quadM1 p)
  | _, _ => none

/-- STREAM M2 with CDEN = 0 (R167, R176): a write appends a word; a full FIFO has no room for it.
DEDUCED, assumption log 17. -/
def writeStreamData (s : State) (w : Wr) (p : Nat) : State × Bool :=
  if s.bit (.streamM0 p) F.streamM0.cden || !w.any F.streamM2.data || decide (16 ≤ (s.lane p).fifo.length) then (s, false)
  else (s.modLane p fun x => { x with fifo := x.fifo ++ [BitVec.ofNat 16 (w.bits F.streamM2.data)] }, false)

/-- LANE_Mi (R162, R176): live fields in every state, all others only while the lane is OFF. -/
def writeLaneM (s : State) (w : Wr) (p i : Nat) : State × Bool :=
  if !s.laneWindow p then (s, false)
  else match s.modeReg p i with
    | some (.streamM2 _) => writeStreamData s w p
    | some (.decimateM1 _) => (s.take w (.decimateM1 p) F.decimateM1.clkloss, false)
    | some r => (r.fields.filter (·.acc.writable)).foldl
        (fun x f => State.takeIf ((s.laneLife p).st == 0 && !s.swapStop p) x w r f) (s, false)
    | none => (s, false)

/-- The address register of LANE_Mi. -/
def laneMReg (p i : Nat) : Reg :=
  match i with
  | 0 => .laneM0 p
  | 1 => .laneM1 p
  | 2 => .laneM2 p
  | _ => .laneM3 p

/-- STREAM_FIFO_WRITE (R176). -/
def execStreamFifoWrite (w : Who) (p : Nat) (d : BitVec 32) (strb : BitVec 4) (s : State) :
    Host.Outcome State Fault Refusal :=
  let x : Wr := ⟨w, (Reg.laneM2 p).key, d, strb⟩
  s.run (decide (p < 264)) fun s => s.access x (.laneM2 p) fun s => writeLaneM s x p 2

/-- A read of STREAM M2 with CDEN = 0 removes the oldest word (R176). -/
def State.readStreamData (s : State) (p : Nat) : BitVec 32 × State :=
  if s.bit (.streamM0 p) F.streamM0.cden then (0, s)
  else match (s.lane p).fifo with
    | [] => (0, s)
    | x :: l => (x.setWidth 32, s.modLane p fun y => { y with fifo := l })

/-- A read of CAPTURE M1 returns the oldest entry's time and removes it (R170, R459). -/
def State.readCapture (s : State) (p : Nat) (strb : BitVec 4) : BitVec 32 × State :=
  match (s.lane p).capture with
  | [] => (0, s)
  | x :: l => (x.2.extractLsb' 0 32, if strb = 15 then s.modLane p fun y => { y with capture := l } else s)

/-- CAPTURE M2 (R176). -/
def State.captureStat (s : State) (p : Nat) : BitVec 32 :=
  match (s.lane p).capture with
  | [] => 0
  | x :: l => BitVec.ofNat 32 ((l.length + 1) * 2 ^ 18 + 2 ^ 17 + (if x.1 then 2 ^ 16 else 0) + (x.2.extractLsb' 32 16).toNat)

/-- PAIRERR of a QUAD lane: its partner lane does not match its role and unit (R176). -/
def State.pairErr (s : State) (p : Nat) : Bool :=
  let role := s.fld (.quadM0 p) F.quadM0.role
  let q := partner p
  if role = 0 ∨ role = 1 then
    !(p % 2 == role && s.mode q == modeQuad && s.fld (.quadM0 q) F.quadM0.role == 1 - role &&
      s.fld (.quadM0 q) F.quadM0.posu == s.fld (.quadM0 p) F.quadM0.posu)
  else false

/-- A lower-numbered lane that is ON in DECIMATE mode holds the same decimator (R172). -/
def State.decConflict (s : State) (p : Nat) : Bool :=
  (List.range p).any fun q => s.mode q == modeDecimate && s.laneOn q &&
    s.fld (.decimateM0 q) F.decimateM0.dec == s.fld (.decimateM0 p) F.decimateM0.dec

/-- A read of LANE_Mi in the mode in force (R160, R170, R176). -/
def State.readLaneM (s : State) (p i : Nat) (strb : BitVec 4) : BitVec 32 × State :=
  if !s.laneWindow p then (0, s)
  else match s.modeReg p i with
    | some (.streamM2 _) => if strb.extractLsb' 0 2 = 0 then (0, s) else s.readStreamData p
    | some (.streamM3 _) => (F.streamM3.level.put (s.rd (.streamM3 p)) (s.lane p).fifo.length, s)
    | some (.captureM1 _) => s.readCapture p strb
    | some (.captureM2 _) => (s.captureStat p, s)
    | some (.quadM1 _) => (if s.pairErr p then 1 else 0, s)
    | some (.decimateM1 _) => (F.decimateM1.decconf.put (s.rd (.decimateM1 p)) (if s.laneOn p && s.decConflict p then 1 else 0), s)
    | some r => (s.rd r, s)
    | none => (0, s)

/-- STREAM_FIFO_READ (R176). -/
def execStreamFifoRead (w : Who) (p : Nat) (strb : BitVec 4) (s : State) : Host.Outcome State Fault Refusal :=
  let _ := w
  s.run (decide (p < 264)) fun s => { (s.readLaneM p 2 strb).2 with rdata := (s.readLaneM p 2 strb).1 }

/-- CAPTURE_READ (R170). -/
def execCaptureRead (w : Who) (p : Nat) (strb : BitVec 4) (s : State) : Host.Outcome State Fault Refusal :=
  let _ := w
  s.run (decide (p < 264)) fun s => { (s.readLaneM p 1 strb).2 with rdata := (s.readLaneM p 1 strb).1 }

/-- LANE_STAT as read (R161). -/
def State.readLaneStat (s : State) (p : Nat) : BitVec 32 :=
  if !s.laneWindow p then 0
  else
    let c := s.core (if p < 256 then s.coreOf p else p)
    let b := fun (x : Bool) => if x then 1 else 0
    let v := F.laneStat.spare.put (s.rd (.laneStat p)) (b (decide (256 ≤ p) && s.isSpare p))
    let v := F.laneStat.calfail.put (F.laneStat.retired.put v (b (c.retired))) (b c.calfail)
    if p < 256 then F.laneStat.qdepth.put (F.laneStat.outrank.put (F.laneStat.bypass.put v (b (s.lane p).bypass)) (s.rank p))
      (s.qdepth p) else v

/-- LANE_CAL as read: that of the core the window reaches. -/
def State.readLaneCal (s : State) (p : Nat) : BitVec 32 :=
  if !s.laneWindow p then 0 else s.rd (.laneCal (if p < 256 then s.coreOf p else p))

/-! ### STREAM -/

/-- A STREAM lane ON. -/
def State.streaming (s : State) (p : Nat) : Bool := s.laneOn p && s.mode p == modeStream && s.shoreRuns && !s.swapStop p

/-- A lane transmits. -/
def State.transmits (s : State) (p : Nat) : Bool := !s.bit (.streamM0 p) F.streamM0.dir

/-- A transmitting lane takes its next word, whose first bit starts at `t`: from the FIFO, the outlet's filler on an export
lane (spec/19 R505), the last word again with REPLAST, or IDLE_LVL and ERRA (R169). -/
def State.nextWord (s : State) (p t : Nat) : State :=
  let w := s.peekWord p
  let s := s.modLane p fun x => { x with started := true, fifo := x.fifo.tail, txWord := some (s.wordBits p w), txStart := t }
  match w with
  | .idle => s.incSat (.laneErr p) F.laneErr.erra
  | _ => s

/-- The first bit of a STREAM lane starts in the present tick, or was to (R168). -/
def State.streamDue (s : State) (p : Nat) : Bool :=
  s.streaming p && !(s.lane p).started && decide (s.streamTick p ≤ s.ticks)

/-- The word in progress of a STREAM lane has ended by the present tick (R167). -/
def State.wordDue (s : State) (p : Nat) : Bool :=
  s.streaming p && (s.lane p).started && decide ((s.lane p).txStart + 16 * s.bitPeriod p ≤ s.now)

/-- The first bit of a STREAM lane starts. -/
def State.startStream (s : State) (p : Nat) : State :=
  let t := 32 * s.streamTick p
  if s.transmits p then (s.nextWord p t).settle else s.modLane p fun x => { x with started := true, txStart := t }

/-- STREAM_START (R168). -/
def execStreamStart (p : Nat) (s : State) : Host.Outcome State Fault Refusal :=
  s.run (decide (p < 256) && s.streamDue p) fun s => s.startStream p

/-- STREAM_TX_WORD_BOUNDARY (R169). -/
def execStreamTxWordBoundary (p : Nat) (s : State) : Host.Outcome State Fault Refusal :=
  s.run (decide (p < 256) && s.wordDue p && s.transmits p) fun s =>
    (s.nextWord p ((s.lane p).txStart + 16 * s.bitPeriod p)).settle

/-- A level that starts as `lvl` and changes at each of the instants `edges`, at instant `t`. -/
def lineLevel (lvl : Bool) (edges : List Nat) (t : Nat) : Bool :=
  xor lvl ((edges.filter fun e => decide (e ≤ t)).length % 2 == 1)

/-- The word that a receiving lane samples from a line: bit k at its bit start plus PHASE modulo the bit period, behind
INV_IN, with MSBF as in transmission (R167, R168). -/
def State.sampleWord (s : State) (p : Nat) (lvl : Bool) (edges : List Nat) : Word :=
  let b := s.bitPeriod p
  let phase := s.fld (.streamM0 p) F.streamM0.phase % b
  let inv := s.bit (.laneIo p) F.laneIo.invIn
  let msbf := s.bit (.streamM0 p) F.streamM0.msbf
  BitVec.ofNat 16 ((List.range 16).foldl (fun v k =>
    if xor (lineLevel lvl edges (k * b + phase)) inv then v + 2 ^ (if msbf then 15 - k else k) else v) 0)

/-- A receiving lane completes a word (R169). -/
def State.receiveWord (s : State) (p : Nat) (w : Word) : State :=
  let s := s.modLane p fun x => { x with txStart := x.txStart + 16 * s.bitPeriod p }
  if 16 ≤ (s.lane p).fifo.length then s.incSat (.laneErr p) F.laneErr.erra
  else s.modLane p fun x => { x with fifo := x.fifo ++ [w] }

/-! ### Input edges -/

/-- lane_in[p] takes a level at instant `t`, and the gates that look at it follow (spec/10 R258). -/
def State.setLaneIn (s : State) (p : Nat) (v : Bool) (t : Nat) : State :=
  (s.setPorts { s.ports with laneIn := if v then s.ports.laneIn ||| BitVec.ofNat 256 (2 ^ p)
                                       else s.ports.laneIn &&& ~~~BitVec.ofNat 256 (2 ^ p) }).scanFabric t

/-- STREAM_RX_WORD (R168, R169): a receiving lane completes a word. -/
def execStreamRxWord (p : Nat) (wave : Wave) (s : State) : Host.Outcome State Fault Refusal :=
  s.run (decide (p < 256) && s.wordDue p && !s.transmits p) fun s =>
    (s.receiveWord p (s.sampleWord p wave.start wave.edges)).setLaneIn p (xor wave.start (wave.edges.length % 2 == 1)) s.here

/-- The filter time of a lane in steps (R171). -/
def State.filtTime (s : State) (p : Nat) : Nat := 32 * s.fld (.laneIo p) F.laneIo.filt

/-- The change that lane `p`'s filter holds has lasted its time by instant `t`: the instant of acceptance (R171). -/
def State.acceptance (s : State) (p t : Nat) : Option Nat :=
  match (s.lane p).cand with
  | some (u, _) => if u + s.filtTime p ≤ t then some (u + s.filtTime p) else none
  | none => none

/-- A CAPTURE lane takes an accepted edge whose instant at the pin was `time` (R170). -/
def State.captureEdge (s : State) (p : Nat) (rising : Bool) (time : Time) : State :=
  if (s.fld (.captureM0 p) F.captureM0.edges).testBit (if rising then 0 else 1) then
    if 8 ≤ (s.lane p).capture.length then s.incSat (.laneErr p) F.laneErr.erra
    else s.modLane p fun x => { x with capture := x.capture ++ [(rising, time.extractLsb' 0 48)] }
  else s

/-- An edge that a MIRROR lane accepts at instant `t` reaches the pin 96 steps later (R173); one within the hold of a
switch to timed operation appears at its end (R174). -/
def State.mirrorEdge (s : State) (p : Nat) (v : Bool) (t : Nat) : State :=
  s.modLane p fun x => { x with echo := x.echo ++ [(if t < x.hold then x.hold else t + 96, s.mirrorInv p v)] }

/-- What an edge of lane `p` does that was at the pin at instant `u` and `time` and is accepted at instant `t`; those of a
QUAD lane are sampled by its position unit (spec/08 R232). -/
def State.acceptEdge (s : State) (p : Nat) (v : Bool) (u : Nat) (time : Time) (t : Nat) : State :=
  let s := s.modLane p fun x => { x with filt := v, accAt := (u, time), cand := none }
  match s.mode p with
  | 2 => s.captureEdge p v time
  | 4 => s.mirrorEdge p v t
  | _ => s

/-- The change that lane `p`'s filter holds is accepted where its time has passed by instant `t` (R171). -/
def State.acceptBy (s : State) (p t : Nat) : State :=
  match s.acceptance p t, (s.lane p).cand with
  | some a, some (u, time) => s.acceptEdge p (!(s.lane p).filt) u time a
  | _, _ => s

/-- The input of lane `p` takes level `v`, behind INV_IN, at instant `t` (R171): with FILT = 0 a change is accepted at once;
else it is held, and a return before its time is a pulse removed, which CAPTURE and QUAD count in ERRB. A pulse shorter
than 2 ticks that the input does not see is no edge of any command. DESIGN CHOICE, assumption log 117. -/
def State.feedFilter (s : State) (p : Nat) (v : Bool) (t : Nat) : State :=
  let s := s.modLane p fun x => { x with inTick := s.ticks + 1 }
  let s := s.acceptBy p t
  let x := s.lane p
  if v = x.filt then
    if x.cand.isSome then
      let s := s.modLane p fun x => { x with cand := none }
      if s.mode p = modeCapture ∨ s.mode p = modeQuad then s.incSat (.laneErr p) F.laneErr.errb else s
    else s
  else if x.cand.isSome then s
  else if s.filtTime p = 0 then s.acceptEdge p v t (s.timeAt t) t
  else s.modLane p fun x => { x with cand := some (t, s.timeAt t) }

/-- CAPTURE_EDGE (R170, R171; spec/08 R215, R232; spec/10 R258): lane_in[p] takes level `lvl` at step `step`, whatever the
lane's mode and state; a CAPTURE or QUAD lane that is ON takes the edge through its filter. DESIGN CHOICE, assumption
log 117. -/
def execCaptureEdge (p : Nat) (lvl : Bool) (step : Nat) (s : State) : Host.Outcome State Fault Refusal :=
  s.run (decide (p < 256 ∧ step < 32)) fun s =>
    let t := s.stepAt step
    let s := (s.settleTo t).setLaneIn p lvl t
    if s.laneOn p && (s.mode p == modeCapture || s.mode p == modeQuad) && !s.swapStop p && s.shoreRuns then s.feedFilter p (s.inputLevel p) t else s

/-- MIRROR_EDGE (R173, R174): an edge of the source lane_in[SRC], which lane `p` copies: through its filter and 96 steps
later, or at once in bypass. -/
def execMirrorEdge (p : Nat) (edge : InputEdge) (s : State) : Host.Outcome State Fault Refusal :=
  s.run (decide (p < 256 ∧ edge.step < 32) && s.laneOn p && s.mode p == modeMirror && !s.swapStop p) fun s =>
    let t := s.stepAt edge.step
    let s := (s.settleTo t).setLaneIn (s.inputPin p) edge.level t
    if s.shoreRuns then s.feedFilter p (s.behindInv p (s.inputPin p)) t
    else (s.modLane p fun x => { x with lvl := s.mirrorLevel p, filt := s.behindInv p (s.inputPin p) }).settle

/-- MIRROR lanes that are ON. -/
def State.mirrors (s : State) : List Nat := (List.range 256).filter fun p => s.mode p == modeMirror && s.laneOn p

/-- The shore stops: every MIRROR lane switches to untimed bypass, which shows the input's present level; ERRA counts the
switch (R174). DESIGN CHOICE, assumption log 118. -/
def State.bypassMirrors (s : State) : State :=
  (s.mirrors.foldl (fun s p => (s.modLane p fun x =>
    { x with bypass := true, echo := [], cand := none, filt := s.behindInv p (s.inputPin p),
             lvl := s.mirrorLevel p }).incSat (.laneErr p) F.laneErr.erra) s).settle

/-- The shore runs again: every MIRROR lane in bypass switches to timed operation, holds its level for at most 3 ticks, and
counts the switch (R174). DESIGN CHOICE, assumption log 118. -/
def State.timeMirrors (s : State) : State :=
  s.mirrors.foldl (fun s p => if (s.lane p).bypass then
    (s.modLane p fun x => { x with bypass := false, hold := s.now + 32 * (Config.mirrorHold p s.ticks % 4) }).incSat
      (.laneErr p) F.laneErr.erra else s) s

/-- The edges of a MIRROR lane that have reached the pin by the end of the present tick are its level. -/
def State.settleEchoes (s : State) : State :=
  s.lanes.foldl (fun s x => if x.2.echo.isEmpty then s else s.modLane x.1 fun x =>
    { x with lvl := x.mirrored (s.now + 31), echo := x.echo.filter fun e => decide (s.now + 31 < e.1) }) s

/-- The clock of a DECIMATE lane has shown no selected edge for 8 × MCLK_TMO ticks (R172). -/
def State.clockLost (s : State) (p : Nat) : Bool :=
  let n := s.fld (.decimateM0 p) F.decimateM0.mclkTmo
  s.shoreRuns && s.laneOn p && s.mode p == modeDecimate && n != 0 && !(s.lane p).clkLost &&
    decide ((s.lane p).clkAt + 8 * n ≤ s.ticks)

/-- The inlet that the decimator of lane `p` feeds (R172). -/
def State.decInlet (s : State) (p : Nat) : Nat := 32 + s.fld (.decimateM0 p) F.decimateM0.dec

/-- CLKLOSS is set and ERRA advances; the decimator that the lane feeds is to start afresh (spec/09 R250). -/
def State.loseClock (s : State) (p : Nat) : State :=
  let s := s.setFld (.decimateM1 p) F.decimateM1.clkloss 1
  let s := if s.decConflict p then s else s.modInlet (s.decInlet p) fun x => { x with owed := true }
  (s.modLane p fun x => { x with clkLost := true }).incSat (.laneErr p) F.laneErr.erra

/-- DECIMATE_CLOCK_LOSS (R172). -/
def execDecimateClockLoss (p : Nat) (s : State) : Host.Outcome State Fault Refusal :=
  s.run (decide (p < 256) && s.clockLost p) fun s => s.loseClock p

/-! ### The ends of the pin-level limits (spec/07 R203) -/

/-- MINPW_EXPIRY (spec/07 R203): the level passed on has held for MINPW steps in the present tick and takes the requested
level; the pins follow to that step. DEDUCED, assumption log 24. -/
def execMinpwExpiry (p : Nat) (s : State) : Host.Outcome State Fault Refusal :=
  let t := (s.lane p).passedAt + s.minpw p
  s.run (decide (p < 256) && s.shoreRuns && s.limited p && decide (s.here < t) && s.dueBy t) fun s => s.settleTo t

/-- MAXON_EXPIRY (spec/07 R203): the level passed on has been 1 for MAXON ticks in the present tick and is forced to 0. -/
def execMaxonExpiry (p : Nat) (s : State) : Host.Outcome State Fault Refusal :=
  let t := (s.lane p).passedAt + s.maxon p
  s.run (decide (p < 256) && s.shoreRuns && s.limited p && s.maxon p != 0 && (s.lane p).limited && decide (s.here ≤ t) &&
      s.dueBy t) fun s => (s.settleTo t).settle

/-- DEAD_TIME_EXPIRY (spec/07 R203): the partner of lane `p` has been off for DEADT steps in the present tick. DESIGN
CHOICE, assumption log 20. -/
def execDeadTimeExpiry (p : Nat) (s : State) : Host.Outcome State Fault Refusal :=
  match (s.lane (partner p)).offAt with
  | none => s.run false id
  | some o => s.run (decide (p < 256) && s.shoreRuns && decide (s.here ≤ o + s.deadt p) && s.dueBy (o + s.deadt p)) fun s =>
    (s.settleTo (o + s.deadt p)).settle

/-- LANE_SAFE_CHANGE (spec/16 R439). -/
def execLaneSafeChange (p : Nat) (lvl : Bool) (s : State) : Host.Outcome State Fault Refusal :=
  s.run (decide (p < 256)) fun s =>
    (s.setPorts { s.ports with laneSafe := if lvl then s.ports.laneSafe ||| BitVec.ofNat 256 (2 ^ p)
                                           else s.ports.laneSafe &&& ~~~BitVec.ofNat 256 (2 ^ p) }).settle

/-- A lane reset (spec/18 R484): OFF at once with EN = 0 and PEND clear, entries and FIFO discarded, LANE_ERR
cleared. -/
def State.resetLane (s : State) (p : Nat) : State :=
  let s := s.setLaneLife p { st := 0, pend := 0, en := 0 }
  let s := s.dropEntries p
  let s := s.modLane p fun x => { x with fifo := [], capture := [], compares := [], txWord := none, started := false,
                                         grant := false, next := none, cand := none, echo := [], bypass := false }
  (s.wr (.laneErr p) 0).settle

/-! ### What the lanes do by themselves in a tick -/

/-- The lanes that are not as after reset, in ascending order: those for which something can be due in a tick. -/
def State.liveLanes (s : State) : List Nat :=
  ((s.lanes.map (·.1) ++ s.regs.filterMap fun x => arrayAt (Reg.laneStat 0).key 0x40 256 x.1).filter
    fun p => decide (p < 256)).foldl insertNum []

/-- What the start of the present tick makes due in the lanes: sequences that have ended, and stream words. -/
def State.laneTickStart (s : State) : State :=
  s.liveLanes.foldl (fun s p =>
    let s := if s.laneStartDue p || s.laneStopDue p then s.laneArrive p else s
    let s := if s.streamDue p then s.startStream p else s
    if s.wordDue p then
      if s.transmits p then s.nextWord p ((s.lane p).txStart + 16 * s.bitPeriod p)
      else s.receiveWord p (s.sampleWord p (s.ports.laneIn.getLsbD p) [])
    else s) s

/-- What the rest of the present tick holds for the lanes, once the pins have followed to its end: entries executed, filters
that accept, mirrored edges that have arrived, clocks lost. -/
def State.laneTickEnd (s : State) : State :=
  let s := s.executeAll
  let s := s.liveLanes.foldl (fun s p =>
    let s := if s.laneOn p then s.acceptBy p (s.now + 31) else s
    if s.clockLost p then s.loseClock p else s) s
  s.settleEchoes

end Sys2Proof.Machine
end

