-- ==== Sys2Proof/Machine/Conduits.lean ====
section
/-! DEFINITION. The conduits (spec/11 R297 to R304): lane demand, COPY transfers, triggers and their
registers. -/

namespace Sys2Proof.Machine

def State.conduit (s : State) (c : Nat) : Conduit := SMap.get s.conduits c .init
def State.setConduit (s : State) (c : Nat) (x : Conduit) : State := { s with conduits := SMap.put s.conduits c x .init }

def State.cdLife (s : State) (c : Nat) : Life :=
  { st := s.fld (.cdStat c) F.cdStat.state, pend := s.fld (.cdStat c) F.cdStat.pend, en := s.fld (.cdCtrl c) F.cdCtrl.en }

def State.cdKind (s : State) (c : Nat) : Nat := s.fld (.cdCfg c) F.cdCfg.kind
def State.cdLanes (s : State) (c : Nat) : Nat := s.fld (.cdCfg c) F.cdCfg.nlm1 + 1
def State.cdBase (s : State) (c : Nat) : Nat := 8 * s.fld (.cdPbase c) F.cdPbase.base
def State.cdLen (s : State) (c : Nat) : Nat := 8 * s.fld (.cdPlen c) F.cdPlen.len
/-- Bytes of a transfer; LEN 0 acts as 1 (R309). -/
def State.cdXlen (s : State) (c : Nat) : Nat := 8 * max 1 (s.fld (.cdXlen c) F.cdXlen.len)
def State.cdOffset (s : State) (c : Nat) : Nat := 8 * s.fld (.cdLaddr c) F.cdLaddr.offset
def State.cdPosition (s : State) (c k : Nat) : Nat := 8 * s.fld (.cdPos c k) F.cdPos.offset

/-- ERR keeps its first value; codes 1, 2 and 5 stop the conduit and are recorded as alarms (R302). -/
def State.cdError (s : State) (c err : Nat) : State :=
  let s := if s.fld (.cdStat c) F.cdStat.err = 0 then s.setFld (.cdStat c) F.cdStat.err err else s
  if err = 1 ∨ err = 2 ∨ err = 5 then
    (s.setConduit c { s.conduit c with dead := true }).alarm 0x13 (BitVec.ofNat 32 (256 * c + err))
  else s

/-- A descriptor that is inconsistent at STARTING (R302, ERR 5). -/
def State.cdInconsistent (s : State) (c : Nat) : Bool :=
  s.cdLen c % (8 * s.cdLanes c) != 0 || s.cdLen c == 0 || decide (s.cdLen c < s.cdXlen c) ||
    decide (8 < s.fld (.cdLaddr c) F.cdLaddr.role) ||
    ((s.cdKind c == 3 || s.cdKind c == 4) && decide (0x8000 < s.cdOffset c + s.cdXlen c))

/-- A conduit moves in its life-cycle: STARTING clears CD_POS, TRIGPEND and ERR, OFF ends a transfer (R302,
R303). -/
def State.moveConduit (s : State) (c : Nat) (l : Life) : State :=
  let old := (s.cdLife c).st
  let s := ((s.setFld (.cdStat c) F.cdStat.state l.st).setFld (.cdStat c) F.cdStat.pend l.pend).setFld
    (.cdCtrl c) F.cdCtrl.en l.en
  if old = l.st then s
  else if l.st = 1 then
    let s := (List.range 16).foldl (fun s k => s.wr (.cdPos c k) 0) s
    ((s.setFld (.cdStat c) F.cdStat.trigpend 0).setFld (.cdStat c) F.cdStat.err 0).setConduit c .init
  else if l.st = 0 then s.setConduit c .init
  else s

/-- The conduit is ON and moves data. -/
def State.cdLive (s : State) (c : Nat) : Bool := (s.cdLife c).st == lifeOn && !(s.conduit c).dead

/-- A trigger of a COPY conduit (R300). -/
def State.cdTrigger (s : State) (c : Nat) : State :=
  if !s.cdLive c || !(s.cdKind c == 3 || s.cdKind c == 4) then s
  else if !(s.conduit c).busy then s.setConduit c { s.conduit c with busy := true }
  else if s.bit (.cdStat c) F.cdStat.trigpend then s.incSat (.cdStat c) F.cdStat.trigovr
  else s.setFld (.cdStat c) F.cdStat.trigpend 1

/-- A CMPA match of counter `n` in the tick before triggers the conduits that name it (R300). -/
def State.matchConduits (s : State) (n : Nat) : State :=
  ((List.range 32).filter fun c => s.fld (.cdCfg c) F.cdCfg.trig == 2 && s.fld (.cdCfg c) F.cdCfg.tcnt == n).foldl
    State.cdTrigger s

/-- The end of a transfer or a ring event: DONECNT, and CDONE with EVEN set (R304). DEDUCED, assumption log 34. -/
def State.cdDone (s : State) (c : Nat) : State :=
  let s := s.incWrap (.cdStat c) F.cdStat.donecnt
  if s.bit (.cdEvt c) F.cdEvt.even then s.roleEvt (s.fld (.cdEvt c) F.cdEvt.role) (s.fld (.cdEvt c) F.cdEvt.thread) 7
  else s

/-- What a conduit's access to a ring word meets. -/
def State.cdAnswer (s : State) (a : Nat) (write : Bool) : SlotAnswer := s.poolAnswer a .conduit write

/-- The ERR of a refused ring word (R302): 2 in a slot that admits conduits but is retained. -/
def State.cdRefusal (s : State) (a : Nat) : Nat :=
  if inPool a && admits (s.slotOwner (poolSlot a)) 15 .conduit false &&
    s.fld (.memBstat (poolSlot a)) F.memBstat.state != 2 then 2 else 1

/-- A word of the ring at Pool address `a`: with `f` where the slot admits it, after a wake or a wait otherwise
(R302, R306). -/
def State.cdAccess (s : State) (c a : Nat) (write : Bool) (f : State → State) : State :=
  match s.cdAnswer a write with
  | .go => f s
  | .stall => s
  | .wake => s.autoWake (poolSlot a)
  | .refuse => s.cdError c (s.cdRefusal a)

/-! ### Streams (R298, R299) -/

/-- Lane `k` of the set is served (R298). -/
def State.cdServes (s : State) (c k : Nat) : Bool :=
  let p := s.fld (.cdCfg c) F.cdCfg.lane0 + k
  decide (p < 256) && s.mode p == modeStream && s.bit (.streamM0 p) F.streamM0.cden &&
    s.fld (.streamM0 p) F.streamM0.conduit == c && s.fld (.streamM0 p) F.streamM0.dir + 1 == s.cdKind c

/-- The Pool address of the next word of lane `k`'s sub-ring. -/
def State.cdRingAddr (s : State) (c k : Nat) : Nat :=
  s.cdBase c + k * (s.cdLen c / s.cdLanes c) + s.cdPosition c k

/-- CD_POS[k] advances by one word, with the ring events of R304. -/
def State.cdAdvance (s : State) (c k : Nat) : State :=
  let len := s.cdLen c / s.cdLanes c
  let new := if s.cdPosition c k + 8 < len then s.cdPosition c k + 8 else 0
  let s := s.setFld (.cdPos c k) F.cdPos.offset (new / 8)
  if new = 0 ∨ (s.bit (.cdEvt c) F.cdEvt.half ∧ new = s.cdLen c / (2 * s.cdLanes c)) then s.cdDone c else s

/-- The four lane words of a Pool word, in the order of spec/06 R167. -/
def laneWords (d : BitVec 64) : List Word :=
  [d.extractLsb' 0 16, d.extractLsb' 16 16, d.extractLsb' 32 16, d.extractLsb' 48 16]

/-- Lane `k` of the set is served and ready: its FIFO has room for four words, or of a STREAM_RX conduit holds four
(R299). -/
def State.cdLaneReady (s : State) (c k : Nat) : Bool :=
  let n := (s.lane (s.fld (.cdCfg c) F.cdCfg.lane0 + k)).fifo.length
  s.cdServes c k && (if s.cdKind c = 1 then decide (n ≤ 12) else decide (4 ≤ n))

/-- The ready lane whose turn it is: in ascending order from the conduit's pointer (R299; spec/01 R22). -/
def State.cdTurn (s : State) (c : Nat) : Option Nat :=
  ((List.range (s.cdLanes c)).map fun i => ((s.conduit c).ptr + i) % s.cdLanes c).find? fun k => s.cdLaneReady c k

/-- Lane `k` has been served. -/
def State.cdServed (s : State) (c k : Nat) : State := s.setConduit c { s.conduit c with ptr := (k + 1) % s.cdLanes c }

/-- CONDUIT_STREAM_TX_WORD (R299): it is the turn of lane `k` of the set, which has room for four words. A lane that fails
the test of R298 is skipped and sets ERR 4. -/
def execConduitStreamTxWord (c k : Nat) (s : State) : Host.Outcome State Fault Refusal :=
  s.run (decide (c < 32) && s.cdLive c && !s.paused && s.cdKind c == 1 && decide (k < s.cdLanes c)) fun s =>
    let p := s.fld (.cdCfg c) F.cdCfg.lane0 + k
    if !s.cdServes c k then s.cdError c 4
    else if s.cdTurn c ≠ some k then s
    else s.cdAccess c (s.cdRingAddr c k) false fun s =>
      let x := s.readWord (s.poolPhys (s.cdRingAddr c k))
      let s := x.2.2
      let idle : Word := if s.bit (.streamM0 p) F.streamM0.idleLvl then 0xFFFF else 0
      let s := if x.2.1 then (s.cdError c 3).incSat (.laneErr p) F.laneErr.erra else s
      let ws := if x.2.1 then [idle, idle, idle, idle] else laneWords x.1
      ((s.modLane p fun y => { y with fifo := y.fifo ++ ws }).cdServed c k).cdAdvance c k

/-- A Pool word from four lane words. -/
def poolWord (l : List Word) : BitVec 64 := l.getD 3 0 ++ l.getD 2 0 ++ l.getD 1 0 ++ l.getD 0 0

/-- CONDUIT_STREAM_RX_WORD (R299): it is the turn of lane `k` of the set, which holds four words. -/
def execConduitStreamRxWord (c k : Nat) (s : State) : Host.Outcome State Fault Refusal :=
  s.run (decide (c < 32) && s.cdLive c && !s.paused && s.cdKind c == 2 && decide (k < s.cdLanes c)) fun s =>
    let p := s.fld (.cdCfg c) F.cdCfg.lane0 + k
    if !s.cdServes c k then s.cdError c 4
    else if s.cdTurn c ≠ some k then s
    else s.cdAccess c (s.cdRingAddr c k) true fun s =>
      let d := poolWord ((s.lane p).fifo.take 4)
      let s := (s.modLane p fun y => { y with fifo := y.fifo.drop 4 }).cdServed c k
      (s.writeWord (s.poolPhys (s.cdRingAddr c k)) 0xFF d).cdAdvance c k

/-! ### COPY transfers (R300) -/

/-- The ring address of word `i` of the present transfer; the ring wraps within it. -/
def State.cdCopyAddr (s : State) (c i : Nat) : Nat := s.cdBase c + (s.cdPosition c 0 + 8 * i) % s.cdLen c

/-- The local RAM word of word `i` of the transfer. -/
def State.cdLocalWord (s : State) (c i : Nat) : Nat := s.cdOffset c / 8 + i

/-- Word `i` of the transfer moves between the ring and the local RAM of engine `e`; a poisoned word is
written with the poison code (R302). -/
def State.cdCopyWord (s : State) (c e i : Nat) : State :=
  if (s.conduit c).dead then s
  else
    let a := s.cdCopyAddr c i
    let l := s.cdLocalWord c i
    let inward := s.cdKind c == 3
    s.cdAccess c a (!inward) fun s =>
      if inward then
        let x := s.readWord (s.poolPhys a)
        let y := x.2.2.lramPort e true l 0xFF
        if x.2.1 then (y.2.poisonLram e l).cdError c 3 else y.2.writeLram e l y.1 x.1
      else
        let x := s.readWord (lramWord e l)
        if x.2.1 then (x.2.2.poisonWord (x.2.2.served (x.2.2.poolPhys a))).cdError c 3
        else x.2.2.writeWord (x.2.2.poolPhys a) 0xFF x.1

/-- Word `i` of the transfer does not have to wait (R280, R306, spec/14 R369). -/
def State.cdWordReady (s : State) (c e i : Nat) : Bool :=
  let x := s.cdAnswer (s.cdCopyAddr c i) (s.cdKind c == 4)
  (x == .go || x == .refuse) && !(s.cdKind c == 3 && s.mirrorWaits e (s.cdLocalWord c i))

/-- `n` words of the transfer move from word `i` on, up to the first that has to wait. -/
def State.cdCopyFrom (s : State) (c e i : Nat) : Nat → State
  | 0 => s
  | n + 1 => if s.cdWordReady c e i then (s.cdCopyWord c e i).cdCopyFrom c e (i + 1) n else s

/-- The first `n` words of the transfer move. DESIGN CHOICE, assumption log 15. -/
def State.cdCopy (s : State) (c e n : Nat) : State := s.cdCopyFrom c e 0 n

/-- The transfer can go on: no word it touches has to wait. -/
def State.cdReady (s : State) (c e : Nat) : Bool := (List.range (s.cdXlen c / 8)).all fun i => s.cdWordReady c e i

/-- A word that waits in a retained slot with AUTO_WAKE set wakes it. -/
def State.cdWake (s : State) (c : Nat) : State :=
  (List.range (s.cdXlen c / 8)).foldl (fun s i =>
    if s.cdAnswer (s.cdCopyAddr c i) (s.cdKind c == 4) == .wake then s.autoWake (poolSlot (s.cdCopyAddr c i)) else s) s

/-- CONDUIT_TRANSFER_DONE (R300, R304): the transfer's words have moved; a pending trigger runs.
DESIGN CHOICE, assumption log 15. -/
def execConduitTransferDone (c : Nat) (s : State) : Host.Outcome State Fault Refusal :=
  s.run (decide (c < 32) && s.cdLive c && !s.paused && (s.conduit c).busy) fun s =>
    match s.engineOn (s.fld (.cdLaddr c) F.cdLaddr.role) with
    | none => s
    | some e =>
      if !s.cdReady c e then s.cdWake c
      else
        let s := s.cdCopy c e (s.cdXlen c / 8)
        if (s.conduit c).dead then s
        else
          let s := s.setFld (.cdPos c 0) F.cdPos.offset ((s.cdPosition c 0 + s.cdXlen c) % s.cdLen c / 8)
          let s := s.cdDone c
          if s.bit (.cdStat c) F.cdStat.trigpend then s.setFld (.cdStat c) F.cdStat.trigpend 0
          else s.setConduit c { s.conduit c with busy := false }

/-! ### Life-cycle and registers (R300, R303, R309) -/

/-- A conduit reaches ON or OFF; a latched request is taken at once (R303; spec/01 R20, R21). -/
def State.conduitArrive (s : State) (c : Nat) : State :=
  let s := s.moveConduit c (s.cdLife c).arrive
  s.moveConduit c (s.cdLife c).onward

/-- CONDUIT_START_DONE (R303). -/
def execConduitStartDone (c : Nat) (s : State) : Host.Outcome State Fault Refusal :=
  s.run (decide (c < 32) && (s.cdLife c).st == 1) fun s =>
    (if s.cdInconsistent c then s.cdError c 5 else s).conduitArrive c

/-- CONDUIT_STOP_DONE (R303): a transfer in progress has moved some of its words.
DESIGN CHOICE, assumption log 5. -/
def execConduitStopDone (c : Nat) (s : State) : Host.Outcome State Fault Refusal :=
  s.run (decide (c < 32) && (s.cdLife c).st == 3) fun s =>
    let s := match s.engineOn (s.fld (.cdLaddr c) F.cdLaddr.role) with
      | some e => if (s.conduit c).busy then s.cdCopy c e (min (Config.wordsMoved c s.tick) (s.cdXlen c / 8)) else s
      | none => s
    s.conduitArrive c

/-- CD_CTRL (R300, R303): KICK triggers a conduit whose TRIG is not 2. -/
def writeCdCtrl (s : State) (w : Wr) (c : Nat) : State × Bool :=
  let s := if s.may w (.cdCtrl c) F.cdCtrl.en && w.any F.cdCtrl.en then
    s.moveConduit c ((s.cdLife c).request (w.bits F.cdCtrl.en)) else s
  (if s.wrote1 w (.cdCtrl c) F.cdCtrl.kick && s.fld (.cdCfg c) F.cdCfg.trig != 2 then s.cdTrigger c else s, false)

/-- CD_EN_WRITE (R303). -/
def execCdEnWrite (w : Who) (c : Nat) (d : BitVec 32) (strb : BitVec 4) (s : State) :
    Host.Outcome State Fault Refusal :=
  let x : Wr := ⟨w, (Reg.cdCtrl c).key, d, strb⟩
  s.run (decide (c < 32)) fun s => s.access x (.cdCtrl c) fun s => writeCdCtrl s x c

/-- KICK (R300). -/
def execKick (w : Who) (c : Nat) (d : BitVec 32) (strb : BitVec 4) (s : State) : Host.Outcome State Fault Refusal :=
  let x : Wr := ⟨w, (Reg.cdCtrl c).key, d, strb⟩
  s.run (decide (c < 32)) fun s => s.access x (.cdCtrl c) fun s => writeCdCtrl s x c

/-- CD_CFG, CD_PBASE, CD_PLEN, CD_LADDR, CD_XLEN: only while OFF (R303). -/
def writeCdDescriptor (s : State) (w : Wr) (c : Nat) (r : Reg) : State × Bool :=
  r.fields.foldl (fun x f => State.takeIf ((s.cdLife c).st == 0) x w r f) (s, false)

/-- CD_POS[k] as read: zero for k at or above NL (R309). -/
def State.readCdPos (s : State) (c k : Nat) : BitVec 32 := if k < s.cdLanes c then s.rd (.cdPos c k) else 0

end Sys2Proof.Machine
end

