-- ==== Sys2Proof/Machine/Counters.lean ====
section
/-! DEFINITION. The counter bank (spec/08 R213 to R230): counting, chains, starts, compares, snapshots and the
fabric functions. A write acts at the start of the tick after its acceptance (spec/01 R7), so that the ticks here are
those in which the counters hold their values. -/

namespace Sys2Proof.Machine

def State.counter (s : State) (n : Nat) : Counter := SMap.get s.counters n .init
def State.setCounter (s : State) (n : Nat) (x : Counter) : State := { s with counters := SMap.put s.counters n x .init }

def State.modCounter (s : State) (n : Nat) (f : Counter → Counter) : State := s.setCounter n (f (s.counter n))

/-- The value a counter holds. -/
def State.count (s : State) (n : Nat) : Nat := s.fld (.cntCount n) F.cntCount.count

/-- The mode whose sequence counter `n` follows: its chain base's (R216). -/
def State.cntMode (s : State) (n : Nat) : Nat := s.fld (.cntCtrl (s.chainBase n)) F.cntCtrl.mode

/-- A counter above its base in a chain. -/
def State.chained (s : State) (n : Nat) : Bool := s.chainBase n != n

/-- The TIMER lanes that counter `n` drives take the actions that apply in this tick, in the order Z, A, B
(spec/06 R175); the level appears at the start of the next tick, and each applied action but the last counts as overridden. DEDUCED, assumption log 32. -/
def State.timerActions (s : State) (n : Nat) (z a b : Bool) : State :=
  ((List.range 256).filter fun p => s.mode p == modeTimer && s.laneOn p && s.fld (.timerM0 p) F.timerM0.cnt == n).foldl
    (fun s p =>
      let acts := ([(z, s.fld (.timerM0 p) F.timerM0.actz), (a, s.fld (.timerM0 p) F.timerM0.acta),
        (b, s.fld (.timerM0 p) F.timerM0.actb)].filter fun x => x.1 && x.2 != 0).map (·.2)
      if acts.isEmpty then s
      else
        let s := s.setFld (.laneErr p) F.laneErr.erra (min 0xFFFF (s.fld (.laneErr p) F.laneErr.erra + acts.length - 1))
        let v := acts.foldl (fun v x => actOn (x - 1) 0 v) ((s.lane p).lvl, (s.lane p).oe)
        s.modLane p fun x => { x with next := some v.1 }) s

/-- A compare of counter `n` matches (R224): its flag at once, its thread event and its producer's pulse at the start of the
next tick. -/
def State.match_ (s : State) (n : Nat) (flag : Fld) (en : Fld) (bit : Fld) (x : Producer) : State :=
  let s := s.setFld (.cntStat n) flag 1
  let s := if s.bit (.cntEvt n) en then
      s.later (.event (s.fld (.cntEvt n) F.cntEvt.role) (s.fld (.cntEvt n) F.cntEvt.thread) (8 + s.fld (.cntEvt n) bit)) else s
  s.later (.fire x)

/-- A counter enters a value (R221, R224): the compares are tested, and `z` says that it is the start of its
period. DEDUCED, assumption log 32. -/
def State.enter (s : State) (n v : Nat) (z : Bool) : State :=
  let s := s.setFld (.cntCount n) F.cntCount.count v
  let a := v == s.fld (.cntCmpa n) F.cntCmpa.cmp
  let b := v == s.fld (.cntCmpb n) F.cntCmpb.cmp
  let s := if a then (s.match_ n F.cntStat.ma F.cntEvt.aen F.cntEvt.abit (.cma n)).later (.matched n) else s
  let s := if b then s.match_ n F.cntStat.mb F.cntEvt.ben F.cntEvt.bbit (.cmb n) else s
  s.timerActions n z a b

/-- The TOP last written takes effect (R219). -/
def State.loadTop (s : State) (n : Nat) : State :=
  s.setCounter n { s.counter n with top := s.fld (.cntTop n) F.cntTop.top }

def State.setDir (s : State) (n : Nat) (down : Bool) : State := s.setFld (.cntStat n) F.cntStat.dir (if down then 1 else 0)

/-- A counter enters its period start, with the TOP last written (R213, R219). -/
def State.enterStart (s : State) (n : Nat) : State :=
  let s := s.loadTop n
  s.enter n (if s.cntMode n = 1 then (s.counter n).top else 0) true

/-- One count of a counter in up-wrap or down-wrap (R213, R214, R216); answers whether it carries. -/
def State.countWrap (s : State) (n : Nat) (down : Bool) : State × Bool :=
  let v := s.count n
  if down then
    if v = 0 then (s.enterStart n, true) else (s.enter n (v - 1) false, false)
  else if v = (s.counter n).top ∨ v = 0xFFFF then (s.enterStart n, true)
  else (s.enter n (v + 1) false, false)

/-- A carry out of counter `n` counts the chain above it, in the same tick (R216); a counter reset in this tick
absorbs it (R218). -/
def State.carry (s : State) (n : Nat) (down : Bool) : Nat → State
  | 0 => s
  | k + 1 =>
    let m := n + 1
    if m % 4 ≠ 0 ∧ s.bit (.cntCtrl m) F.cntCtrl.chain ∧ (s.counter m).cntAt ≠ some s.ticks then
      let x := s.countWrap m down
      if x.2 then x.1.carry m down k else x.1
    else s

/-- One count event of an unchained counter in each mode (R213, R214). -/
def State.countOnce (s : State) (n : Nat) : State :=
  let v := s.count n
  let top := (s.counter n).top
  match s.fld (.cntCtrl n) F.cntCtrl.mode with
  | 0 => let x := s.countWrap n false
         if x.2 then x.1.carry n false 3 else x.1
  | 1 => let x := s.countWrap n true
         if x.2 then x.1.carry n true 3 else x.1
  | 2 =>
    if s.bit (.cntStat n) F.cntStat.dir then
      if v ≤ 1 then (s.setDir n false).enterStart n else s.enter n (v - 1) false
    else if top ≤ v then
      if v = 0 then s.enterStart n
      else if v = 1 then s.enterStart n else (s.setDir n true).enter n (v - 1) false
    else if v + 1 = top then (s.setDir n true).enter n (v + 1) false
    else s.enter n (v + 1) false
  | _ =>
    if s.bit (.cntStat n) F.cntStat.done then s
    else
      let s := if v + 1 = top then s.setFld (.cntStat n) F.cntStat.done 1 else s
      s.enter n (v + 1) false

/-- The function that the event held by CH96 + j performs in the present tick: it was sampled in an earlier one (R227). A
target that a stand-in replaces may hold one of its own until it has acted (spec/10 R272). -/
def State.bankHolder (s : State) (j : Nat) : Option Nat :=
  [96 + j, s.chanOf (96 + j)].find? fun c => match (s.channel c).fnHeld with
    | [] => false
    | t :: _ => decide (t < s.ticks)

/-- A reset event that acts in the present tick targets counter `n` (R218). -/
def State.resetComing (s : State) (n : Nat) : Bool :=
  (List.range 16).any fun j => s.fld (.cntFabfn j) F.cntFabfn.func == 4 && s.fld (.cntFabfn j) F.cntFabfn.tgt == n &&
    (s.bankHolder j).isSome

/-- A count event of counter `n`, at most one in a tick (R215); a reset in the same tick absorbs it (R218). DEDUCED,
assumption log 97. -/
def State.countEvent (s : State) (n : Nat) : State :=
  if s.chained n || s.cntState n != lifeOn || (s.counter n).cntAt == some s.ticks || s.resetComing n then s
  else (s.modCounter n fun x => { x with cntAt := some s.ticks }).countOnce n

/-- An edge of lane_in[p] selected by `ledge` was sampled in the tick before the present one: lane_in is sampled once per
tick (R215). -/
def State.edgeSampled (s : State) (p ledge : Nat) : Bool :=
  let v := s.shore.sampled.getLsbD p
  v != s.shore.before.getLsbD p && ledge.testBit (if v then 0 else 1)

/-- A count event of counter `n` falls in the present tick, from the prescaled tick or a lane edge (R215); those of a
channel come with FAB_FN_COUNT. -/
def State.countDue (s : State) (n : Nat) : Bool :=
  let c := Reg.cntCtrl n
  let k := s.ticks - (s.counter n).onAt
  s.shoreRuns && !s.chained n && s.cntState n == lifeOn && (s.counter n).cntAt != some s.ticks && match s.fld c F.cntCtrl.clksrc with
    | 0 => decide (0 < k ∧ k % 2 ^ s.fld c F.cntCtrl.presc = 0)
    | 1 => s.edgeSampled (s.fld c F.cntCtrl.clklane) (s.fld c F.cntCtrl.ledge)
    | _ => false

/-- COUNT_EVENT (R215): the count event of the present tick. -/
def execCountEvent (n : Nat) (s : State) : Host.Outcome State Fault Refusal :=
  s.run (decide (n < 64) && s.countDue n) fun s => s.countEvent n

/-! ### Starting and stopping (R217) -/

def State.cntLife (s : State) (n : Nat) : Life :=
  { st := s.fld (.cntStat n) F.cntStat.state, pend := s.fld (.cntStat n) F.cntStat.pend,
    en := s.fld (.cntCtrl n) F.cntCtrl.en }

def State.setCntLife (s : State) (n : Nat) (l : Life) : State :=
  ((s.setFld (.cntStat n) F.cntStat.state l.st).setFld (.cntStat n) F.cntStat.pend l.pend).setFld
    (.cntCtrl n) F.cntCtrl.en l.en

/-- A counter moves in its life-cycle in the present tick: STARTING without ARM ends in the next one (R217). -/
def State.moveCounter (s : State) (n : Nat) (l : Life) : State :=
  let old := (s.cntLife n).st
  let s := s.setCntLife n l
  if old = l.st then s
  else s.modCounter n fun x =>
    { x with since := s.ticks, onDue := if l.st = 1 ∧ !s.bit (.cntCtrl n) F.cntCtrl.arm then some (s.ticks + 1) else none }

/-- DIR, DONE and the value entered in the tick in which counter `n` reaches ON, the present one (R213, R214,
R217). DEDUCED, assumption log 32 and 97. -/
def State.enterCounting (s : State) (n : Nat) : State :=
  let v := s.count n
  let top := (s.counter n).top
  let mode := s.cntMode n
  let s := s.modCounter n fun x => { x with onAt := s.ticks, cntAt := some s.ticks }
  let s := s.setDir n (decide (mode = 1 ∨ (mode = 2 ∧ !s.chained n ∧ top ≤ v ∧ v ≠ 0)))
  let s := s.setFld (.cntStat n) F.cntStat.done (if mode = 3 ∧ !s.chained n ∧ top ≤ v then 1 else 0)
  s.enter n v (v == if mode = 1 then top else 0)

/-- A counter and the counters chained to it reach ON (R216, R217); a latched disable is taken in the next tick. -/
def State.reachOn (s : State) (n : Nat) : State :=
  let s := s.moveCounter n (s.cntLife n).arrive
  ((List.range 4).filter fun k => n + k < 64 && s.chainBase (n + k) == n).foldl (fun s k => s.enterCounting (n + k)) s

/-- A start that acts in the present tick, from one in the tick before: every armed counter among those `f` selects that was
in STARTING then reaches ON (R217). -/
def State.start (s : State) (f : Nat → Bool) : State :=
  ((List.range 64).filter fun n => f n && !s.chained n && (s.cntLife n).st == 1 && s.bit (.cntCtrl n) F.cntCtrl.arm &&
      decide ((s.counter n).since < s.ticks)).foldl (fun s n => s.reachOn n) s

/-- STARTING of counter `n` ends in the present tick without a start (R217). -/
def State.cntOnDue (s : State) (n : Nat) : Bool :=
  s.shoreRuns && !s.chained n && (s.cntLife n).st == 1 && match (s.counter n).onDue with
    | some d => decide (d ≤ s.ticks)
    | none => false

/-- COUNTER_ON (R217): STARTING of a counter that does not wait for a start ends. -/
def execCounterOn (n : Nat) (s : State) : Host.Outcome State Fault Refusal :=
  s.run (decide (n < 64) && s.cntOnDue n) fun s => s.reachOn n

/-- STOPPING of counter `n`, of one tick, has ended (R217). -/
def State.cntOffDue (s : State) (n : Nat) : Bool :=
  s.shoreRuns && !s.chained n && (s.cntLife n).st == 3 && decide ((s.counter n).since < s.ticks)

/-- A counter reaches OFF; a latched enable is taken in the same tick (R20, R217). -/
def State.reachOff (s : State) (n : Nat) : State :=
  let s := s.moveCounter n (s.cntLife n).arrive
  s.moveCounter n (s.cntLife n).onward

/-- COUNTER_OFF (R217). -/
def execCounterOff (n : Nat) (s : State) : Host.Outcome State Fault Refusal :=
  s.run (decide (n < 64) && s.cntOffDue n) fun s => s.reachOff n

/-- A counter that reached ON in an earlier tick with a disable latched stops (R217). -/
def State.stopLatched (s : State) (n : Nat) : State :=
  if (s.cntLife n).st = lifeOn ∧ (s.cntLife n).pend = 1 ∧ (s.counter n).onAt < s.ticks then
    s.moveCounter n (s.cntLife n).onward else s

/-- An EN write of 0 by a domain reset acts on counter `n`; a chained counter follows its base (R216, R220). -/
def State.stopCounter (s : State) (n : Nat) : State :=
  if s.chained n then s.setFld (.cntCtrl n) F.cntCtrl.en 0 else s.moveCounter n ((s.cntLife n).request 0)

/-- The counters of domain `d`. -/
def State.domainCounters (s : State) (d : Nat) : List Nat :=
  (List.range 64).filter fun n => s.bit (.cntCtrl n) F.cntCtrl.domv && s.fld (.cntCtrl n) F.cntCtrl.dom == d

/-- Counters armed (R220): every counter of domain `d` with EN = 1 has left OFF. -/
def State.countersArmed (s : State) (d : Nat) : Bool :=
  (List.range 64).all fun n => s.chained n || !(s.bit (.cntCtrl n) F.cntCtrl.domv &&
    s.fld (.cntCtrl n) F.cntCtrl.dom == d && s.bit (.cntCtrl n) F.cntCtrl.en) || (s.cntLife n).st != 0

/-- A reset event (R218): an ON counter enters its period start. -/
def State.resetCount (s : State) (n : Nat) : State :=
  if s.cntState n ≠ lifeOn then s
  else
    let s := s.modCounter n fun x => { x with cntAt := some s.ticks }
    let s := if s.cntMode n = 2 then s.setDir n false else s
    let s := (s.setFld (.cntStat n) F.cntStat.done 0).enterStart n
    if s.cntMode n = 3 ∧ !s.chained n ∧ (s.counter n).top = 0 then s.setFld (.cntStat n) F.cntStat.done 1 else s

/-! ### Fabric functions (R227) -/

/-- The event held by channel `c` is taken. -/
def State.takeHeld (s : State) (c : Nat) : State := s.modChannel c fun x => { x with fnHeld := x.fnHeld.tail }

/-- The count events of a channel's function COUNT. -/
def State.countChannel (s : State) (j : Nat) : State :=
  ((List.range 64).filter fun n => s.fld (.cntCtrl n) F.cntCtrl.clksrc == 2 &&
    s.fld (.cntCtrl n) F.cntCtrl.clkch == j).foldl (fun s n => s.countEvent n) s

/-- Function `fn` of CH96 + j, other than SNAP (R227). -/
def State.bankAct (s : State) (j fn : Nat) : State :=
  let tgt := s.fld (.cntFabfn j) F.cntFabfn.tgt
  match fn with
  | 1 => s.start fun _ => true
  | 2 => s.start fun n => n / 4 == tgt % 16
  | 3 => s.countChannel j
  | 4 => s.resetCount tgt
  | _ => s

/-- The held events that act in the present tick with function `fn`. -/
def State.bankRun (s : State) (fn : Nat) : State :=
  (List.range 16).foldl (fun s j =>
    if s.fld (.cntFabfn j) F.cntFabfn.func = fn then match s.bankHolder j with
      | some c => (s.bankAct j fn).takeHeld c
      | none => s
    else s) s

/-- What the present tick makes due in the counters: resets first, which absorb counts (R218), then starts, the ends of
sequences, and count events. -/
def State.countTick (s : State) : State :=
  let s := [4, 1, 2].foldl State.bankRun s
  let s := (List.range 64).foldl (fun s n =>
    let s := if s.cntOnDue n then s.reachOn n else s
    if s.cntOffDue n then s.reachOff n else s) s
  let s := s.bankRun 3
  (List.range 64).foldl (fun s n => if s.countDue n then s.countEvent n else s) s

/-- A capture of group `g` in the present tick, of the values held in it (R226); several requests for one tick capture
once. -/
def State.snap (s : State) (g : Nat) : State :=
  if (s.counter (4 * g)).snapAt = some s.ticks then s
  else
    let s := s.countTick
    let c := fun k => BitVec.ofNat 16 (s.count (4 * g + k))
    let seq := s.rd (.cntSnapv g 3) + 1
    let s := s.modCounter (4 * g) fun x => { x with snapAt := some s.ticks }
    let s := s.wr (.cntSnapv g 0) (c 1 ++ c 0)
    let s := s.wr (.cntSnapv g 1) (c 3 ++ c 2)
    let s := s.wr (.cntSnapv g 2) (s.tickTime.extractLsb' 0 32)
    (s.wr (.cntSnapv g 3) seq).incWrap .cntSnap F.cntSnap.seq

/-- The event held for CH96 + j acts with function `fn`. -/
def State.fabFn (s : State) (j fn : Nat) : Host.Outcome State Fault Refusal :=
  match s.bankHolder j with
  | none => s.run false id
  | some c => s.run (decide (j < 16) && s.shoreRuns && s.fld (.cntFabfn j) F.cntFabfn.func == fn) fun s =>
    (s.bankAct j fn).takeHeld c

/-- FAB_FN_GO. -/
def execFabFnGo (j : Nat) (s : State) : Host.Outcome State Fault Refusal := s.fabFn j 1

/-- FAB_FN_START. -/
def execFabFnStart (j : Nat) (s : State) : Host.Outcome State Fault Refusal := s.fabFn j 2

/-- FAB_FN_COUNT. -/
def execFabFnCount (j : Nat) (s : State) : Host.Outcome State Fault Refusal := s.fabFn j 3

/-- FAB_FN_RESET. -/
def execFabFnReset (j : Nat) (s : State) : Host.Outcome State Fault Refusal := s.fabFn j 4

/-- FAB_FN_SNAP. -/
def execFabFnSnap (j : Nat) (s : State) : Host.Outcome State Fault Refusal :=
  match s.bankHolder j with
  | none => s.run false id
  | some c => s.run (decide (j < 16) && s.shoreRuns && s.fld (.cntFabfn j) F.cntFabfn.func == 5) fun s =>
    (s.takeHeld c).snap (s.fld (.cntFabfn j) F.cntFabfn.tgt % 16)

/-- What the present tick makes due in the counter bank; events of a channel without a function act on nothing (R227). -/
def State.counterTick (s : State) : State :=
  let s := s.countTick
  (List.range 16).foldl (fun s j => match s.bankHolder j with
    | none => s
    | some c =>
      let s := s.takeHeld c
      if s.fld (.cntFabfn j) F.cntFabfn.func = 5 then s.snap (s.fld (.cntFabfn j) F.cntFabfn.tgt % 16) else s) s

/-! ### Registers (R228 to R230) -/

/-- The counter, or its chain base, is OFF (R220). -/
def State.cntOff (s : State) (n : Nat) : Bool := s.cntState n == 0

/-- CNT_CTRL (R217, R220; spec/01 R15): ARM = 0 ends the wait of a counter for a start. -/
def writeCntCtrl (s : State) (w : Wr) (n : Nat) : State × Bool :=
  let r := Reg.cntCtrl n
  let off := s.cntOff n
  let fs := [F.cntCtrl.ledge, F.cntCtrl.presc, F.cntCtrl.clklane, F.cntCtrl.clkch, F.cntCtrl.clksrc, F.cntCtrl.mode] ++
    (if n % 4 = 0 then [] else [F.cntCtrl.chain])
  let x := if off then s.takeDomain w r F.cntCtrl.domv F.cntCtrl.dom
    else (s, s.changes w r F.cntCtrl.domv || s.changes w r F.cntCtrl.dom)
  let x := fs.foldl (fun x f => State.takeIf off x w r f) x
  let t := x.1.take w r F.cntCtrl.arm
  let t := if (t.cntLife n).st = 1 ∧ !t.bit r F.cntCtrl.arm ∧ (t.counter n).onDue = none then
      t.modCounter n fun x => { x with onDue := some t.ticks } else t
  let t := if !w.any F.cntCtrl.en then t
    else if t.chained n then t.take w r F.cntCtrl.en
    else t.moveCounter n ((t.cntLife n).request (w.bits F.cntCtrl.en))
  (t, x.2)

/-- CNT_EN_WRITE (R217). -/
def execCntEnWrite (w : Who) (n : Nat) (d : BitVec 32) (strb : BitVec 4) (s : State) :
    Host.Outcome State Fault Refusal :=
  let x : Wr := ⟨w, (Reg.cntCtrl n).key, d, strb⟩
  s.run (decide (n < 64)) fun s => s.access x (.cntCtrl n) fun s => writeCntCtrl s x n

/-- CNT_COUNT: only while OFF (R220). -/
def writeCntCount (s : State) (w : Wr) (n : Nat) : State × Bool :=
  State.takeIf (s.cntOff n) (s, false) w (.cntCount n) F.cntCount.count

/-- CNT_TOP (R219). -/
def writeCntTop (s : State) (w : Wr) (n : Nat) : State × Bool :=
  let s := s.take w (.cntTop n) F.cntTop.top
  (if s.cntState n = lifeOn then s else s.loadTop n, false)

/-- CNT_CMPA and CNT_CMPB: refused from C of a freeze of the counter's domain (spec/14 R363; spec/17 R510). -/
def writeCntCmp (s : State) (w : Wr) (n : Nat) (r : Reg) (f : Fld) : State × Bool :=
  let frozen := s.bit (.cntCtrl n) F.cntCtrl.domv && (s.domain (s.fld (.cntCtrl n) F.cntCtrl.dom)).stopped
  State.takeIf (!frozen) (s, false) w r f

/-- CNT_GO (R217). -/
def writeCntGo (s : State) (w : Wr) : State × Bool :=
  (if s.wrote1 w .cntGo F.cntGo.go && s.shoreRuns then s.start fun _ => true else s, false)

/-- GO (R217). -/
def execCntGo (w : Who) (d : BitVec 32) (strb : BitVec 4) (s : State) : Host.Outcome State Fault Refusal :=
  let x : Wr := ⟨w, (Reg.cntGo).key, d, strb⟩
  s.run true fun s => s.access x .cntGo fun s => writeCntGo s x

/-- CNT_SNAP (R226). -/
def writeCntSnap (s : State) (w : Wr) : State × Bool :=
  (if w.any F.cntSnap.group && s.shoreRuns then s.snap (w.bits F.cntSnap.group) else s, false)

/-- CNT_SNAP (R226). -/
def execCntSnap (w : Who) (d : BitVec 32) (strb : BitVec 4) (s : State) : Host.Outcome State Fault Refusal :=
  let x : Wr := ⟨w, (Reg.cntSnap).key, d, strb⟩
  s.run true fun s => s.access x .cntSnap fun s => writeCntSnap s x

/-- CNT_STAT as read: a chained counter reports the STATE and PEND of its base (R216). -/
def State.readCntStat (s : State) (n : Nat) : BitVec 32 :=
  let b := s.chainBase n
  F.cntStat.state.put (F.cntStat.pend.put (s.rd (.cntStat n)) (s.fld (.cntStat b) F.cntStat.pend))
    (s.fld (.cntStat b) F.cntStat.state)

end Sys2Proof.Machine
end

