-- ==== Sys2Proof/Machine/Weirs.lean ====
section
/-! DEFINITION. The weirs (spec/07): stages, deadlines, the decision of R196 with its fallbacks and clamps, the
entries of a period, and the weir and commit-group registers. The pin-level limits are in Machine/Pins.lean. -/

namespace Sys2Proof.Machine

/-! ### Groups and periods -/

/-- The commit group of weir `p`. -/
def State.groupOf (s : State) (p : Nat) : Nat := s.fld (.weirCfg p) F.weirCfg.cg

/-- PER of a group in ticks; a value below 64 acts as 64 (R206). -/
def State.per (s : State) (g : Nat) : Nat := max 64 (s.fld (.weirCgper g) F.weirCgper.per)

/-- LEAD of a group; a value below 32 acts as 32 (R189). -/
def State.lead (s : State) (g : Nat) : Nat := max 32 (s.fld (.weirCgld g) F.weirCgld.lead)

/-- A group's domain is ON, so that its deadlines occur (R189, R190). -/
def State.groupLive (s : State) (g : Nat) : Bool :=
  s.shoreRuns && s.bit (.weirCgctl g) F.weirCgctl.domv && s.domainOn (s.fld (.weirCgctl g) F.weirCgctl.dom)

/-- SRC = STROBE. -/
def State.byStrobe (s : State) (g : Nat) : Bool := s.bit (.weirCgctl g) F.weirCgctl.src

/-- A group's deadlines back to the last whose period has started by tick `n`. -/
def startedBy (lead n : Nat) : List Nat → List Nat
  | [] => []
  | d :: l => if d + lead ≤ n then [d] else d :: startedBy lead n l

/-- The tick from which PER runs to the strobe-missing deadline: the last deadline, or ARMED (R191). -/
def State.lastDeadline (s : State) (g : Nat) : Nat := ((s.group g).deadlines.head?).getD (s.group g).armed

/-- The deadline of the last period started by tick `n`, or ARMED (R191). -/
def State.startedDeadline (s : State) (g n : Nat) : Nat :=
  ((s.group g).deadlines.find? fun d => decide (d + s.lead g ≤ n)).getD (s.group g).armed

/-- The unit of a weir in steps: 2^RES, RES above 12 acts as 12 (R199, R211). -/
def State.unit (s : State) (p : Nat) : Nat := 2 ^ min 12 (s.fld (.weirCfg p) F.weirCfg.res)

/-- The units of a period (R199, R206). -/
def State.units (s : State) (p : Nat) : Nat := max 1 (min 65535 (s.per (s.groupOf p) * 32 / s.unit p))

/-! ### Stages -/

def kindDuty : Nat := 1
def kindEdge : Nat := 2
def kindLevel : Nat := 3
def kindWord : Nat := 4
def kindComplement : Nat := 5

def State.kind (s : State) (p : Nat) : Nat := s.fld (.weirCfg p) F.weirCfg.kind

/-- The KIND takes stages (R188). -/
def State.takesStages (s : State) (p : Nat) : Bool := decide (1 ≤ s.kind p ∧ s.kind p ≤ 4)

/-- The weir's lane is ON in EDGE mode, counting a spare swap of a lane that was (R188). -/
def State.weirActive (s : State) (p : Nat) : Bool :=
  s.mode p == modeEdge && (s.laneOn p || match s.shore.swap with
    | some x => x.lane == p && x.st == lifeOn
    | none => false)

/-- The stage register is emptied (R193). -/
def State.clearStage (s : State) (p : Nat) : State :=
  ((s.wr (.weirStage p) 0).setFld (.weirStat p) F.weirStat.valid 0).setFld (.weirStat p) F.weirStat.poison 0

/-- A stage is discarded and counted in STALE (R194). -/
def State.discardStage (s : State) (p : Nat) : State := (s.clearStage p).incSat (.weirCnt p) F.weirCnt.stale

/-- WEIR_STAGE (R193, R197, R198), accepted in the tick before the present one (spec/01 R7). DEDUCED, assumption log 30. -/
def writeWeirStage (s : State) (w : Wr) (p : Nat) (poison : Bool) : State × Bool :=
  let on := match s.laneDomain p with
    | some d => s.domainOn d
    | none => false
  if !on then (s.incSat (.weirCnt p) F.weirCnt.stale, false)
  else if !s.takesStages p || !s.weirActive p then (s, true)
  else
    let s := if s.bit (.weirStat p) F.weirStat.valid then s.setFld (.weirStat p) F.weirStat.ovwr 1 else s
    let s := if poison then s else s.take w (.weirStage p) F.weirStage.value
    let s := s.setFld (.weirStat p) F.weirStat.valid 1
    let s := s.setFld (.weirStat p) F.weirStat.poison (if poison then 1 else 0)
    (s.setWeir p { s.weir p with acc := s.ticks - 1 }, false)

/-- STAGE_WRITE (R193). -/
def execStageWrite (w : Who) (p : Nat) (d : BitVec 32) (strb : BitVec 4) (poison : Bool) (s : State) :
    Host.Outcome State Fault Refusal :=
  let x : Wr := ⟨w, (Reg.weirStage p).key, d, strb⟩
  s.run (decide (p < 256)) fun s => s.accept x (.weirStage p) poison fun s => writeWeirStage s x p poison

/-- Whether the stage of weir `p` counts for the deadline taken in the present tick (R194, R195).
DEDUCED, assumption log 30 and 42. -/
def State.stageCounts (s : State) (p g : Nat) : Bool :=
  let a := (s.weir p).acc
  let from_ := match (s.group g).strobe with
    | some d => if s.byStrobe g then d - s.fld (.weirCgld g) F.weirCgld.stboff + 1 else (s.group g).armed
    | none => (s.group g).armed
  s.bit (.weirStat p) F.weirStat.valid && decide (from_ ≤ a ∧ a < s.ticks)

/-! ### The decision (R196, R200 to R202) -/

/-- What a weir releases: the value, LASTCAUSE, whether a clamp changed it, and whether it is the SAFE entry. -/
structure Decision where
  value   : BitVec 32
  cause   : Nat
  clamped : Bool
  safe    : Bool
deriving DecidableEq, Repr

/-- The ON and START of a DUTY value (R199). -/
def dutyOn (v : BitVec 32) : Nat := (v.extractLsb' 16 16).toNat
def dutyStart (v : BitVec 32) : Nat := (v.extractLsb' 0 16).toNat
def dutyValue (on start : Nat) : BitVec 32 := BitVec.ofNat 16 on ++ BitVec.ofNat 16 start

/-- SLEW: the on-length lies within `slew` of the last one (R202, order 1). -/
def slewed (on last slew : Nat) : Nat :=
  if last + slew < on then last + slew else if on + slew < last then last - slew else on

/-- The on-length after SLEW, DMIN and DMAX, in that order (R202). -/
def State.clampOn (s : State) (p on : Nat) : Nat :=
  min (max (slewed on (dutyOn (s.rd (.weirLast p))) (s.fld (.weirLims p) F.weirLims.slew))
    (s.fld (.weirLimd p) F.weirLimd.dmin)) (s.fld (.weirLimd p) F.weirLimd.dmax)

/-- The clamps of R202 on a value of weir `p`: the new value and whether it was changed. -/
def State.clamp (s : State) (p : Nat) (v : BitVec 32) : BitVec 32 × Bool :=
  if s.kind p ≠ kindDuty then (v, false)
  else
    let l := s.units p
    let on := s.clampOn p (dutyOn v)
    if on = dutyOn v then (v, false)
    else
      let delta : Int := (min (dutyOn v) l : Nat) - (min on l : Nat)
      (dutyValue on (if delta = 0 then dutyStart v else (((dutyStart v : Int) + delta / 2) % (l : Int)).toNat), true)

/-- The level the lane shows as a requested level when it is at its safe level (R200). -/
def State.safeRequest (s : State) (p : Nat) : Bool := xor (s.safeLevel p) (s.bit (.laneIo p) F.laneIo.invOut)

/-- LAST and HIST after a SAFE fallback (R200). -/
def State.safeValue (s : State) (p : Nat) : BitVec 32 :=
  if s.kind p = kindDuty then dutyValue (if s.safeRequest p then s.units p else 0) 0 else s.rd (.weirInit p)

/-- An integer limited to 0 to `hi`. -/
def limitTo (hi : Nat) (x : Int) : Nat := min hi x.toNat

/-- The EXTRAPOLATE value before its clamps (R200). -/
def State.extrapolate (s : State) (p : Nat) : BitVec 32 :=
  let a := s.rd (.weirLast p)
  let b := s.rd (.weirHist p)
  if s.kind p = kindDuty then
    dutyValue (limitTo (s.units p) (2 * (dutyOn a : Int) - dutyOn b))
      ((2 * (dutyStart a : Int) - dutyStart b) % (s.units p : Int)).toNat
  else if s.kind p = kindEdge then
    a.extractLsb' 30 2 ++ BitVec.ofNat 30 (limitTo (s.per (s.groupOf p) * 32 - 1)
      (2 * ((a.extractLsb' 0 30).toNat : Int) - (b.extractLsb' 0 30).toNat))
  else a

/-- The policy in force for a fallback (R200, R201): FBMAX forces SAFE, and 3 acts as SAFE. -/
def State.policy (s : State) (p : Nat) : Nat :=
  let m := s.fld (.weirCfg p) F.weirCfg.fbmax
  let pol := s.fld (.weirCfg p) F.weirCfg.policy
  if m ≠ 0 ∧ m ≤ s.fld (.weirStat p) F.weirStat.fbrun then 1 else if pol = 3 then 1 else pol

/-- The fallback of weir `p` with LASTCAUSE `cause` (R200). -/
def State.fallback (s : State) (p cause : Nat) : Decision :=
  match s.policy p with
  | 1 => { value := s.safeValue p, cause := cause, clamped := false, safe := true }
  | 2 => let x := s.clamp p (s.extrapolate p)
         { value := x.1, cause := cause, clamped := x.2, safe := false }
  | _ => let x := s.clamp p (s.rd (.weirLast p))
         { value := x.1, cause := cause, clamped := x.2, safe := false }

/-- The stage of weir `p`, clamped (R196, R202). -/
def State.release (s : State) (p : Nat) : Decision :=
  let x := s.clamp p (s.rd (.weirStage p))
  { value := x.1, cause := if x.2 then 1 else 0, clamped := x.2, safe := false }

/-- Why the stage of weir `p` is not released by itself: 0 where it is (R196). A weir whose lane is not ON in EDGE mode
takes no stages, and one that it still holds is not released (R188). -/
def State.ownCause (s : State) (p g : Nat) (missing : Bool) : Nat :=
  if missing then 5
  else if !s.stageCounts p g || !s.weirActive p then 2
  else if s.bit (.weirStat p) F.weirStat.poison then 3
  else 0

/-- The stage-taking weirs of group `g` whose lanes are in EDGE mode: those that decide (R188). -/
def State.deciding (s : State) (g : Nat) : List Nat :=
  (List.range 256).filter fun p => s.takesStages p && s.groupOf p == g && s.mode p == modeEdge

/-- Every contributing weir has a stage to release, counting those whose lane is not ON (R208, R209).
DEDUCED, assumption log 31. -/
def State.groupValid (s : State) (g : Nat) (missing : Bool) : Bool :=
  (s.deciding g).all fun p => !s.weirActive p || s.ownCause p g missing == 0

/-- The decision of weir `p` at the deadline of group `g` (R196, R208, R209). DEDUCED, assumption log 31. -/
def State.decideWeir (s : State) (p g : Nat) (missing : Bool) : Decision :=
  let c := s.ownCause p g missing
  if s.bit (.weirCgctl g) F.weirCgctl.coh && !missing then
    if s.groupValid g missing then
      if s.bit (.weirCgctl g) F.weirCgctl.strict &&
          (s.deciding g).any fun q => s.weirActive q && (s.release q).clamped
      then s.fallback p 6
      else if c = 0 then s.release p else s.fallback p c
    else if c = 0 then s.fallback p 4 else s.fallback p c
  else if c = 0 then s.release p else s.fallback p c

/-! ### The entries of a period (R199) -/

/-- The entries of a DUTY period: (offset in steps, action, argument). -/
def dutyEntries (on start l u : Nat) (lvl : Bool) : List (Nat × Nat × Nat) :=
  let st := start % l
  let v0 := if on = 0 then false else if l ≤ on then true else st == 0 || decide (l < st + on)
  let first : List (Nat × Nat × Nat) := if v0 = lvl then [] else [(0, if v0 then 0 else 1, 0)]
  if on = 0 ∨ l ≤ on then first
  else if st + on ≤ l then
    first ++ (if st = 0 then [] else [(st * u, 0, 0)]) ++ (if st + on < l then [((st + on) * u, 1, 0)] else [])
  else first ++ [((st + on - l) * u, 1, 0), (st * u, 0, 0)]

/-- The entries of a WORD period. -/
def wordEntries (v : BitVec 32) (per : Nat) (lvl : Bool) : List (Nat × Nat × Nat) :=
  ((List.range 16).foldl (fun (x : List (Nat × Nat × Nat) × Bool) i =>
    let b := v.getLsbD i
    if b = x.2 then x else (x.1 ++ [(2 * per * i, if b then 0 else 1, 0)], b)) ([], lvl)).1

/-- The argument of a LEVEL entry. -/
def levelArg (lvl oe : Bool) : Nat := (if lvl then 1 else 0) + (if oe then 2 else 0)

/-- The SAFE entry of lane `p` (R200). DEDUCED, assumption log 29. -/
def State.safeEntry (s : State) (p : Nat) : List (Nat × Nat × Nat) :=
  [(0, 3, levelArg (s.safeRequest p) (s.bit (.laneSafe p) F.laneSafe.safeOe))]

/-- The entries of the period that weir `p` opens with `x`, after a level and enable `lvl`, `oe` (R199). -/
def State.periodEntries (s : State) (p : Nat) (x : Decision) (lvl oe : Bool) : List (Nat × Nat × Nat) :=
  let v := x.value
  let per := s.per (s.groupOf p)
  if x.safe then s.safeEntry p
  else match s.kind p with
    | 1 => dutyEntries (dutyOn v) (dutyStart v) (s.units p) (s.unit p) lvl
    | 2 =>
      let a := (v.extractLsb' 30 2).toNat
      if a = 0 then [] else [(min (v.extractLsb' 0 30).toNat (per * 32 - 1), a - 1, 0)]
    | 3 => if v.getLsbD 0 = lvl ∧ v.getLsbD 1 = oe then [] else [(0, 3, levelArg (v.getLsbD 0) (v.getLsbD 1))]
    | 4 => wordEntries v per lvl
    | _ => []

/-- The opposite of an entry for a COMPLEMENT weir (R199). -/
def oppositeEntry (e : Nat × Nat × Nat) : Nat × Nat × Nat :=
  match e.2.1 with
  | 0 => (e.1, 1, e.2.2)
  | 1 => (e.1, 0, e.2.2)
  | 3 => (e.1, 3, levelArg (!e.2.2.testBit 0) (e.2.2.testBit 1))
  | _ => e

/-- The level and enable that weir `p`'s periods have requested by instant `t` (R199): those of its entries before
`t`, from those the lane has where no period has been opened since it reached ON or its domain ARMED: INIT_OUT and
INIT_OE, or what a lane that stayed ON has kept (R188; spec/06 R164). DEDUCED, assumption log 104. -/
def State.levelBefore (s : State) (p t : Nat) : Bool × Bool :=
  match (s.weir p).periods with
  | [] => ((s.lane p).lvl, (s.lane p).oe)
  | x :: _ => (x.ents.filter fun e => decide (x.start + e.1 < t)).foldl (fun v e => actOn e.2.1 e.2.2 v) (x.lvl, x.oe)

/-- The periods back to the last that has started by instant `t`. -/
def periodsBy (t : Nat) : List Period → List Period
  | [] => []
  | x :: l => if x.start ≤ t then [x] else x :: periodsBy t l

/-- Weir `p` opens the period that starts at the elapsed step `e` with entries `ents`, and its MARK (R199). -/
def State.openPeriod (s : State) (p e k : Nat) (ents : List (Nat × Nat × Nat)) : State :=
  if !s.weirActive p then s
  else
    let b := s.levelBefore p e
    let s := s.setWeir p { s.weir p with periods := ⟨e, b.1, b.2, ents⟩ :: periodsBy s.now (s.weir p).periods }
    let s := ents.foldl (fun s x => s.insert p (s.timeAt (e + x.1)) x.2.1 k x.2.2) s
    if s.bit (.weirWin p) F.weirWin.winen then
      s.insert p (s.timeAt (e + min (s.fld (.weirWin p) F.weirWin.winoff) (s.units p - 1) * s.unit p)) 5 k
        (s.fld (.weirWin p) F.weirWin.winbit)
    else s

/-- Entries of lane `p` at or after `e` are withdrawn (R192). -/
def State.withdrawEntries (s : State) (p e : Nat) : State :=
  s.modLane p fun x => { x with queue := x.queue.filter (fun y => decide (y.due < e)),
                                core := x.core.filter (fun y => decide (y.1.due < e)) }

/-- The registers of weir `p` after a decision (R196, R200, R201). -/
def State.recordDecision (s : State) (p k : Nat) (x : Decision) : State :=
  let last := s.rd (.weirLast p)
  let s := s.wr (.weirHist p) (if x.safe then x.value else last)
  let s := s.wr (.weirLast p) x.value
  let s := s.setFld (.weirStat p) F.weirStat.lastcause x.cause
  let s := s.setFld (.weirStat p) F.weirStat.clamped (if x.clamped then 1 else 0)
  let s := s.setFld (.weirStat p) F.weirStat.tag k
  if x.cause < 2 then s.setFld (.weirStat p) F.weirStat.fbrun 0
  else (s.incSat (.weirStat p) F.weirStat.fbrun).incSat (.weirCnt p) F.weirCnt.late

/-- The odd weir beside `p` is a COMPLEMENT weir on an EDGE lane: it follows `p` (R199). -/
def State.complemented (s : State) (p : Nat) : Bool :=
  p % 2 == 0 && s.kind (p + 1) == kindComplement && s.mode (p + 1) == modeEdge

/-- A weir's release in the present tick is traced (spec/19 R494, R508). DEDUCED, assumption log 43. -/
def State.traceRelease (s : State) (p : Nat) : State :=
  s.trace 1 p { word0 := s.tickTime, word1 := recWord [(60, 4), (48, s.fld (.weirStat p) F.weirStat.tag), (40, p),
    (32, s.fld (.weirStat p) F.weirStat.lastcause), (0, (s.rd (.weirLast p)).toNat)] }

/-- The fields of a COMPLEMENT weir that mirror those of its even weir (R199). -/
def State.mirrorDecision (s : State) (p : Nat) : State :=
  let s := s.wr (.weirLast (p + 1)) (s.rd (.weirLast p))
  let s := s.wr (.weirHist (p + 1)) (s.rd (.weirHist p))
  let s := [F.weirStat.lastcause, F.weirStat.clamped, F.weirStat.fbrun, F.weirStat.tag].foldl
    (fun s f => s.setFld (.weirStat (p + 1)) f (s.fld (.weirStat p) f)) s
  s.setFld (.weirCnt (p + 1)) F.weirCnt.late (s.fld (.weirCnt p) F.weirCnt.late)

/-- Weir `p` acts on its decision in tick D_k, for the period that starts at `e` (R195). DEDUCED, assumption log 29. -/
def State.actWeir (s : State) (p g k e : Nat) (missing : Bool) (x : Decision) : State :=
  let s := if s.byStrobe g then s.withdrawEntries p e else s
  let b := s.levelBefore p e
  let ents := s.periodEntries p x b.1 b.2
  let live := s.weirActive p
  let s := s.openPeriod p e k ents
  let s := s.recordDecision p k x
  let s := if s.bit (.weirStat p) F.weirStat.valid then
      (if missing || !s.stageCounts p g then s.discardStage p else s.clearStage p) else s
  let s := s.traceRelease p
  if s.complemented p then
    let s := if s.byStrobe g then s.withdrawEntries (p + 1) e else s
    let s := s.openPeriod (p + 1) e k (if x.safe then s.safeEntry (p + 1) else if live then ents.map oppositeEntry else [])
    (s.mirrorDecision p).traceRelease (p + 1)
  else s

/-- The deadline of group `g` in the present tick (R189, R195, R196, R208): the period number advances, every
weir decides on the same state, the entries are inserted; a released stage takes an ARMED domain to RUN
(spec/14 R360). -/
def State.deadline (s : State) (g : Nat) (missing : Bool) : State :=
  let k := if (s.group g).deadlines.isEmpty then 0 else s.fld (.weirCgpnum g) F.weirCgpnum.pnum + 1
  let s := s.setFld (.weirCgpnum g) F.weirCgpnum.pnum k
  let e := 32 * (s.ticks + s.lead g)
  let ds := (s.deciding g).map fun p => (p, s.decideWeir p g missing)
  let s := ds.foldl (fun s x => s.actWeir x.1 g k e missing x.2) s
  let s := s.setGroup g { s.group g with deadlines := s.ticks :: startedBy (s.lead g) s.ticks (s.group g).deadlines,
                                         strobe := none }
  let d := s.fld (.weirCgctl g) F.weirCgctl.dom
  if ds.any (fun x => decide (x.2.cause < 2)) && s.sub d == subArmed then s.setFld (.engDstat d) F.engDstat.sub subRun
  else s

/-- A deadline D_k of group `g` falls in the present tick (R190, R191): in a PERIODIC group the first at the first tick
after that of ARMED whose number meets PHASE, the others PER ticks apart. -/
def State.deadlineDue (s : State) (g : Nat) : Bool :=
  s.groupLive g &&
  if s.byStrobe g then (s.group g).strobe == some s.ticks
  else match (s.group g).deadlines with
    | [] => decide ((s.group g).armed < s.ticks ∧ ((s.tick : Int) - s.fld (.weirCgph g) F.weirCgph.phase) % (s.per g : Int) = 0)
    | d :: _ => s.ticks == d + s.per g

/-- WEIR_DEADLINE (R195). -/
def execWeirDeadline (g : Nat) (s : State) : Host.Outcome State Fault Refusal :=
  s.run (decide (g < 32) && s.deadlineDue g) fun s => s.deadline g false

/-- A strobe-missing deadline of group `g` falls in the present tick (R191). -/
def State.missingDue (s : State) (g : Nat) : Bool :=
  s.groupLive g && s.byStrobe g && (s.group g).strobe.isNone && decide (s.ticks = s.lastDeadline g + s.per g)

/-- The strobe-missing deadline of group `g` (R191). -/
def State.missDeadline (s : State) (g : Nat) : State := (s.deadline g true).incSat (.weirCgstat g) F.weirCgstat.stbmiss

/-- The deadline or strobe-missing deadline of group `g` that falls in the present tick is taken. -/
def State.takeDeadline (s : State) (g : Nat) : State :=
  if s.deadlineDue g then s.deadline g false else if s.missingDue g then s.missDeadline g else s

/-- A strobe of inlet `n` timestamped in the present tick sets a deadline in every STROBE group of that inlet,
or is counted in STBIGN (R191); a deadline pending until this tick is taken first. -/
def State.strobeGroups (s : State) (n : Nat) : State :=
  (List.range 32).foldl (fun s g =>
    if s.groupLive g && s.byStrobe g && s.fld (.weirCgctl g) F.weirCgctl.inl == n then
      let s := s.takeDeadline g
      let d := s.ticks + s.fld (.weirCgld g) F.weirCgld.stboff
      if (s.group g).strobe.isNone && decide (d ≤ s.startedDeadline g s.ticks + s.per g)
      then s.setGroup g { s.group g with strobe := some d }
      else s.incSat (.weirCgstat g) F.weirCgstat.stbign
    else s) s

/-- STROBE_MISSING_DEADLINE (R191). -/
def execStrobeMissingDeadline (g : Nat) (s : State) : Host.Outcome State Fault Refusal :=
  s.run (decide (g < 32) && s.missingDue g) fun s => s.missDeadline g

/-- The tick of the strobe that set the pending deadline of group `g` (R191). -/
def State.strobeTick (s : State) (g : Nat) : Option Nat :=
  (s.group g).strobe.map fun d => d - s.fld (.weirCgld g) F.weirCgld.stboff

/-- The present tick is S + 1 of an accepted strobe of group `g` (R194). -/
def State.staleDue (s : State) (g : Nat) : Bool :=
  s.groupLive g && s.byStrobe g && match s.strobeTick g with
    | some st => decide (s.ticks = st + 1)
    | none => false

/-- The stages of group `g` accepted up to the tick before are discarded and counted (R194). -/
def State.discardStale (s : State) (g : Nat) : State :=
  ((List.range 256).filter fun p => s.groupOf p == g && s.bit (.weirStat p) F.weirStat.valid &&
      decide ((s.weir p).acc < s.ticks)).foldl (fun s p => s.discardStage p) s

/-- STAGE_STALE_DISCARD (R194): in the tick after an accepted strobe, the stages accepted up to the strobe's
tick are discarded and counted. -/
def execStageStaleDiscard (g : Nat) (s : State) : Host.Outcome State Fault Refusal :=
  s.run (decide (g < 32) && s.staleDue g &&
    (List.range 256).any fun p => s.groupOf p == g && s.bit (.weirStat p) F.weirStat.valid) fun s => s.discardStale g

/-- What the present tick makes due in the commit groups. -/
def State.weirTick (s : State) : State :=
  (List.range 32).foldl (fun s g =>
    let s := if s.staleDue g then s.discardStale g else s
    s.takeDeadline g) s

/-- The weirs and groups of domain `d` start when it reaches ARMED: LAST, HIST and the period number are reloaded
and no period is open (R189, R200; spec/18 R484). -/
def State.armWeirs (s : State) (d : Nat) : State :=
  let s := ((List.range 32).filter fun g => s.bit (.weirCgctl g) F.weirCgctl.domv &&
      s.fld (.weirCgctl g) F.weirCgctl.dom == d).foldl
    (fun s g => (s.wr (.weirCgpnum g) 0).setGroup g { armed := s.ticks, deadlines := [], strobe := none }) s
  ((List.range 256).filter fun p => s.laneDomain p == some d).foldl
    (fun s p => ((s.wr (.weirLast p) (s.rd (.weirInit p))).wr (.weirHist p) (s.rd (.weirInit p))).setWeir p
      { s.weir p with periods := [] }) s

/-! ### Registers (R207, R211, R212) -/

/-- Every writable field of a register takes the write unless the owning domain has LIMIT_LOCK. -/
def State.takeUnlessLocked (s : State) (w : Wr) (r : Reg) (locked : Bool) (fs : List Fld) : State × Bool :=
  fs.foldl (fun x f => State.takeIf (!locked) x w r f) (s, false)

/-- WEIR_CFG, WEIR_INIT, the limit registers and WEIR_WIN (R207). PAIR reads 0 on odd weirs (R211). -/
def writeWeir (s : State) (w : Wr) (p : Nat) (r : Reg) : State × Bool :=
  let fs := r.fields.filter fun f => !(f == F.weirCfg.pair && r == Reg.weirCfg p && p % 2 == 1)
  let x := s.takeUnlessLocked w r (s.laneLocked p) fs
  (x.1.settle, x.2)

/-- The registers of a commit group (R207); its membership changes only between DISARMED domains (spec/01 R15).
DEDUCED, assumption log 105. -/
def writeGroup (s : State) (w : Wr) (g : Nat) (r : Reg) : State × Bool :=
  let locked := s.bit (.weirCgctl g) F.weirCgctl.domv &&
    s.bit (.engDstat (s.fld (.weirCgctl g) F.weirCgctl.dom)) F.engDstat.limitLock
  if r = .weirCgctl g && !locked then
    [F.weirCgctl.inl, F.weirCgctl.strict, F.weirCgctl.coh, F.weirCgctl.src].foldl (fun x f => State.takeIf true x w r f)
      (s.takeDomain w r F.weirCgctl.domv F.weirCgctl.dom)
  else s.takeUnlessLocked w r locked r.fields

/-- WEIR_STAT as read. -/
def State.readWeirStat (s : State) (p : Nat) : BitVec 32 :=
  F.weirStat.locked.put (s.rd (.weirStat p)) (if s.laneLocked p then 1 else 0)

end Sys2Proof.Machine
end

