-- ==== Sys2Proof/Machine/Inlets.lean ====
section
/-! DEFINITION. The inlets and the decimators (spec/09), with the DECIMATE lanes that feed them (spec/06
R172). -/

namespace Sys2Proof.Machine

def State.inlLife (s : State) (n : Nat) : Life :=
  { st := s.fld (.inlStat n) F.inlStat.state, pend := s.fld (.inlStat n) F.inlStat.pend,
    en := s.fld (.inlCtrl n) F.inlCtrl.en }

def State.inlOn (s : State) (n : Nat) : Bool := (s.inlLife n).st == lifeOn

/-- An inlet moves in its life-cycle; STARTING clears READY, OVR and the filter (R250, R251). -/
def State.moveInlet (s : State) (n : Nat) (l : Life) : State :=
  let old := (s.inlLife n).st
  let s := ((s.setFld (.inlStat n) F.inlStat.state l.st).setFld (.inlStat n) F.inlStat.pend l.pend).setFld
    (.inlCtrl n) F.inlCtrl.en l.en
  let s := if l.st = old then s else s.modInlet n fun x => { x with since := s.ticks }
  if l.st = 1 ∧ old ≠ 1 then
    ((s.modInlet n fun x => { x with sinc := .init, owed := false, entered := none }).setFld (.inlData n) F.inlData.ready 0).setFld
      (.inlData n) F.inlData.ovr 0
  else s

/-- A 16-bit value as the window compares it (R245). -/
def windowValue (signed : Bool) (x : Nat) : Int := if signed && decide (2 ^ 15 ≤ x) then (x : Int) - 2 ^ 16 else x

/-- The limit window of inlet `n` on a value captured at instant `t`: an outside sample fires the inlet's producer (R245,
R246). -/
def State.windowTest (s : State) (n : Nat) (data : BitVec 16) (tag t : Nat) : State :=
  let c := Reg.inlCtrl n
  let sg := s.bit c F.inlCtrl.signed
  let v := windowValue sg data.toNat
  let above := decide (windowValue sg (s.fld (.inlWin n) F.inlWin.hi) < v)
  let below := decide (v < windowValue sg (s.fld (.inlWin n) F.inlWin.lo))
  let compared := s.bit c F.inlCtrl.winen &&
    (!s.bit c F.inlCtrl.tagen || (tag &&& s.fld c F.inlCtrl.tmask) == s.fld c F.inlCtrl.tval)
  if compared && (above || below) then
    let s := s.setFld (.inlStat n) F.inlStat.winhit 1
    let s := s.setFld (.inlStat n) F.inlStat.winside (if above then 1 else 0)
    (s.incSat (.inlCnt n) F.inlCnt.wincnt).fire (.inw n) t
  else s

/-- A sample taken at instant `t`: it is on its way to the register, which it enters two ticks later, and is a strobe for
the groups that name the inlet (R243). -/
def State.takeSample (s : State) (n : Nat) (data : BitVec 16) (tag t : Nat) : State :=
  let x : Sample := ⟨data, tag % 64, s.timeAt t, t / 32 + 2⟩
  ((s.modInlet n fun y => { y with waiting := y.waiting ++ [x] }).windowTest n data tag t).strobeGroups n

/-- Fewer than 4 ticks have passed since the last edge that inlet `n` took (R241). -/
def State.tooSoon (s : State) (n t : Nat) : Bool :=
  match (s.inlet n).lastEdge with
  | some l => decide (t < l + 128)
  | none => false

/-- INLET_STROBE (R241, R248): a rising strobe edge of an external inlet at step `step` of the present tick.
While the shore is stopped only the window is tested. -/
def execInletStrobe (n : Nat) (data : BitVec 16) (tag step : Nat) (s : State) : Host.Outcome State Fault Refusal :=
  s.run (decide (n < 32 ∧ step < 32) && s.inlOn n) fun s =>
    let t := s.stepAt step
    if !s.shoreRuns then s.windowTest n data (tag % 64) t
    else if s.tooSoon n t then s.incSat (.inlCnt n) F.inlCnt.drop
    else ((s.settleTo t).modInlet n fun x => { x with lastEdge := some t }).takeSample n data (tag % 64) t

/-- The oldest sample of inlet `n` enters the register in the present tick (R243). -/
def State.entryDue (s : State) (n : Nat) : Bool :=
  s.shoreRuns && match (s.inlet n).waiting with
    | [] => false
    | x :: _ => decide (x.due ≤ s.ticks)

/-- A sample enters the register: an unread one that it replaces is lost and counted, and the thread event is set
(R243). -/
def State.enterSample (s : State) (n : Nat) (x : Sample) : State :=
  let ready := s.bit (.inlData n) F.inlData.ready
  let r : Record := { word0 := x.time, word1 := recWord [(60, 5), (48, x.tag), (40, n), (39, if ready then 1 else 0), (0, x.data.toNat)] }
  let e : Entered := ⟨s.ticks, s.rd (.inlData n), s.rd (.inlTime n), s.fld (.inlCnt n) F.inlCnt.ovrcnt, r⟩
  let s := s.modInlet n fun y => { y with waiting := y.waiting.tail, entered := some e }
  let s := s.trace 2 n r
  let s := if ready then (s.setFld (.inlData n) F.inlData.ovr 1).incSat (.inlCnt n) F.inlCnt.ovrcnt else s
  let s := s.setFld (.inlData n) F.inlData.data x.data.toNat
  let s := s.setFld (.inlData n) F.inlData.tag x.tag
  let s := s.setFld (.inlData n) F.inlData.ready 1
  let s := s.wr (.inlTime n) (x.time.extractLsb' 0 32)
  if s.bit (.inlCtrl n) F.inlCtrl.even then
    s.roleEvt (s.fld (.inlCtrl n) F.inlCtrl.role) (s.fld (.inlCtrl n) F.inlCtrl.thread) (4 + s.fld (.inlCtrl n) F.inlCtrl.ebit)
  else s

/-- The sample that is due enters. -/
def State.enterDue (s : State) (n : Nat) : State :=
  match (s.inlet n).waiting with
  | [] => s
  | x :: _ => s.enterSample n x

/-- SAMPLE_ENTRY (R243): in the second tick after its own, the oldest sample enters the register. -/
def execSampleEntry (n : Nat) (s : State) : Host.Outcome State Fault Refusal :=
  s.run (decide (n < 64) && s.entryDue n) fun s => s.enterDue n

/-- READY and OVR of a word of INL_DATA cleared. -/
def clearReady (v : BitVec 32) : BitVec 32 := F.inlData.ovr.put (F.inlData.ready.put v 0) 0

/-- The entry of the present tick, where one has come (R244). -/
def State.enteredNow (s : State) (n : Nat) : Option Entered :=
  (s.inlet n).entered.filter fun e => s.shoreRuns && e.tick == s.ticks

/-- A clearing read in the tick of an entry: ordered before it, so that the entry loses nothing (R243, R244). -/
def State.readBefore (s : State) (n : Nat) (e : Entered) : State :=
  let s := s.modInlet n fun x => { x with entered := some { e with data := clearReady e.data } }
  let s := s.setFld (.inlData n) F.inlData.ovr 0
  let s := if s.fld (.inlCnt n) F.inlCnt.ovrcnt = 0 then s else s.setFld (.inlCnt n) F.inlCnt.ovrcnt e.ovrcnt
  let s := s.setOutlet { s.outlet with traces := s.outlet.traces.map fun r =>
    if r = e.traced then { r with word1 := r.word1 &&& ~~~BitVec.ofNat 64 (2 ^ 39) } else r }
  s.wr (.inlRtime n) e.time

/-- A read of INL_DATA by an access of the bytes `strb` (R244). -/
def State.readInlData (s : State) (n : Nat) (strb : BitVec 4) : BitVec 32 × State :=
  let v := s.rd (.inlData n)
  if strb.extractLsb' 0 2 = 0 then (v, s)
  else match s.enteredNow n with
    | some e => (e.data, s.readBefore n e)
    | none => (v, (s.wr (.inlData n) (clearReady v)).wr (.inlRtime n) (s.rd (.inlTime n)))

/-- The bytes of a word that an access reads. -/
def strobed (strb : BitVec 4) (v : BitVec 32) : BitVec 32 := v &&& Wr.mask ⟨.thread 0 0, 0, 0, strb⟩

/-- INLET_DATA_READ (R244): the bytes of the access. -/
def execInletDataRead (w : Who) (n : Nat) (strb : BitVec 4) (s : State) : Host.Outcome State Fault Refusal :=
  let _ := w
  s.run (decide (n < 64)) fun s => { (s.readInlData n strb).2 with rdata := strobed strb (s.readInlData n strb).1 }

/-! ### Decimators (R249, R250) -/

/-- One bit through the sinc filter: the new filter and the result it delivers, if any. -/
def Sinc.step (x : Sinc) (osr shift : Nat) (bit : Bool) : Sinc × Option (BitVec 16) :=
  let i1 := if bit then x.i1 + 1 else x.i1 - 1
  let i2 := x.i2 + i1
  let i3 := x.i3 + i2
  if x.nb + 1 < osr then ({ x with i1 := i1, i2 := i2, i3 := i3, nb := x.nb + 1 }, none)
  else
    let c1 := i3 - x.z1
    let c2 := c1 - x.z2
    let y := c2 - x.z3
    let z : Sinc := ⟨i1, i2, i3, i3, c1, c2, 0, x.skip - 1⟩
    if 0 < x.skip then (z, none) else (z, some (BitVec.ofInt 16 (clampSigned 16 (y.sshiftRight shift).toInt)))

/-- OSR of a decimator inlet, limited to 8 to 256 (R254). -/
def State.osr (s : State) (n : Nat) : Nat := max 8 (min 256 (s.fld (.inlDec n) F.inlDec.osr))

/-- The clock edge is one that lane `p` selects (R172; spec/06 R176). -/
def State.clockSelects (s : State) (p : Nat) (rising : Bool) : Bool :=
  rising != s.bit (.decimateM0 p) F.decimateM0.clkedge

/-- A bit reaches the filter of inlet `n` at instant `t` (R249); the first after a clock loss finds it cleared (R250). -/
def State.filterBit (s : State) (n : Nat) (bit : Bool) (t : Nat) : State :=
  let f := if (s.inlet n).owed then Sinc.init else (s.inlet n).sinc
  let y := f.step (s.osr n) (s.fld (.inlDec n) F.inlDec.shift) bit
  let s := s.modInlet n fun x => { x with sinc := y.1, owed := false }
  match y.2 with
  | some v => s.takeSample n v 0 t
  | none => s

/-- A selected clock edge of lane `p` at instant `t`: the lowest lane that is ON passes its bit to the decimator, every
other counts it (R172). -/
def State.decimate (s : State) (p : Nat) (bit : Bool) (t : Nat) : State :=
  let s := s.modLane p fun x => { x with clkAt := s.ticks, clkLost := false }
  if s.decConflict p then s.incSat (.laneErr p) F.laneErr.errb
  else if s.inlOn (s.decInlet p) then s.filterBit (s.decInlet p) bit t
  else s

/-- DECIMATE_BIT (R249; spec/06 R172): an edge of the modulator clock on lane_in[CLKLANE] comes, with lane_in[p] at `bit`; a
selected edge passes the bit, behind INV_IN. -/
def execDecimateBit (p : Nat) (bit : Bool) (clock : InputEdge) (s : State) : Host.Outcome State Fault Refusal :=
  s.run (decide (p < 256 ∧ clock.step < 32) && s.laneOn p && s.mode p == modeDecimate && !s.swapStop p && s.shoreRuns) fun s =>
    let t := s.stepAt clock.step
    let s := ((s.settleTo t).setLaneIn p bit t).setLaneIn (s.fld (.decimateM0 p) F.decimateM0.clklane) clock.level t
    if s.clockSelects p clock.level then s.decimate p (s.inputLevel p) t else s

/-! ### Life-cycle and registers (R247, R251, R254) -/

/-- The inlet's domain has LIMIT_LOCK set. -/
def State.inlLocked (s : State) (n : Nat) : Bool :=
  s.bit (.inlCtrl n) F.inlCtrl.domv && s.bit (.engDstat (s.fld (.inlCtrl n) F.inlCtrl.dom)) F.engDstat.limitLock

/-- INL_CTRL (R247, R251; spec/01 R15). -/
def writeInlCtrl (s : State) (w : Wr) (n : Nat) : State × Bool :=
  let r := Reg.inlCtrl n
  let off := (s.inlLife n).st == 0
  let free := off && !s.inlLocked n
  let x := if off then s.takeDomain w r F.inlCtrl.domv F.inlCtrl.dom
    else (s, s.changes w r F.inlCtrl.domv || s.changes w r F.inlCtrl.dom)
  let x := [F.inlCtrl.even, F.inlCtrl.role, F.inlCtrl.thread, F.inlCtrl.ebit].foldl (fun x f => State.takeIf off x w r f) x
  let x := [F.inlCtrl.tmask, F.inlCtrl.tval, F.inlCtrl.tagen, F.inlCtrl.signed, F.inlCtrl.winen].foldl
    (fun x f => State.takeIf free x w r f) x
  (if w.any F.inlCtrl.en then x.1.moveInlet n ((x.1.inlLife n).request (w.bits F.inlCtrl.en)) else x.1, x.2)

/-- INL_EN_WRITE (R251). -/
def execInlEnWrite (w : Who) (n : Nat) (d : BitVec 32) (strb : BitVec 4) (s : State) :
    Host.Outcome State Fault Refusal :=
  let x : Wr := ⟨w, (Reg.inlCtrl n).key, d, strb⟩
  s.run (decide (n < 64)) fun s => s.access x (.inlCtrl n) fun s => writeInlCtrl s x n

/-- The 4 ticks of inlet `n`'s STARTING (1) or STOPPING (3) have ended (R251). -/
def State.inlSequenceDue (s : State) (n st : Nat) : Bool :=
  s.shoreRuns && (s.inlLife n).st == st && decide ((s.inlet n).since + 4 ≤ s.ticks)

/-- An inlet reaches ON or OFF; a latched request is taken in the same tick (R251; spec/01 R20, R21). -/
def State.inletArrive (s : State) (n : Nat) : State :=
  let s := s.moveInlet n (s.inlLife n).arrive
  s.moveInlet n (s.inlLife n).onward

/-- INLET_START_DONE (R251). -/
def execInletStartDone (n : Nat) (s : State) : Host.Outcome State Fault Refusal :=
  s.run (decide (n < 64) && s.inlSequenceDue n 1) fun s => s.inletArrive n

/-- INLET_STOP_DONE (R251). -/
def execInletStopDone (n : Nat) (s : State) : Host.Outcome State Fault Refusal :=
  s.run (decide (n < 64) && s.inlSequenceDue n 3) fun s => s.inletArrive n

/-- An EN write of 0 acts on inlet `n`. -/
def State.stopInlet (s : State) (n : Nat) : State := s.moveInlet n ((s.inlLife n).request 0)

/-- The inlets of domain `d`. -/
def State.domainInlets (s : State) (d : Nat) : List Nat :=
  (List.range 64).filter fun n => s.bit (.inlCtrl n) F.inlCtrl.domv && s.fld (.inlCtrl n) F.inlCtrl.dom == d

/-- What the present tick makes due in the inlets: sequences that have ended, and samples that enter. -/
def State.inletTick (s : State) : State :=
  (List.range 64).foldl (fun s n =>
    let s := if s.inlSequenceDue n 1 || s.inlSequenceDue n 3 then s.inletArrive n else s
    if s.entryDue n then s.enterDue n else s) s

/-- INL_WIN (R247). -/
def writeInlWin (s : State) (w : Wr) (n : Nat) : State × Bool :=
  s.takeUnlessLocked w (.inlWin n) (s.inlLocked n) (Reg.inlWin n).fields

/-- INL_DEC: only while OFF (R251). -/
def writeInlDec (s : State) (w : Wr) (n : Nat) : State × Bool :=
  s.takeUnlessLocked w (.inlDec n) ((s.inlLife n).st != 0) (Reg.inlDec n).fields

/-- INL_STAT as read. -/
def State.readInlStat (s : State) (n : Nat) : BitVec 32 :=
  F.inlStat.locked.put (s.rd (.inlStat n)) (if s.inlLocked n then 1 else 0)

end Sys2Proof.Machine
end

