-- ==== Sys2Proof/Machine/Locks.lean ====
section
/-! DEFINITION. The lock unit (spec/13): requests, releases, hand-over, inheritance, and the commands of
host masters and supervisors. LOCK and UNLOCK of threads are in Machine/System.lean. -/

namespace Sys2Proof.Machine

def State.lock (s : State) (k : Nat) : Lock := SMap.get s.locks k .init

def State.setLock (s : State) (k : Nat) (x : Lock) : State := { s with locks := SMap.put s.locks k x .init }

/-- The index of no requester (R340). -/
def noHolder : Nat := 1023
/-- The number of requesters (R340): 288 threads and 256 host masters. -/
def requesters : Nat := 544

/-- The requester index of an access (R340). -/
def State.requester (s : State) : Who → Nat
  | .host mid _ _ => 288 + mid.toNat
  | .thread e t => 32 * s.roleOf e + t

/-- The rights check of a lock's group (R341). -/
def State.lockRights (s : State) (w : Who) (k : Nat) : Bool :=
  let g := Reg.lckGrights (k / 32)
  match w with
  | .thread e t => (s.fld g F.lckGrights.rolemask).testBit (s.roleOf e) &&
      (s.fld g F.lckGrights.privmask).testBit (s.thread e t).priv
  | .host _ _ sec => s.bit g F.lckGrights.host && (!s.bit g F.lckGrights.hsec || sec)

/-- The PRIO of a thread requester, or HPRIO of lock `k`'s group for a host master. -/
def State.basePrio (s : State) (i k : Nat) : Nat :=
  if i < 288 then match s.engineOf (i / 32) with
    | some e => (s.thread e (i % 32)).prio
    | none => 0
  else s.fld (.lckGrights (k / 32)) F.lckGrights.hprio

/-- The effective priority of requester `i` queued for lock `k`, followed through at most `n` holders
(R350): a thread also counts the effective priority of every requester queued for a lock it holds. -/
def State.effPrio (s : State) : Nat → Nat → Nat → Nat
  | 0, i, k => s.basePrio i k
  | n + 1, i, k =>
    if i < 288 then
      s.locks.foldl (fun p x =>
        if x.2.holder = some i then x.2.queue.foldl (fun p q => max p (s.effPrio n q x.1)) p else p) (s.basePrio i k)
    else s.basePrio i k

/-- A thread's effective priority (R350). A requester waits on at most one lock, so a chain of holders is no
longer than the number of locks. -/
def State.threadPrio (s : State) (i : Nat) : Nat := s.effPrio 256 i 0

/-- The arbiter of R22: highest priority, then the first index at or after the pointer, modulo `n`. -/
def arbitrate (n ptr : Nat) (prio : Nat → Nat) (l : List Nat) : Option Nat :=
  let top := l.foldl (fun p i => max p (prio i)) 0
  let cand := l.filter fun i => prio i == top
  let dist := fun i => (i + n - ptr) % n
  cand.foldl (fun b i => match b with
    | none => some i
    | some j => if dist i < dist j then some i else some j) none

/-- The threads of engine `e` that inherit priority, with their effective priorities (R350). -/
def State.inheriting (s : State) (e : Nat) : List (Nat × Nat) :=
  if s.roleOf e ≤ 8 then
    (allThreads.map fun t => (t, s.threadPrio (32 * s.roleOf e + t))).filter fun x => (s.thread e x.1).prio < x.2
  else []

/-- A lock whose holder leaves passes to the arbiter's choice among its queue, with LOCKF set in a thread,
or becomes free (R344, R345). -/
def State.handOver (s : State) (k : Nat) : State :=
  let x := s.lock k
  match arbitrate requesters x.ptr (fun i => s.effPrio 256 i k) x.queue with
  | none => s.setLock k { x with holder := none, told := true }
  | some i =>
    let s := s.setLock k { x with holder := some i, queue := x.queue.filter (· != i), ptr := (i + 1) % requesters,
                                  told := false }
    if i < 288 then s.roleEvt (i / 32) (i % 32) 6 else s

/-- A queued request is withdrawn from every lock but `k` (R342). -/
def State.withdraw (s : State) (i k : Nat) : State :=
  s.locks.foldl (fun s x => if x.1 = k then s else
    if x.2.queue.contains i then s.setLock x.1 { s.lock x.1 with queue := (s.lock x.1).queue.filter (· != i) } else s) s

/-- A request that passed its rights check: the code of R342 and the state. -/
def State.lockGrant (s : State) (i k : Nat) : Nat × State :=
  let s := s.withdraw i k
  let x := s.lock k
  match x.holder with
  | none => (if x.abandoned then 2 else 1,
      s.setLock k { x with holder := some i, abandoned := false, told := true })
  | some h =>
    if h = i then
      if x.told then (1, s)
      else (if x.abandoned then 2 else 1, s.setLock k { x with abandoned := false, told := true })
    else if x.queue.contains i then (3, s)
    else (3, s.setLock k { x with queue := x.queue ++ [i] })

/-- A request for lock `k` (R341, R342). DESIGN CHOICE, assumption log 99. -/
def State.lockRequest (s : State) (w : Who) (k : Nat) : Nat × State :=
  if s.lockRights w k then s.lockGrant (s.requester w) k
  else (0, s.violate w 6 ((Reg.lckReq k).key) false)

/-- A release of lock `k` by a requester (R346): 1 when it held the lock, else 0; a queued request is
withdrawn; a denied release advances the violation counter. -/
def State.lockRelease (s : State) (w : Who) (k : Nat) : Nat × State :=
  let i := s.requester w
  let x := s.lock k
  if x.holder = some i then (1, s.handOver k)
  else if !s.lockRights w k then (0, s.violate w 6 ((Reg.lckRel k).key) false)
  else if x.queue.contains i then (0, s.setLock k { x with queue := x.queue.filter (· != i) })
  else (0, s)

/-- A requester is abandoned: its queued request is withdrawn and every lock it holds is released with
ABANDONED set (R349). -/
def State.abandon (s : State) (i : Nat) : State :=
  let s := s.withdraw i 256
  s.locks.foldl (fun s x =>
    if (s.lock x.1).holder = some i then
      ((s.setLock x.1 { s.lock x.1 with abandoned := true }).handOver x.1).incSat .lckStats F.lckStats.abandons
    else s) s

/-- LCK_STAT (R355). -/
def State.lckStat (s : State) (k : Nat) : BitVec 32 :=
  let x := s.lock k
  let h := x.holder.getD noHolder
  F.lckStat.held.put (F.lckStat.abandoned.put (F.lckStat.holder.put (F.lckStat.nwait.put 0 x.queue.length) h)
    (if x.abandoned then 1 else 0)) (if x.holder.isSome then 1 else 0)

/-- LCK_FREL (R348). -/
def writeLckFrel (s : State) (w : Wr) : State × Bool :=
  let r := Reg.lckFrel
  if s.may w r F.lckFrel.lock && w.full F.lckFrel.lock && w.full F.lckFrel.holder && w.full F.lckFrel.abandon then
    let k := w.bits F.lckFrel.lock
    let x := s.lock k
    if x.holder = some (w.bits F.lckFrel.holder) then
      let s := if w.bits F.lckFrel.abandon = 1 then s.setLock k { x with abandoned := true } else s
      ((s.handOver k).incSat .lckStats F.lckStats.forced, false)
    else (s.incSat .lckStats F.lckStats.fmiss, false)
  else (s, false)

/-- LCK_HMREL (R349). -/
def writeLckHmrel (s : State) (w : Wr) : State × Bool :=
  if s.may w .lckHmrel F.lckHmrel.master && w.full F.lckHmrel.master then
    (s.abandon (288 + w.bits F.lckHmrel.master), false)
  else (s, false)

/-- A read of LCK_REQ: a host master's read requests the lock (R352). -/
def State.readLckReq (s : State) (w : Who) (k : Nat) : BitVec 32 × State :=
  if isHost w then ((BitVec.ofNat 32 (s.lockRequest w k).1), (s.lockRequest w k).2) else (0, s)

/-- A read of LCK_REL: a host master's read releases the lock (R347, R352). -/
def State.readLckRel (s : State) (w : Who) (k : Nat) : BitVec 32 × State :=
  if isHost w then ((BitVec.ofNat 32 (s.lockRelease w k).1), (s.lockRelease w k).2) else (0, s)

/-- HOST_LOCK_REQUEST (R352). -/
def execHostLockRequest (w : Who) (k : Nat) (s : State) : Host.Outcome State Fault Refusal :=
  s.run (decide (k < 256)) fun s => { (s.readLckReq w k).2 with rdata := (s.readLckReq w k).1 }

/-- HOST_LOCK_RELEASE (R347). -/
def execHostLockRelease (w : Who) (k : Nat) (s : State) : Host.Outcome State Fault Refusal :=
  s.run (decide (k < 256)) fun s => { (s.readLckRel w k).2 with rdata := (s.readLckRel w k).1 }

/-- FORCED_RELEASE (R348). -/
def execForcedRelease (w : Who) (d : BitVec 32) (strb : BitVec 4) (s : State) : Host.Outcome State Fault Refusal :=
  let x : Wr := ⟨w, (Reg.lckFrel).key, d, strb⟩
  s.run true fun s => s.access x .lckFrel fun s => writeLckFrel s x

/-- HOST_MASTER_ABANDON (R349). -/
def execHostMasterAbandon (w : Who) (d : BitVec 32) (strb : BitVec 4) (s : State) :
    Host.Outcome State Fault Refusal :=
  let x : Wr := ⟨w, (Reg.lckHmrel).key, d, strb⟩
  s.run true fun s => s.access x .lckHmrel fun s => writeLckHmrel s x

end Sys2Proof.Machine
end

