-- ==== Sys2Proof/Machine/Threads.lean ====
section
/-! DEFINITION. Threads and engines as wholes: parking, quiescing, resetting, urgent diversion (spec/05 R124 to
R139), checkpoints (spec/14 R370), and the start and stop of engines (spec/02 R512). -/

namespace Sys2Proof.Machine

/-- The index by role of thread `t` of engine `e` (spec/13 R340). -/
def State.roleIndex (s : State) (e t : Nat) : Nat := 32 * s.roleOf e + t

/-- The domain of thread `t` of role `r` (spec/01 R15; assumption log 6). DESIGN CHOICE, assumption log 6. -/
def State.threadDomain (s : State) (r t : Nat) : Option Nat := SMap.get s.threadDom (32 * r + t) none

/-- The thread issues in its slots (R124). -/
def Thread.issues (x : Thread) : Bool := x.st == .ready || x.st == .diverted

/-- An instruction boundary at which a command may be applied (R127, spec/02 R34, spec/03 R90, spec/04 R119,
spec/05 R137): not between the instructions of a pair, nor inside a REP sequence, a custom instruction, or an issued FENCE, UNLOCK or SLOTSWAP.
DESIGN CHOICE, assumption log 57. -/
def Thread.atBoundary (x : Thread) : Bool :=
  !x.midPair && x.cust.isNone && x.drain.isNone && match x.rep with
    | none => true
    | some r => r.urgent

/-- A thread goes to PARKED with a cause (R125); PARK_PC is the address of the instruction that parks it, or for a park that
no instruction of the thread makes that of its next one. DESIGN CHOICE, assumption log 122. -/
def State.park (s : State) (e t cause : Nat) : State :=
  let s := s.modThread e t fun x =>
    { x with st := .parked, inhdl := false, rep := none, savedRep := none, byStop := false, pair := none,
             parkCause := cause, parkPc := x.pc }
  s.incSat (.engParkcnt e) F.engParkcnt.count

/-- A thread is held in QUIESCED with its prior state (R125). -/
def Thread.quiesce (x : Thread) (byStop : Bool) : Thread := 
  { x with st := .quiesced, prior := x.st, byStop := byStop, pair := none }

/-- A QUIESCED thread returns to its prior state (R125); a WAITING thread finds its events. -/
def Thread.release (x : Thread) : Thread := Thread.waitTest { x with st := x.prior, byStop := false }

/-- A thread's execution state after a reset (R125, spec/03 R69): its privilege, priority, URGMASK, UVEC and
pc stay, and PARK_PC is that pc. DESIGN CHOICE, assumption log 122. -/
def Thread.reset (x : Thread) : Thread :=
  { Thread.init 0 with pc := x.pc, priv := x.priv, prio := x.prio, urgmask := x.urgmask, uvec := x.uvec,
                       parkCause := 7, parkPc := x.pc, ck := x.ck, rolled := x.rolled }

/-- A thread reset without its effect on locks (R125): it counts as a park, of a PARKED thread too. DESIGN CHOICE,
assumption log 132. -/
def State.clearThread (s : State) (e t : Nat) : State :=
  (s.modThread e t Thread.reset).incSat (.engParkcnt e) F.engParkcnt.count

/-- A thread is reset and abandoned (R125; spec/13 R349): an engine without a role has no requesters.
DEDUCED, assumption log 52 and 98. -/
def State.resetThread (s : State) (e t : Nat) : State :=
  if s.roleOf e ≤ 8 then (s.clearThread e t).abandon (s.roleIndex e t) else s.clearThread e t

/-- The statistics counters of an engine clear (spec/02 R63). -/
def State.clearStatistics (s : State) (e : Nat) : State :=
  [Reg.engIssuecnt e, .engPaircnt e, .engStallcnt e, .engIcmiss e, .engRotcnt e].foldl (fun s r => s.wr r 0) s

/-! ### Checkpoints (spec/14 R370) -/

/-- A continuity thread (spec/14 R366): of a CONTINUITY domain, or named in ENG_CKMASK of its role.
DEDUCED, assumption log 36 and 39. -/
def State.isContinuity (s : State) (r t : Nat) : Bool :=
  (match s.threadDomain r t with
    | some d => s.bit (.engDctl d) F.engDctl.policy
    | none => false) || (decide (r < 8) && (s.fld (.engCkmask r) F.engCkmask.mask).testBit t)

/-- A long operation's value among the registers, with its sticky bits (spec/03 R83, R86). DESIGN CHOICE, assumption log
123. -/
def Regs.longResult (r : Regs) (o : LongOp) : Regs :=
  let r := { r with astat := r.astat ||| o.sticky }
  match o.reg with
  | .mr => { r with mr := o.val.setWidth 32, mrp := false }
  | .ir => { r with ir := o.val.setWidth 32, irp := false }
  | .acc0 => { r with acc0 := o.val, acc0p := false }
  | .acc1 => { r with acc1 := o.val, acc1p := false }

/-- A load's values among the registers (spec/02 R45); what has been written since is no longer in its list. -/
def Regs.loaded (r : Regs) (l : Load) : Regs := l.dests.foldl (fun r d => r.set d.1 d.2 l.poison) r

/-- The registers of a load are written, their parity with them (spec/05 R142). -/
def Thread.takeLoad (x : Thread) (l : Load) : Thread :=
  { x with regs := x.regs.loaded l, flipped := x.flipped.filter fun k => !l.dests.any fun d => d.1 == k }

/-- The registers a checkpoint records: results still in flight are those of their operations. -/
def Thread.settled (x : Thread) : Regs :=
  let r := x.mul.foldl Regs.longResult (x.loads.foldl Regs.loaded x.regs)
  match x.iter with
  | some o => r.longResult o
  | none => r

/-- A checkpoint of thread `t` is taken, or skipped and counted while the newer record is not usable (spec/14
R370). -/
def State.checkpoint (s : State) (e t : Nat) (pc : Word) : State :=
  let x := s.thread e t
  let busy := match x.ck with
    | [] => false
    | c :: _ => !c.usable
  if busy then
    if s.roleOf e < 8 then s.incSat (.engCkstat (s.roleOf e)) F.engCkstat.ckskip else s
  else
    let c : CkRecord :=
      ⟨x.settled, pc, x.st, x.prior, x.inhdl, x.waitMask, x.waitDst, x.uret, x.rep, x.savedRep, x.evt,
       ((s.engine e).sb.filter fun y => y.thr == t).length, x.mul.length, if x.iter.isSome then 1 else 0, false,
       match x.ck with
       | [] => 0
       | c :: _ => 1 - c.slot⟩
    s.setThread e t { x with ck := c :: x.ck.take 1 }

/-! ### Commands at a boundary -/

/-- The threads of engine `e` are being quiesced: it is STOPPING (spec/02 R512), its role is in the switch of a planned swap
(spec/14 R379), or SLEEP is being entered (spec/18 R480). -/
def State.quiescing (s : State) (e : Nat) : Bool :=
  s.fld (.engStat e) F.engStat.state == 3 || (s.bit .engFstat F.engFstat.swap && s.roleOf e == s.cont.rollRole) ||
    decide (2 ≤ s.power.stage)

/-- A thread that has come to issue or to wait while its engine quiesces is quiesced as well (spec/02 R512). -/
def State.quiesceNew (s : State) (e t : Nat) : State :=
  let x := s.thread e t
  if s.quiescing e && (x.issues || x.st == .waiting) && x.atBoundary then s.setThread e t (x.quiesce true) else s

/-- A command to a thread at its boundary (R125, R126): 1 PARK, 2 RESUME, 3 QUIESCE, 4 RELEASE, 5 CLRVIOL; 8 a
checkpoint and 9 the quiesce of an engine's STOPPING. DECLARE is in Machine/Faults.lean. -/
def State.threadCmd (s : State) (e t cmd : Nat) : State :=
  let x := s.thread e t
  match cmd with
  | 1 => if x.st = .parked then s else s.park e t 6
  | 2 => if x.st = .parked then (s.setThread e t { x with st := .ready, fcause := 0 }).quiesceNew e t else s
  | 3 => if x.issues || x.st == .waiting then s.setThread e t (x.quiesce false) else s
  | 4 => if x.st = .quiesced then (s.setThread e t x.release).quiesceNew e t else s
  | 5 => s.setThread e t { x with viol := 0 }
  | 8 => s.checkpoint e t x.pc
  | 9 => if x.issues || x.st == .waiting then s.setThread e t (x.quiesce true) else s
  | _ => s

/-- A command waits for the thread's boundary, or is applied at once (R126, R127). -/
def State.sendCmd (s : State) (e t cmd : Nat) : State :=
  if (s.thread e t).atBoundary && (s.thread e t).cmdQueue.isEmpty then s.threadCmd e t cmd
  else s.modThread e t fun x => { x with cmdQueue := x.cmdQueue ++ [cmd] }

/-! ### Urgent diversion (R137) -/

/-- A diversion is permitted at the thread's present boundary (R137, R47, R487). DEDUCED, assumption log 41. -/
def Thread.canDivert (x : Thread) : Bool :=
  x.evt &&& x.urgmask != 0 && !x.halted && x.atBoundary && (x.loads.all fun l => !l.fresh) &&
    (x.st == .ready || (x.st == .waiting && !x.inhdl))

/-- URGENT_DIVERSION (R137): the loads in flight complete before the handler's first instruction (R47).
DEDUCED, assumption log 41. -/
def execUrgentDiversion (e t : Nat) (s : State) : Host.Outcome State Fault Refusal :=
  let x := s.thread e t
  s.run (decide (e < 9 ∧ t < 32) && s.fld (.engStat e) F.engStat.state == lifeOn && x.canDivert &&
      x.loads.all fun l => l.complete) fun s =>
    let y := { x with st := .diverted, inhdl := true, uret := x.pc, pc := x.uvec }
    s.setThread e t { y with savedRep := x.rep, rep := none, pair := none }

/-! ### Start and stop of engines (spec/02 R512) -/

def State.engLife (s : State) (e : Nat) : Life :=
  { st := s.fld (.engStat e) F.engStat.state, pend := s.fld (.engStat e) F.engStat.pend, en := s.fld (.engCtrl e) F.engCtrl.en }

def State.setEngLife (s : State) (e : Nat) (l : Life) : State :=
  ((s.setFld (.engStat e) F.engStat.state l.st).setFld (.engStat e) F.engStat.pend l.pend).setFld (.engCtrl e) F.engCtrl.en l.en

/-- Every thread of an engine is asked to quiesce (spec/02 R512). -/
def State.quiesceEngine (s : State) (e : Nat) : State := allThreads.foldl (fun s t => s.sendCmd e t 9) s

/-- The threads that a stop quiesced are released (spec/02 R512). -/
def State.releaseEngine (s : State) (e : Nat) : State :=
  allThreads.foldl (fun s t => s.modThread e t fun x => if x.st = .quiesced ∧ x.byStop then x.release else x) s

/-- Every thread has reached its boundary and the store buffer has drained. -/
def State.engineQuiet (s : State) (e : Nat) : Bool :=
  (s.engine e).sb.isEmpty && allThreads.all fun t => !((s.thread e t).issues || (s.thread e t).st == .waiting)

/-- An engine moves in its life-cycle: STOPPING quiesces its threads, ON releases them. -/
def State.moveEngine (s : State) (e : Nat) (l : Life) : State :=
  let old := (s.engLife e).st
  let s := s.setEngLife e l
  if old = l.st then s
  else if l.st = 3 then s.quiesceEngine e
  else if l.st = 2 then s.releaseEngine e
  else s

/-- An engine reaches ON or OFF; a latched request is taken at once (spec/01 R20, R21). -/
def State.engineArrive (s : State) (e : Nat) : State :=
  let s := s.moveEngine e (s.engLife e).arrive
  s.moveEngine e (s.engLife e).onward

/-- ENGINE_STOP_DONE (spec/02 R512). -/
def execEngineStopDone (e : Nat) (s : State) : Host.Outcome State Fault Refusal :=
  s.run (decide (e < 9) && (s.engLife e).st == 3 && s.engineQuiet e) fun s => s.engineArrive e

/-- ENGINE_START_DONE (spec/02 R512): not of an engine that a takeover restores. -/
def execEngineStartDone (e : Nat) (s : State) : Host.Outcome State Fault Refusal :=
  let taking := match s.cont.takeover with
    | some x => x.engine == some e
    | none => false
  s.run (decide (e < 9) && (s.engLife e).st == 1 && !taking && !s.asleep && !s.power.waking) fun s => s.engineArrive e

/-! ### Registers of threads -/

/-- ENG_TEVT (R144): URGMASK, and pokes of EVT by hosts and supervisor threads (R135); those of a USER thread are
ignored and counted. DEDUCED, assumption log 33. -/
def writeEngTevt (s : State) (w : Wr) (e t : Nat) : State × Bool :=
  let r := Reg.engTevt e t
  let x := s.thread e t
  let sup := (s.rights w.who).supervisor
  let old := (x.urgmask ++ x.evt : BitVec 32)
  let s := if sup && w.any F.engTevt.urgmask then
      (s.modThread e t fun x => { x with urgmask := BitVec.ofNat 16 (w.val F.engTevt.urgmask old) }).copyThrough e else s
  if s.may w r F.engTevt.evt && (sup || isHost w.who) then (s.setEvt e t (BitVec.ofNat 16 (w.bits F.engTevt.evt)), false)
  else (s, w.bits F.engTevt.evt != 0)

/-- POKE (R144). DEDUCED, assumption log 33. -/
def execPoke (w : Who) (e t : Nat) (d : BitVec 32) (strb : BitVec 4) (s : State) : Host.Outcome State Fault Refusal :=
  let x : Wr := ⟨w, (Reg.engTevt e t).key, d, strb⟩
  s.run (decide (e < 9 ∧ t < 32)) fun s => s.access x (.engTevt e t) fun s => writeEngTevt s x e t

/-- ENG_TURG (R144). -/
def writeEngTurg (s : State) (w : Wr) (e t : Nat) : State × Bool :=
  let x := s.thread e t
  if s.may w (.engTurg e t) F.engTurg.uvec && w.any F.engTurg.uvec then
    ((s.setThread e t { x with uvec := BitVec.ofNat 16 (w.val F.engTurg.uvec (x.uret ++ x.uvec)) }).copyThrough e, false)
  else (s, false)

/-- ENG_TPC: only while the thread is PARKED (spec/02 R65). -/
def writeEngTpc (s : State) (w : Wr) (e t : Nat) : State × Bool :=
  let x := s.thread e t
  if s.may w (.engTpc e t) F.engTpc.pc && w.any F.engTpc.pc && x.st == .parked then
    (s.setThread e t { x with pc := BitVec.ofNat 16 (w.val F.engTpc.pc (x.pc.setWidth 32)) }, false)
  else (s, false)

/-- ENG_TSEGB (R130): a write that sets SECURE without secure rights is ignored as a whole. -/
def writeEngTsegb (s : State) (w : Wr) (e t k : Nat) : State × Bool :=
  let r := Reg.engTsegb e t k
  if w.bits F.engTsegb.secure = 1 ∧ !(s.rights w.who).isSecure then (s, false)
  else ((s.takeAll w r r.fields).copyThrough e, false)

/-- ENG_TSEGL (R130): a LIMIT above 0x1_0000 acts as 0x1_0000. -/
def writeEngTsegl (s : State) (w : Wr) (e t k : Nat) : State × Bool :=
  let r := Reg.engTsegl e t k
  let s := s.takeAll w r r.fields
  ((s.setFld r F.engTsegl.limit (min 0x10000 (s.fld r F.engTsegl.limit))).copyThrough e, false)

/-- ENG_TSTATE as read (R144). -/
def State.readEngTstate (s : State) (e t : Nat) : BitVec 32 :=
  let x := s.thread e t
  BitVec.ofNat 32 (x.viol * 2 ^ 16 + (if x.inhdl then 2 ^ 15 else 0) + x.prio % 8 * 2 ^ 12 + x.priv % 4 * 2 ^ 10 +
    x.fcause * 2 ^ 3 + x.st.code)

/-- ENG_TPARK as read (spec/02 R65). -/
def State.readEngTpark (s : State) (e t : Nat) : BitVec 32 :=
  BitVec.ofNat 32 ((s.thread e t).parkCause * 2 ^ 16 + (s.thread e t).parkPc.toNat)

end Sys2Proof.Machine
end

