-- ==== Sys2Proof/Machine/Domains.lean ====
section
/-! DEFINITION. Domains (spec/01 R15 to R18, spec/14 R359 to R365): arming, the sub-states, the freeze, and
ENG_DCTL. -/

namespace Sys2Proof.Machine

def State.setSub (s : State) (d n : Nat) : State := s.setFld (.engDstat d) F.engDstat.sub n

def State.domLife (s : State) (d : Nat) : Life :=
  { st := s.fld (.engDstat d) F.engDstat.state, pend := s.fld (.engDstat d) F.engDstat.pend,
    en := s.fld (.engDctl d) F.engDctl.en }

/-- The lanes of domain `d`. -/
def State.domainLanes (s : State) (d : Nat) : List Nat := (List.range 256).filter fun p => s.laneDomain p == some d

/-- The threads of domain `d`, by role index. -/
def State.domainThreads (s : State) (d : Nat) : List Nat :=
  (s.threadDom.filter fun x => x.2 == some d).map (·.1)

/-- A domain has a thread in role `r`. -/
def State.domainInRole (s : State) (d r : Nat) : Bool := (s.domainThreads d).any fun i => i / 32 == r

/-- The reference commit group of a domain (R359). -/
def State.refGroup (s : State) (d : Nat) : Nat := s.fld (.engDctl d) F.engDctl.refcg

/-- A period of group `g` starts in the present tick (R189). -/
def State.periodStarts (s : State) (g : Nat) : Bool := (s.group g).deadlines.any fun d => d + s.lead g == s.ticks

/-- The present tick is a period start of the domain's REFCG; while REFCG runs no deadlines every tick is
(R360). -/
def State.atPeriodStart (s : State) (d : Nat) : Bool :=
  !s.groupLive (s.refGroup d) || s.periodStarts (s.refGroup d)

/-- Thread `i`, by role index, is reset with its domain: parked and abandoned; in a takeover of its role it will arrive
PARKED, without a record to resume from (R387). -/
def State.stopThread (s : State) (i : Nat) : State :=
  let s := match s.cont.takeover with
    | some x => if x.role = i / 32 then s.modThread (x.engine.getD x.failed) (i % 32) fun y => { y with ck := [] } else s
    | none => s
  match s.engineOf (i / 32) with
  | some e => s.resetThread e (i % 32)
  | none => s.abandon i

/-- STOPPING of a domain: its threads are parked and abandoned, its stages and its lanes' entries are
discarded (R17; spec/18 R484). -/
def State.stopDomain (s : State) (d : Nat) : State :=
  let s := s.setSub d 0
  let s := s.setDomain d .init
  let s := (s.domainThreads d).foldl State.stopThread s
  (s.domainLanes d).foldl (fun s p =>
    ((s.clearStage p).dropEntries p).modLane p fun x => { x with held := none }) s

/-- A domain reset acts on each counter and each inlet of domain `d` as an EN write of 0 accepted in the same tick (spec/08
R220, spec/09 R251): at the start of the next one, which is where `now` holds. -/
def State.stopUnits (s : State) (d : Nat) (now : Bool) : State :=
  let s := (s.domainCounters d).foldl (fun s n => if now then s.stopCounter n else s.later (.stopCounter n)) s
  (s.domainInlets d).foldl (fun s n => if now then s.stopInlet n else s.later (.stopInlet n)) s

/-- A domain moves in its life-cycle (R17, R361); the pins follow once it has settled. -/
def State.moveDomain (s : State) (d : Nat) (l : Life) : State :=
  let old := (s.domLife d).st
  let s := ((s.setFld (.engDstat d) F.engDstat.state l.st).setFld (.engDstat d) F.engDstat.pend l.pend).setFld
    (.engDctl d) F.engDctl.en l.en
  if old = l.st then s
  else if l.st = 1 then s.setFld (.engDstat d) F.engDstat.limitLock 1
  else if l.st = 2 then (s.setSub d subArmed).armWeirs d
  else if l.st = 3 then s.stopDomain d
  else s.setFld (.engDstat d) F.engDstat.limitLock 0

/-- A domain reaches ARMED or DISARMED; a latched DRST or ARM is taken in the same tick, before the pins follow: the lanes
of a domain that is to stop at once never leave inert (R361; spec/01 R20, R21). -/
def State.domainArrive (s : State) (d : Nat) : State :=
  let s := s.moveDomain d (s.domLife d).arrive
  let t := s.moveDomain d (s.domLife d).onward
  (if (t.domLife d).st = 3 then t.stopUnits d false else t).settle

/-- A request to arm a domain or to reset it takes effect (R361), `now` at the start of the tick after its acceptance. -/
def State.requestDomain (s : State) (d en : Nat) (now : Bool) : State :=
  let t := s.moveDomain d ((s.domLife d).request en)
  (if (s.domLife d).st != 3 && (t.domLife d).st == 3 then t.stopUnits d now else t).settle

/-- A request is accepted: it acts in the tick after, while the shore is stopped at once (spec/18 R483, R485).
DEDUCED, assumption log 130. -/
def State.askDomain (s : State) (d en : Nat) : State :=
  let s := s.setFld (.engDctl d) F.engDctl.en en
  if s.shoreRuns then s.later (.domain d en) else s.requestDomain d en false

/-- DOMAIN_ARMED (R17): the limits are locked and every enabled counter of the domain has left OFF (spec/08
R220). -/
def execDomainArmed (dom : Nat) (s : State) : Host.Outcome State Fault Refusal :=
  s.run (decide (dom < 8) && (s.domLife dom).st == 1 && s.countersArmed dom) fun s => s.domainArrive dom

/-- DOMAIN_DISARMED (R17). -/
def execDomainDisarmed (dom : Nat) (s : State) : Host.Outcome State Fault Refusal :=
  s.run (decide (dom < 8) && (s.domLife dom).st == 3 && s.shoreRuns) fun s => s.domainArrive dom

/-! ### The sub-states (R360 to R365) -/

/-- A change of sub-state asked for at the next period start (R360). -/
def State.askSub (s : State) (d n : Nat) : State := s.setDomain d { s.domain d with next := some n, asked := s.ticks }

/-- A freeze (R362, R363): FAULT-HOLD from the decision on; by a fault it is recorded in ENG_FSTAT, and a
CONTINUITY domain is DEGRADED (R383), which CMD HOLD does not make it. DEDUCED, assumption log 111. -/
def State.freeze (s : State) (d : Nat) (byFault : Bool) : State :=
  let sub := s.sub d
  let s := (s.setSub d subHold).incSat (.engDcnt d) F.engDcnt.freezes
  let s := s.setFld (.engDstat d) F.engDstat.holdcnt 0
  let s := s.setDomain d { s.domain d with froze := some (s.ticks, sub), stopped := false, switched := false }
  if byFault then
    let s := s.setFld .engFstat F.engFstat.dfault 1
    if s.bit (.engDctl d) F.engDctl.policy then s.setFld (.engDstat d) F.engDstat.degraded 1 else s
  else s

/-- The held period of lane `p` at C: its weir's last period that has started (R363). -/
def State.heldPeriod (s : State) (p : Nat) : Option Held :=
  match (s.weir p).periods.find? fun x => decide (x.start ≤ s.now) with
  | some x => some ⟨x.start, 32 * s.per (s.groupOf p), x.lvl, x.oe, x.ents⟩
  | none => none

/-- A period of weir `p` decided at a deadline before the present tick that starts after it (R363). -/
def State.unstarted (s : State) (p : Nat) (x : Period) : Bool :=
  decide (s.now < x.start ∧ x.start / 32 < s.ticks + s.lead (s.groupOf p))

/-- An entry of the schedule is one that period `x` inserted (spec/07 R199). -/
def Period.inserted (x : Period) (y : Entry) : Bool :=
  x.ents.any fun e => y.due == x.start + e.1 && y.act == e.2.1 && y.arg == e.2.2

/-- An entry of lane `p` that a release inserted whose period has not started (R363). -/
def State.withdrawn (s : State) (p : Nat) (y : Entry) : Bool :=
  ((s.weir p).periods.filter (s.unstarted p)).any fun x => x.inserted y

/-- Commit stops for lane `p`: its held period is fixed, and releases whose periods have not started are
discarded with their entries (R363). DEDUCED, assumption log 106. -/
def State.stopCommit (s : State) (p : Nat) : State :=
  let t := s.modLane p fun x => { x with held := s.heldPeriod p, queue := x.queue.filter (fun y => !s.withdrawn p y),
                                         core := x.core.filter (fun y => !s.withdrawn p y.1) }
  t.setWeir p { s.weir p with periods := (s.weir p).periods.filter fun x => !s.unstarted p x }

/-- Domain `d` freezes and commit has not stopped. -/
def State.freezing (s : State) (d : Nat) : Bool := s.domainOn d && s.sub d == subHold && !(s.domain d).stopped

/-- C of domain `d` (R363): its commit stops and each EDGE lane's held period is fixed. -/
def State.commitStop (s : State) (d : Nat) : State :=
  let s := s.setDomain d { s.domain d with stopped := true }
  ((s.domainLanes d).foldl State.stopCommit s).settle

/-- FREEZE_COMMIT_STOP (R363). -/
def execFreezeCommitStop (dom : Nat) (s : State) : Host.Outcome State Fault Refusal :=
  s.run (decide (dom < 8) && s.freezing dom) fun s => s.commitStop dom

/-- C comes at the latest 1 µs, 800 ticks, after the detection (R363). -/
def State.commitStopDue (s : State) (d : Nat) : Bool :=
  s.freezing d && match (s.domain d).froze with
    | some f => decide (f.1 + 800 ≤ s.ticks)
    | none => false

/-- The present tick is F of domain `d` (R363). -/
def State.switchDue (s : State) (d : Nat) : Bool :=
  s.domainOn d && s.sub d == subHold && (s.domain d).stopped && !(s.domain d).switched && s.shoreRuns && s.atPeriodStart d

/-- F of domain `d` (R363): every lane restarts its held period, or the domain goes to SAFE. -/
def State.freezeSwitch (s : State) (d : Nat) : State :=
  let s := s.setDomain d { s.domain d with switched := true, fTick := s.ticks }
  if s.bit (.engDctl d) F.engDctl.dfa then (s.setSub d subSafe).settle
  else ((s.domainLanes d).foldl (fun s p => s.modLane p fun x =>
    { x with held := x.held.map fun h => { h with start := s.now } }) s).settle

/-- FREEZE_SWITCH (R363): at F every lane restarts its held period, or the domain goes to SAFE. -/
def execFreezeSwitch (dom : Nat) (s : State) : Host.Outcome State Fault Refusal :=
  s.run (decide (dom < 8) && s.switchDue dom) fun s => s.freezeSwitch dom

/-- A domain enters a sub-state asked for (R360, R365): RUN ends a freeze; a change to SAFE in a freeze before its
F is at F (R363). -/
def State.enterSub (s : State) (d n : Nat) : State :=
  let f := s.sub d == subHold && !(s.domain d).switched
  let s := s.setSub d n
  if n = subRun then
    let s := s.setDomain d .init
    ((s.domainLanes d).foldl (fun s p => s.modLane p fun x => { x with held := none }) s).settle
  else
    let s := if f then s.setDomain d { s.domain d with switched := true, fTick := s.ticks } else s
    (s.setDomain d { s.domain d with next := none }).settle

/-- The sub-state that domain `d` enters in the present tick, as asked for: at a period start of REFCG after the decision; a
change to SAFE in a freeze never before C (R360, R363). -/
def State.subDue (s : State) (d : Nat) : Option Nat :=
  match (s.domain d).next with
  | none => none
  | some n => if s.domainOn d && s.shoreRuns && decide ((s.domain d).asked < s.ticks) && s.atPeriodStart d &&
      (s.sub d != subHold || n != subSafe || (s.domain d).stopped) then some n else none

/-- DOMAIN_SUBSTATE_CHANGE (R360, R363). -/
def execDomainSubstateChange (dom : Nat) (s : State) : Host.Outcome State Fault Refusal :=
  match s.subDue dom with
  | none => s.run false id
  | some n => s.run (decide (dom < 8)) fun s => s.enterSub dom n

/-- HOLDMAX periods have elapsed since F (R360). -/
def State.holdmaxDue (s : State) (d : Nat) : Bool :=
  let m := s.fld (.engDctl d) F.engDctl.holdmax
  s.domainOn d && s.sub d == subHold && (s.domain d).switched && m != 0 && decide (m ≤ s.fld (.engDstat d) F.engDstat.holdcnt)

/-- HOLDMAX_EXPIRY (R360). -/
def execHoldmaxExpiry (dom : Nat) (s : State) : Host.Outcome State Fault Refusal :=
  s.run (decide (dom < 8) && s.holdmaxDue dom) fun s => s.enterSub dom subSafe

/-- HOLDCNT of a domain in a tick (R360, R390): the periods of REFCG since F, or PER ticks each while REFCG runs
no deadlines; it counts on in SAFE. DEDUCED, assumption log 107. -/
def State.countHold (s : State) (d : Nat) : State :=
  let x := s.domain d
  let g := s.refGroup d
  let due := if s.groupLive g then s.periodStarts g else (s.ticks - x.fTick) % s.per g == 0
  if s.domainOn d && (s.sub d == subHold || s.sub d == subSafe) && x.switched && decide (x.fTick < s.ticks) && due then
    s.incSat (.engDstat d) F.engDstat.holdcnt
  else s

/-- What the present tick makes due in the domains, in this order: the period that a hold counts, C at its latest, F, a
sub-state asked for, and the end of a hold. -/
def State.domainTick (s : State) : State :=
  (List.range 8).foldl (fun s d =>
    let s := s.countHold d
    let s := if s.commitStopDue d then s.commitStop d else s
    let s := if s.switchDue d then s.freezeSwitch d else s
    let s := match s.subDue d with
      | some n => s.enterSub d n
      | none => s
    if s.holdmaxDue d then s.enterSub d subSafe else s) s

/-! ### ENG_DCTL (R359 to R361, R390) -/

/-- A domain command (R360); one that finds no row is ignored and counted, codes 4 to 15 are ignored. -/
def State.domainCmd (s : State) (d cmd : Nat) : State × Bool :=
  let sub := if s.domainOn d then s.sub d else 0
  match cmd with
  | 1 => if sub = subHold ∨ sub = subSafe then (s.askSub d subRun, false) else (s, true)
  | 2 => if 1 ≤ sub ∧ sub ≤ subHold then (s.askSub d subSafe, false) else (s, true)
  | 3 => if 1 ≤ sub ∧ sub ≤ subCoast then (s.freeze d false, false) else (s, true)
  | _ => (s, false)

/-- ENG_DCTL (R359 to R361): an ARM written together with a DRST comes before it. DESIGN CHOICE, assumption log 110. -/
def writeEngDctl (s : State) (w : Wr) (d : Nat) : State × Bool :=
  let r := Reg.engDctl d
  let off := (s.domLife d).st == 0
  let x := [F.engDctl.holdmax, F.engDctl.refcg, F.engDctl.loopflt, F.engDctl.dfa, F.engDctl.policy].foldl
    (fun x f => State.takeIf off x w r f) (s, false)
  let s := x.1
  let s := if s.may w r F.engDctl.en && w.bits F.engDctl.en == 1 && w.any F.engDctl.en then s.askDomain d 1 else s
  let s := if s.wrote1 w r F.engDctl.drst then s.askDomain d 0 else s
  if s.may w r F.engDctl.cmd && w.full F.engDctl.cmd then
    let y := s.domainCmd d (w.bits F.engDctl.cmd)
    (y.1, x.2 || y.2)
  else (s, x.2)

/-- A write of ENG_DCTL. -/
def execDctl (w : Who) (dom : Nat) (d : BitVec 32) (strb : BitVec 4) (s : State) : Host.Outcome State Fault Refusal :=
  let x : Wr := ⟨w, (Reg.engDctl dom).key, d, strb⟩
  s.run (decide (dom < 8)) fun s => s.access x (.engDctl dom) fun s => writeEngDctl s x dom

/-- DOMAIN_ARM (R361). -/
def execDomainArm (w : Who) (dom : Nat) (d : BitVec 32) (strb : BitVec 4) (s : State) :
    Host.Outcome State Fault Refusal := execDctl w dom d strb s

/-- DOMAIN_RESET (R361). -/
def execDomainReset (w : Who) (dom : Nat) (d : BitVec 32) (strb : BitVec 4) (s : State) :
    Host.Outcome State Fault Refusal := execDctl w dom d strb s

/-- CMD_RESUME (R360). -/
def execCmdResume (w : Who) (dom : Nat) (d : BitVec 32) (strb : BitVec 4) (s : State) :
    Host.Outcome State Fault Refusal := execDctl w dom d strb s

/-- CMD_SAFE (R360). -/
def execCmdSafe (w : Who) (dom : Nat) (d : BitVec 32) (strb : BitVec 4) (s : State) :
    Host.Outcome State Fault Refusal := execDctl w dom d strb s

/-- CMD_HOLD (R362). -/
def execCmdHold (w : Who) (dom : Nat) (d : BitVec 32) (strb : BitVec 4) (s : State) :
    Host.Outcome State Fault Refusal := execDctl w dom d strb s

/-- The domain period in ticks: the largest PER among its groups (R374). -/
def State.domainPeriod (s : State) (d : Nat) : Nat :=
  (List.range 32).foldl (fun m g => if s.bit (.weirCgctl g) F.weirCgctl.domv &&
    s.fld (.weirCgctl g) F.weirCgctl.dom == d then max m (s.per g) else m) 0

/-- ENG_DSTAT as read: LONGPER follows the domain period (R374), and SUB shows FAULT-HOLD from the tick after the decision
(R363). -/
def State.readEngDstat (s : State) (d : Nat) : BitVec 32 :=
  let v := F.engDstat.longper.put (s.rd (.engDstat d)) (if 152000 < s.domainPeriod d then 1 else 0)
  match (s.domain d).froze with
  | some f => if s.shoreRuns && f.1 == s.ticks && s.sub d == subHold then F.engDstat.sub.put v f.2 else v
  | none => v

end Sys2Proof.Machine
end

