-- ==== Sys2Proof/Machine/Faults.lean ====
section
/-! DEFINITION. Faults and continuity (spec/14): the fault record, what a fault does to domains (R356 to R358,
R383), rollback, takeover, the rolling test and planned swaps; and the loopback compare of a lane (spec/06
R166), which reports a lane fault. -/

namespace Sys2Proof.Machine

def State.setCont (s : State) (c : Continuity) : State := { s with cont := c }

/-- A thread the engine could issue (spec/02 R27). -/
def State.couldIssue (s : State) (e t : Nat) : Bool :=
  let map := if s.bit (.engStat e) F.engStat.activeMap then Reg.engSmapB e else Reg.engSmapA e
  let entry := fun i => (s.rd (map (i / 4))).toNat / 2 ^ (8 * (i % 4)) % 64
  (List.range 64).any fun i => entry i == t ||
    (entry i == 33 && (s.inheriting e).any fun x => x.1 == t)

/-! ### Records (R358) -/

/-- A fault record: its ring, its alarm, and the registers of each affected domain. -/
def State.recordFault (s : State) (x : FaultRec) : State :=
  let i := s.fld .engFcnt F.engFcnt.faults % 16
  let s := s.setCont { s.cont with faults := (s.cont.faults.erase i).insert i x }
  let s := (s.setFld .engFcnt F.engFcnt.newest i).incWrap .engFcnt F.engFcnt.faults
  let s := s.alarm 0x18 (BitVec.ofNat 32 (16 * i + x.code))
  ((List.range 8).filter fun d => x.mask.testBit d).foldl (fun s d =>
    let r := Reg.engDfault d
    let s := s.setFld r F.engDfault.code x.code
    let s := s.setFld r F.engDfault.role x.role
    let s := s.setFld r F.engDfault.thread x.thread
    let s := s.setFld r F.engDfault.lane x.lane
    let s := s.setFld r F.engDfault.lanev (if x.laneV then 1 else 0)
    s.wr (.engDftime d) (x.time.extractLsb' 0 32)) s

/-- The mask of a list of domains. -/
def domainMask (l : List Nat) : Nat := l.foldl (fun m d => m ||| 2 ^ d) 0

/-- The domain is in ARMED, RUN or COAST. -/
def State.running (s : State) (d : Nat) : Bool := s.domainOn d && decide (1 ≤ s.sub d ∧ s.sub d ≤ subCoast)

/-- The outcome code of a freeze of domain `d`: 4 with HOLD, 5 with SAFE. -/
def State.freezeCode (s : State) (d : Nat) : Nat := if s.bit (.engDctl d) F.engDctl.dfa then 5 else 4

/-! ### Thread faults -/

/-- The newest usable continuity record of a thread (R370). -/
def Thread.usable (x : Thread) : Option CkRecord := x.ck.find? fun c => c.usable

/-- A thread enters FAULTED (spec/05 R125, R142): the supervisors are notified. -/
def State.enterFaulted (s : State) (e t fcause : Nat) : State :=
  let s := s.modThread e t fun x =>
    { x with st := .faulted, fcause := fcause, rep := none, cust := none, drain := none, pair := none,
             midPair := false, bite := false }
  let s := s.setEvt e 0 (evtBit 13)
  let s := s.roleEvt 0 0 13
  if s.roleOf e = 0 ∧ t = 0 then s.setFld .topIstat F.topIstat.supflt 1 else s

/-- The role has a continuity area (R366, R367). -/
def State.hasContexts (s : State) (r : Nat) : Bool := decide (r < 8) && s.bit (.engCont r) F.engCont.cen

/-- A thread fault of code `code` (R356, R357, R371, R383): the thread goes FAULTED, the fault is recorded, and
its domain rolls it back, freezes, or only records. DEDUCED, assumption log 36. -/
def State.threadFault (s : State) (e t fcause code : Nat) : State :=
  let r := s.roleOf e
  let x := s.thread e t
  let s := s.enterFaulted e t fcause
  let rec_ : FaultRec := ⟨code, r, e, t, 0, false, 0, 0, s.time⟩
  match s.threadDomain r t with
  | none => s.recordFault rec_
  | some d =>
    let m := domainMask [d]
    if !s.running d then s.recordFault { rec_ with mask := m }
    else if s.bit (.engDctl d) F.engDctl.policy && (code == 5 || code == 6 || code == 8) then
      if x.usable.isSome && !x.rolled && (!s.hasContexts r || s.admitsRole r) then
        (s.modThread e t fun x => { x with rollback := true }).recordFault { rec_ with mask := m, outcome := 1 }
      else (s.freeze d true).recordFault { rec_ with code := 11, mask := m, outcome := s.freezeCode d }
    else (s.freeze d true).recordFault { rec_ with mask := m, outcome := s.freezeCode d }

/-- A thread's context as a record holds it (R371, R373). DEDUCED, assumption log 38. -/
def Thread.restore (x : Thread) (c : CkRecord) : Thread :=
  { Thread.init 0 with
    regs := c.regs, pc := c.pc, st := c.st, prior := c.prior, inhdl := c.inhdl, waitMask := c.waitMask,
    waitDst := c.waitDst, uret := c.uret, rep := c.rep, savedRep := c.savedRep, evt := c.evt, fcause := x.fcause,
    priv := x.priv, prio := x.prio, viol := x.viol, urgmask := x.urgmask, uvec := x.uvec, parkCause := x.parkCause,
    parkPc := x.parkPc, halted := x.halted, ck := x.ck, rolled := x.rolled }

/-- The slot that holds the role's continuity area admits the role and is ON (R372, R375; spec/11 R289). -/
def State.canRestore (s : State) (r : Nat) : Bool :=
  s.admitsRole r && s.fld (.memBstat (s.fld (.engCont r) F.engCont.cslot)) F.memBstat.state == 2

/-- The continuity area of role `r` answers, or the role has none. -/
def State.areaReady (s : State) (r : Nat) : Bool := !s.hasContexts r || s.canRestore r

/-- A request of role `r` at its continuity area that does not answer: a retained slot with AUTO_WAKE set wakes (R372;
spec/11 R306). -/
def State.wakeArea (s : State) (r : Nat) : State :=
  let n := s.fld (.engCont r) F.engCont.cslot
  let st := s.fld (.memBstat n) F.memBstat.state
  if s.hasContexts r && s.admitsRole r && s.bit (.memBctl n) F.memBctl.autoWake && (st == 0 || st == 3) then s.autoWake n
  else s

/-- The physical word at which record `b` of thread `t` of role `r` begins (R367); none in a removed page. -/
def State.contextAt (s : State) (r t b : Nat) : Option Nat :=
  s.slotPhys (s.fld (.engCont r) F.engCont.cslot) (0x2000 + 64 * t + 32 * b)

/-- A context record is read for a restore: whether a word of it is bad, or out of service, and what the reads count
(R356, R375; spec/12 R316). A role without CEN has no area. DEDUCED, assumption log 62. -/
def State.readContext (s : State) (r t b : Nat) : Bool × State :=
  if !s.hasContexts r then (false, s)
  else match s.contextAt r t b with
    | none => (true, s)
    | some k => (List.range 32).foldl (fun x j =>
        let y := x.2.readWord (k + j)
        (x.1 || y.2.1, y.2.2)) (false, s)

/-- The copy of a context record reaches the Pool: words whose layout is open (R367). DESIGN CHOICE, assumption log 62. -/
def State.writeContext (s : State) (r t b : Nat) : State :=
  if !s.hasContexts r then s
  else match s.contextAt r t b with
    | none => s
    | some k => (List.range 32).foldl (fun s j => s.writeWord (k + j) 0xFF (Config.contextWord r t b j s.tick)) s

/-- Role `r` is in the switch of a planned swap, in which no rollback is taken (R379). -/
def State.switching (s : State) (r : Nat) : Bool := s.fld .engRollstat F.engRollstat.phase == 4 && r == s.cont.rollRole

/-- A thread is restored from its record `c` (R371): a record that cannot be corrected faults it with code 4 (R356). -/
def State.rollBack (s : State) (e t : Nat) (c : CkRecord) : State :=
  let y := s.readContext (s.roleOf e) t c.slot
  if y.1 then (y.2.modThread e t fun x => { x with rollback := false }).threadFault e t 4 4
  else
    let s := (y.2.setThread e t (Thread.waitTest { (s.thread e t).restore c with rolled := true })).quiesceNew e t
    match s.threadDomain (s.roleOf e) t with
    | some d => s.incSat (.engDcnt d) F.engDcnt.rollbacks
    | none => s

/-- THREAD_ROLLBACK (R371): the restore reads the record as the role (spec/11 R289) once its slot is ON.
DEDUCED, assumption log 36. -/
def execThreadRollback (e t : Nat) (s : State) : Host.Outcome State Fault Refusal :=
  let x := s.thread e t
  match x.usable with
  | none => s.run false id
  | some c => s.run (decide (e < 9 ∧ t < 32) && x.rollback && x.st == .faulted && !s.switching (s.roleOf e)) fun s =>
    if s.areaReady (s.roleOf e) then s.rollBack e t c else s.wakeArea (s.roleOf e)

/-- The number of the present tick is a multiple of CKINT × 800 of role `role`, whose checkpoints it has not yet brought
(R370); there are none in SLEEP (R384). -/
def State.checkpointDue (s : State) (role : Nat) : Bool :=
  let n := s.fld (.engCont role) F.engCont.ckint
  n != 0 && s.tick % (n * 800) == 0 && s.shoreRuns && !s.asleep && SMap.get s.cont.ckTick role 0 != s.ticks + 1

/-- A checkpoint of each continuity thread of the role, at its next permitted boundary (R370). -/
def State.checkpointRole (s : State) (role e : Nat) : State :=
  let s := s.setCont { s.cont with ckTick := SMap.put s.cont.ckTick role (s.ticks + 1) 0 }
  (allThreads.filter fun t => s.isContinuity role t).foldl (fun s t => s.sendCmd e t 8) s

/-- CHECKPOINT_INTERVAL (R370). -/
def execCheckpointInterval (role : Nat) (s : State) : Host.Outcome State Fault Refusal :=
  match s.engineOf role with
  | none => s.run false id
  | some e => s.run (decide (role < 8) && s.checkpointDue role) fun s => s.checkpointRole role e

/-- The checkpoints that the present tick brings. -/
def State.checkpointTick (s : State) : State :=
  (List.range 8).foldl (fun s r => match s.engineOf r with
    | some e => if s.checkpointDue r then s.checkpointRole r e else s
    | none => s) s

/-- CHECKPOINT_USABLE (R370): the stores before the newest record have drained, its long operations have
completed, and its copy reaches the Pool, whose slot must admit it. -/
def execCheckpointUsable (e t : Nat) (s : State) : Host.Outcome State Fault Refusal :=
  let x := s.thread e t
  match x.ck with
  | [] => s.run false id
  | c :: l => s.run (decide (e < 9 ∧ t < 32) && !c.usable && c.stores == 0 && c.muls == 0 && c.iters == 0) fun s =>
    if !s.areaReady (s.roleOf e) then s.wakeArea (s.roleOf e)
    else
      let s := s.setThread e t { x with ck := { c with usable := true } :: l, rolled := false }
      let s := s.writeContext (s.roleOf e) t c.slot
      if s.roleOf e < 8 then s.incWrap (.engCkstat (s.roleOf e)) F.engCkstat.records else s

/-! ### Lane faults -/

/-- The lowest spare lane core (spec/06 R158). -/
def State.freeSpare (s : State) : Option Nat := ((List.range 8).map (256 + ·)).find? fun c => s.isSpare c

/-- A lane fault of code 7 or 10 (R357, R382, R383). -/
def State.laneFault (s : State) (p code : Nat) : State :=
  let rec_ : FaultRec := ⟨code, 15, 15, 0, p, true, 0, 0, s.time⟩
  match s.laneDomain p with
  | none => s.recordFault rec_
  | some d =>
    let m := domainMask [d]
    if !s.running d then s.recordFault { rec_ with mask := m }
    else match s.freeSpare with
      | some c =>
        if s.bit (.engDctl d) F.engDctl.policy && s.shore.swap.isNone && decide (s.coreOf p < 256) then
          ((s.startSwap p c).incSat (.engDcnt d) F.engDcnt.laneswaps).recordFault { rec_ with mask := m, outcome := 3 }
        else (s.freeze d true).recordFault { rec_ with mask := m, outcome := s.freezeCode d }
      | none => (s.freeze d true).recordFault { rec_ with mask := m, outcome := s.freezeCode d }

/-- The oldest compare of lane `p` is made at the tick boundary that ends the present tick (spec/06 R166). -/
def State.compareDue (s : State) (p : Nat) : Bool :=
  s.shoreRuns && match (s.lane p).compares with
    | [] => false
    | (_, n) :: _ => decide (n + max 1 (s.fld (.laneIo p) F.laneIo.loopdly) ≤ s.ticks)

/-- The oldest compare of lane `p` meets lane_in[p] as it stands, raw (spec/06 R166): a mismatch is counted, and reported
where the domain's LOOPFLT says so. -/
def State.compare (s : State) (p : Nat) : State :=
  let v := ((s.lane p).compares.head?.map (·.1)).getD false
  let s := s.modLane p fun x => { x with compares := x.compares.tail }
  if !(s.comparable p && (s.pin p).2) || s.ports.laneIn.getLsbD p == v then s
  else
    let s := s.incSat (.laneErr p) F.laneErr.errb
    match s.laneDomain p with
    | some d => if s.bit (.engDctl d) F.engDctl.loopflt then s.laneFault p 7 else s
    | none => s

/-- LOOPBACK_COMPARE (spec/06 R166): at the end of the present tick the oldest compare of lane `p` meets the raw level
`lin`. -/
def execLoopbackCompare (p : Nat) (lin : Bool) (s : State) : Host.Outcome State Fault Refusal :=
  s.run (decide (p < 256) && s.compareDue p) fun s =>
    let t := s.now + 31
    ((s.settleTo t).setLaneIn p lin t).compare p

/-- The compares that the end of the present tick brings, at most one for each half-tick edge of a tick. -/
def State.compareTick (s : State) : State :=
  s.liveLanes.foldl (fun s p =>
    (List.range (s.lane p).compares.length).foldl (fun s _ => if s.compareDue p then s.compare p else s) s) s

/-! ### Engine faults and takeover (R372 to R376) -/

/-- The domains with a thread in role `r`. -/
def State.roleDomains (s : State) (r : Nat) : List Nat := (List.range 8).filter fun d => s.domainInRole d r

def State.setRole (s : State) (e r : Nat) : State := s.setFld (.engStat e) F.engStat.role r

/-- An engine is out of service until reset (R376). -/
def State.outOfService (s : State) (e : Nat) : Bool := (s.fld .engFstat F.engFstat.oos).testBit e

/-- A planned swap or its preload ends (R379). -/
def State.endRoll (s : State) : State :=
  (s.setFld .engRollstat F.engRollstat.phase 0).setFld .engFstat F.engFstat.swap 0

/-- An engine that passed BIST and waits takes the reserve role when it is vacant (R376). -/
def State.fillReserve (s : State) : State :=
  match s.cont.waiting, s.engineOf 8 with
  | e :: l, none =>
    let s := s.setCont { s.cont with waiting := l }
    (s.setRole e 8).setEngLife e { st := 2, pend := 0, en := 1 }
  | _, _ => s

/-- An engine is fenced: it holds no role, its undrained stores are discarded, and it goes to BIST (R372,
R376). -/
def State.fence (s : State) (e : Nat) : State :=
  let phase := s.fld .engRollstat F.engRollstat.phase
  let s := if phase != 0 && (s.roleOf e == 8 || (2 ≤ phase && s.roleOf e == s.cont.rollRole)) then s.endRoll else s
  let s := (s.setRole e 15).setEngLife e { st := 0, pend := 0, en := 0 }
  let s := s.modEngine e fun x => { x with sb := [] }
  if s.outOfService e then s
  else s.setCont { s.cont with bist := s.cont.bist.filter (· != e) ++ [e], waiting := s.cont.waiting.filter (· != e) }

/-- A takeover fails (R375): role `r` is vacant and every affected domain freezes. DEDUCED, assumption log 37. -/
def State.failTakeover (s : State) (x : Takeover) : State :=
  let ds := s.roleDomains x.role
  let e := x.engine.getD 15
  let s := match x.engine with
    | some e => s.fence e
    | none => s
  let s := s.setCont { s.cont with takeover := none }
  let s := s.setFld .engFstat F.engFstat.takeover 0
  let s := (ds.filter s.running).foldl (fun s d => (s.freeze d true).setFld (.engDstat d) F.engDstat.degraded 1) s
  (s.recordFault ⟨12, x.role, e, 0, 0, false, domainMask ds, 6, s.time⟩).fillReserve

/-- What an engine fault does to one affected domain: COAST where a takeover masks it, else a freeze (R383).
DEDUCED, assumption log 35. -/
def State.engineFaultDomain (s : State) (masked : Bool) (d : Nat) : State :=
  if !s.running d then s
  else if masked && s.bit (.engDctl d) F.engDctl.policy && s.sub d != subCoast then
    let s := s.setDomain d { s.domain d with saved := s.sub d }
    let s := (s.setSub d subCoast).incSat (.engDcnt d) F.engDcnt.takeovers
    s.setFld .engFstat F.engFstat.dfault 1
  else
    let s := s.freeze d true
    if masked then s else s.setFld (.engDstat d) F.engDstat.degraded 1

/-- An engine fault of code `code` (R356, R357, R372, R375, R383). -/
def State.engineFault (s : State) (e code : Nat) : State :=
  let r := s.roleOf e
  let rec_ : FaultRec := ⟨code, if r ≤ 8 then r else 15, e, 0, 0, false, 0, 0, s.time⟩
  match s.cont.takeover with
  | some x =>
    if x.engine = some e then s.failTakeover x
    else if r < 8 then
      let ds := s.roleDomains r
      let o := ((ds.filter s.running).head?.map s.freezeCode).getD 0
      let s := ds.foldl (fun s d => s.engineFaultDomain false d) (s.fence e)
      s.recordFault { rec_ with mask := domainMask ds, outcome := o }
    else ((s.fence e).recordFault rec_).fillReserve
  | none =>
    if r < 8 then
      let ds := s.roleDomains r
      let masked := s.bit (.engCont r) F.engCont.cen && (s.engineOf 8).isSome &&
        s.fld .engRollstat F.engRollstat.phase != 4 ||
        (s.bit (.engCont r) F.engCont.cen && (s.engineOf 8).isSome && s.cont.rollRole == r)
      let o := ((ds.filter s.running).head?.map s.freezeCode).getD 0
      let s := s.fence e
      let s := if masked then
          ((s.setCont { s.cont with takeover := some ⟨r, e, none⟩ }).setFld .engFstat F.engFstat.takeover 1).setFld
            .engFstat F.engFstat.trole r
        else s
      let s := ds.foldl (fun s d => s.engineFaultDomain masked d) s
      s.recordFault { rec_ with mask := domainMask ds, outcome := if masked then 2 else o }
    else ((s.fence e).recordFault rec_).fillReserve

/-- The engine is ON, and a thread that it could issue is READY and not halted by debug (R356). -/
def State.couldRun (s : State) (e : Nat) : Bool :=
  s.fld (.engStat e) F.engStat.state == lifeOn && !s.asleep &&
    allThreads.any fun t => (s.thread e t).issues && !(s.thread e t).halted && s.couldIssue e t

/-- A tick begins: since when engine `e` could have completed slots (R356). -/
def State.watchEngine (s : State) (e : Nat) : State :=
  let since := if s.couldRun e then some ((s.engine e).stall.getD s.ticks) else none
  if since = (s.engine e).stall then s else s.modEngine e fun x => { x with stall := since }

/-- No slot of engine `e` has completed for 1600 ticks in which it could have (R356). DEDUCED, assumption log 131. -/
def State.stalled (s : State) (e : Nat) : Bool :=
  s.couldRun e && s.shoreRuns && match (s.engine e).stall with
    | some n => decide (n + 1600 ≤ s.ticks ∧ (s.engine e).slotAt + 1600 ≤ s.ticks)
    | none => false

/-- ENGINE_STALL_DETECT (R356). -/
def execEngineStallDetect (e : Nat) (s : State) : Host.Outcome State Fault Refusal :=
  s.run (decide (e < 9) && s.stalled e) fun s => s.engineFault e 1

/-- A fault that a write has declared is detected in the tick after the acceptance (R356). DEDUCED, assumption log 130. -/
def State.declare (s : State) (lane : Bool) (n : Nat) : State :=
  if s.shoreRuns then s.later (if lane then .declareLane n else .declareEngine n)
  else if lane then s.laneFault n 10 else s.engineFault n 9

/-- ENG_FDECL (R356, R392). -/
def writeEngFdecl (s : State) (w : Wr) : State × Bool :=
  let r := Reg.engFdecl
  if !(s.may w r F.engFdecl.kind && w.full F.engFdecl.kind && w.full F.engFdecl.target) then (s, false)
  else
    let n := w.bits F.engFdecl.target
    match w.bits F.engFdecl.kind with
    | 1 => if n ≤ 8 then (s.declare false n, false) else (s, true)
    | 2 => if n ≤ 255 then (s.declare true n, false) else (s, true)
    | _ => (s, false)

/-- FDECL_ENGINE (R356). -/
def execFdeclEngine (w : Who) (d : BitVec 32) (strb : BitVec 4) (s : State) : Host.Outcome State Fault Refusal :=
  let x : Wr := ⟨w, (Reg.engFdecl).key, d, strb⟩
  s.run true fun s => s.access x .engFdecl fun s => writeEngFdecl s x

/-- FDECL_LANE (R356). -/
def execFdeclLane (w : Who) (d : BitVec 32) (strb : BitVec 4) (s : State) : Host.Outcome State Fault Refusal :=
  let x : Wr := ⟨w, (Reg.engFdecl).key, d, strb⟩
  s.run true fun s => s.access x .engFdecl fun s => writeEngFdecl s x

/-! ### Moving a role between engines -/

/-- The cells of memory with `len` words from physical word `src` also at `dst`, in place of what was there; a
program-store copy takes bytes 0 to 6 (spec/02 R36). -/
def copyCells (m : List Host.Cell) (src dst len : Nat) (top : Bool) : List Host.Cell :=
  let moved := (m.filter fun c => 8 * src ≤ c.1 && c.1 < 8 * (src + len) && (top || c.1 % 8 != 7)).map fun c =>
    (c.1 - 8 * src + 8 * dst, c.2)
  let kept := m.filter fun c => !(8 * dst ≤ c.1 && c.1 < 8 * (dst + len))
  moved.foldl (fun m c => SMap.put m c.1 c.2 0) kept

/-- The syndromes of `len` words from `src` also at `dst`; a program-store line has no row 7 (spec/12 R318). -/
def copySyns (m : SMap (BitVec 16)) (src dst len : Nat) (top : Bool) : SMap (BitVec 16) :=
  let moved := (m.filter fun c => src ≤ c.1 && c.1 < src + len).map fun c =>
    (c.1 - src + dst, if top then c.2 else c.2 &&& 0x7FFF)
  let kept := m.filter fun c => !(dst ≤ c.1 && c.1 < dst + len)
  moved.foldl (fun m c => SMap.put m c.1 c.2 0) kept

def State.moveWords (s : State) (src dst len : Nat) : State :=
  { s with mem := copyCells s.mem src dst len true, chk := copySyns s.chk src dst len true }

/-- `len` words from `dst` hold zero with valid check bits. -/
def State.zeroWords (s : State) (dst len : Nat) : State :=
  { s with mem := s.mem.filter (fun c => !(8 * dst ≤ c.1 && c.1 < 8 * (dst + len))),
           chk := s.chk.filter (fun c => !(dst ≤ c.1 && c.1 < dst + len)) }

/-- The offsets of an engine window that hold the configuration a role carries (R368): the far base, the slot
maps, the thread fetch, code-segment and segment registers and the decode table. -/
def roleConfig (off : Nat) : Bool := off == 8 || decide (0x100 ≤ off ∧ off < 0x180) || decide (0x200 ≤ off ∧ off < 0xE40)

/-- Engine `e'` takes the configuration registers of engine `e`. DESIGN CHOICE, assumption log 62. -/
def State.copyConfig (s : State) (e e' : Nat) : State :=
  let win := fun (e : Nat) => 0x710000 + 0x1000 * e
  let mine : (Nat × BitVec 32) → Bool := fun c => decide (win e ≤ c.1 ∧ c.1 < win (e + 1)) && roleConfig (c.1 - win e)
  let dest : (Nat × BitVec 32) → Bool := fun c => decide (win e' ≤ c.1 ∧ c.1 < win (e' + 1)) && roleConfig (c.1 - win e')
  let put : SMap (BitVec 32) → (Nat × BitVec 32) → SMap (BitVec 32) := fun m c =>
    SMap.insert (SMap.erase m (c.1 - win e + win e')) (c.1 - win e + win e') c.2
  let s' := { s with regs := (s.regs.filter mine).foldl put (s.regs.filter fun c => !dest c) }
  s'.setFld (.engStat e') F.engStat.activeMap (s.fld (.engStat e) F.engStat.activeMap)

/-- Page `g` of slot `n` as physical words, where it is in service. -/
def State.pageWords (s : State) (n g : Nat) : Option Nat := s.slotPhys n (512 * g)

/-- The words of slot `n` from page `g`, `pages` of them, at `dst`, a program store where `ps`. -/
def State.restorePages (s : State) (n g pages dst : Nat) (ps : Bool) : State :=
  (List.range pages).foldl (fun s i => match s.pageWords n (g + i) with
    | some k =>
      if ps then { s with mem := copyCells s.mem k (dst + 512 * i) 512 false, chk := copySyns s.chk k (dst + 512 * i) 512 false }
      else s.moveWords k (dst + 512 * i) 512
    | none => s) s

/-- TAKEOVER_ROLE_TAKEN (R372): the reserve aborts its BIST or preload, is reset, and takes the role; its restore asks for
the continuity area. Its threads arrive PARKED with PARK_PC 0. DESIGN CHOICE, assumption log 122. -/
def execTakeoverRoleTaken (s : State) : Host.Outcome State Fault Refusal :=
  match s.cont.takeover, s.engineOf 8 with
  | some x, some e => s.run (x.engine == none) fun s =>
    let old := fun t => s.thread x.failed t
    let s := s.endRoll
    let s := s.setCont { s.cont with bist := s.cont.bist.filter (· != e), takeover := some { x with engine := some e } }
    let s := ((allThreads.foldl (fun s t => s.clearThread e t) s).setEngine e .init).clearStatistics e
    let s := allThreads.foldl (fun s t => s.setThread e t
      { Thread.init t with priv := (old t).priv, prio := (old t).prio, urgmask := (old t).urgmask, uvec := (old t).uvec,
                           parkCause := 7, pc := SMap.get s.startPc (32 * x.role + t) 0, ck := (old t).ck }) s
    let s := (s.copyConfig x.failed e).setRole e x.role
    ((s.setEngLife e { st := 1, pend := 0, en := 1 }).wakeArea x.role).fillReserve
  | _, _ => s.run false id

/-- A continuity thread after the restore of a takeover (R373): its recorded state, EVT bits 0 to 12 set, bit 13 in
the engine supervisor only, a halt of debug ended (R388). DEDUCED, assumption log 38. -/
def Thread.taken (x : Thread) (t : Nat) (c : CkRecord) : Thread :=
  let y := x.restore c
  Thread.waitTest { y with evt := if t = 0 then 0x3FFF else 0x1FFF, halted := false }

/-- TAKEOVER_COMPLETE (R372, R373): the program store comes from the copy, the mirrored range of the local RAM
from the mirror and the rest is zero, continuity threads resume from their usable records, but one whose record cannot
be corrected faults with code 4 (R375); COAST domains return to the sub-state they left. -/
def execTakeoverComplete (s : State) : Host.Outcome State Fault Refusal :=
  match s.cont.takeover with
  | some { role := r, failed := _, engine := some e } => s.run (s.canRestore r) fun s =>
    let n := s.fld (.engCont r) F.engCont.cslot
    let s := (s.zeroWords (pstoreWord e 0) 4096).restorePages n 0 8 (pstoreWord e 0) true
    let s := (s.zeroWords (lramWord e 0) 4096).restorePages n 8 8 (lramWord e 0) false
    let lo := if s.bit (.engMirror r) F.engMirror.men then s.fld (.engMirror r) F.engMirror.mlo else 4096
    let hi := s.fld (.engMirror r) F.engMirror.mhi
    let s := (s.zeroWords (lramWord e 0) lo).zeroWords (lramWord e (max lo (hi + 1))) (4096 - max lo (hi + 1))
    let stopped := fun t => match s.threadDomain r t with
      | some d => (s.domLife d).st == 3 || (s.domLife d).st == 0
      | none => false
    let s := allThreads.foldl (fun s t =>
      let x := s.thread e t
      match x.usable with
      | some c =>
        if s.isContinuity r t && !stopped t then
          let y := s.readContext r t c.slot
          if y.1 then y.2.threadFault e t 4 4 else y.2.setThread e t (x.taken t c)
        else s
      | none => s) s
    let s := (s.setCont { s.cont with takeover := none }).setFld .engFstat F.engFstat.takeover 0
    let s := s.setEngLife e { st := 2, pend := 0, en := 1 }
    (s.roleDomains r).foldl (fun s d =>
      if s.domainOn d && s.sub d == subCoast then s.setSub d (s.domain d).saved else s) s
  | _ => s.run false id

/-- TAKEOVER_FAIL (R375): it stands for the fault of the restoring engine, or for the refusal of CSLOT.
DESIGN CHOICE, assumption log 139. -/
def execTakeoverFail (s : State) : Host.Outcome State Fault Refusal :=
  match s.cont.takeover with
  | some x => s.run x.engine.isSome fun s => s.failTakeover x
  | none => s.run false id

/-! ### The rolling test (R376, R378, R379) -/

/-- ENGINE_BIST_DONE (R376, R378). -/
def execEngineBistDone (e : Nat) (pass : Bool) (s : State) : Host.Outcome State Fault Refusal :=
  let rolling := s.fld .engRollstat F.engRollstat.phase == 1 && s.roleOf e == 8
  s.run (decide (e < 9) && (rolling || s.cont.bist.contains e)) fun s =>
    let oos := fun s : State => s.setFld .engFstat F.engFstat.oos (s.fld .engFstat F.engFstat.oos ||| 2 ^ e)
    if rolling then
      if pass then
        let ptr := s.fld .engRollstat F.engRollstat.rollptr
        match ((List.range 8).map fun i => (ptr + 1 + i) % 8).find? fun r => (s.engineOn r).isSome with
        | some r => (s.setCont { s.cont with rollRole := r }).setFld .engRollstat F.engRollstat.phase 2
        | none => s.endRoll
      else
        let s := (s.setRole e 15).setEngLife e { st := 0, pend := 0, en := 0 }
        let s := (oos s).setFld .engRollstat F.engRollstat.lastfail 1
        (s.endRoll.alarm 0x19 (BitVec.ofNat 32 e)).fillReserve
    else
      let s := s.setCont { s.cont with bist := s.cont.bist.filter (· != e) }
      if pass then
        let s := allThreads.foldl (fun s t => s.setThread e t (.init t)) s
        (s.setCont { s.cont with waiting := s.cont.waiting ++ [e] }).fillReserve
      else oos s

/-- ROLLING_TEST_START (R378): once per ROLLINT seconds, the first after a reset; 0 acts as 1.
DESIGN CHOICE, assumption log 138. -/
def execRollingTestStart (s : State) : Host.Outcome State Fault Refusal :=
  let n := max 1 (s.fld .engRoll F.engRoll.rollint)
  s.run (s.bit .engRoll F.engRoll.en && s.fld .engRollstat F.engRollstat.phase == 0 && (s.engineOf 8).isSome &&
      s.cont.takeover.isNone && s.cont.bist.isEmpty && !s.asleep && s.booted &&
      decide (s.cont.rollAt + n * 800000000 ≤ s.ticks)) fun s =>
    (s.setCont { s.cont with rollAt := s.ticks }).setFld .engRollstat F.engRollstat.phase 1

/-- PRELOAD_DONE (R378). -/
def execPreloadDone (s : State) : Host.Outcome State Fault Refusal :=
  s.run (s.fld .engRollstat F.engRollstat.phase == 2) fun s => s.setFld .engRollstat F.engRollstat.phase 3

/-- The switch may begin (R379): that no domain changes state in it is read as a consequence. DEDUCED, assumption log 136. -/
def State.switchAllowed (s : State) (r e : Nat) : Bool :=
  let g := s.fld .engRoll F.engRoll.acg
  !s.asleep && s.cont.takeover.isNone && !(allThreads.any fun t => (s.thread e t).halted) &&
    !((s.roleDomains r).any fun d => (s.domLife d).st == 1 || (s.domLife d).st == 3) &&
    (!s.bit .engRoll F.engRoll.acgv || !s.groupLive g || (s.group g).deadlines.head? == some s.ticks)

/-- SWAP_SWITCH_START (R379). -/
def execSwapSwitchStart (s : State) : Host.Outcome State Fault Refusal :=
  let r := s.cont.rollRole
  match s.engineOn r with
  | none => s.run false id
  | some e => s.run (s.fld .engRollstat F.engRollstat.phase == 3 && s.switchAllowed r e) fun s =>
    let s := (s.setFld .engRollstat F.engRollstat.phase 4).setFld .engFstat F.engFstat.swap 1
    s.quiesceEngine e

/-- SWAP_SWITCH_DONE (R379): local RAM, program store, configuration and contexts are on the reserve, which holds
the role ON; the threads are released, and the former engine is the reserve. -/
def execSwapSwitchDone (s : State) : Host.Outcome State Fault Refusal :=
  let r := s.cont.rollRole
  match s.engineOf r, s.engineOf 8 with
  | some e, some e' => s.run (s.fld .engRollstat F.engRollstat.phase == 4 && s.engineQuiet e) fun s =>
    let s := (s.moveWords (pstoreWord e 0) (pstoreWord e' 0) 4096).moveWords (lramWord e 0) (lramWord e' 0) 4096
    let s := s.copyConfig e e'
    let s := allThreads.foldl (fun s t => s.setThread e' t { s.thread e t with lineBuf := none }) s
    let s := allThreads.foldl (fun s t => s.setThread e t (.init t)) s
    let s := (s.setEngine e' .init).setEngine e .init
    let s := (s.setRole e' r).setRole e 8
    let s := s.setEngLife e' { st := 2, pend := 0, en := 1 }
    let s := s.releaseEngine e'
    let s := s.setFld .engRollstat F.engRollstat.rollptr r
    (s.incWrap .engRollstat F.engRollstat.swaps).endRoll
  | _, _ => s.run false id

/-! ### Registers -/

/-- ENG_CONT, ENG_MIRROR, ENG_CKMASK: only while no domain with a thread in the role is ON (R389). -/
def writeRoleReg (s : State) (w : Wr) (role : Nat) (r : Reg) : State × Bool :=
  let ok := !((s.roleDomains role).any fun d => s.domainOn d)
  let x := r.fields.foldl (fun x f => State.takeIf ok x w r f) (s, false)
  (if x.2 then x.1 else x.1.copyRole role, x.2)

/-- ENG_FSTAT as read (R392). -/
def State.readEngFstat (s : State) : BitVec 32 :=
  let rolling := if s.fld .engRollstat F.engRollstat.phase = 1 then s.engineOf 8 else none
  F.engFstat.testing.put (F.engFstat.reserve.put (s.rd .engFstat) ((s.engineOf 8).getD 15))
    ((s.cont.bist.head?.orElse fun _ => rolling).getD 15)

/-- The four words of FREC(i) (R358). -/
def State.faultWords (s : State) (i : Nat) : List (BitVec 32) :=
  match s.cont.faults.find? fun x => x.1 == i with
  | none => [0, 0, 0, 0]
  | some (_, x) =>
    [BitVec.ofNat 32 (x.code * 2 ^ 28 + x.role * 2 ^ 24 + x.engine * 2 ^ 20 + x.thread * 2 ^ 15 + x.lane * 2 ^ 7 +
        (if x.laneV then 2 ^ 6 else 0)),
     BitVec.ofNat 32 (x.mask * 2 ^ 24 + x.outcome * 2 ^ 20), x.time.extractLsb' 0 32, x.time.extractLsb' 32 32]

end Sys2Proof.Machine
end

