-- ==== Sys2Proof/Machine/Integrity.lean ====
section
/-! DEFINITION. The commands of stored-data integrity and of the Pool's slots: write-backs, buckets, the
correction log, retirement, migration, the background test (spec/12), ownership and retention (spec/11). -/

namespace Sys2Proof.Machine

/-! ### Copies -/

/-- One word of a copy: a correctable word arrives clean, an uncorrectable or poisoned one as the poison
code (spec/12 R332). -/
def State.copyWord (s : State) (src dst : Nat) : State :=
  match s.readWord src with
  | (d, false, s') => s'.writeWord dst 0xFF d
  | (_, true, s') => s'.poisonWord (s'.served dst)

/-- `n` words copied in ascending order. -/
def State.copyWords (s : State) (src dst : Nat) : Nat → State
  | 0 => s
  | n + 1 => ((s.copyWords src dst n)).copyWord (src + n) (dst + n)

/-- MEM_SPSTAT of spare `b` (0: B32, 1: B33). DEDUCED, assumption log 12. -/
def State.spare (s : State) (b : Nat) : Nat :=
  s.fld .memSpstat (if b = 0 then F.memSpstat.b32 else F.memSpstat.b33)

def State.setSpare (s : State) (b v : Nat) : State :=
  s.setFld .memSpstat (if b = 0 then F.memSpstat.b32 else F.memSpstat.b33) v

/-- The copier runs (spec/12 R329, R331). -/
def State.copierBusy (s : State) : Bool := s.fld .memMigstat F.memMigstat.state != 0

/-- MEM_MIGSTAT as read (R339): while the copier runs, PROGRESS is open between 0 and the words of the copy, 512 of a page
(R330) or 16384 of a slot (R331). DESIGN CHOICE, assumption log 14. -/
def State.readMemMigstat (s : State) : BitVec 32 :=
  let v := s.rd .memMigstat
  match F.memMigstat.state.get v with
  | 1 => F.memMigstat.progress.put v (min (Config.copyProgress s.tick) 512)
  | 2 => F.memMigstat.progress.put v (min (Config.copyProgress s.tick) 16384)
  | _ => v

/-- A migration of slot `n` is in progress. -/
def State.migrating (s : State) (n : Nat) : Bool :=
  s.fld .memMigstat F.memMigstat.state == 2 && s.fld .memMigctl F.memMigctl.src == n

/-! ### Write-back and poison rewrite -/

/-- CORRECTED_WRITEBACK (R315). -/
def execCorrectedWriteback (word : Nat) (s : State) : Host.Outcome State Fault Refusal :=
  s.run (decide ((s.decodeWord word).1 = .corrected)) fun s =>
    (s.setBytes word 0xFF (s.decodeWord word).2).setSyn word 0

/-- POISON_REWRITE (R316). -/
def execPoisonRewrite (word : Nat) (s : State) : Host.Outcome State Fault Refusal :=
  s.run (decide ((s.decodeWord word).1 = .uncorrectable)) fun s => s.poisonWord word

/-- Bucket `b` drops at the start of the present tick, and has not dropped yet (R324). -/
def State.leakDue (s : State) (b : Nat) : Bool :=
  s.shoreRuns && s.tick % (800 * 2 ^ min 24 (s.fld (.memLb b) F.memLb.k)) == 0 && SMap.get s.integ.leaks b 0 != s.ticks + 1

/-- LEVEL of bucket `b` drops by 1, not below 0 (R324). -/
def State.leak (s : State) (b : Nat) : State :=
  (s.setFld (.memLb b) F.memLb.level (s.fld (.memLb b) F.memLb.level - 1)).setInteg
    { s.integ with leaks := SMap.put s.integ.leaks b (s.ticks + 1) 0 }

/-- BUCKET_LEAK (R324). -/
def execBucketLeak (b : Nat) (s : State) : Host.Outcome State Fault Refusal :=
  s.run (decide (b < 54) && s.leakDue b) fun s => s.leak b

/-- The buckets that the present tick drops; one that is empty stays so. -/
def State.leakTick (s : State) : State :=
  if s.tick % 800 = 0 then (List.range 54).foldl (fun s b =>
    if s.leakDue b && s.fld (.memLb b) F.memLb.level != 0 then s.leak b else s) s
  else s

/-! ### Register writes of the integrity window -/

/-- The errors that entries freed in the present tick had met in it enter the log after the free (R327). -/
def State.logAgain (s : State) (l : List LogEntry) : State :=
  l.foldl (fun s x => (s.logNow x).reverse.foldl (fun s y => s.logCorrection x.bank x.word y.1 y.2) s) s

/-- MEM_LOGV (R327): a 1 frees the entry; an error of the same tick, accepted before, is ordered after the free.
DEDUCED, assumption log 128. -/
def writeMemLogv (s : State) (w : Wr) : State × Bool :=
  let freed := (List.range 32).filter fun i =>
    s.may w .memLogv F.memLogv.valid && (w.bits F.memLogv.valid &&& s.fld .memLogv F.memLogv.valid).testBit i
  let t := freed.foldl (fun x i => x.setLogEntry i none) (s.take w .memLogv F.memLogv.valid)
  (if s.shoreRuns then t.logAgain (freed.filterMap s.logEntry) else t, false)

/-- LOG_ENTRY_FREE (R327). -/
def execLogEntryFree (w : Who) (d : BitVec 32) (strb : BitVec 4) (s : State) : Host.Outcome State Fault Refusal :=
  let x : Wr := ⟨w, (Reg.memLogv).key, d, strb⟩
  s.run true fun s => s.access x .memLogv fun s => writeMemLogv s x

/-- R329: a retirement entry with these contents is not accepted into entry `i`. -/
def State.retireBad (s : State) (i : Nat) (v : BitVec 32) : Bool :=
  let slot := F.memRetire.slot.get v
  let page := F.memRetire.page.get v
  let remap := F.memRetire.remap.get v == 1
  let sb := F.memRetire.sb.get v
  let spage := F.memRetire.spage.get v
  s.bit (.memRetire i) F.memRetire.valid ||
  (F.memRetire.valid.get v == 1 &&
    ((List.range 256).any (fun j => s.bit (.memRetire j) F.memRetire.valid &&
        ((s.fld (.memRetire j) F.memRetire.slot == slot && s.fld (.memRetire j) F.memRetire.page == page) ||
         (remap && s.bit (.memRetire j) F.memRetire.remap && s.fld (.memRetire j) F.memRetire.sb == sb &&
          s.fld (.memRetire j) F.memRetire.spage == spage))) ||
     (remap && (decide (2 ≤ s.spare sb) || s.copierBusy ||
       (s.fld .memMigstat F.memMigstat.state == 2 && s.fld .memMigctl F.memMigctl.dst == sb)))))

/-- MEM_RETIRE (R328 to R330): an accepted remap starts the copier. -/
def writeMemRetire (s : State) (w : Wr) (i : Nat) : State × Bool :=
  let r := Reg.memRetire i
  let t := s.takeAll w r r.fields
  if t.rd r = s.rd r then (s, false)
  else if s.retireBad i (t.rd r) then (s, true)
  else if t.bit r F.memRetire.valid && t.bit r F.memRetire.remap then
    let t := t.setFld r F.memRetire.copy 1
    let t := t.setFld .memMigstat F.memMigstat.state 1
    let t := t.setFld .memMigstat F.memMigstat.progress 0
    let t := t.setInteg { t.integ with copying := some i }
    let slot := t.fld r F.memRetire.slot
    ((t.bgtAbort (t.fld (.memBstat slot) F.memBstat.phys)).bgtAbort (32 + t.fld r F.memRetire.sb), false)
  else if t.bit r F.memRetire.valid then
    (t.setInteg { t.integ with removed := SMap.put t.integ.removed i (t.ticks + 1) 0 }, false)
  else (t, false)

/-- PAGE_REMAP (R330). -/
def execPageRemap (w : Who) (i : Nat) (d : BitVec 32) (strb : BitVec 4) (s : State) :
    Host.Outcome State Fault Refusal :=
  let x : Wr := ⟨w, (Reg.memRetire i).key, d, strb⟩
  s.run (decide (i < 256)) fun s => s.access x (.memRetire i) fun s => writeMemRetire s x i

/-- PAGE_REMOVE (R328): the same register with REMAP 0. -/
def execPageRemove (w : Who) (i : Nat) (d : BitVec 32) (strb : BitVec 4) (s : State) :
    Host.Outcome State Fault Refusal :=
  let x : Wr := ⟨w, (Reg.memRetire i).key, d, strb⟩
  s.run (decide (i < 256)) fun s => s.access x (.memRetire i) fun s => writeMemRetire s x i

/-- PAGE_COPY_DONE (R330): the page is served from its spare page from now on. DESIGN CHOICE, assumption log 14. -/
def execPageCopyDone (s : State) : Host.Outcome State Fault Refusal :=
  match s.integ.copying with
  | none => s.run false id
  | some i => s.run true fun s =>
    let r := Reg.memRetire i
    let sb := s.fld r F.memRetire.sb
    let src := bankWord (s.fld (.memBstat (s.fld r F.memRetire.slot)) F.memBstat.phys) (512 * s.fld r F.memRetire.page)
    let dst := bankWord (32 + sb) (512 * s.fld r F.memRetire.spage)
    let s := s.copyWords src dst 512
    let s := s.setFld r F.memRetire.copy 0
    let s := s.setFld .memMigstat F.memMigstat.state 0
    let s := s.setFld .memIstat F.memIstat.retdone 1
    let s := if s.spare sb = 0 then s.setSpare sb 1 else s
    s.setInteg { s.integ with copying := none }

/-- MEM_MIGCTL (R331). -/
def writeMemMigctl (s : State) (w : Wr) : State × Bool :=
  let t := s.takeAll w .memMigctl [F.memMigctl.src, F.memMigctl.dst]
  if s.wrote1 w .memMigctl F.memMigctl.go then
    let src := t.fld .memMigctl F.memMigctl.src
    let dst := t.fld .memMigctl F.memMigctl.dst
    if s.copierBusy || s.fld (.memBstat src) F.memBstat.state != lifeOn || s.spare dst != 0 then (s, true)
    else
      let t := t.setFld .memMigctl F.memMigctl.go 1
      let t := t.setFld .memMigstat F.memMigstat.state 2
      let t := t.setFld .memMigstat F.memMigstat.progress 0
      ((t.bgtAbort (t.fld (.memBstat src) F.memBstat.phys)).bgtAbort (32 + dst), false)
  else (t, false)

/-- MIGRATION_START (R331). -/
def execMigrationStart (w : Who) (d : BitVec 32) (strb : BitVec 4) (s : State) : Host.Outcome State Fault Refusal :=
  let x : Wr := ⟨w, (Reg.memMigctl).key, d, strb⟩
  s.run true fun s => s.access x .memMigctl fun s => writeMemMigctl s x

/-- MIGRATION_DONE (R333): every page still served by the old bank has moved, PHYS takes DST.
DESIGN CHOICE, assumption log 14. -/
def execMigrationDone (s : State) : Host.Outcome State Fault Refusal :=
  s.run (s.fld .memMigstat F.memMigstat.state == 2) fun s =>
    let n := s.fld .memMigctl F.memMigctl.src
    let dst := s.fld .memMigctl F.memMigctl.dst
    let old := s.fld (.memBstat n) F.memBstat.phys
    let s := (List.range 32).foldl (fun s p => match s.retireOf n p with
      | some _ => s
      | none => s.copyWords (bankWord old (512 * p)) (bankWord (32 + dst) (512 * p)) 512) s
    let s := s.setFld (.memBstat n) F.memBstat.phys (32 + dst)
    let s := s.setSpare dst 2
    let s := if 32 ≤ old then s.setSpare (old - 32) 3 else s
    let s := s.setFld .memMigctl F.memMigctl.go 0
    let s := s.setFld .memMigstat F.memMigstat.state 0
    let s := s.setFld .memIstat F.memIstat.migdone 1
    let l := s.bankLife n
    if l.st = lifeOn ∧ l.pend = 1 then s.moveBank n { l with st := 3, pend := 0 } else s

/-- The word of a Pool address or of a local RAM role alias, for MEM_CLRW (R338). -/
def State.clearTarget (s : State) (a : Nat) : Option Nat :=
  if inPool a then s.slotPhys (poolSlot a) (slotWord a)
  else if 0x10000 ≤ a ∧ a < 0x58000 then
    (s.engineOf ((a - 0x10000) / 0x8000)).map fun e => lramWord e ((a - 0x10000) % 0x8000 / 8)
  else none

/-- MEM_CLRW (R338): the addressed word becomes zero with valid check bits, whatever its owner and whatever the retention of
its slot; a mirror is not touched. DEDUCED, assumption log 135. -/
def writeMemClrw (s : State) (w : Wr) : State × Bool :=
  if s.may w .memClrw F.memClrw.addr && w.full F.memClrw.addr then
    match s.clearTarget (8 * w.bits F.memClrw.addr) with
    | some k => (s.writeWord k 0xFF 0, false)
    | none => (s, true)
  else (s, false)

/-- CLEAR_WORD (R338). -/
def execClearWord (w : Who) (d : BitVec 32) (strb : BitVec 4) (s : State) : Host.Outcome State Fault Refusal :=
  let x : Wr := ⟨w, (Reg.memClrw).key, d, strb⟩
  s.run true fun s => s.access x .memClrw fun s => writeMemClrw s x

/-! ### The background test (R335 to R337) -/

/-- The slot a physical bank serves. -/
def State.slotOfBank (s : State) (b : Nat) : Option Nat :=
  (List.range 32).find? fun n => s.fld (.memBstat n) F.memBstat.phys == b

/-- A bank takes part in a copy. -/
def State.bankCopying (s : State) (b : Nat) : Bool :=
  (s.fld .memMigstat F.memMigstat.state == 2 &&
    (s.fld (.memBstat (s.fld .memMigctl F.memMigctl.src)) F.memBstat.phys == b ||
     32 + s.fld .memMigctl F.memMigctl.dst == b)) ||
  match s.integ.copying with
  | some i => s.fld (.memBstat (s.fld (.memRetire i) F.memRetire.slot)) F.memBstat.phys == b ||
      32 + s.fld (.memRetire i) F.memRetire.sb == b
  | none => false

/-- A bank the background test may test (R336). -/
def State.bgtEligible (s : State) (b : Nat) : Bool :=
  !s.bankCopying b &&
  match s.slotOfBank b with
  | some n => s.fld (.memBstat n) F.memBstat.state == lifeOn
  | none => decide (32 ≤ b) && decide (s.spare (b - 32) ≤ 1)

/-- The bank and region the test takes next, and whether it starts a new pass: the present region where its
bank is eligible, else region 0 of the next eligible bank (R336). -/
def State.bgtNext (s : State) : Option (Nat × Nat × Bool) :=
  let b := s.fld .memBgtstat F.memBgtstat.bank
  if s.bgtEligible b then some (b, s.fld .memBgtstat F.memBgtstat.region, false)
  else match (List.range 34).find? fun i => decide (b < i) && s.bgtEligible i with
    | some i => some (i, 0, false)
    | none => ((List.range 34).find? fun i => s.bgtEligible i).map fun i => (i, 0, true)

/-- A region may start: the test is on and idle, and INTERVAL µs have passed since the last start (R335, R336).
DESIGN CHOICE, assumption log 129. -/
def State.bgtDue (s : State) : Bool :=
  s.bit .memBgtctl F.memBgtctl.en && s.fld .memBgtstat F.memBgtstat.state == 0 && s.shoreRuns &&
    decide (s.integ.bgtAt + 800 * max 2 (s.fld .memBgtint F.memBgtint.interval) ≤ s.ticks)

/-- Region `r` of bank `b` enters SAVE; `pass` where it is the first of a new pass (R335). -/
def State.bgtStart (s : State) (b r : Nat) (pass : Bool) : State :=
  let s := s.setFld .memBgtstat F.memBgtstat.state 1
  let s := s.setFld .memBgtstat F.memBgtstat.bank b
  let s := s.setFld .memBgtstat F.memBgtstat.region r
  let s := s.setInteg { s.integ with bgtAgain := false, bgtAt := s.ticks }
  if pass then s.incWrap .memBgtstat F.memBgtstat.passes else s

/-- BGT_REGION_START (R335, R336). -/
def execBgtRegionStart (s : State) : Host.Outcome State Fault Refusal :=
  match s.bgtNext with
  | none => s.run false id
  | some (b, r, pass) => s.run s.bgtDue fun s => s.bgtStart b r pass

/-- The region that the present tick starts. -/
def State.bgtTick (s : State) : State :=
  if s.bgtDue then match s.bgtNext with
    | none => s
    | some (b, r, pass) => s.bgtStart b r pass
  else s

/-- BGT_SAVE_DONE (R335): the region's words are in the test buffer. -/
def execBgtSaveDone (s : State) : Host.Outcome State Fault Refusal :=
  s.run (s.fld .memBgtstat F.memBgtstat.state == 1) fun s =>
    let b := s.fld .memBgtstat F.memBgtstat.bank
    let r := s.fld .memBgtstat F.memBgtstat.region
    let s := s.copyWords (bankWord b (32 * r)) (bufWord 0) 32
    (s.setInteg { s.integ with bgtSaved := some (b, r) }).setFld .memBgtstat F.memBgtstat.state 2

/-- BGT_MARCH_DONE (R337): the words that failed the march are counted and recorded. -/
def execBgtMarchDone (fails : List Nat) (s : State) : Host.Outcome State Fault Refusal :=
  s.run (s.fld .memBgtstat F.memBgtstat.state == 2) fun s =>
    let s := fails.foldl (fun s i =>
      let s := s.setFld .memIstat F.memIstat.bgtfail 1
      let s := s.incSat .memBgtfail F.memBgtfail.failcnt
      let s := s.setFld .memBgtfail F.memBgtfail.bank (s.fld .memBgtstat F.memBgtstat.bank)
      let s := s.setFld .memBgtfail F.memBgtfail.region (s.fld .memBgtstat F.memBgtstat.region)
      let s := s.setFld .memBgtfail F.memBgtfail.word i
      s.alarm 0x12 (s.rd .memBgtfail)) s
    s.setFld .memBgtstat F.memBgtstat.state 3

/-- The region after the present one; a pass is complete after the last region of the last bank. -/
def State.bgtAdvance (s : State) : State :=
  let b := s.fld .memBgtstat F.memBgtstat.bank
  let r := s.fld .memBgtstat F.memBgtstat.region
  if r < 511 then s.setFld .memBgtstat F.memBgtstat.region (r + 1)
  else
    let s := s.setFld .memBgtstat F.memBgtstat.region 0
    if b < 33 then s.setFld .memBgtstat F.memBgtstat.bank (b + 1)
    else (s.setFld .memBgtstat F.memBgtstat.bank 0).incWrap .memBgtstat F.memBgtstat.passes

/-- BGT_RESTORE_DONE (R335): the buffered words are written back. -/
def execBgtRestoreDone (s : State) : Host.Outcome State Fault Refusal :=
  s.run (s.fld .memBgtstat F.memBgtstat.state == 3) fun s =>
    let s := match s.integ.bgtSaved with
      | some (b, r) => (s.setInteg { s.integ with bgtSaved := none }).copyWords (bufWord 0) (bankWord b (32 * r)) 32
      | none => s
    let again := s.integ.bgtAgain
    let b := s.fld .memBgtstat F.memBgtstat.bank
    let s := s.setFld .memBgtstat F.memBgtstat.state 0
    let s := match s.slotOfBank b with
      | some n => s.retFollow n
      | none => s
    if again then s else s.bgtAdvance

/-! ### Ownership and retention (spec/11 R288 to R306) -/

/-- MEM_BCTL (R291, R292, R305): a new OWNER hands the slot over, EN is a life-cycle request; a request to
stop a slot under migration is latched (spec/12 R334). -/
def writeMemBctl (s : State) (w : Wr) (n : Nat) : State × Bool :=
  let r := Reg.memBctl n
  let own := s.changes w r F.memBctl.owner
  let bad := own && s.bit (.memBstat n) F.memBstat.handover
  let t := if own && !bad then
      let t := s.setFld (.memBstat n) F.memBstat.prev (s.fld r F.memBctl.owner)
      let t := t.setFld (.memBstat n) F.memBstat.handover 1
      let t := t.setInteg { t.integ with handed := SMap.put t.integ.handed n (t.ticks + 1) 0 }
      t.take w r F.memBctl.owner
    else s
  let t := t.take w r F.memBctl.autoWake
  let t := if t.may w r F.memBctl.en && w.any F.memBctl.en then
      let l := t.bankLife n
      let v := w.bits F.memBctl.en
      if t.migrating n && l.st == lifeOn then
        t.setBankLife n { l with pend := if v = 0 then 1 else 0, en := v }
      else t.moveBank n (l.request v)
    else t
  (t, bad)

/-- OWNER_HANDOVER (R291). -/
def execOwnerHandover (w : Who) (n : Nat) (d : BitVec 32) (strb : BitVec 4) (s : State) :
    Host.Outcome State Fault Refusal :=
  let x : Wr := ⟨w, (Reg.memBctl n).key, d, strb⟩
  s.run (decide (n < 32)) fun s => s.access x (.memBctl n) fun s => writeMemBctl s x n

/-- Engine `e` wrote slot `n` under its former owner (R291). -/
def State.oldOwner (s : State) (n e : Nat) : Bool :=
  admits (s.fld (.memBstat n) F.memBstat.prev) (s.roleOf e) (.engine e true) true

/-- A store or a far fetch of the old owner still goes to slot `n` (R291). DEDUCED, assumption log 80. -/
def State.oldBusy (s : State) (n : Nat) : Bool :=
  allEngines.any fun e => s.oldOwner n e &&
    (((s.engine e).sb.any fun x => inPool (4 * x.unit) && poolSlot (4 * x.unit) == n) ||
      allThreads.any fun t => match (s.thread e t).miss with
        | some la => inPool (s.farAddr e la) && poolSlot (s.farAddr e la) == n
        | none => false)

/-- HANDOVER_DRAIN_COMPLETE (R291): the old owner's outstanding accesses have completed. -/
def execHandoverDrainComplete (n : Nat) (s : State) : Host.Outcome State Fault Refusal :=
  s.run (decide (n < 32) && s.bit (.memBstat n) F.memBstat.handover && !s.oldBusy n) fun s =>
    s.setFld (.memBstat n) F.memBstat.handover 0

/-- BANK_EN_WRITE (R305). -/
def execBankEnWrite (w : Who) (n : Nat) (d : BitVec 32) (strb : BitVec 4) (s : State) :
    Host.Outcome State Fault Refusal :=
  let x : Wr := ⟨w, (Reg.memBctl n).key, d, strb⟩
  s.run (decide (n < 32)) fun s => s.access x (.memBctl n) fun s => writeMemBctl s x n

/-- AUTO_WAKE (R306): a permitted access reaches a slot that is OFF or STOPPING with AUTO_WAKE set. -/
def execAutoWake (n : Nat) (s : State) : Host.Outcome State Fault Refusal :=
  s.run (decide (n < 32) && s.bit (.memBctl n) F.memBctl.autoWake &&
      (s.fld (.memBstat n) F.memBstat.state == 0 || s.fld (.memBstat n) F.memBstat.state == 3)) fun s =>
    s.autoWake n

/-- The slot in STOPPING or STARTING that physical bank `b` serves goes on in its life-cycle; a latched request is taken at
once (spec/01 R20, R21). -/
def State.bankArrive (s : State) (b st : Nat) : State :=
  match s.slotOfBank b with
  | some n =>
    if s.fld (.memBstat n) F.memBstat.state = st then
      let s := s.moveBank n (s.bankLife n).arrive
      s.moveBank n (s.bankLife n).onward
    else s
  | none => s

/-- The Tarn is to stay in retention once acknowledged: SLEEP is being entered, or is entered and no wake is in progress.
DEDUCED, assumption log 86. -/
def State.tarnSleeps (s : State) : Bool := s.power.stage != 0 || (s.asleep && !s.power.waking)

/-- RET_ACK_RISE (R451): the array is in retention; its slot is OFF, or it wakes at once where a wake is latched.
DESIGN CHOICE, assumption log 85. -/
def execRetAckRise (b : Nat) (s : State) : Host.Outcome State Fault Refusal :=
  s.run (decide (b < 35) && s.ports.retReq.getLsbD b && !s.ports.retAck.getLsbD b) fun s =>
    let s := s.setPorts { s.ports with retAck := s.ports.retAck ||| BitVec.ofNat 35 (2 ^ b) }
    if b = 34 then (if s.tarnSleeps then s else s.wakeTarn) else s.bankArrive b 3

/-- RET_ACK_FALL (R451): the array is back on VDD_CORE; its slot is ON. DESIGN CHOICE, assumption log 85. -/
def execRetAckFall (b : Nat) (s : State) : Host.Outcome State Fault Refusal :=
  s.run (decide (b < 35) && !s.ports.retReq.getLsbD b && s.ports.retAck.getLsbD b) fun s =>
    (s.setPorts { s.ports with retAck := s.ports.retAck &&& ~~~BitVec.ofNat 35 (2 ^ b) }).bankArrive b 1

end Sys2Proof.Machine
end

