-- ==== Sys2Proof/Machine/Outlet.lean ====
section
/-! DEFINITION. The outlet (spec/19): the log FIFO, the ring, storm windows, export on lanes, and its registers. The
alarm queue and the trace FIFO are in Machine/Ops.lean. -/

namespace Sys2Proof.Machine

/-- Record places of the ring (R498). -/
def State.ringPlaces (s : State) : Nat := s.fld .outRlen F.outRlen.len

/-- Unread records (R498). -/
def State.ringUnread (s : State) : Nat :=
  let n := s.ringPlaces
  (s.fld .outWrptr F.outWrptr.ptr + n - s.fld .outRdptr F.outRdptr.ptr) % n

/-- Free places (R498): one is always left empty. -/
def State.ringFree (s : State) : Nat := s.ringPlaces - 1 - s.ringUnread

/-- A log is dropped (R502): LOGDROP, LOSS, and the pending GAP with the tick of its first drop. -/
def State.dropLog (s : State) : State :=
  let s := (s.incSat .outCnt F.outCnt.logdrop).setFld .outStat F.outStat.loss 1
  let o := s.outlet
  s.setOutlet { o with gap := satInc 32 o.gap, gapTime := if o.gap = 0 then s.tickTime else o.gapTime,
                       logLost := satInc 32 o.logLost }

/-- LOG's record reaches the outlet (R502, R499). -/
def State.log (s : State) (r : Record) : State :=
  if !s.bit .outCtrl F.outCtrl.en || !s.bit .outCtrl F.outCtrl.logen then s
  else if s.bit .outStat F.outStat.ringerr || decide (32 ≤ s.outlet.logs.length) then s.dropLog
  else s.setOutlet { s.outlet with logs := s.outlet.logs ++ [r] }

/-- `n` logs are dropped. -/
def State.dropLogs (s : State) : Nat → State
  | 0 => s
  | n + 1 => (s.dropLogs n).dropLog

/-- Both FIFOs are emptied and counted (R499). DEDUCED, assumption log 45. -/
def State.dropFifos (s : State) (logs traces : Bool) : State :=
  let n := s.outlet.logs.length
  let m := s.outlet.traces.length
  let s := if logs then (s.setOutlet { s.outlet with logs := [] }).dropLogs n else s
  if traces then (s.setOutlet { s.outlet with traces := [] }).dropTraces m else s

/-- The candidates of R501, in their order. -/
inductive Candidate where
  | alarm (a : Alarm)
  | gap
  | log (r : Record)
  | trace (r : Record)
deriving DecidableEq, Repr

/-- The first candidate that has room (R501). -/
def State.candidate (s : State) : Option Candidate :=
  let free := s.ringFree
  let almres := s.fld .outRes F.outRes.almres
  match s.outlet.alarms with
  | a :: _ => if 1 ≤ free then some (.alarm a) else none
  | [] =>
    if s.outlet.gap ≠ 0 then if almres < free then some .gap else none
    else match s.outlet.logs, s.outlet.traces with
      | r :: _, _ => some (.log r)
      | [], r :: _ => some (.trace r)
      | [], [] => none

/-- The two words of a candidate (R494). -/
def State.candidateWords (s : State) : Candidate → BitVec 64 × BitVec 64
  | .alarm a => (a.time, recWord [(60, 1), (48, a.code), (32, a.count), (0, a.detail.toNat)])
  | .gap => (s.outlet.gapTime, recWord [(60, 3), (0, s.outlet.gap)])
  | .log r => (r.word0, r.word1)
  | .trace r => (r.word0, r.word1)

/-- A written candidate leaves its queue. -/
def Outlet.took (o : Outlet) : Candidate → Outlet
  | .alarm _ => { o with alarms := o.alarms.tail }
  | .gap => { o with gap := 0 }
  | .log _ => { o with logs := o.logs.tail }
  | .trace _ => { o with traces := o.traces.tail }

/-! ### Export (R505) -/

/-- The four 16-bit pieces of a ring word, lowest first. -/
def quarters (d : BitVec 64) : List Word := (List.range 4).map fun i => d.extractLsb' (16 * i) 16

/-- A frame of ten words. -/
def frame (w0 w1 : BitVec 64) : List Word :=
  let ws := quarters w0 ++ quarters w1
  0x5AC3 :: ws ++ [ws.foldl (· ^^^ ·) 0]

/-- A record written to the ring goes out on the next export lane in turn; lanes that fail the mode test are
skipped, and a frame its lane cannot take is dropped. DEDUCED, assumption log 47. -/
def State.exportRecord (s : State) (w0 w1 : BitVec 64) : State :=
  if !s.bit .outCtrl F.outCtrl.xen then s
  else
    let n := s.fld .outCtrl F.outCtrl.xnlm1 + 1
    let lane := fun i => s.fld .outCtrl F.outCtrl.xlane0 + i % n
    let order := (List.range n).map (s.outlet.turn + ·)
    match order.find? fun i => s.exporting (lane i) with
    | none => s.setFld .outStat F.outStat.xerr 1
    | some i =>
      let s := if i = s.outlet.turn then s else s.setFld .outStat F.outStat.xerr 1
      let s := s.setOutlet { s.outlet with turn := (i + 1) % n }
      if 16 < (s.lane (lane i)).fifo.length + 10 then
        (s.incSat .outXcnt F.outXcnt.expdrop).setFld .outStat F.outStat.loss 1
      else s.modLane (lane i) fun x => { x with fifo := x.fifo ++ frame w0 w1 }

/-! ### Writing a record (R498 to R502) -/

/-- Heads that find no room leave their FIFOs and are counted (R502, R503). DESIGN CHOICE, assumption log 44. -/
def State.dropHeads (s : State) : State :=
  s.dropFifos (decide (s.ringFree ≤ s.fld .outRes F.outRes.almres)) (decide (s.ringFree ≤ s.fld .outRes F.outRes.trcres))

/-- A refused ring write (R499). DEDUCED, assumption log 45. -/
def State.ringError (s : State) (a : Nat) : State :=
  let s := (s.setFld .outStat F.outStat.ringerr 1).setFld .outStat F.outStat.loss 1
  (s.alarm 0x03 (BitVec.ofNat 32 a)).dropFifos true true

/-- The chosen record is written at WRPTR (R498, R499): the ring's place is 16-byte aligned, so both its words
meet the same slot and page. -/
def State.writeRecord (s : State) (x : Candidate) : State :=
  let a := 16 * (s.fld .outRbase F.outRbase.base + s.fld .outWrptr F.outWrptr.ptr)
  match s.poolAnswer a .outlet true with
  | .refuse => s.ringError a
  | .stall => s
  | .wake => s.autoWake (poolSlot a)
  | .go =>
    let w := s.candidateWords x
    let s := (s.writeWord (s.poolPhys a) 0xFF w.1).writeWord (s.poolPhys (a + 8)) 0xFF w.2
    let s := s.setFld .outWrptr F.outWrptr.ptr ((s.fld .outWrptr F.outWrptr.ptr + 1) % s.ringPlaces)
    let s := s.setOutlet { s.outlet.took x with written := (s.outlet.written + 1) % 2 ^ 32 }
    s.exportRecord w.1 w.2

/-- OUTLET_RECORD_WRITE (R501). DESIGN CHOICE, assumption log 44 and 46. -/
def execOutletRecordWrite (s : State) : Host.Outcome State Fault Refusal :=
  s.run (s.bit .outCtrl F.outCtrl.en && !s.bit .outStat F.outStat.ringerr && !s.paused)
    fun s =>
      let s := s.dropHeads
      match s.candidate with
      | none => s
      | some x => s.writeRecord x

/-! ### Storm windows (R504) -/

/-- STORM_WINDOW_END (R504). -/
def execStormWindowEnd (s : State) : Host.Outcome State Fault Refusal :=
  s.run s.windowEnds fun s => s.endWindow

/-! ### Registers (R500, R508) -/

/-- OUT_CTRL: EN written 0 clears RINGERR (R499). -/
def writeOutCtrl (s : State) (w : Wr) : State × Bool :=
  let s := s.takeAll w .outCtrl Reg.outCtrl.fields
  (if s.may w .outCtrl F.outCtrl.en && w.any F.outCtrl.en && !s.bit .outCtrl F.outCtrl.en then
    s.setFld .outStat F.outStat.ringerr 0 else s, false)

/-- OUT_RBASE and OUT_RLEN: only while EN = 0; both pointers return to 0 (R500). -/
def writeOutRing (s : State) (w : Wr) (r : Reg) (f : Fld) : State × Bool :=
  if s.bit .outCtrl F.outCtrl.en then (s, s.changes w r f)
  else if s.may w r f && w.any f then
    (((s.take w r f).setFld .outWrptr F.outWrptr.ptr 0).setFld .outRdptr F.outRdptr.ptr 0, false)
  else (s, false)

/-- OUT_RDPTR (R500): the new value must be aligned, below RLEN, and no further ahead than unread. -/
def writeOutRdptr (s : State) (w : Wr) : State × Bool :=
  let r := Reg.outRdptr
  if !(s.may w r F.outRdptr.ptr && w.any F.outRdptr.ptr) then (s, false)
  else
    let v := (((s.rd r &&& ~~~w.mask) ||| (w.d &&& w.mask))).toNat
    let n := s.ringPlaces
    let new := v / 16
    if v % 16 = 0 ∧ new < n ∧ (new + n - s.fld r F.outRdptr.ptr) % n ≤ s.ringUnread then
      (s.setFld r F.outRdptr.ptr new, false)
    else (s, true)

/-- OUT_RES: a write that makes TRCRES less than ALMRES is ignored and counted (R501). -/
def writeOutRes (s : State) (w : Wr) : State × Bool :=
  let x := s.takeAll w .outRes Reg.outRes.fields
  if x.fld .outRes F.outRes.trcres < x.fld .outRes F.outRes.almres then (s, true) else (x, false)

/-- The source of an alarm raised through OUT_RAISE (R495). -/
def State.raiseDetail (s : State) : Who → Nat
  | .host mid _ _ => mid.toNat
  | .thread e t => 0x8000 + 32 * s.roleOf e + t

/-- OUT_RAISE (R495, R508). DEDUCED, assumption log 94. -/
def writeOutRaise (s : State) (w : Wr) : State × Bool :=
  if !((s.rights w.who).supervisor && w.any F.outRaise.code) then (s, false)
  else
    let c := w.bits F.outRaise.code
    if 0x30 ≤ c ∧ c ≤ 0x3F then (s.alarm c (BitVec.ofNat 32 (s.raiseDetail w.who)), false) else (s, true)

/-- OUT_RAISE (R495). -/
def execOutRaise (w : Who) (d : BitVec 32) (strb : BitVec 4) (s : State) : Host.Outcome State Fault Refusal :=
  let x : Wr := ⟨w, (Reg.outRaise).key, d, strb⟩
  s.run true fun s => s.access x .outRaise fun s => writeOutRaise s x

/-- RDPTR_WRITE (R500). -/
def execRdptrWrite (w : Who) (d : BitVec 32) (strb : BitVec 4) (s : State) : Host.Outcome State Fault Refusal :=
  let x : Wr := ⟨w, (Reg.outRdptr).key, d, strb⟩
  s.run true fun s => s.access x .outRdptr fun s => writeOutRdptr s x

/-- OUT_STAT as read (R508). DESIGN CHOICE, assumption log 46. -/
def State.readOutStat (s : State) : BitVec 32 :=
  let v := s.rd .outStat
  let v := F.outStat.almq.put v s.outlet.alarms.length
  let v := F.outStat.logq.put v s.outlet.logs.length
  let v := F.outStat.trcq.put v s.outlet.traces.length
  F.outStat.gappend.put v (if s.outlet.gap = 0 then 0 else 1)

/-- The words of selector QALM (R507). -/
def State.alarmWords (s : State) (i : Nat) : List (BitVec 32) :=
  match s.outlet.alarms[i]? with
  | none => [0, 0, 0, 0]
  | some a => [BitVec.ofNat 32 (2 ^ 31 + a.code * 2 ^ 16 + a.count), a.detail, a.time.extractLsb' 0 32,
      a.time.extractLsb' 32 32]

/-- The words of selector OUTCNT (R507). -/
def State.outletCounts (s : State) : List (BitVec 32) :=
  [BitVec.ofNat 32 s.outlet.written, BitVec.ofNat 32 s.outlet.logLost, BitVec.ofNat 32 s.outlet.trcLost,
   BitVec.ofNat 32 s.outlet.almTotal]

end Sys2Proof.Machine
end

