-- ==== Sys2Proof/Machine/Position.lean ====
section
/-! DEFINITION. The position units (spec/08 R231 to R240): quadrature counting with a play of one count, speed,
index, and the position compare. -/

namespace Sys2Proof.Machine

/-- The A lane of unit `u` while the unit counts: an even lane in role A with lane p + 1 in role B, both ON in
QUAD mode (R231). -/
def State.unitLane (s : State) (u : Nat) : Option Nat :=
  ((List.range 128).map (2 * ·)).find? fun p => s.mode p == modeQuad && s.laneOn p &&
    s.fld (.quadM0 p) F.quadM0.role == 0 && s.fld (.quadM0 p) F.quadM0.posu == u &&
    !s.pairErr p && s.laneOn (p + 1)

/-- The A lane configured for unit `u` is not OFF (R231). -/
def State.unitBusy (s : State) (u : Nat) : Bool :=
  (List.range 256).any fun p => s.mode p == modeQuad && s.fld (.quadM0 p) F.quadM0.role == 0 &&
    s.fld (.quadM0 p) F.quadM0.posu == u && (s.laneLife p).st != 0

/-- The reported position P (R231): POS_POS as last written until the A lane reaches ON, then as counted. -/
def State.position (s : State) (u : Nat) : BitVec 32 := (s.posUnit u).pos.getD (s.rd (.posPos u))

def State.modPosUnit (s : State) (u : Nat) (f : PosUnit → PosUnit) : State := s.setPosUnit u (f (s.posUnit u))

/-- Steps in a second. -/
def stepsPerSecond : Nat := 25600000000

/-- `n / d` rounded to the nearest integer. -/
def roundDiv (n d : Nat) : Nat := (2 * n + d) / (2 * d)

def State.posDown (s : State) (u : Nat) : Bool := s.bit (.posStat u) F.posStat.dir

/-- The SPEED measured at a counted edge from the times of the edges in its direction, newest first (R234).
DESIGN CHOICE, assumption log 4. -/
def speedOf (edges : List Nat) (n : Nat) (down : Bool) : BitVec 32 :=
  let k := min n (edges.length - 1)
  if k = 0 then 0
  else
    let d := edges.headD 0 - edges.getD k 0
    let m := roundDiv (k * stepsPerSecond) d
    if d = 0 ∨ 2 ^ 31 ≤ m then Config.speedBeyond d k
    else BitVec.ofInt 32 (if down then -(m : Int) else (m : Int))

/-- The compare of unit `u` at a counted edge in direction `down` (R238); its producer fires at the start of the next
tick. -/
def State.posCompare (s : State) (u : Nat) (down : Bool) : State :=
  if s.bit (.posStat u) F.posStat.armed && s.position u == s.rd (.posCmpv u) &&
      s.bit (.posCmpc u) (if down then F.posCmpc.dnen else F.posCmpc.upen) then
    let s := s.setFld (.posStat u) F.posStat.armed 0
    let s := s.setFld (.posStat u) F.posStat.match 1
    let s := if s.bit (.posCmpc u) F.posCmpc.even then
      s.roleEvt (s.fld (.posCmpc u) F.posCmpc.role) (s.fld (.posCmpc u) F.posCmpc.thread) (8 + s.fld (.posCmpc u) F.posCmpc.bit)
      else s
    s.later (.fire (.pos u))
  else s

/-- A counted edge of unit `u`, at the pin at instant `t` and `time`: P becomes `p` (R233 to R236). -/
def State.countedEdge (s : State) (u : Nat) (p : BitVec 32) (down : Bool) (t : Nat) (time : Time) : State :=
  let again := s.posDown u == down && !s.bit (.posStat u) F.posStat.still
  let es := if again then (t :: (s.posUnit u).edges).take 9 else [t]
  let s := s.modPosUnit u fun x => { x with edges := es, pos := some p }
  let s := s.setFld (.posStat u) F.posStat.dir (if down then 1 else 0)
  let s := s.setFld (.posStat u) F.posStat.still 0
  let s := s.setFld (.posStat u) F.posStat.pendrev 0
  let s := s.wr (.posSpeed u) (speedOf es (2 ^ s.fld (.posCtrl u) F.posCtrl.spdavg) down)
  (s.wr (.posLastt u) (time.extractLsb' 0 32)).posCompare u down

/-- R moves by one count; P follows with a play of one (R233). -/
def State.moveCount (s : State) (u : Nat) (down : Bool) (t : Nat) (time : Time) : State :=
  let r := if down then (s.posUnit u).raw - 1 else (s.posUnit u).raw + 1
  let p := s.position u
  let s := s.modPosUnit u fun x => { x with raw := r }
  let d := (r - p).toInt
  if 0 < d then s.countedEdge u r false t time
  else if d < -1 then s.countedEdge u (r + 1) true t time
  else s.setFld (.posStat u) F.posStat.pendrev (if s.posDown u == down then 0 else 1)

/-- The change of A and B that unit `u` has sampled counts (R232); one of both at once is illegal. -/
def State.quadStep (s : State) (u p : Nat) (q : QuadStep) : State :=
  let x := s.posUnit u
  let s := s.setPosUnit u { x with a := q.a, b := q.b, step := none }
  if q.a ≠ x.a ∧ q.b ≠ x.b then (s.setFld (.posStat u) F.posStat.illegal 1).incSat (.laneErr p) F.laneErr.erra
  else if q.a ≠ x.a then s.moveCount u (q.a == q.b) q.at_ q.time
  else if q.b ≠ x.b then s.moveCount u (q.a != q.b) q.at_ q.time
  else s

/-- The count of unit `u` that acts in the present tick, where one does. -/
def State.quadTick (s : State) (u : Nat) : State :=
  match s.unitLane u, (s.posUnit u).step with
  | some p, some q => if s.shoreRuns then s.quadStep u p q else s
  | _, _ => s

/-- A change of A and B to levels `a` and `b`, whose edge came at `time`, counts in the present tick (R232). -/
def State.quadDue (s : State) (u : Nat) (a b : Bool) (time : Time) : Bool :=
  s.shoreRuns && (s.unitLane u).isSome && (s.posUnit u).step.any fun q => q.a == a && q.b == b && q.time == time

/-- QUAD_COUNT (R232): the filtered levels of A and B, sampled at the start of the tick, count in it. -/
def execQuadCount (u : Nat) (a b : Bool) (time : Time) (s : State) : Host.Outcome State Fault Refusal :=
  s.run (decide (u < 16) && s.quadDue u a b time) fun s => s.quadTick u

/-- The index lane of unit `u`. -/
def State.indexLane (s : State) (u : Nat) : Option Nat :=
  (List.range 256).find? fun p => s.mode p == modeQuad && s.laneOn p && s.fld (.quadM0 p) F.quadM0.role == 2 &&
    s.fld (.quadM0 p) F.quadM0.posu == u

/-- An index edge acts in the present tick in a mode that acts (R237). -/
def State.indexDue (s : State) (u : Nat) : Bool :=
  s.shoreRuns && (s.unitLane u).isSome && (s.posUnit u).index && s.fld (.posCtrl u) F.posCtrl.idxmode != 0

/-- The index edge of unit `u` acts (R237), after a count of the same tick. -/
def State.indexStep (s : State) (u : Nat) : State :=
  let s := s.quadTick u
  let mode := s.fld (.posCtrl u) F.posCtrl.idxmode
  let s := s.wr (.posIdxcap u) (s.position u)
  let s := s.setFld (.posStat u) F.posStat.idxseen 1
  let load := mode == 2 || (mode == 3 && !(s.posUnit u).indexed)
  let v := s.rd (.posIdxval u)
  s.modPosUnit u fun x =>
    let x := { x with indexed := true, index := false }
    if load then { x with raw := v, pos := some v } else x

/-- INDEX_EDGE (R237): the index level, sampled at the start of the tick, has risen or fallen. -/
def execIndexEdge (u : Nat) (rising : Bool) (s : State) : Host.Outcome State Fault Refusal :=
  s.run (decide (u < 16) && s.indexDue u && (s.posUnit u).z == rising) fun s => s.indexStep u

/-- The lanes of unit `u` are sampled at the start of a tick: a change of A or B against the reference, and a selected
edge of the index lane, act in this tick (R232, R237). -/
def State.sampleUnit (s : State) (u : Nat) : State :=
  match s.unitLane u with
  | none => s
  | some p =>
    let x := s.posUnit u
    let a := s.lane p
    let b := s.lane (p + 1)
    let e := if a.filt ≠ x.a then a.accAt else b.accAt
    let s := if a.filt = x.a ∧ b.filt = x.b then s
      else s.modPosUnit u fun x => { x with step := some ⟨a.filt, b.filt, e.1, e.2⟩ }
    match s.indexLane u with
    | none => s
    | some q =>
      let z := (s.lane q).filt
      let edge := z != x.z && z == !s.bit (.posCtrl u) F.posCtrl.idxedge
      s.modPosUnit u fun x => { x with z := z, index := edge }

/-- POS_CMPV (R238): every write arms, from the tick after its acceptance, against the position of that tick. -/
def writePosCmpv (s : State) (w : Wr) (u : Nat) : State × Bool :=
  let s := (s.quadTick u).take w (.posCmpv u) F.posCmpv.cmpv
  let d := (s.rd (.posCmpv u) - s.position u).toInt
  let behind := if s.posDown u then decide (0 < d) else decide (d < 0)
  let s := s.setFld (.posStat u) F.posStat.match 0
  let s := s.setFld (.posStat u) F.posStat.behindAtArm (if behind then 1 else 0)
  (s.setFld (.posStat u) F.posStat.armed 1, false)

/-- POS_COMPARE_ARM (R238). -/
def execPosCompareArm (w : Who) (u : Nat) (d : BitVec 32) (strb : BitVec 4) (s : State) :
    Host.Outcome State Fault Refusal :=
  let x : Wr := ⟨w, (Reg.posCmpv u).key, d, strb⟩
  s.run (decide (u < 16)) fun s => s.access x (.posCmpv u) fun s => writePosCmpv s x u

/-- The steps since the last counted edge of unit `u`. -/
def State.sinceEdge (s : State) (u : Nat) : Option Nat := (s.posUnit u).edges.head?.map fun t => s.now - t

/-- SPEED_TIMEOUT of unit `u` has passed since the last counted edge (R235). -/
def State.stillDue (s : State) (u : Nat) : Bool :=
  let tmo := s.fld (.posTmo u) F.posTmo.speedTimeout
  s.shoreRuns && (s.unitLane u).isSome && tmo != 0 && !s.bit (.posStat u) F.posStat.still && match s.sinceEdge u with
    | some e => decide (tmo * 256 * 32 ≤ e)
    | none => false

/-- The unit stands still (R235). -/
def State.standStill (s : State) (u : Nat) : State := (s.wr (.posSpeed u) 0).setFld (.posStat u) F.posStat.still 1

/-- SPEED_TIMEOUT (R235). -/
def execSpeedTimeout (u : Nat) (s : State) : Host.Outcome State Fault Refusal :=
  s.run (decide (u < 16) && s.stillDue u) fun s => s.standStill u

/-- The limit of SPEED in the present tick (R235): the magnitude is at most round(25 600 000 000 / e). -/
def State.limitSpeed (s : State) (u e : Nat) : State :=
  let v := (s.rd (.posSpeed u)).toInt
  let m := (roundDiv stepsPerSecond e : Int)
  s.wr (.posSpeed u) (BitVec.ofInt 32 (max (-m) (min m v)))

/-- SPEED_LIMIT_DECAY (R235). -/
def execSpeedLimitDecay (u : Nat) (s : State) : Host.Outcome State Fault Refusal :=
  match s.sinceEdge u with
  | none => s.run false id
  | some e => s.run (decide (u < 16 ∧ e ≠ 0) && s.shoreRuns && (s.unitLane u).isSome) fun s => s.limitSpeed u e

/-- What the present tick holds for the position units. -/
def State.positionTick (s : State) : State :=
  (List.range 16).foldl (fun s u =>
    let s := s.quadTick u
    let s := if s.indexDue u then s.indexStep u else s.modPosUnit u fun x => { x with index := false }
    let s := match s.sinceEdge u with
      | some e => if (s.unitLane u).isSome && e != 0 then s.limitSpeed u e else s
      | none => s
    if s.stillDue u then s.standStill u else s) s

/-- POS_CTRL: only while the A lane is OFF (R231). -/
def writePosWhileOff (s : State) (w : Wr) (u : Nat) (r : Reg) : State × Bool :=
  r.fields.foldl (fun x f => State.takeIf (!s.unitBusy u) x w r f) (s, false)

/-- POS_POS: only while the A lane is OFF (R231); it is the position from which the unit will start. -/
def writePosPos (s : State) (w : Wr) (u : Nat) : State × Bool :=
  let old := s.position u
  let x := State.takeIf (!s.unitBusy u) (s.wr (.posPos u) old, false) w (.posPos u) F.posPos.pos
  if s.unitBusy u || !s.may w (.posPos u) F.posPos.pos || !w.any F.posPos.pos then (s, x.2)
  else (x.1.modPosUnit u fun x => { x with pos := none }, x.2)

end Sys2Proof.Machine
end

