-- ==== Sys2Proof/Machine/BusRead.lean ====
section
/-! DEFINITION. Reads of registers (spec/17): what each register reads as, the rights filter, reads that clear or take,
the status copies, and the interrupt lines. -/

namespace Sys2Proof.Machine

def b2n (b : Bool) : Nat := if b then 1 else 0

/-- Debug is open (spec/18 R489): by the life-cycle state sampled at boot, until tamper or a restricting change.
DEDUCED, assumption log 55. -/
def State.debugOpen (s : State) : Bool :=
  let l := s.fld .wellStat F.wellStat.lcs
  s.boot.sampled && !s.security.debugShut && (l == 0 || l == 1 || l == 3)

/-! ### Engines as read -/

/-- The three conditions of rest (spec/02 R27): no thread the engine could issue is READY, nothing is in flight, and no swap
is pending. DEDUCED, assumption log 50. -/
def State.resting (s : State) (e : Nat) : Bool :=
  (allThreads.all fun t => !((s.thread e t).issues && s.couldIssue e t)) && (s.engine e).sb.isEmpty &&
  !s.bit (.engCtrl e) F.engCtrl.swap &&
  allThreads.all fun t =>
    let x := s.thread e t
    x.miss.isNone && (x.loads.all fun l => l.complete) && x.mul.isEmpty && x.iter.isNone

/-- ENG_STAT as read: an engine that is OFF issues no slots and has none to rest after, so that RESTING reads its reset
value 0 (spec/02 R62). DEDUCED, assumption log 50. -/
def State.readEngStat (s : State) (e : Nat) : BitVec 32 :=
  F.engStat.resting.put (s.rd (.engStat e)) (b2n (s.fld (.engStat e) F.engStat.state != 0 && s.resting e))

/-- FEAT6 of engine `e` (spec/04 R114). -/
def State.custMask (s : State) (e : Nat) : Nat :=
  (List.range 16).foldl (fun m n => if s.fld (.engCusthdr e n) F.engCusthdr.len = 0 then m else m + 2 ^ n) 0

/-- FEAT7 (spec/04 R112): set in boot step 8 (spec/15 R413). -/
def State.feat7 (s : State) : Nat :=
  if !s.booted then 0
  else
    let dev := match s.boot.env with
      | some x => x.devUnsigned
      | none => false
    s.fld .wellStat F.wellStat.lcs * 2 ^ 13 + b2n dev * 2 ^ 12 + b2n s.debugOpen * 2 ^ 11 +
      s.fld .wellStat F.wellStat.tarnWiped * 2 ^ 10 + s.fld .wellStat F.wellStat.keySlot * 2 ^ 8 +
      s.fld .wellStat F.wellStat.slotB * 2 ^ 7 + s.fld .wellStat F.wellStat.encrypted * 2 ^ 6

/-- The feature registers (spec/04 R112); FEAT6 is that of engine `e`, or 0 without one. DEDUCED, assumption log 12. -/
def State.feat (s : State) (e : Option Nat) (n : Nat) : Nat :=
  match n with
  | 0 => 0x0302
  | 1 => 0x9820
  | 2 => 0x2008 + 16 * ((List.range 8).filter fun i => s.isSpare (256 + i)).length
  | 3 => 0x4F00
  | 4 => 0x5410
  | 5 => 0x2207 + 16 * ((List.range 2).filter fun b => s.spare b < 2).length
  | 6 => match e with
    | some e => s.custMask e
    | none => 0
  | _ => s.feat7

/-! ### Interrupts (R473, R474) -/

/-- TOP_IRAW (R473). -/
def State.iraw (s : State) : Nat :=
  let sum := s.fabSummary
  let l : List Bool :=
    [F.fabSum.tripany.get sum != 0, F.fabSum.ringany.get sum != 0, F.fabSum.ovrany.get sum != 0,
     F.fabSum.coincany.get sum != 0, s.bit .memIstat F.memIstat.lbhit, s.bit .memIstat F.memIstat.ue,
     s.bit .memIstat F.memIstat.logovf, s.bit .memIstat F.memIstat.bgtfail, s.bit .memIstat F.memIstat.migdone,
     s.bit .memIstat F.memIstat.retdone, s.bit .memIstat F.memIstat.schue,
     s.bit .laneShstat F.laneShstat.locklost, s.bit .laneShstat F.laneShstat.calfailany,
     s.bit .laneShstat F.laneShstat.gap, s.bit .laneSync F.laneSync.loaded, s.bit .laneSync F.laneSync.refused,
     s.bit .engFstat F.engFstat.dfault, s.bit .topIstat F.topIstat.supflt,
     s.bit .engRollstat F.engRollstat.lastfail, s.bit .wellStat F.wellStat.tamper,
     s.bit .wellStat F.wellStat.lcschg, s.bit .mbxStat F.mbxStat.valid, s.bit .topIstat F.topIstat.hviol,
     s.bit .topHdoor F.topHdoor.bits, !s.outlet.alarms.isEmpty, s.bit .outStat F.outStat.loss,
     s.bit .laneShstat F.laneShstat.holdover]
  l.foldr (fun b n => b2n b + 2 * n) 0

/-- hint[n] (R474). -/
def State.hint (s : State) (n : Nat) : Bool := s.iraw &&& s.fld (.topHroute n) F.topHroute.mask != 0

/-- halarm (R474). -/
def State.halarm (s : State) : Bool := s.iraw.testBit 24

/-- hfault (R474). -/
def State.hfault (s : State) : Bool := s.iraw.testBit 16 || s.iraw.testBit 17

/-! ### What a register reads as -/

/-- The word a register reads as, before the rights filter; the reads that take an entry are in `readReg`. -/
def State.view (s : State) (r : Reg) : BitVec 32 :=
  match r with
  | .topFeat n => BitVec.ofNat 32 (s.feat (s.engineOf 0) n)
  | .topHdoorset => s.rd .topHdoor
  | .topIraw => BitVec.ofNat 32 s.iraw
  | .engStat e => s.readEngStat e
  | .engDbgstat e => allThreads.foldl (fun v t => if (s.thread e t).halted then v ||| BitVec.ofNat 32 (2 ^ t) else v) 0
  | .engTpc e t => (s.thread e t).pc.setWidth 32
  | .engTpark e t => s.readEngTpark e t
  | .engTastat e j => (s.thread e (2 * j + 1)).regs.astat ++ (s.thread e (2 * j)).regs.astat
  | .engTstate e t => s.readEngTstate e t
  | .engTevt e t => (s.thread e t).urgmask ++ (s.thread e t).evt
  | .engTurg e t => (s.thread e t).uret ++ (s.thread e t).uvec
  | .engDstat d => s.readEngDstat d
  | .engFstat => s.readEngFstat
  | .laneCtrl p => if s.laneWindow p then s.rd r else 0
  | .laneSafe p => if s.laneWindow p then s.rd r else 0
  | .laneIo p => if s.laneWindow p then s.rd r else 0
  | .laneErr p => if s.laneWindow p then s.rd r else 0
  | .laneStat p => s.readLaneStat p
  | .laneCal p => s.readLaneCal p
  | .laneTimelo => s.tickTime.extractLsb' 0 32
  | .laneSchstat => F.laneSchstat.free.put (s.rd r) (65536 - s.allEntries.length)
  | .weirStat p => s.readWeirStat p
  | .cntStat n => s.readCntStat n
  | .inlStat n => s.readInlStat n
  | .posPos u => s.position u
  | .fabCh c => s.readFabCh c
  | .fabCst c => s.readFabCst c
  | .fabEvin i => s.readFabEvin i
  | .fabSum => s.fabSummary
  | .lckStat k => s.lckStat k
  | .cdPos c k => s.readCdPos c k
  | .memMigstat => s.readMemMigstat
  | .outStat => s.readOutStat
  | r => s.rd r

/-- The fields of a word that a rights class reads (R457). -/
def Reg.visible (r : Reg) (rights : Rights) (v : BitVec 32) : BitVec 32 :=
  r.fields.foldl (fun x f => if permits r.cls f.acc rights then x ||| (v &&& f.mask) else x) 0

/-- The RC fields that a read covers whole, and may read, are cleared (R457, R459). -/
def State.clearRc (s : State) (w : Who) (r : Reg) (strb : BitVec 4) : State :=
  let x : Wr := ⟨w, r.key, 0, strb⟩
  r.fields.foldl (fun s f => if f.acc == .rc && permits r.cls f.acc (s.rights w) && x.full f then s.setFld r f 0 else s) s

/-- The debug registers (spec/18 R488). -/
def Reg.isDebug : Reg → Bool
  | .engBp _ _ => true
  | .engDbgctl _ => true
  | .engDbgstat _ => true
  | .engDbghit _ => true
  | _ => false

/-- The mailbox registers (R471). -/
def Reg.isMailbox : Reg → Bool
  | .mbxSel => true
  | .mbxStat => true
  | .mbxData _ => true
  | _ => false

/-- The copy registers (R465): of the ENG, LCK, MEM and OUT windows, all fields RO, read without effect. -/
def copyRegs : List Reg :=
  (allEngines.flatMap fun e =>
    [.engStat e, .engParkcnt e, .engIssuecnt e, .engPaircnt e, .engStallcnt e, .engIcmiss e, .engRotcnt e, .engDbgstat e]
      ++ (allThreads.map fun t => .engTpark e t) ++ ((List.range 16).map fun j => .engTastat e j))
  ++ ((List.range 8).flatMap fun d => [.engDfault d, .engDftime d]) ++ [.engFcnt, .engPwrstat, .engRstcause]
  ++ ((List.range 256).map fun k => .lckStat k) ++ ((List.range 32).map fun n => .memBstat n)
  ++ [.memCecnt, .memUelast, .memStest0, .memStest1, .memSpstat, .memMigstat, .memBgtstat]
  ++ ((List.range 32).flatMap fun c => (List.range 16).map fun k => .cdPos c k) ++ [.outWrptr]

/-- A copy register (R465). -/
def Reg.isCopy : Reg → Bool
  | .engStat _ => true
  | .engParkcnt _ => true
  | .engIssuecnt _ => true
  | .engPaircnt _ => true
  | .engStallcnt _ => true
  | .engIcmiss _ => true
  | .engRotcnt _ => true
  | .engDbgstat _ => true
  | .engTpark _ _ => true
  | .engTastat _ _ => true
  | .engDfault _ => true
  | .engDftime _ => true
  | .engFcnt => true
  | .engPwrstat => true
  | .engRstcause => true
  | .lckStat _ => true
  | .memBstat _ => true
  | .memCecnt => true
  | .memUelast => true
  | .memStest0 => true
  | .memStest1 => true
  | .memSpstat => true
  | .memMigstat => true
  | .memBgtstat => true
  | .cdPos _ _ => true
  | .outWrptr => true
  | _ => false

/-- The presented copy of a copy register. DEDUCED, assumption log 49. -/
def State.copyOf (s : State) (r : Reg) : BitVec 32 := SMap.get s.copies r.key r.reset

/-- Every copy register is sampled from its unit (R465). -/
def State.refreshCopies (s : State) : State :=
  { s with copies := copyRegs.foldl (fun m r => SMap.put m r.key (s.view r) r.reset) s.copies }

/-- The bytes a read covers. -/
def byteMask (strb : BitVec 4) : BitVec 32 := (⟨.host 0 false false, 0, 0, strb⟩ : Wr).mask

/-- A read of register `r` that covers the bytes `strb` (R457, R459, R465, R471; spec/18 R488). -/
def State.readReg (s : State) (w : Who) (r : Reg) (strb : BitVec 4) : BitVec 32 × State :=
  if r.isMailbox && !isHost w then (0, s)
  else if r.isDebug && (!isHost w || !s.debugOpen) then (0, s)
  else if r.isCopy && isHost w then (r.visible (s.rights w) (s.copyOf r), s)
  else match r with
    | .laneM0 p => s.readLaneM p 0 strb
    | .laneM1 p => s.readLaneM p 1 strb
    | .laneM2 p => s.readLaneM p 2 strb
    | .laneM3 p => s.readLaneM p 3 strb
    | .lckReq k => s.readLckReq w k
    | .lckRel k => s.readLckRel w k
    | .inlData n => s.readInlData n strb
    | .mbxData i => (s.rd r, if i = 3 then s.setFld .mbxStat F.mbxStat.valid 0 else s)
    | r => (r.visible (s.rights w) (s.view r), s.clearRc w r strb)

/-- A read of control space at block address `a`, 4-aligned (R453, R455): reserved locations read zero. A read
that covers no byte has no effect. -/
def State.readBus (s : State) (w : Who) (a : Nat) (strb : BitVec 4) : BitVec 32 × State :=
  if strb = 0 then (0, s)
  else match regAt a with
    | none => (0, s)
    | some r => ((s.readReg w r strb).1 &&& byteMask strb, (s.readReg w r strb).2)

/-- MAILBOX_DATA3_READ (R467). -/
def execMailboxData3Read (w : Who) (strb : BitVec 4) (s : State) : Host.Outcome State Fault Refusal :=
  s.run true fun s =>
    { (s.readBus w (Reg.mbxData 3).key strb).2 with rdata := (s.readBus w (Reg.mbxData 3).key strb).1 }

/-- STATUS_COPY_REFRESH (R465, R466, spec/16 R435): an edge of SCLK; a returning sclk edge ends the fallback. -/
def execStatusCopyRefresh (sclk : Bool) (s : State) : Host.Outcome State Fault Refusal :=
  s.run (sclk || s.bit .topCopyseq F.topCopyseq.sclksrc) fun s =>
    let s := if sclk then s.setFld .topCopyseq F.topCopyseq.sclksrc 0 else s
    s.refreshCopies.incWrap .topCopyseq F.topCopyseq.seq

/-- SCLK_FALLBACK (spec/16 R435). -/
def execSclkFallback (s : State) : Host.Outcome State Fault Refusal :=
  s.run true fun s => s.setFld .topCopyseq F.topCopyseq.sclksrc 1

end Sys2Proof.Machine
end

