-- ==== Sys2Proof/Machine/Operands.lean ====
section
/-! DEFINITION. What an instruction meets outside the registers: the fetch of its words (spec/02 R35 to R40), its
operand forms in memory (spec/03 R74, spec/05 R130 to R132), the halves of an unaligned access (spec/02 R54 to
R57), forwarding from the store buffer (R49) and stores into it (R48, R52). -/

namespace Sys2Proof.Machine

/-! ### Segments (spec/05 R130 to R132) -/

/-- The regions of the block's address space (R132). -/
inductive Region where
  | lram | pool | tarn | control | sched | none
deriving DecidableEq, Repr

/-- The region of a block address. -/
def region (a : Nat) : Region :=
  if a < 0x8000 then .lram
  else if 0x100000 ≤ a ∧ a < 0x500000 then .pool
  else if 0x600000 ≤ a ∧ a < 0x604000 then .tarn
  else if 0x700000 ≤ a ∧ a < 0x800000 then .control
  else if 0x800000 ≤ a ∧ a < 0x880000 then .sched
  else .none

/-- Control space and the schedule window. -/
def Region.isControl : Region → Bool
  | .control => true
  | .sched => true
  | _ => false

/-- One half of an access: its offset in the segment, without wrap, and its bytes (R131). -/
structure Half where
  off : Nat
  n   : Nat
deriving DecidableEq, Repr

/-- The offset of an access within its segment (spec/03 R74). -/
def segOffset (base : Word) (off : Nat) : Nat := (base.toNat + off) % 0x10000

/-- The halves of an access (spec/02 R54); a segment's base is a multiple of 64, so the offset decides. -/
def halves (z : Size) (o : Nat) : List Half :=
  match z with
  | .byte => [⟨o, 1⟩]
  | .word => if o % 2 = 0 then [⟨o, 2⟩] else [⟨o, 1⟩, ⟨o + 1, 1⟩]
  | .pair => if o % 4 = 0 then [⟨o, 4⟩] else [⟨o, 4 - o % 4⟩, ⟨o + (4 - o % 4), o % 4⟩]

/-- The block address of offset `o` in segment `k` of thread `t`. -/
def State.segAddr (s : State) (e t k o : Nat) : Nat := s.fld (.engTsegb e t k) F.engTsegb.base * 64 + o

/-- The requester that a thread is at the Pool. -/
def State.poolUser (s : State) (e t : Nat) : Requester := .engine e (decide ((s.thread e t).priv ≠ 0))

/-- The checks of the region (R132). -/
def State.regionOk (s : State) (e t k a : Nat) (store : Bool) : Bool :=
  let ctl := s.bit (.engTsegb e t k) F.engTsegb.control
  match region a with
  | .lram => !ctl
  | .pool => !ctl && s.poolAnswer a (s.poolUser e t) store != .refuse
  | .tarn => !ctl && s.bit (.engTsegb e t k) F.engTsegb.secure && (s.thread e t).priv == 2 && !s.tarnShut
  | .control => ctl
  | .sched => ctl
  | .none => false

/-- half_ok of R131. -/
def State.halfOk (s : State) (e t k : Nat) (store : Bool) (h : Half) : Bool :=
  let a := s.segAddr e t k h.off
  decide (h.off + h.n ≤ s.fld (.engTsegl e t k) F.engTsegl.limit) &&
  (if store then s.bit (.engTsegb e t k) F.engTsegb.write else s.bit (.engTsegb e t k) F.engTsegb.read) &&
  (!s.bit (.engTsegb e t k) F.engTsegb.secure || (s.thread e t).priv == 2) &&
  decide (a + h.n - 1 ≤ 0xFFFFFF) && region (a + h.n - 1) == region a && s.regionOk e t k a store

/-- Every half of an access passes its checks (spec/02 R55). -/
def State.accessOk (s : State) (e t k : Nat) (store : Bool) (l : List Half) : Bool := l.all (s.halfOk e t k store)

/-! ### Reading memory -/

/-- The bytes of an aligned unit that an access of `n` bytes at `a` covers. -/
def unitStrobe (a n : Nat) : BitVec 4 := BitVec.ofNat 4 ((2 ^ n - 1) * 2 ^ (a % 4))

/-- The physical word that serves a block address, for engine `e`. -/
def State.physWord (s : State) (e a : Nat) : Nat :=
  match region a with
  | .lram => lramWord e (a / 8)
  | .pool => s.poolPhys a
  | _ => tarnWord ((a - 0x600000) / 8)

/-- Byte `a` in an entry of the store buffer. -/
def StoreEntry.covers (x : StoreEntry) (t a : Nat) : Bool := x.thr == t && x.unit == a / 4 && x.mask.getLsbD (a % 4)

/-- The youngest entry of thread `t` that covers byte `a` (spec/02 R49). -/
def forwarded (sb : List StoreEntry) (t a : Nat) : Option StoreEntry := sb.reverse.find? fun x => x.covers t a

/-- Byte `i` of a 32-bit value. -/
def byteAt (d : BitVec 32) (i : Nat) : BitVec 8 := d.extractLsb' (8 * i) 8

/-- load_unit of spec/02: the bytes of an access within one unit, whether they are poisoned, and the state with what
the read of memory counts. -/
def State.loadUnit (s : State) (e t a n : Nat) : List (BitVec 8) × Bool × State :=
  let sb := (s.engine e).sb
  let hits := (List.range n).map fun i => forwarded sb t (a + i)
  let hitPoison := hits.any fun h => match h with
    | some x => x.poison
    | none => false
  if hits.all Option.isSome then
    ((List.range n).map fun i => match forwarded sb t (a + i) with
      | some x => byteAt x.data ((a + i) % 4)
      | none => 0, hitPoison, s)
  else
    let m := s.readWord (s.physWord e a)
    ((List.range n).map fun i => match forwarded sb t (a + i) with
      | some x => byteAt x.data ((a + i) % 4)
      | none => byteOf m.1 ((a + i) % 8), hitPoison || m.2.1, m.2.2)

/-- A read of the schedule window (spec/06 R177): the half of an entry's word, with clean data. -/
def State.schedUnit (s : State) (a : Nat) : BitVec 32 :=
  let x := s.schedEntry ((a - 0x800000) / 8)
  if a / 4 % 2 = 0 then x.extractLsb' 0 32 else x.extractLsb' 32 32

/-- A read of control space or of the schedule window within one unit (spec/02 R50). -/
def State.controlUnit (s : State) (e t a n : Nat) : List (BitVec 8) × Bool × State :=
  let x := if region a = .sched then (s.schedUnit a, s) else s.readBus (.thread e t) (a / 4 * 4) (unitStrobe a n)
  ((List.range n).map fun i => byteAt x.1 ((a + i) % 4), false, x.2)

/-- The halves of a load, lower address first. DEDUCED, assumption log 23. -/
def State.loadHalves (s : State) (e t k : Nat) : List Half → List (BitVec 8) × Bool × State
  | [] => ([], false, s)
  | h :: l =>
    let a := s.segAddr e t k h.off
    let x := if (region a).isControl then s.controlUnit e t a h.n else s.loadUnit e t a h.n
    let y := State.loadHalves x.2.2 e t k l
    (x.1 ++ y.1, x.2.1 || y.2.1, y.2.2)

/-- A word from bytes, the lowest first; bytes that are missing are zero. -/
def wordOf (l : List (BitVec 8)) (i : Nat) : Word := (l.getD (i + 1) 0) ++ (l.getD i 0)

/-- The registers a load of size `z` into `d` writes, with their values (spec/03 R75). -/
def loadDests (z : Size) (d : Nat) (l : List (BitVec 8)) : List (Nat × Word) :=
  match z with
  | .pair => [(2 * d, wordOf l 0), (2 * d + 1, wordOf l 2)]
  | _ => [(d, wordOf l 0)]

/-- The thread has a buffered store to control space or the schedule window (spec/02 R50). -/
def State.controlPending (s : State) (e t : Nat) : Bool :=
  (s.engine e).sb.any fun x => x.thr == t && (region (4 * x.unit)).isControl

/-! ### Stalls of an access -/

/-- What the Pool slots of an access answer: the slots to wake, and whether the access waits (spec/02 R58, spec/11
R291, R306). -/
def State.slotStall (s : State) (e t k : Nat) (store : Bool) (h : Half) : Option (Option Nat) :=
  let a := s.segAddr e t k h.off
  if region a = .pool then match s.poolAnswer a (s.poolUser e t) store with
    | .stall => some none
    | .wake => some (some (poolSlot a))
    | _ => none
  else none

/-- The slots that an access wakes are woken. -/
def State.wakeHalves (s : State) (e t k : Nat) (store : Bool) (l : List Half) : State :=
  l.foldl (fun s h => match s.slotStall e t k store h with
    | some (some n) => s.autoWake n
    | _ => s) s

/-- An access that passed its checks waits before it is performed: a load on its Pool slots, or on the thread's own
stores to control space; a store on the free entries of the buffer (spec/02 R50, R52). -/
def State.accessWaits (s : State) (e t k : Nat) (store : Bool) (l : List Half) : Bool :=
  if store then decide (8 < (s.engine e).sb.length + l.length)
  else l.any fun h => (s.slotStall e t k store h).isSome ||
    ((region (s.segAddr e t k h.off)).isControl && s.controlPending e t)

/-! ### Stores -/

/-- The data of a store of size `z` from register `d`, its bytes from the lowest (spec/02 R49). -/
def storeData (r : Regs) (z : Size) (d : Nat) : BitVec 32 :=
  match z with
  | .pair => r.pair d
  | _ => 0#16 ++ r.get d

/-- The data register of a store is poisoned. DEDUCED, assumption log 64. -/
def storePoison (r : Regs) (z : Size) (d : Nat) : Bool := (z.regs d).any r.poison

/-- The entry of one half: `done` bytes of the data belong to the half before it. DEDUCED, assumption log 64. -/
def storeEntry (t a n done : Nat) (d : BitVec 32) (p : Bool) : StoreEntry :=
  { thr := t, unit := a / 4, mask := unitStrobe a n, data := (d >>> (8 * done)) <<< (8 * (a % 4)), poison := p }

/-- The entries of a store, lower address first (spec/02 R48, R52). -/
def State.storeEntries (s : State) (e t k : Nat) (d : BitVec 32) (p : Bool) : Nat → List Half → List StoreEntry
  | _, [] => []
  | done, h :: l => storeEntry t (s.segAddr e t k h.off) h.n done d p :: s.storeEntries e t k d p (done + h.n) l

/-- Entries join the engine's buffer. -/
def State.enqueue (s : State) (e : Nat) (l : List StoreEntry) : State :=
  s.modEngine e fun x => { x with sb := x.sb ++ l }

/-! ### Fetch (spec/02 R35 to R40) -/

/-- The line of word address `a`: its number in the program store, or of its far line from 0x4000 on. -/
def lineOf (a : Word) : Nat := a.toNat / 4

/-- Far code. -/
def isFar (a : Word) : Bool := decide (0x4000 ≤ a.toNat)

/-- The line address of far word `a` (R37). -/
def farLine (a : Word) : Nat := (a.toNat - 0x4000) / 4

/-- The line holds line address `la`; one in which an error is found is a miss (spec/12 R319). -/
def CacheLine.holds (x : CacheLine) (la : Nat) : Bool := x.line == la && x.syn == 0

/-- The thread's buffer holds the line (R38). -/
def State.buffered (s : State) (e t la : Nat) : Bool :=
  match (s.thread e t).lineBuf with
  | some x => x.holds la
  | none => false

/-- The line in the cache (R37). -/
def State.cachedLine (s : State) (e la : Nat) : Option CacheLine :=
  (SMap.get (s.engine e).icache (la % 256) []).find? fun x => x.holds la

/-- The line in the thread's buffer or in the cache (R37, R38). -/
def State.heldLine (s : State) (e t la : Nat) : Option (BitVec 64) :=
  if s.buffered e t la then (s.thread e t).lineBuf.map (·.data) else (s.cachedLine e la).map (·.data)

/-- The Pool refuses a far fetch: range, owner or retention (R39). DEDUCED, assumption log 66. -/
def State.farRefused (s : State) (e la : Nat) : Bool :=
  let a := s.farAddr e la
  let o := s.slotOwner (poolSlot a)
  !inPool a || !(o == s.roleOf e || o == 0xC) || s.poolAnswer a (.engine e true) false == .refuse

/-- The cause under which a fetch of word `a` is refused (R39, R40). A far line in the buffer or the cache does not
reach the Pool. -/
def State.fetchRefused (s : State) (e t : Nat) (a : Word) : Option Nat :=
  if s.bit (.engTfetch e t) F.engTfetch.nearOnly && isFar a then some 3
  else if a.toNat < s.fld (.engTcseg e t) F.engTcseg.csegLo ∨ s.fld (.engTcseg e t) F.engTcseg.csegHi < a.toNat then some 4
  else if isFar a && (s.heldLine e t (farLine a)).isNone && s.farRefused e (farLine a) then some 5
  else none

/-- Instruction word `a` as the thread's fetch delivers it; near words come from the program store, far words from
the buffer or the cache; a refused fetch delivers 0x0000 (R39). -/
def State.codeWord (s : State) (e t : Nat) (a : Word) : Nat :=
  if (s.fetchRefused e t a).isSome then 0 else
  let line := if isFar a then (s.heldLine e t (farLine a)).getD 0 else (s.readWord (pstoreWord e (lineOf a))).1
  bitsOf line.toNat (14 * (a.toNat % 4)) 14

/-- The instruction at `a`. DESIGN CHOICE, assumption log 9. -/
def State.codeOp (s : State) (e t : Nat) (a : Word) : Op := (decode14 (s.codeWord e t a) (s.codeWord e t (a + 1))).normal

/-- The ways a fetch ends. -/
inductive Fetch where
  | ok | park (cause : Nat) | nearFault | stall
deriving DecidableEq, Repr

/-- A far line that the cache serves becomes the thread's buffered line, and the most recently used of its set; one that
the buffer serves reaches no cache (R37, R38). -/
def State.useLine (s : State) (e t la : Nat) : State :=
  if s.buffered e t la then s
  else match s.cachedLine e la with
    | none => s
    | some y =>
      let ways := (SMap.get (s.engine e).icache (la % 256) []).filter fun z => z.line != la
      (s.modThread e t fun x => { x with lineBuf := some y }).modEngine e fun x =>
        { x with icache := SMap.put x.icache (la % 256) (y :: ways) [] }

/-- The threads of an engine with a far fetch outstanding. -/
def State.misses (s : State) (e : Nat) : Nat := (allThreads.filter fun t => (s.thread e t).miss.isSome).length

/-- A far fetch that misses buffer and cache (R37, R38): the miss begins, or waits for one of four, for the
invalidation, or for its slot. -/
def State.startMiss (s : State) (e t la : Nat) : State :=
  if (s.thread e t).miss.isSome || decide (4 ≤ s.misses e) || s.bit (.engCtrl e) F.engCtrl.icinv then s
  else match s.poolAnswer (s.farAddr e la) (.engine e true) false with
    | .wake => s.autoWake (poolSlot (s.farAddr e la))
    | .go => (s.modThread e t fun x => { x with miss := some la, missStale := false }).incWrap (.engIcmiss e) F.engIcmiss.miss
    | _ => s

/-- The fetch of the line that holds word `a`. DEDUCED, assumption log 66. -/
def State.fetchWord (s : State) (e t : Nat) (a : Word) : Fetch × State :=
  match s.fetchRefused e t a with
  | some c => (.park c, s)
  | none =>
    if isFar a then
      if (s.heldLine e t (farLine a)).isSome then (.ok, s.useLine e t (farLine a))
      else (.stall, s.startMiss e t (farLine a))
    else
      let x := s.readWord (pstoreWord e (lineOf a))
      (if x.2.1 then .nearFault else .ok, x.2.2)

/-- The fetch of several words, the first that fails decides. -/
def State.fetchWords (s : State) (e t : Nat) : List Word → Fetch × State
  | [] => (.ok, s)
  | a :: l => match s.fetchWord e t a with
    | (.ok, s) => State.fetchWords s e t l
    | x => x

end Sys2Proof.Machine
end

