-- ==== Sys2Proof/Machine/Execute.lean ====
section
/-! DEFINITION. What each Nguano-14 instruction does once it issues (spec/03), with its words fetched, its hazards
over and no poison consumed. -/

namespace Sys2Proof.Machine

/-- The end of an instruction's execution: a stall without issue (spec/02 R58), or the state after it with the load it
begins and the address it continues at, none for the next instruction. -/
inductive Done where
  | stall (s : State)
  | next (s : State) (load : Option Load) (pc : Option Word)
deriving DecidableEq, Repr

/-- A plain end. -/
def Done.ok (s : State) : Done := .next s none none

/-- The registers of a thread. -/
def State.regsOf (s : State) (e t : Nat) : Regs := (s.thread e t).regs

/-- Sticky bits of ASTAT are set (spec/03 R72, R83). -/
def Thread.stick (x : Thread) (w : Word) : Thread := { x with regs := { x.regs with astat := x.regs.astat ||| w } }

/-- A general register of a thread is written. -/
def State.setReg (s : State) (e t k : Nat) (v : Word) (p : Bool) : State := s.modThread e t fun x => x.setReg k v p

/-! ### Class A: ALU and short immediates (R70, R73) -/

/-- A result goes to wd with its sticky bits. -/
def State.putResult (s : State) (e t d : Nat) (x : Result) : State :=
  s.modThread e t fun y => (y.setReg d x.1 false).stick x.2

/-- R70: MOV carries poison (R98). -/
def State.doAlu (s : State) (e t : Nat) (o : Alu) (a b : Nat) : State :=
  let r := s.regsOf e t
  if o = .mov then s.setReg e t a (r.get b) (r.poison b)
  else s.putResult e t a (aluResult o (r.get a) (r.get b))

def State.doMovi (s : State) (e t d : Nat) (i : Int) : State := s.setReg e t d (BitVec.ofInt 16 i) false

def State.doAddi (s : State) (e t d : Nat) (i : Int) : State :=
  s.setReg e t d (BitVec.ofInt 16 (((s.regsOf e t).get d).toInt + i)) false

def State.doShift (s : State) (e t : Nat) (o : Shift) (d n : Nat) : State :=
  s.setReg e t d (shifted o ((s.regsOf e t).get d) n) false

def State.doCmpi (s : State) (e t : Nat) (o : CmpI) (d : Nat) (i : Int) : State :=
  s.setReg e t d (cmpiResult o ((s.regsOf e t).get d) i) false

/-! ### Class M: loads and stores (R75) -/

/-- Every half lies in local RAM (spec/04 R117). -/
def State.inLram (s : State) (e t k : Nat) (l : List Half) : Bool :=
  l.all fun h => region (s.segAddr e t k h.off) == .lram

/-- A load's violation delivers zero, unpoisoned, to its whole destination (spec/02 R55). -/
def zeroLoad (z : Size) (d : Nat) : Load :=
  { dests := loadDests z d [], poison := false, fresh := true, complete := false }

/-- LD, LDB and LDD; `loc` confines the access to local RAM (spec/04 R117). DEDUCED, assumption log 23. -/
def State.doLoad (s : State) (e t : Nat) (loc : Bool) (z : Size) (d k off : Nat) : Done :=
  let l := halves z (segOffset ((s.regsOf e t).get (8 + k)) off)
  if !s.accessOk e t k false l || (loc && !s.inLram e t k l) then
    .next (s.violate (.thread e t) 0 0 false) (some (zeroLoad z d)) none
  else if s.accessWaits e t k false l then .stall (s.wakeHalves e t k false l)
  else
    let x := s.loadHalves e t k l
    .next x.2.2 (some { dests := loadDests z d x.1, poison := x.2.1, fresh := true, complete := false }) none

/-- ST, STB and STD. -/
def State.doStore (s : State) (e t : Nat) (loc : Bool) (z : Size) (d k off : Nat) : Done :=
  let r := s.regsOf e t
  let l := halves z (segOffset (r.get (8 + k)) off)
  if !s.accessOk e t k true l || (loc && !s.inLram e t k l) then .ok (s.violate (.thread e t) 0 0 true)
  else if s.accessWaits e t k true l then .stall s
  else .ok ((s.wakeHalves e t k true l).enqueue e (s.storeEntries e t k (storeData r z d) (storePoison r z d) 0 l))

/-! ### Class B: branches (R76, R77) -/

/-- The target of a branch: the address of its first word plus the offset, modulo 2^16. -/
def target (pc : Word) (off : Int) : Word := pc + BitVec.ofInt 16 off

/-- A branch that is taken or not. -/
def branchTo (s : State) (taken : Bool) (pc : Word) (off : Int) : Done :=
  .next s none (if taken then some (target pc off) else none)

/-! ### Long operations (R81 to R85) -/

/-- Accumulator `n`. -/
def accOf (n : Nat) : LongReg := if n = 0 then .acc0 else .acc1

/-- The value accumulator `n` will hold once the operations in flight have completed. -/
def Thread.accAhead (x : Thread) (n : Nat) : BitVec 40 :=
  match x.mul.reverse.find? fun o => o.reg == accOf n with
  | some o => o.val
  | none => if n = 0 then x.regs.acc0 else x.regs.acc1

/-- A start on the multiply pipe. -/
def State.startMul (s : State) (e t : Nat) (o : LongOp) : State := s.modThread e t fun x => { x with mul := x.mul ++ [o] }

def State.doMul (s : State) (e t : Nat) (o : Mul) (a b : Nat) : State :=
  let r := s.regsOf e t
  let x := mulResult o (r.get a) (r.get b)
  s.startMul e t ⟨.mr, x.1.setWidth 40, x.2, false⟩

def State.doMac (s : State) (e t : Nat) (msc : Bool) (n a b : Nat) : State :=
  let r := s.regsOf e t
  let x := macResult msc (satMac r.astat) ((s.thread e t).accAhead n) (r.get a) (r.get b)
  s.startMul e t ⟨accOf n, x.1, x.2, true⟩

def State.doScl (s : State) (e t n i : Nat) : State :=
  let x := sclResult ((s.thread e t).accAhead n) i
  s.startMul e t ⟨.mr, x.1.setWidth 40, x.2, false⟩

def State.doAclr (s : State) (e t n : Nat) : State := s.startMul e t ⟨accOf n, 0, 0, false⟩

def State.doAset (s : State) (e t n dn : Nat) : State :=
  s.startMul e t ⟨accOf n, ((s.regsOf e t).pair dn).signExtend 40, 0, false⟩

/-- The iterators in use. -/
def State.itersBusy (s : State) (e : Nat) : Nat := (allThreads.filter fun t => (s.thread e t).iter.isSome).length

/-- A thread that waits for an iterator joins those that do. -/
def State.awaitIter (s : State) (e t : Nat) : State :=
  s.modEngine e fun x => { x with iterWait := if x.iterWait.contains t then x.iterWait else x.iterWait ++ [t] }

/-- Whether thread `t` gets an iterator: one is free, and no other thread that waits for one comes first by R22
(spec/02 R43). -/
def State.iterGrant (s : State) (e t : Nat) : Bool :=
  let w := (s.engine e).iterWait.filter fun u => u != t && (s.thread e u).issues && !(s.thread e u).halted
  decide (s.itersBusy e < 4) &&
    (w.isEmpty || arbitrate 32 (s.engine e).iterPtr (fun u => (s.thread e u).prio) (t :: w) == some t)

/-- A start on an iterator (spec/02 R43). -/
def State.startIter (s : State) (e t : Nat) (v : BitVec 32) (sticky : Word) : Done :=
  if !s.iterGrant e t then .stall (s.awaitIter e t)
  else
    let s := s.modThread e t fun x => { x with iter := some ⟨.ir, v.setWidth 40, sticky, false⟩ }
    .ok (s.modEngine e fun x => { x with iterPtr := if x.iterWait.isEmpty then x.iterPtr else (t + 1) % 32,
                                         iterWait := x.iterWait.filter (· != t) })

def State.doDiv (s : State) (e t : Nat) (signed : Bool) (dn b : Nat) : Done :=
  let r := s.regsOf e t
  let x := if signed then divResult (r.pair dn) (r.get b) else divuResult (r.pair dn) (r.get b)
  s.startIter e t x.1 x.2

def State.doSqrt (s : State) (e t dn : Nat) : Done := s.startIter e t (sqrtResult ((s.regsOf e t).pair dn)) 0

def State.doCordic (s : State) (e t : Nat) (o : Cordic) (a b : Nat) : Done :=
  s.startIter e t (cordicResult o ((s.regsOf e t).get a) ((s.regsOf e t).get b)) 0

/-- The 16-bit sources of LRD with their poison (R85). -/
def Regs.lrdHalf (r : Regs) (src : Nat) : Word × Bool :=
  match src with
  | 0 => (r.mr.extractLsb' 0 16, r.mrp)
  | 1 => (r.mr.extractLsb' 16 16, r.mrp)
  | 2 => (r.ir.extractLsb' 0 16, r.irp)
  | 3 => (r.ir.extractLsb' 16 16, r.irp)
  | 4 => (r.acc0.extractLsb' 0 16, r.acc0p)
  | 5 => (r.acc0.extractLsb' 16 16, r.acc0p)
  | 6 => ((r.acc0.extractLsb' 32 8).signExtend 16, r.acc0p)
  | 7 => (r.acc1.extractLsb' 0 16, r.acc1p)
  | 8 => (r.acc1.extractLsb' 16 16, r.acc1p)
  | _ => ((r.acc1.extractLsb' 32 8).signExtend 16, r.acc1p)

/-- The 32-bit sources of LRD (R85). -/
def Regs.lrdPair (r : Regs) (src : Nat) : BitVec 32 × Bool :=
  match src with
  | 0 => (r.mr, r.mrp)
  | 1 => (r.ir, r.irp)
  | 2 => (r.acc0.extractLsb' 0 32, r.acc0p)
  | _ => (r.acc1.extractLsb' 0 32, r.acc1p)

def State.doLrd (s : State) (e t : Nat) (f : LrdForm) : State :=
  let r := s.regsOf e t
  match f with
  | .half src d => s.setReg e t d (r.lrdHalf src).1 (r.lrdHalf src).2
  | .pair src n =>
    let x := r.lrdPair src
    (s.setReg e t (2 * n) (lowHalf x.1) x.2).setReg e t (2 * n + 1) (highHalf x.1) x.2

/-! ### Prefixes (R87) -/

/-- The count of a prefix. -/
def Regs.repCount (r : Regs) (urgent : Bool) : RepCount → Nat
  | .imm n => n
  | .reg k => if urgent then (r.get k).toNat else min 64 (r.get k).toNat

/-- REP and REPI: `next` is the target's address; a count of 0 skips the target. -/
def State.doRep (s : State) (e t : Nat) (urgent : Bool) (c : RepCount) (next : Word) : Done :=
  let n := (s.regsOf e t).repCount urgent c
  if n = 0 then .next s none (some (next + BitVec.ofNat 16 (s.codeOp e t next).len))
  else .ok (s.modThread e t fun x => { x with rep := some ⟨urgent, next, n, false⟩ })

/-! ### System instructions (R91 to R96) -/

/-- A supervisor or secure supervisor. -/
def Thread.sup (x : Thread) : Bool := x.priv != 0

/-- WAIT (R92). -/
def State.doWait (s : State) (e t d m : Nat) (pc : Word) : Done :=
  let x := s.thread e t
  let mask := x.regs.get m
  if mask = 0 then .ok (s.setReg e t d 0 false)
  else if x.evt &&& mask ≠ 0 then
    .ok (s.setThread e t { x.setReg d (x.evt &&& mask) false with evt := x.evt &&& ~~~mask })
  else .next (s.setThread e t { x with st := .waiting, waitMask := mask, waitDst := d }) none (some pc)

/-- What a drained FENCE, UNLOCK or SLOTSWAP does (spec/02 R28, R51; spec/13 R346); UNLOCK's code goes to wd as a
load's value (R343). -/
def State.finishDrain (s : State) (e t : Nat) : DrainThen → State × Option Load
  | .fence => (s, none)
  | .unlock d k =>
    let x := s.lockRelease (.thread e t) k
    (x.2, some { dests := [(d, BitVec.ofNat 16 x.1)], poison := false, fresh := true, complete := false })
  | .swap => (s.setFld (.engCtrl e) F.engCtrl.swap 1, none)

/-- FENCE, UNLOCK and SLOTSWAP wait for the entries of the buffer (spec/02 R51). -/
def State.drainThen (s : State) (e t : Nat) (d : DrainThen) : Done :=
  let n := (s.engine e).sb.length
  if n = 0 then .next (s.finishDrain e t d).1 (s.finishDrain e t d).2 none
  else .ok (s.modThread e t fun x => { x with drain := some ⟨n, d⟩ })

/-- LOCK (R93, spec/13 R343). -/
def State.doLock (s : State) (e t d k : Nat) : Done :=
  let x := s.lockRequest (.thread e t) (((s.regsOf e t).get k).toNat % 256)
  .next x.2 (some { dests := [(d, BitVec.ofNat 16 x.1)], poison := false, fresh := true, complete := false }) none

def State.doUnlock (s : State) (e t d k : Nat) : Done :=
  s.drainThen e t (.unlock d (((s.regsOf e t).get k).toNat % 256))

/-- The record of LOG (R94, spec/19 R494). -/
def State.logRecord (s : State) (e t c dn : Nat) : Record :=
  let r := s.regsOf e t
  { word0 := s.tickTime
    word1 := recWord [(60, 2), (59, b2n (r.poison c)), (58, b2n (r.poison (2 * dn + 1))), (57, b2n (r.poison (2 * dn))),
      (53, s.roleOf e), (48, t), (32, (r.get c).toNat), (0, (r.pair dn).toNat)] }

def State.doLog (s : State) (e t c dn : Nat) : State := s.log (s.logRecord e t c dn)

/-- SLOTSWAP (spec/02 R28, R29). -/
def State.doSlotswap (s : State) (e t : Nat) : Done :=
  if (s.thread e t).sup then s.drainThen e t .swap else .ok (s.violate (.thread e t) 0 0 true)

/-- A special register as MFS reads it (R96); `pc` is the address of the MFS. -/
def State.specialReg (s : State) (e t sr : Nat) (pc : Word) : Word :=
  let x := s.thread e t
  match sr with
  | 0 => x.regs.astat
  | 1 => match x.rep with
    | some r => BitVec.ofNat 16 r.count
    | none => 0
  | 2 => x.regs.link
  | 3 => BitVec.ofNat 16 (e * 2 ^ 12 + s.roleOf e * 2 ^ 8 + t)
  | 4 => pc
  | 5 => x.evt
  | 6 => x.urgmask
  | 7 => x.uvec
  | 8 => x.uret
  | 9 => BitVec.ofNat 16 x.viol
  | 10 => BitVec.ofNat 16 (x.prio * 2 ^ 8 + x.priv)
  | sr => if 16 ≤ sr ∧ sr < 24 then BitVec.ofNat 16 (s.feat (some e) (sr - 16)) else 0

/-- MFS (R96): a USER thread's read of an action register is counted. DEDUCED, assumption log 65. -/
def State.doMfs (s : State) (e t d sr : Nat) (pc : Word) : State :=
  let v := s.specialReg e t sr pc
  let s := if !(s.thread e t).sup && decide (29 ≤ sr) then s.violate (.thread e t) 0 0 false else s
  s.setReg e t d v false

/-- MTS URET (spec/05 R138): of a diverted thread it leaves URET as it was. DESIGN CHOICE, assumption log 125. -/
def State.doMtsUret (s : State) (e t : Nat) (v : Word) : Done :=
  let x := s.thread e t
  if x.st = .diverted then
    .next (s.setThread e t { x with st := .ready, inhdl := false, savedRep := none,
                                    rep := if v = x.uret then x.savedRep else none }) none (some v)
  else .ok (s.setThread e t { x with uret := v })

/-- MTS (R80, R86, R96): `next` is the address after it. -/
def State.doMts (s : State) (e t sr a : Nat) (next : Word) : Done :=
  let x := s.thread e t
  let v := x.regs.get a
  match sr with
  | 0 => .ok (s.setThread e t { x with regs := { x.regs with astat := writeAstat x.regs.astat v } })
  | 2 => .ok (s.setThread e t { x with regs := { x.regs with link := v } })
  | 5 => .ok (s.setThread e t { x with evt := x.evt &&& ~~~v })
  | 6 => .ok (if x.sup then (s.setThread e t { x with urgmask := v }).copyThrough e else s.violate (.thread e t) 0 0 true)
  | 7 => .ok (if x.sup then (s.setThread e t { x with uvec := v }).copyThrough e else s.violate (.thread e t) 0 0 true)
  | 8 => s.doMtsUret e t v
  | 29 => .next s none (some x.regs.link)
  | 30 => .next s none (some v)
  | 31 => .next (s.setThread e t { x with regs := { x.regs with link := next } }) none (some v)
  | _ => .ok s

/-- CHECKPOINT (R95): of a thread of a CONTINUITY domain. DEDUCED, assumption log 39. -/
def State.doCheckpoint (s : State) (e t : Nat) (next : Word) : State :=
  match s.threadDomain (s.roleOf e) t with
  | some d => if s.bit (.engDctl d) F.engDctl.policy then s.checkpoint e t next else s
  | none => s

/-- PARK (spec/02 R40): cause 2 where the word at its address is 0x0000. DEDUCED, assumption log 58. -/
def State.doPark (s : State) (e t : Nat) (pc : Word) : State :=
  s.park e t (if s.codeWord e t pc = 0 then 2 else 1)

/-! ### Custom instructions (spec/04 R113 to R118) -/

/-- A register selector with the instruction's operands (R115). -/
def selReg (x a b c : Nat) : Nat :=
  if x < 16 then x else if x = 16 then a else if x = 17 then b else if x = 18 then c else 0

/-- A micro-op: an instruction, a local load or store, one whose base names no segment, or a reserved one. -/
inductive Micro where
  | op (o : Op)
  | access (o : Op)
  | badLoad (z : Size) (d : Nat)
  | badStore
  | reserved
deriving DecidableEq, Repr

/-- A local access (R116, R117). -/
def localMicro (store : Bool) (o d b imm : Nat) : Micro :=
  let z := if o = 0 then Size.word else .byte
  if 2 ≤ o then .reserved
  else if 8 ≤ b then .access (if store then .store z d (b - 8) (z.bytes * imm) else .load z d (b - 8) (z.bytes * imm))
  else if store then .badStore else .badLoad z d

/-- A long-op start (R116). -/
def longMicro (o d b : Nat) : Micro :=
  match o with
  | 0 => .op (.mul .mul d b)
  | 1 => .op (.mul .mulu d b)
  | 2 => .op (.mul .mulq d b)
  | 3 => .op (.mac false 0 d b)
  | 4 => .op (.mac false 1 d b)
  | 5 => .op (.mac true 0 d b)
  | 6 => .op (.mac true 1 d b)
  | 7 => .op (.cordic .sincos d 0)
  | 8 => .op (.cordic .atan2 d b)
  | 9 => .op (.cordic .mag d b)
  | _ => .reserved

/-- A micro-op word with the operands of its instruction (R113, R115, R116). -/
def microOf (u : BitVec 32) (a b c : Nat) : Micro :=
  let o := F.engUop.op.get u
  let d := selReg (F.engUop.d.get u) a b c
  let x := selReg (F.engUop.s.get u) a b c
  let imm := F.engUop.imm.get u
  match F.engUop.kind.get u with
  | 0 => .op (.alu (aluOf o) d x)
  | 1 => if o < 4 then .op (.shift (shiftOf o) d (imm % 16)) else .reserved
  | 2 => match o with
    | 0 => .op (.alu .mov d x)
    | 1 => .op (.movi d (sext 6 imm))
    | 2 => if imm % 16 < 10 then .op (.lrd (.half (imm % 16) d)) else .reserved
    | _ => .reserved
  | 3 => localMicro false o d x imm
  | 4 => localMicro true o d x imm
  | 5 => longMicro o d x
  | _ => .reserved

/-- The instruction a micro-op behaves as, for its hazards and its poison; a local access whose base names no segment
register has neither (R117). DESIGN CHOICE, assumption log 124. -/
def Micro.asOp : Micro → Op
  | .op o => o
  | .access o => o
  | _ => .reserved 1

/-! ### All instructions -/

/-- A reserved encoding (spec/04 R110). -/
def State.doReserved (s : State) (e t : Nat) : State := s.violate (.thread e t) 0 0 false

/-- The effect of an instruction at `pc`, with `next` the address after it. A custom instruction is in
`performCust`. -/
def State.runOp (s : State) (e t : Nat) (o : Op) (loc : Bool) (pc next : Word) : Done :=
  let r := s.regsOf e t
  match o with
  | .alu o a b => .ok (s.doAlu e t o a b)
  | .movi d i => .ok (s.doMovi e t d i)
  | .addi d i => .ok (s.doAddi e t d i)
  | .shift o d n => .ok (s.doShift e t o d n)
  | .cmpi o d i => .ok (s.doCmpi e t o d i)
  | .load z d k off => s.doLoad e t loc z d k off
  | .store z d k off => s.doStore e t loc z d k off
  | .branch c a b off => branchTo s (condHolds c (r.get a) (r.get b)) pc off
  | .branchI c a i off => branchTo s (condIHolds c (r.get a) i) pc off
  | .bz nz a off => branchTo s (if nz then r.get a != 0 else r.get a == 0) pc off
  | .mul o a b => .ok (s.doMul e t o a b)
  | .mac m n a b => .ok (s.doMac e t m n a b)
  | .scl n i => .ok (s.doScl e t n i)
  | .aclr n => .ok (s.doAclr e t n)
  | .aset n dn => .ok (s.doAset e t n dn)
  | .div g dn b => s.doDiv e t g dn b
  | .sqrt dn => s.doSqrt e t dn
  | .cordic o a b => s.doCordic e t o a b
  | .lrd f => .ok (s.doLrd e t f)
  | .rep u c => s.doRep e t u c next
  | .wait d m => s.doWait e t d m pc
  | .fence => s.drainThen e t .fence
  | .lock d k => s.doLock e t d k
  | .unlock d k => s.doUnlock e t d k
  | .log c dn => .ok (s.doLog e t c dn)
  | .mfs d sr => .ok (s.doMfs e t d sr pc)
  | .mts sr a => s.doMts e t sr a next
  | .slotswap => s.doSlotswap e t
  | .checkpoint => .ok (s.doCheckpoint e t next)
  | .park => .ok (s.doPark e t pc)
  | .cust .. => .ok (s.doReserved e t)
  | .reserved _ => .ok (s.doReserved e t)

/-- One micro-op in its slot (spec/04 R117, R118). -/
def State.performMicro (s : State) (e t : Nat) (m : Micro) (pc : Word) : Done :=
  match m with
  | .op o => s.runOp e t o false pc pc
  | .access o => s.runOp e t o true pc pc
  | .badLoad z d => .next (s.violate (.thread e t) 0 0 false) (some (zeroLoad z d)) none
  | .badStore => .ok (s.violate (.thread e t) 0 0 true)
  | .reserved => .ok (s.doReserved e t)

/-! ### Hazards and poison -/

/-- A register of `l` is the destination of a load that has not completed (spec/02 R45). -/
def Thread.loadHazard (x : Thread) (l : List Nat) : Bool :=
  x.loads.any fun y => !y.fresh && !y.complete && y.dests.any fun d => d.1 != 0 && l.contains d.1

/-- The register an LRD reads. -/
def lrdReg : LrdForm → LongReg
  | .half src _ => if src < 2 then .mr else if src < 4 then .ir else if src < 7 then .acc0 else .acc1
  | .pair src _ => if src = 0 then .mr else if src = 1 then .ir else if src = 2 then .acc0 else .acc1

/-- An instruction waits for a long operation of its thread (spec/02 R42, R44). -/
def Thread.longHazard (x : Thread) : Op → Bool
  | .lrd f => (x.mul.any fun o => o.reg == lrdReg f) || (lrdReg f == .ir && x.iter.isSome)
  | .mul .. => !x.mul.isEmpty
  | .scl .. => !x.mul.isEmpty
  | .aclr _ => !x.mul.isEmpty
  | .aset .. => !x.mul.isEmpty
  | .mac _ n _ _ => !(x.mul.all fun o => o.mac && o.reg == accOf n)
  | .div .. => x.iter.isSome
  | .sqrt _ => x.iter.isSome
  | .cordic .. => x.iter.isSome
  | _ => false

/-- The thread stalls before the instruction (spec/02 R58). -/
def Thread.hazard (x : Thread) (o : Op) : Bool := x.loadHazard o.reads || x.longHazard o

/-- The poison bit of a register of the pairing test. -/
def Regs.poisonOf (r : Regs) (k : Nat) : Bool :=
  if k < 16 then r.poison k else if k = 16 then r.acc0p else r.acc1p

/-- The instruction reads a general register whose parity is wrong (spec/05 R142, spec/14 R356 code 2). -/
def Thread.parityError (x : Thread) (o : Op) : Bool := o.reads.any fun k => k != 0 && x.flipped.contains k

/-- The instruction consumes poison (spec/05 R141). -/
def Thread.bites (x : Thread) (o : Op) : Bool := o.consumes.any x.regs.poisonOf

end Sys2Proof.Machine
end

