-- ==== Sys2Proof/Machine/Issue.lean ====
section
/-! DEFINITION. The issue of an instruction (spec/02): who may issue, the fetch, stalls, poison, pairing and the
commands that wait for a boundary; the repetitions of a prefix (spec/03 R87 to R90) and the micro-ops of a custom
instruction (spec/04 R118). -/

namespace Sys2Proof.Machine

/-! ### Who may issue -/

/-- An enabled breakpoint of engine `e` stands at address `pc` of thread `t` (spec/18 R486). -/
def State.breakAt (s : State) (e t : Nat) (pc : Word) (i : Nat) : Bool :=
  s.bit (.engBp e i) F.engBp.en && (s.bit (.engBp e i) F.engBp.allt || s.fld (.engBp e i) F.engBp.thread == t) &&
  s.fld (.engBp e i) F.engBp.addr == pc.toNat

/-- A breakpoint must take the thread first (spec/18 R486): at each address once, and before the first repetition
of a sequence only. DEDUCED, assumption log 70. -/
def State.breaks (s : State) (e t : Nat) : Bool :=
  let x := s.thread e t
  !x.bpSkip && (match x.rep with
    | some r => !r.started
    | none => true) && x.cust.isNone && (List.range 8).any (s.breakAt e t x.pc)

/-- Entry `i` of the active slot map (spec/02 R25). -/
def State.slotEntry (s : State) (e i : Nat) : Nat :=
  let map := if s.bit (.engStat e) F.engStat.activeMap then Reg.engSmapB e else Reg.engSmapA e
  (s.rd (map (i / 4))).toNat / 2 ^ (8 * (i % 4)) % 64

/-- A slot of the active map holds this entry. -/
def State.slotNamed (s : State) (e n : Nat) : Bool := (List.range 64).any fun i => s.slotEntry e i == n

/-- The thread to which a BOOST slot goes with the engine's BOOST pointer at `ptr` (spec/02 R31). -/
def State.boostWinner (s : State) (e ptr : Nat) : Option Nat :=
  let x := s.engine e
  let prio := fun t => ((x.boosted.find? fun y => y.1 == t).map (·.2)).getD 0
  arbitrate 32 ptr prio (x.boosted.map (·.1))

/-- The thread uses a slot of its own (spec/02 R26): it is READY or DIVERTED, and no debug halt, breakpoint or poisoned
store comes first. -/
def State.able (s : State) (e t : Nat) : Bool :=
  let x := s.thread e t
  x.issues && (!x.halted || x.stepping) && !(x.bite && x.atBoundary) && !s.breaks e t

/-- The slots from slot `i` on pass in order, `n` of them at most, up to the first whose thread uses it (spec/02 R24 to
R26): the slot behind it and the thread, or none; `ptr` is the BOOST pointer, which every BOOST slot moves past its winner
(R31). -/
def State.walk (s : State) (e : Nat) : Nat → Nat → Nat → Nat × Nat × Option Nat
  | 0, i, ptr => (i, ptr, none)
  | n + 1, i, ptr =>
    let k := s.slotEntry e i
    if k < 32 then if s.able e k then (i + 1, ptr, some k) else s.walk e n (i + 1) ptr
    else match if k = 33 then s.boostWinner e ptr else none with
      | none => s.walk e n (i + 1) ptr
      | some t => if s.able e t then (i + 1, (t + 1) % 32, some t) else s.walk e n (i + 1) ((t + 1) % 32)

/-- What is left of the engine's rotation, up to the next slot that is used. -/
def State.nextSlot (s : State) (e : Nat) : Nat × Nat × Option Nat :=
  s.walk e (64 - (s.engine e).slot) (s.engine e).slot (s.engine e).boostPtr

/-- The thread whose instruction comes next: the second of a pair in the slot of the first (spec/02 R32), else that of the
thread to which the next slot that is used goes. DEDUCED, assumption log 68. -/
def State.turn (s : State) (e : Nat) : Option Nat :=
  match allThreads.find? fun t => (s.thread e t).midPair with
  | some t => some t
  | none => (s.nextSlot e).2.2

/-- The thread issues now (spec/02 R24 to R31, R512): its engine is ON, or completing a sequence before it stops, the
thread uses its slots, and the next one is its own. -/
def State.canIssue (s : State) (e t : Nat) : Bool :=
  decide (e < 9 ∧ t < 32) && !s.asleep &&
  (s.fld (.engStat e) F.engStat.state == lifeOn || s.fld (.engStat e) F.engStat.state == 3) &&
  s.able e t && s.turn e == some t

/-- The thread takes its slot, and the slots before it have passed (spec/02 R24); the second instruction of a pair has the
slot of the first. -/
def State.useSlot (s : State) (e t : Nat) : State :=
  if (s.thread e t).midPair then s
  else s.modEngine e fun x => { x with slot := (s.nextSlot e).1, boostPtr := (s.nextSlot e).2.1, slotAt := s.ticks }

/-! ### Boundaries -/

/-- The code of a thread reset that waits for its thread's boundary (spec/18 R483). -/
def cmdReset : Nat := 10

/-- A command applies at the boundary (spec/05 R125, R126): DECLARE faults a READY or DIVERTED thread; a thread reset
invalidates the thread's records (spec/14 R370). DEDUCED, assumption log 71. -/
def State.applyCmd (s : State) (e t cmd : Nat) : State :=
  if cmd = 6 then (if (s.thread e t).issues then s.threadFault e t 5 8 else s)
  else if cmd = cmdReset then (s.resetThread e t).modThread e t fun x => { x with ck := [], rolled := false }
  else s.threadCmd e t cmd

/-- What waits for the thread's boundary happens there: the end of a STEP, a HALT, and the commands in the order
they were granted (spec/05 R126, spec/18 R487). DEDUCED, assumption log 53. -/
def State.boundary (s : State) (e t : Nat) : State :=
  let x := s.thread e t
  if !x.atBoundary then s
  else
    let s := if x.rep.isSome then s else s.setThread e t
      { x with stepping := false, haltReq := false, halted := x.halted || x.haltReq }
    let l := (s.thread e t).cmdQueue
    if l.isEmpty then s
    else l.foldl (fun s c => s.applyCmd e t c) (s.modThread e t fun x => { x with cmdQueue := [], pair := none })

/-- A command to a thread (R126, R127): at its boundary at once. -/
def State.orderThread (s : State) (e t cmd : Nat) : State :=
  if (s.thread e t).atBoundary && (s.thread e t).cmdQueue.isEmpty then s.applyCmd e t cmd
  else s.modThread e t fun x => { x with cmdQueue := x.cmdQueue ++ [cmd] }

/-! ### The end of a slot -/

/-- Loads age by one instruction (spec/02 R45): those complete are written. -/
def Thread.age (x : Thread) : Thread :=
  let l := x.loads.map fun y => { y with fresh := false }
  (l.filter fun y => y.complete).foldl Thread.takeLoad { x with loads := l.filter fun y => !y.complete }

/-- The slot passes without issue (spec/02 R58); that of a first instruction whose second stalls has seen its issue. -/
def State.stallSlot (s : State) (e t : Nat) : State :=
  let second := (s.thread e t).midPair
  let s := s.modThread e t fun x => { x with pair := none, midPair := false }
  (if second then s else s.incWrap (.engStallcnt e) F.engStallcnt.stall).boundary e t

/-- The issue is counted as the second of a pair, or as the first instruction of a slot, whose partner is looked for
(spec/02 R32 to R34, R63). An instruction directly after a load is the first of no pair (R33).
DESIGN CHOICE, assumption log 9 and 57. DEDUCED, assumption log 59. -/
def State.countIssue (s : State) (e t : Nat) (o : Op) (pc : Word) : State :=
  let x := s.thread e t
  let paired := match x.pair with
    | some p => pairsWith p o pc false
    | none => false
  if paired then
    (s.modThread e t fun x => { x with pair := none, midPair := false }).incWrap (.engPaircnt e) F.engPaircnt.pair
  else
    let first := if x.loads.any fun l => l.fresh then none else some (o.asFirst pc)
    let next := pc + BitVec.ofNat 16 o.len
    let more := lineOf next == lineOf pc && match first with
      | some p => pairsWith p (s.codeOp e t next) next false
      | none => false
    (s.modThread e t fun x => { x with pair := first, midPair := more }).incWrap (.engIssuecnt e) F.engIssuecnt.issue

/-- An issue that stands alone is counted. -/
def State.countAlone (s : State) (e t : Nat) : State :=
  (s.modThread e t fun x => { x with pair := none, midPair := false }).incWrap (.engIssuecnt e) F.engIssuecnt.issue

/-- The thread goes on at `pc`: its loads age, a new one is in flight. -/
def State.advance (s : State) (e t : Nat) (l : Option Load) (pc : Word) : State :=
  s.modThread e t fun x =>
    let y := x.age
    { y with loads := y.loads ++ l.toList, pc := pc, bpSkip := false }

/-- The thread no longer waits for an iterator. -/
def State.leaveIter (s : State) (e t : Nat) : State :=
  if (s.engine e).iterWait.contains t then
    s.modEngine e fun x => { x with iterWait := x.iterWait.filter (· != t) }
  else s

/-- A fault of the thread in its slot is a boundary, at which the commands that wait for it apply (spec/05 R126, R127). -/
def State.faultNow (s : State) (e t fcause code : Nat) : State := (s.threadFault e t fcause code).boundary e t

/-- A poison bite (spec/05 R142). The slot counts neither as an issue nor as a stall. DEDUCED, assumption log 71.
DESIGN CHOICE, assumption log 120. -/
def State.biteNow (s : State) (e t : Nat) : State := s.faultNow e t 1 5

/-- A fault of the whole engine that the thread met in its slot: the thread goes FAULTED, its commands apply, and the
engine faults. The slot counts neither as an issue nor as a stall. DESIGN CHOICE, assumption log 120. -/
def State.engineFaultIn (s : State) (e t fcause code : Nat) : State :=
  ((s.enterFaulted e t fcause).boundary e t).engineFault e code

/-- A poisoned near line (spec/02 R40, spec/14 R356 code 3). -/
def State.nearFault (s : State) (e t : Nat) : State := s.engineFaultIn e t 2 3

/-- A parity error of the register file, in the slot of the read (spec/05 R142, spec/14 R356 code 2). -/
def State.parityFault (s : State) (e t : Nat) : State := s.engineFaultIn e t 3 2

/-- A refused fetch parks the thread (spec/02 R39, R40). DEDUCED, assumption log 58. -/
def State.parkFetch (s : State) (e t cause : Nat) : State :=
  ((s.countAlone e t).park e t cause).modThread e t fun x => { x with pc := x.pc + 1 }

/-- The words an instruction at `pc` fetches; between the instructions of a pair its line has been fetched.
DEDUCED, assumption log 59. -/
def State.wordsOf (s : State) (e t : Nat) (o : Op) (pc : Word) : List Word :=
  if (s.thread e t).midPair then []
  else
    let next := pc + BitVec.ofNat 16 o.len
    let skips := match o with
      | .rep u c => decide ((s.regsOf e t).repCount u c = 0)
      | _ => false
    [pc] ++ (if o.len = 2 && lineOf (pc + 1) != lineOf pc then [pc + 1] else []) ++ (if skips then [next] else [])

/-- The fetch of an instruction at `pc`, whose lines still to come are those of `l` (spec/02 R39): a second word that is
refused parks the thread as the first does. DEDUCED, assumption log 58. -/
def State.fetchInstr (s : State) (e t : Nat) (o : Op) (pc : Word) (l : List Word) : Fetch × State :=
  match s.fetchWords e t l with
  | (.ok, s) => match if o.len = 2 then s.fetchRefused e t (pc + 1) else none with
    | some c => (.park c, s)
    | none => (.ok, s)
  | x => x

/-! ### Custom instructions (spec/04 R118) -/

/-- The micro-ops of entry `n`. -/
def State.custLen (s : State) (e n : Nat) : Nat := s.fld (.engCusthdr e n) F.engCusthdr.len

def State.micro (s : State) (e : Nat) (c : Cust) : Micro := microOf (s.rd (.engUop e c.n c.k)) c.a c.b c.c

/-- Where a custom instruction stands after micro-op `k`: at the next, or at its end. -/
def State.custNext (s : State) (e t : Nat) (c : Cust) : State :=
  s.modThread e t fun x => { x with cust := if c.k + 1 < s.custLen e c.n then some { c with k := c.k + 1 } else none }

/-! ### One instruction -/

/-- What an instruction about to issue meets after its fetch: a stall, a bite, or its effect. -/
inductive Attempt where
  | stall (s : State)
  | bite
  | parity
  | done (s : State) (load : Option Load) (pc : Option Word)
deriving DecidableEq, Repr

/-- The hazards of `o`, the parity of what it reads and its poison come before its effect `f`. -/
def State.attempt (s : State) (e t : Nat) (o : Op) (f : Done) : Attempt :=
  if (s.thread e t).hazard o then .stall s
  else if (s.thread e t).parityError o then .parity
  else if (s.thread e t).bites o then .bite
  else match f with
    | .stall s => .stall s
    | .next s l pc => .done s l pc

/-- The slot of an instruction that is not a repetition: `cust` is a custom instruction that begins.
DESIGN CHOICE, assumption log 9. -/
def State.issueOp (s : State) (e t : Nat) (o : Op) : State :=
  let s := s.useSlot e t
  let pc := (s.thread e t).pc
  let next := pc + BitVec.ofNat 16 o.len
  if (s.thread e t).drain.isSome then s.stallSlot e t
  else match s.fetchInstr e t o pc (s.wordsOf e t o pc) with
    | (.stall, s) => s.stallSlot e t
    | (.park c, s) => (s.parkFetch e t c).boundary e t
    | (.nearFault, s) => s.nearFault e t
    | (.ok, s) =>
      match s.attempt e t o (s.runOp e t o false pc next) with
      | .stall s => s.stallSlot e t
      | .bite => s.biteNow e t
      | .parity => s.parityFault e t
      | .done s' l j =>
        let s' := (s'.countIssue e t o pc).advance e t l (j.getD next)
        (s'.leaveIter e t).boundary e t

/-- A custom instruction begins with micro-op 0; the thread stays at its first word until it has ended. -/
def State.issueCust (s : State) (e t : Nat) (c : Cust) : State :=
  let s := s.useSlot e t
  let pc := (s.thread e t).pc
  if (s.thread e t).drain.isSome then s.stallSlot e t
  else match s.fetchInstr e t (.reserved 2) pc (s.wordsOf e t (.reserved 2) pc) with
    | (.stall, s) => s.stallSlot e t
    | (.park n, s) => (s.parkFetch e t n).boundary e t
    | (.nearFault, s) => s.nearFault e t
    | (.ok, s) =>
      match s.attempt e t (s.micro e c).asOp (s.performMicro e t (s.micro e c) pc) with
      | .stall s => s.stallSlot e t
      | .bite => s.biteNow e t
      | .parity => s.parityFault e t
      | .done s' l _ =>
        let s' := (s'.countAlone e t).custNext e t c
        let s' := s'.advance e t l (if (s'.thread e t).cust.isSome then pc else pc + 2)
        (s'.leaveIter e t).boundary e t

/-- The command of an instruction (spec/02 R26): the instruction the thread fetches at its pc issues in its slot. A
thread inside a sequence or a custom instruction goes on by that one's own commands. DESIGN CHOICE, assumption log 9. -/
def State.issue (s : State) (e t : Nat) (o : Op) : Host.Outcome State Fault Refusal :=
  let x := s.thread e t
  s.run (s.canIssue e t && o.wf && x.rep.isNone && x.cust.isNone) fun s => s.issueOp e t o.normal

/-! ### Repetitions (spec/03 R87 to R90) -/

/-- The target executes once whatever the count (R88); of a reserved encoding, for which R88 names no class, so does the
model. DESIGN CHOICE, assumption log 121. -/
def Op.once : Op → Bool
  | .rep .. => true
  | .cust .. => false
  | .load z d k _ => (z.regs d).contains (8 + k)
  | o => o.cls == .b || o.cls == .s

/-- The base advances behind a load or store target (R89). DEDUCED, assumption log 54. -/
def State.advanceBase (s : State) (e t : Nat) : Op → State
  | .load z _ k _ => s.setReg e t (8 + k) ((s.regsOf e t).get (8 + k) + BitVec.ofNat 16 z.bytes) false
  | .store z _ k _ => s.setReg e t (8 + k) ((s.regsOf e t).get (8 + k) + BitVec.ofNat 16 z.bytes) false
  | _ => s

/-- One repetition has executed: the count falls, and the sequence ends at 0 (R90). -/
def State.countRep (s : State) (e t : Nat) (r : Rep) : State :=
  s.modThread e t fun x => { x with rep := if r.count ≤ 1 then none else some { r with count := r.count - 1, started := true } }

/-- A target that executes once is a plain instruction; MFS reads 1 in REPCNT. -/
def State.repOnce (s : State) (e t : Nat) (o : Op) (r : Rep) (pc : Word) : State × Done :=
  let next := pc + BitVec.ofNat 16 o.len
  match o with
  | .mfs _ _ =>
    let s := s.modThread e t fun x => { x with rep := some { r with count := 1 } }
    (s, match s.runOp e t o false pc next with
      | .next s l j => .next (s.modThread e t fun x => { x with rep := none }) l j
      | d => d)
  | _ =>
    let s := s.modThread e t fun x => { x with rep := none }
    (s, match s.runOp e t o false pc next with
      | .next s l j => .next (s.advanceBase e t o) l j
      | d => d)

/-- One repetition of a target that repeats. -/
def State.repMany (s : State) (e t : Nat) (o : Op) (r : Rep) (pc : Word) : Done :=
  match s.runOp e t o false pc pc with
  | .next s l _ => .next ((s.advanceBase e t o).countRep e t r) l (if r.count ≤ 1 then none else some pc)
  | d => d

/-- The slot of one repetition (R87); a target that is a reserved encoding executes once. DESIGN CHOICE, assumption log 121. -/
def State.issueRep (s : State) (e t : Nat) (r : Rep) : State :=
  let s := s.useSlot e t
  let pc := (s.thread e t).pc
  if (s.thread e t).drain.isSome then s.stallSlot e t
  else match s.fetchWords e t [pc] with
    | (.stall, s) => s.stallSlot e t
    | (.park c, s) => (s.parkFetch e t c).boundary e t
    | (.nearFault, s) => s.nearFault e t
    | (.ok, s) =>
      let first := s.codeWord e t pc
      let o := decode14 first 0
      match s.fetchInstr e t o pc ((s.wordsOf e t o pc).drop 1) with
      | (.stall, s) => s.stallSlot e t
      | (.park c, s) => (s.parkFetch e t c).boundary e t
      | (.nearFault, s) => s.nearFault e t
      | (.ok, s) =>
        let o := (decode14 first (s.codeWord e t (pc + 1))).normal
        let next := pc + BitVec.ofNat 16 o.len
        match o with
        | .cust n a b c =>
          if s.custLen e n = 0 then
            let s' := ((s.doReserved e t).countAlone e t).countRep e t r
            (s'.advance e t none (if r.count ≤ 1 then next else pc)).boundary e t
          else
            let m := s.micro e ⟨n, a, b, c, 0⟩
            match s.attempt e t m.asOp (s.performMicro e t m pc) with
            | .stall s => s.stallSlot e t
            | .bite => s.biteNow e t
            | .parity => s.parityFault e t
            | .done s' l _ =>
              let s' := (s'.countAlone e t).custNext e t ⟨n, a, b, c, 0⟩
              let ended := (s'.thread e t).cust.isNone
              let s' := if ended then s'.countRep e t r else s'
              let s' := s'.advance e t l (if ended && decide (r.count ≤ 1) then next else pc)
              (s'.leaveIter e t).boundary e t
        | o =>
          let f := if o.once then (s.repOnce e t o r pc).2 else s.repMany e t o r pc
          match s.attempt e t o f with
          | .stall s' => (if o.once then s'.modThread e t fun x => { x with rep := some r } else s').stallSlot e t
          | .bite => s.biteNow e t
          | .parity => s.parityFault e t
          | .done s' l j =>
            let s' := (s'.countAlone e t).advance e t l (j.getD next)
            (s'.leaveIter e t).boundary e t

/-- One micro-op of a custom instruction after its first (spec/04 R118). -/
def State.issueMicro (s : State) (e t : Nat) (c : Cust) : State :=
  let s := s.useSlot e t
  let pc := (s.thread e t).pc
  match s.attempt e t (s.micro e c).asOp (s.performMicro e t (s.micro e c) pc) with
  | .stall s => s.stallSlot e t
  | .bite => s.biteNow e t
  | .parity => s.parityFault e t
  | .done s' l _ =>
    let s' := (s'.countAlone e t).custNext e t c
    let ended := (s'.thread e t).cust.isNone
    let rep := (s'.thread e t).rep
    let s' := match rep with
      | some r => if ended then s'.countRep e t r else s'
      | none => s'
    let s' := s'.advance e t l (if ended && (s'.thread e t).rep.isNone then pc + 2 else pc)
    (s'.leaveIter e t).boundary e t

/-! ### Commands -/

/-- CUST (spec/04 R118): an empty entry is a reserved encoding (R114). -/
def execCust (e t n ra rb rc : Nat) (s : State) : Host.Outcome State Fault Refusal :=
  let x := s.thread e t
  s.run (s.canIssue e t && (Op.cust n ra rb rc).wf && x.rep.isNone && x.cust.isNone) fun s =>
    if s.custLen e n = 0 then s.issueOp e t (.reserved 2) else s.issueCust e t ⟨n, ra, rb, rc, 0⟩

/-- CUSTOM_MICRO_OP (spec/04 R116 to R118). -/
def execCustomMicroOp (e t : Nat) (s : State) : Host.Outcome State Fault Refusal :=
  match (s.thread e t).cust with
  | some c => s.run (s.canIssue e t) fun s => s.issueMicro e t c
  | none => s.run false id

/-- REPEAT_ITERATION (spec/03 R89). -/
def execRepeatIteration (e t : Nat) (s : State) : Host.Outcome State Fault Refusal :=
  match (s.thread e t).rep with
  | some r => s.run (s.canIssue e t && (s.thread e t).cust.isNone) fun s => s.issueRep e t r
  | none => s.run false id

/-- REP (spec/03 R87). -/
def execRep (e t : Nat) (cnt : RepCount) (s : State) : Host.Outcome State Fault Refusal := s.issue e t (.rep false cnt)

/-- REPI (spec/03 R90). -/
def execRepi (e t : Nat) (cnt : RepCount) (s : State) : Host.Outcome State Fault Refusal := s.issue e t (.rep true cnt)

/-- RESERVED_ENCODING (spec/04 R110). -/
def execReservedEncoding (e t len : Nat) (s : State) : Host.Outcome State Fault Refusal := s.issue e t (.reserved len)

end Sys2Proof.Machine
end

