-- ==== Sys2Proof/Machine/Alu.lean ====
section
/-! DEFINITION. The commands of the register-register ALU and of the short immediates (spec/03 R70 to R73). -/

namespace Sys2Proof.Machine

/-- MOV (R70). -/
def execMov (e t a b : Nat) (s : State) : Host.Outcome State Fault Refusal := s.issue e t (.alu .mov a b)

/-- ADD (R70). -/
def execAdd (e t a b : Nat) (s : State) : Host.Outcome State Fault Refusal := s.issue e t (.alu .add a b)

/-- SUB (R70). -/
def execSub (e t a b : Nat) (s : State) : Host.Outcome State Fault Refusal := s.issue e t (.alu .sub a b)

/-- ADDS (R70). -/
def execAdds (e t a b : Nat) (s : State) : Host.Outcome State Fault Refusal := s.issue e t (.alu .adds a b)

/-- SUBS (R70). -/
def execSubs (e t a b : Nat) (s : State) : Host.Outcome State Fault Refusal := s.issue e t (.alu .subs a b)

/-- AND (R70). -/
def execAndr (e t a b : Nat) (s : State) : Host.Outcome State Fault Refusal := s.issue e t (.alu .and a b)

/-- OR (R70). -/
def execOrr (e t a b : Nat) (s : State) : Host.Outcome State Fault Refusal := s.issue e t (.alu .or a b)

/-- XOR (R70). -/
def execXorr (e t a b : Nat) (s : State) : Host.Outcome State Fault Refusal := s.issue e t (.alu .xor a b)

/-- SHL (R71). -/
def execShl (e t a b : Nat) (s : State) : Host.Outcome State Fault Refusal := s.issue e t (.alu .shl a b)

/-- SHR (R71). -/
def execShr (e t a b : Nat) (s : State) : Host.Outcome State Fault Refusal := s.issue e t (.alu .shr a b)

/-- SAR (R71). -/
def execSar (e t a b : Nat) (s : State) : Host.Outcome State Fault Refusal := s.issue e t (.alu .sar a b)

/-- ROR (R71). -/
def execRor (e t a b : Nat) (s : State) : Host.Outcome State Fault Refusal := s.issue e t (.alu .ror a b)

/-- NEG (R70). -/
def execNeg (e t a b : Nat) (s : State) : Host.Outcome State Fault Refusal := s.issue e t (.alu .neg a b)

/-- NEGS (R70). -/
def execNegs (e t a b : Nat) (s : State) : Host.Outcome State Fault Refusal := s.issue e t (.alu .negs a b)

/-- ABS (R70). -/
def execAbs (e t a b : Nat) (s : State) : Host.Outcome State Fault Refusal := s.issue e t (.alu .abs a b)

/-- ABSS (R70). -/
def execAbss (e t a b : Nat) (s : State) : Host.Outcome State Fault Refusal := s.issue e t (.alu .abss a b)

/-- MOVI (R73). -/
def execMovi (e t rd : Nat) (imm : Int) (s : State) : Host.Outcome State Fault Refusal := s.issue e t (.movi rd imm)

/-- ADDI (R73). -/
def execAddi (e t rd : Nat) (imm : Int) (s : State) : Host.Outcome State Fault Refusal := s.issue e t (.addi rd imm)

/-- SHLI (R73). -/
def execShli (e t rd imm : Nat) (s : State) : Host.Outcome State Fault Refusal := s.issue e t (.shift .shl rd imm)

/-- SHRI (R73). -/
def execShri (e t rd imm : Nat) (s : State) : Host.Outcome State Fault Refusal := s.issue e t (.shift .shr rd imm)

/-- SARI (R73). -/
def execSari (e t rd imm : Nat) (s : State) : Host.Outcome State Fault Refusal := s.issue e t (.shift .sar rd imm)

/-- RORI (R73). -/
def execRori (e t rd imm : Nat) (s : State) : Host.Outcome State Fault Refusal := s.issue e t (.shift .ror rd imm)

/-- SEQI (R73). -/
def execSeqi (e t rd : Nat) (imm : Int) (s : State) : Host.Outcome State Fault Refusal :=
  s.issue e t (.cmpi .seq rd imm)

/-- SNEI (R73). -/
def execSnei (e t rd : Nat) (imm : Int) (s : State) : Host.Outcome State Fault Refusal :=
  s.issue e t (.cmpi .sne rd imm)

/-- SLTI (R73). -/
def execSlti (e t rd : Nat) (imm : Int) (s : State) : Host.Outcome State Fault Refusal :=
  s.issue e t (.cmpi .slt rd imm)

/-- SLTUI (R73). -/
def execSltui (e t rd imm : Nat) (s : State) : Host.Outcome State Fault Refusal := s.issue e t (.cmpi .sltu rd imm)

end Sys2Proof.Machine
end

