-- ==== Sys2Proof/Machine/Engine.lean ====
section
/-! DEFINITION. Engines beside the issue of instructions: the rotation and its maps (spec/02 R24 to R31), the
instruction cache (R37, R38), the completion of loads and long operations (R41 to R45), the thread commands (spec/05
R126, R129), and the writes of the engine windows. -/

namespace Sys2Proof.Machine

/-! ### The rotation -/

/-- ROTATION_BOUNDARY (R24, R28, R31): no slot that a thread uses is left; a pending swap exchanges the maps, and the
boosted threads are sampled. -/
def execRotationBoundary (e : Nat) (s : State) : Host.Outcome State Fault Refusal :=
  s.run (decide (e < 9) && (s.fld (.engStat e) F.engStat.state == lifeOn || s.fld (.engStat e) F.engStat.state == 3) &&
      !s.asleep && !s.resting e && s.turn e == none) fun s =>
    let ptr := (s.nextSlot e).2.1
    let s := s.incWrap (.engRotcnt e) F.engRotcnt.rot
    let s := if s.bit (.engCtrl e) F.engCtrl.swap then
        (s.setFld (.engCtrl e) F.engCtrl.swap 0).setFld (.engStat e) F.engStat.activeMap
          (1 - s.fld (.engStat e) F.engStat.activeMap)
      else s
    s.modEngine e fun x => { x with slot := 0, boostPtr := ptr, boosted := s.inheriting e }

/-- Every line of the cache and of the line buffers is invalid; a miss outstanding will not be installed (R37). -/
def State.invalidate (s : State) (e : Nat) : State :=
  let s := s.modEngine e fun x => { x with icache := [] }
  allThreads.foldl (fun s t => s.modThread e t fun x => { x with lineBuf := none, missStale := x.miss.isSome }) s

/-- ENG_CTRL (R28, R29, R37, R61, R512). In SLEEP an engine is gated: EN decides at the wake (spec/18 R482).
DEDUCED, assumption log 72. -/
def writeEngCtrl (s : State) (w : Wr) (e : Nat) : State × Bool :=
  let r := Reg.engCtrl e
  let s := if s.wrote1 w r F.engCtrl.swap then s.setFld r F.engCtrl.swap 1 else s
  let s := if s.wrote1 w r F.engCtrl.icinv then (s.setFld r F.engCtrl.icinv 1).invalidate e else s
  if s.may w r F.engCtrl.en && w.any F.engCtrl.en then
    if s.asleep then (s.take w r F.engCtrl.en, false)
    else (s.moveEngine e ((s.engLife e).request (w.bits F.engCtrl.en)), false)
  else (s, false)

/-- A write of ENG_CTRL. -/
def execEngCtrl (w : Who) (e : Nat) (d : BitVec 32) (strb : BitVec 4) (s : State) : Host.Outcome State Fault Refusal :=
  let x : Wr := ⟨w, (Reg.engCtrl e).key, d, strb⟩
  s.run (decide (e < 9)) fun s => s.access x (.engCtrl e) fun s => writeEngCtrl s x e

/-- SWAP (R28). -/
def execSwap (w : Who) (e : Nat) (d : BitVec 32) (strb : BitVec 4) (s : State) : Host.Outcome State Fault Refusal :=
  execEngCtrl w e d strb s

/-- ICINV (R37). -/
def execIcinv (w : Who) (e : Nat) (d : BitVec 32) (strb : BitVec 4) (s : State) : Host.Outcome State Fault Refusal :=
  execEngCtrl w e d strb s

/-- ENG_EN_WRITE (R512). -/
def execEngEnWrite (w : Who) (e : Nat) (d : BitVec 32) (strb : BitVec 4) (s : State) :
    Host.Outcome State Fault Refusal := execEngCtrl w e d strb s

/-- ICACHE_INVALIDATE_DONE (R37). -/
def execIcacheInvalidateDone (e : Nat) (s : State) : Host.Outcome State Fault Refusal :=
  s.run (decide (e < 9) && s.bit (.engCtrl e) F.engCtrl.icinv) fun s => s.setFld (.engCtrl e) F.engCtrl.icinv 0

/-- ENG_SMAPA and ENG_SMAPB (R29): the active map ignores every write, the shadow map while a swap is pending.
DEDUCED, assumption log 69. -/
def writeEngSmap (s : State) (w : Wr) (e : Nat) (mapB : Bool) (r : Reg) : State × Bool :=
  let ok := s.bit (.engStat e) F.engStat.activeMap != mapB && !s.bit (.engCtrl e) F.engCtrl.swap
  if ok then ((s.takeAll w r r.fields).copyThrough e, false)
  else (s, r.fields.any fun f => s.may w r f && w.any f)

/-- ENG_TCSEG, ENG_TFETCH and ENG_FARBASE take their writes (R63, R65). -/
def writeFetchReg (s : State) (w : Wr) (e : Nat) (r : Reg) : State × Bool := ((s.plainWrite w r).1.copyThrough e, false)

/-! ### Far fetches (R37, R38) -/

/-- A line enters the cache, before the most recently used way of its set. -/
def State.install (s : State) (e la : Nat) (d : BitVec 64) : State :=
  let ways := ((SMap.get (s.engine e).icache (la % 256) []).filter fun y => y.line != la).take 1
  s.modEngine e fun x => { x with icache := SMap.put x.icache (la % 256) (⟨la, d, 0⟩ :: ways) [] }

/-- The far line of a miss has been read (R38): it goes to the cache and the thread's buffer; a poisoned one faults
the thread (R40, spec/14 R356 code 6). -/
def State.deliverLine (s : State) (e t la : Nat) : State :=
  let s := s.modThread e t fun x => { x with miss := none, missStale := false }
  let x := s.readWord (s.poolPhys (s.farAddr e la))
  if x.2.1 then (if (x.2.2.thread e t).issues then x.2.2.faultNow e t 2 6 else x.2.2)
  else (x.2.2.install e la x.1).modThread e t fun y => { y with lineBuf := some ⟨la, x.1, 0⟩ }

/-- FAR_FETCH_LINE_DELIVERED (R38): a stale miss, and one whose line the Pool no longer has in service, ends
without a line and is fetched again. DEDUCED, assumption log 67. -/
def execFarFetchLineDelivered (e t : Nat) (s : State) : Host.Outcome State Fault Refusal :=
  match (s.thread e t).miss with
  | none => s.run false id
  | some la => s.run (decide (e < 9 ∧ t < 32)) fun s =>
    let a := s.farAddr e la
    if (s.thread e t).missStale || !inPool a || (s.slotPhys (poolSlot a) (slotWord a)).isNone ||
        s.fld (.memBstat (poolSlot a)) F.memBstat.state != lifeOn then
      s.modThread e t fun x => { x with miss := none, missStale := false }
    else s.deliverLine e t la

/-! ### Completions -/

/-- The oldest load that has not completed does (R45, R46): its registers are written unless the instruction
directly behind it is still to come. -/
def completeLoad (x : Thread) : List Load → Thread × List Load
  | [] => (x, [])
  | l :: ls =>
    if l.complete then ((completeLoad x ls).1, l :: (completeLoad x ls).2)
    else if l.fresh then (x, { l with complete := true } :: ls)
    else (x.takeLoad l, ls)

/-- LOAD_COMPLETE (R45). -/
def execLoadComplete (e t : Nat) (s : State) : Host.Outcome State Fault Refusal :=
  s.run (decide (e < 9 ∧ t < 32) && (s.thread e t).loads.any fun l => !l.complete) fun s =>
    s.modThread e t fun x => { (completeLoad x x.loads).1 with loads := (completeLoad x x.loads).2 }

/-- The newest record of a thread, where it is not usable yet, has one thing less to wait for (spec/14 R370). -/
def Thread.ckLess (x : Thread) (f : CkRecord → CkRecord) : Thread :=
  match x.ck with
  | c :: l => if c.usable then x else { x with ck := f c :: l }
  | [] => x

/-- The oldest operation of the multiply pipe completes. -/
def Thread.completeMul (x : Thread) : Thread :=
  match x.mul with
  | [] => x
  | o :: l => Thread.ckLess { x with regs := x.regs.longResult o, mul := l } fun c => { c with muls := c.muls - 1 }

/-- The iterator of the thread completes. -/
def Thread.completeIter (x : Thread) : Thread :=
  match x.iter with
  | none => x
  | some o => Thread.ckLess { x with regs := x.regs.longResult o, iter := none } fun c => { c with iters := c.iters - 1 }

/-- LONG_OP_COMPLETE (R41): pipe 0 is the multiply pipe, 1 the thread's iterator. -/
def execLongOpComplete (e t pipe : Nat) (s : State) : Host.Outcome State Fault Refusal :=
  s.run (decide (e < 9 ∧ t < 32)) fun s =>
    if pipe = 0 then s.modThread e t Thread.completeMul
    else if pipe = 1 then s.modThread e t Thread.completeIter
    else s

/-- POISONED_STORE_FAULT (spec/05 R143). DEDUCED, assumption log 71. -/
def execPoisonedStoreFault (e t : Nat) (s : State) : Host.Outcome State Fault Refusal :=
  let x := s.thread e t
  s.run (decide (e < 9 ∧ t < 32) && x.bite && x.atBoundary && x.issues) fun s => s.faultNow e t 1 5

/-! ### Thread status and commands (spec/05 R126 to R129) -/

/-- ENG_TSTATE: PRIV and PRIO change only in a PARKED or QUIESCED thread, PRIV to 2 only from secure writers (R129);
CMD acts whether or not they do. -/
def writeEngTstate (s : State) (w : Wr) (e t : Nat) : State × Bool :=
  let r := Reg.engTstate e t
  let x := s.thread e t
  let old := s.readEngTstate e t
  let prio := w.val F.engTstate.prio old
  let priv := w.val F.engTstate.priv old
  let change := s.may w r F.engTstate.prio && (prio != x.prio || priv != x.priv)
  let ok := (x.st == .parked || x.st == .quiesced) && priv != 3 &&
    (priv != 2 || x.priv == 2 || (s.rights w.who).isSecure)
  let s := if change && ok then (s.setThread e t { x with prio := prio, priv := priv }).copyThrough e else s
  let s := if s.may w r F.engTstate.cmd && w.full F.engTstate.cmd then s.orderThread e t (w.bits F.engTstate.cmd) else s
  (s, change && !ok)

/-- A write of ENG_TSTATE. -/
def execTstate (w : Who) (e t : Nat) (d : BitVec 32) (strb : BitVec 4) (s : State) : Host.Outcome State Fault Refusal :=
  let x : Wr := ⟨w, (Reg.engTstate e t).key, d, strb⟩
  s.run (decide (e < 9 ∧ t < 32)) fun s => s.access x (.engTstate e t) fun s => writeEngTstate s x e t

/-- THREAD_CMD_PARK (R126). -/
def execThreadCmdPark (w : Who) (e t : Nat) (d : BitVec 32) (strb : BitVec 4) (s : State) :
    Host.Outcome State Fault Refusal := execTstate w e t d strb s

/-- THREAD_CMD_RESUME (R126). -/
def execThreadCmdResume (w : Who) (e t : Nat) (d : BitVec 32) (strb : BitVec 4) (s : State) :
    Host.Outcome State Fault Refusal := execTstate w e t d strb s

/-- THREAD_CMD_QUIESCE (R126). -/
def execThreadCmdQuiesce (w : Who) (e t : Nat) (d : BitVec 32) (strb : BitVec 4) (s : State) :
    Host.Outcome State Fault Refusal := execTstate w e t d strb s

/-- THREAD_CMD_RELEASE (R126). -/
def execThreadCmdRelease (w : Who) (e t : Nat) (d : BitVec 32) (strb : BitVec 4) (s : State) :
    Host.Outcome State Fault Refusal := execTstate w e t d strb s

/-- THREAD_CMD_CLRVIOL (R126). -/
def execThreadCmdClrviol (w : Who) (e t : Nat) (d : BitVec 32) (strb : BitVec 4) (s : State) :
    Host.Outcome State Fault Refusal := execTstate w e t d strb s

/-- THREAD_CMD_DECLARE (R126). -/
def execThreadCmdDeclare (w : Who) (e t : Nat) (d : BitVec 32) (strb : BitVec 4) (s : State) :
    Host.Outcome State Fault Refusal := execTstate w e t d strb s

/-! ### The decode table (spec/04 R113, R122) -/

/-- Every thread of the engine is QUIESCED or PARKED, and no custom instruction is in progress. -/
def State.tableIdle (s : State) (e : Nat) : Bool :=
  allThreads.all fun t =>
    ((s.thread e t).st == .quiesced || (s.thread e t).st == .parked) && (s.thread e t).cust.isNone

/-- ENG_UOP (R122). -/
def writeEngUop (s : State) (w : Wr) (e : Nat) (r : Reg) : State × Bool :=
  let x := r.fields.foldl (fun x f => State.takeIf (s.tableIdle e) x w r f) (s, false)
  (if x.2 then x.1 else x.1.copyThrough e, x.2)

/-- ENG_CUSTHDR (R122): a LEN above 8 is refused. -/
def writeEngCusthdr (s : State) (w : Wr) (e n : Nat) : State × Bool :=
  let r := Reg.engCusthdr e n
  let x := State.takeIf (s.tableIdle e && decide (w.val F.engCusthdr.len (s.rd r) ≤ 8)) (s, false) w r F.engCusthdr.len
  (if x.2 then x.1 else x.1.copyThrough e, x.2)

/-- The register at an offset of the decode table (R113). -/
def tableReg (e off : Nat) : Option Reg :=
  if 0xC00 ≤ off ∧ off < 0xE00 then some (.engUop e ((off - 0xC00) / 32) ((off - 0xC00) % 32 / 4))
  else if 0xE00 ≤ off ∧ off < 0xE40 then some (.engCusthdr e ((off - 0xE00) / 4))
  else none

/-- A write of a decode table register. -/
def writeTable (s : State) (w : Wr) (e : Nat) (r : Reg) : State × Bool :=
  match r with
  | .engCusthdr _ n => writeEngCusthdr s w e n
  | r => writeEngUop s w e r

/-- DECODE_TABLE_WRITE (R122): `off` is the register's offset in the engine window. -/
def execDecodeTableWrite (w : Who) (e off : Nat) (d : BitVec 32) (strb : BitVec 4) (s : State) :
    Host.Outcome State Fault Refusal :=
  match tableReg e off with
  | none => s.run false id
  | some r =>
    let x : Wr := ⟨w, r.key, d, strb⟩
    s.run (decide (e < 9)) fun s => s.access x r fun s => writeTable s x e r

end Sys2Proof.Machine
end

