-- ==== Sys2Proof/Machine/Power.lean ====
section
/-! DEFINITION. The power states (spec/18 R478 to R482), the power handshake (spec/16 R450), and the thread, engine
and lane resets (spec/18 R483 to R485). -/

namespace Sys2Proof.Machine

/-! ### DOZE (R479) -/

/-- ENG_PWRSTAT.STATE. -/
def State.powerState (s : State) : Nat := s.fld .engPwrstat F.engPwrstat.state

/-- Every engine rests, or is OFF. DEDUCED, assumption log 50. -/
def State.allRest (s : State) : Bool :=
  allEngines.all fun e => s.fld (.engStat e) F.engStat.state == 0 || s.resting e

/-- No request to the power controller is in progress or waits. -/
def State.powerIdle (s : State) : Bool := !s.ports.pwrReq && !s.ports.pwrAck && s.power.next.isNone

/-- A tick begins: since when every engine has been at rest (R479). -/
def State.watchRest (s : State) : State :=
  let since := if s.allRest then some (s.power.restAt.getD s.ticks) else none
  if since = s.power.restAt then s else s.setPower { s.power with restAt := since }

/-- Every engine has rested continuously for DOZEDLY µs, 0 acting as 1 (R479). While the shore is stopped no time passes.
DEDUCED, assumption log 51. -/
def State.restedLong (s : State) : Bool :=
  let n := 800 * max 1 (s.fld .engPwr F.engPwr.dozedly)
  s.allRest && (allEngines.all fun e => (s.engine e).slotAt == 0 || decide ((s.engine e).slotAt + n ≤ s.ticks)) &&
    match s.power.restAt with
    | some a => decide (a + n ≤ s.ticks)
    | none => false

/-- DOZE_ENTRY (R479). -/
def execDozeEntry (s : State) : Host.Outcome State Fault Refusal :=
  s.run (s.booted && s.bit .engPwr F.engPwr.dozeEn && s.powerState == 0 && s.restedLong && s.power.stage == 0 &&
      !s.power.waking && s.powerIdle) fun s => s.requestPower 1

/-- A request for RUN is made or waits already. -/
def State.runAsked (s : State) : Bool := s.power.next == some 0 || (s.ports.pwrReq && s.ports.pwrTgt == 0)

/-- DOZE_EXIT (R479). -/
def execDozeExit (s : State) : Host.Outcome State Fault Refusal :=
  s.run ((s.powerState == 1 || (s.ports.pwrReq && s.ports.pwrTgt == 1)) && !s.allRest && !s.runAsked) fun s =>
    s.requestPower 0

/-! ### SLEEP (R480) -/

/-- An engine goes to its gated OFF, from STARTING or STOPPING as from ON; EN stays (R478, R480). -/
def State.gateEngine (s : State) (e : Nat) : State :=
  if (s.engLife e).st = 0 then s else s.setEngLife e { s.engLife e with st := 0, pend := 0 }

/-- One step of SLEEP entry, where it is due (R480). DESIGN CHOICE, assumption log 74. -/
def State.sleepStep (s : State) : State :=
  match s.power.stage with
  | 1 =>
    if s.cont.takeover.isSome || s.fld .engRollstat F.engRollstat.phase == 4 then s
    else (allEngines.foldl State.quiesceEngine s.endRoll).setPower { s.power with stage := 2 }
  | 2 =>
    if allEngines.all (fun e => s.engineQuiet e) && (List.range 32).all fun n => (s.bankLife n).st != 1 then
      let s := allEngines.foldl State.gateEngine s
      let s := (List.range 32).foldl (fun s n =>
        let l := s.bankLife n
        if l.en = 1 ∧ l.st = lifeOn then s.moveBank n { l with st := 3 } else s) s
      (s.setPorts { s.ports with retReq := s.ports.retReq ||| BitVec.ofNat 35 (2 ^ 34) }).setPower { s.power with stage := 3 }
    else s
  | 3 =>
    if (List.range 32).all (fun n => (s.bankLife n).st == 0) && s.ports.retAck.getLsbD 34 then
      (s.setPower { s.power with stage := 4 }).requestPower 2
    else s
  | _ => s

/-- As many steps as are due. DESIGN CHOICE, assumption log 74. -/
def State.sleepAdvance (s : State) : State := s.sleepStep.sleepStep.sleepStep

/-- ENG_PWR (R480, R481, R493). -/
def writeEngPwr (s : State) (w : Wr) : State × Bool :=
  let r := Reg.engPwr
  let s := s.takeAll w r [F.engPwr.sleepKeepTime, F.engPwr.dozeEn, F.engPwr.dozedly]
  let s := if s.wrote1 w r F.engPwr.sleepreq && s.booted && s.powerState != 2 && s.power.stage == 0 && !s.power.waking then
      ((s.setFld r F.engPwr.sleepreq 1).setPower { s.power with stage := 1 }).sleepAdvance
    else s
  (if s.wrote1 w r F.engPwr.wake then s.wakeBlock 3 0 else s, false)

/-- A write of ENG_PWR. -/
def execEngPwr (w : Who) (d : BitVec 32) (strb : BitVec 4) (s : State) : Host.Outcome State Fault Refusal :=
  let x : Wr := ⟨w, (Reg.engPwr).key, d, strb⟩
  s.run true fun s => s.access x .engPwr fun s => writeEngPwr s x

/-- SLEEP_REQUEST (R480). -/
def execSleepRequest (w : Who) (d : BitVec 32) (strb : BitVec 4) (s : State) : Host.Outcome State Fault Refusal :=
  execEngPwr w d strb s

/-- WAKE (R481). DEDUCED, assumption log 28. -/
def execWake (w : Who) (d : BitVec 32) (strb : BitVec 4) (s : State) : Host.Outcome State Fault Refusal :=
  execEngPwr w d strb s

/-- The shore stops (R480, spec/14 R384): running and frozen domains go to SAFE. -/
def State.stopShore (s : State) : State :=
  let s := (List.range 8).foldl (fun s d =>
    if s.domainOn d && decide (1 ≤ s.sub d ∧ s.sub d ≤ subHold) then s.enterSub d subSafe else s) s
  ({ s with shoreRuns := false }).bypassMirrors

/-- SLEEP is entered once its steps have run and the controller has acknowledged (R480). -/
def State.enterSleep (s : State) : State :=
  let s := (s.setFld .engPwrstat F.engPwrstat.state 2).setFld .engPwr F.engPwr.sleepreq 0
  let s := (s.incWrap .engPwrstat F.engPwrstat.sleeps).setPower { s.power with stage := 0 }
  let s := allEngines.foldl State.invalidate s
  if s.bit .engPwr F.engPwr.sleepKeepTime then s else s.stopShore

/-- SLEEP_ENTERED (R480): entry goes on as far as it is due, and completes. -/
def execSleepEntered (s : State) : Host.Outcome State Fault Refusal :=
  s.run (s.power.stage != 0) fun s =>
    let s := s.sleepAdvance
    if s.power.stage = 5 then s.enterSleep else s

/-! ### The handshake (spec/16 R450) and the wake (R482) -/

/-- The engines whose EN is 1 leave gating and enter STARTING (R482). -/
def State.ungate (s : State) : State :=
  allEngines.foldl (fun s e =>
    let l := s.engLife e
    if l.en = 1 ∧ l.st = 0 then s.setFld (.engStat e) F.engStat.state 1 else s) s

/-- PWR_ACK_RISE: the requested state is entered; for SLEEP, entry may complete. DESIGN CHOICE, assumption log 85. -/
def execPwrAckRise (s : State) : Host.Outcome State Fault Refusal :=
  s.run (s.ports.pwrReq && !s.ports.pwrAck) fun s =>
    let s := s.setPorts { s.ports with pwrReq := false, pwrAck := true }
    match s.ports.pwrTgt with
    | 0 =>
      let s := s.setFld .engPwrstat F.engPwrstat.state 0
      if s.power.waking then s.ungate else s
    | 1 => s.setFld .engPwrstat F.engPwrstat.state 1
    | _ => if s.power.stage = 4 then s.setPower { s.power with stage := 5 } else s

/-- PWR_ACK_FALL: the handshake has ended, and a request that waits is made. DESIGN CHOICE, assumption log 85. -/
def execPwrAckFall (s : State) : Host.Outcome State Fault Refusal :=
  s.run (s.ports.pwrAck && !s.ports.pwrReq) fun s =>
    let s := (s.setPorts { s.ports with pwrAck := false }).setFld .engPwrstat F.engPwrstat.hs 0
    match s.power.next with
    | some n => (s.setPower { s.power with next := none }).requestPower n
    | none => s

/-- Every slot with EN = 1 and the Tarn are awake. DEDUCED, assumption log 86. -/
def State.arraysAwake (s : State) : Bool :=
  ((List.range 32).all fun n => (s.bankLife n).en == 0 || (s.bankLife n).st == lifeOn) &&
  !s.ports.retReq.getLsbD 34 && !s.ports.retAck.getLsbD 34

/-- The engines that start are ON, and every thread that SLEEP quiesced is released (R482). -/
def State.finishWake (s : State) : State :=
  allEngines.foldl (fun s e =>
    let l := s.engLife e
    if l.st = 1 then s.engineArrive e else if l.st = lifeOn then s.releaseEngine e else s) s

/-- WAKE_COMPLETE (R482). -/
def execWakeComplete (s : State) : Host.Outcome State Fault Refusal :=
  s.run (s.power.waking && s.powerState == 0 && !s.runAsked && s.arraysAwake) fun s =>
    (s.setPower { s.power with waking := false }).finishWake

/-- SHORE_RESTART (R482, spec/06 R148). -/
def execShoreRestart (s : State) : Host.Outcome State Fault Refusal :=
  s.run (!s.shoreRuns && s.booted && s.powerState == 0) fun s =>
    (({ s with shoreRuns := true }).setFld .laneShstat F.laneShstat.gap 1).timeMirrors

/-! ### Resets of one unit (R483 to R485) -/

/-- A thread reset takes effect at the thread's next boundary, or at once when it does not issue (R483). -/
def State.orderReset (s : State) (e t : Nat) : State :=
  if (s.thread e t).issues then s.orderThread e t cmdReset else s.applyCmd e t cmdReset

/-- The threads of an engine reset are PARKED and abandoned, and its undrained stores are discarded (R484); BIST or a
preload on it ends (spec/14 R387). -/
def State.resetContexts (s : State) (e : Nat) : State :=
  let phase := s.fld .engRollstat F.engRollstat.phase
  let s := if s.roleOf e == 8 && decide (1 ≤ phase ∧ phase ≤ 3) then s.endRoll else s
  let s := allThreads.foldl (fun s t => s.resetThread e t) s
  (s.modEngine e fun x => { x with sb := [], iterWait := [] }).clearStatistics e

/-- An engine reset (R484): of the engine that restores a takeover, the takeover fails (spec/14 R387). -/
def State.resetEngine (s : State) (e : Nat) : State :=
  match s.cont.takeover with
  | some x => if x.engine = some e then (s.failTakeover x).resetContexts e else s.resetContexts e
  | none => s.resetContexts e

/-- A lane reset in a spare swap of the lane applies to the new core when the swap completes (R485).
DEDUCED, assumption log 75. -/
def State.orderLaneReset (s : State) (p : Nat) : State :=
  let s := match s.shore.swap with
    | some x => if x.lane = p then s.setShore { s.shore with swap := some { x with st := 0 } } else s
    | none => s
  s.resetLane p

/-- A lane reset acts in the tick after its acceptance, in SLEEP in the first after the shore restarts (R483).
DEDUCED, assumption log 130. -/
def State.askLaneReset (s : State) (p : Nat) : State :=
  if s.shoreRuns || s.asleep then s.later (.resetLane p) else s.orderLaneReset p

/-- ENG_RST (R484, R485, R493). -/
def writeEngRst (s : State) (w : Wr) : State × Bool :=
  let r := Reg.engRst
  if !(s.may w r F.engRst.kind && w.full F.engRst.kind && w.full F.engRst.target) then (s, false)
  else
    let n := w.bits F.engRst.target
    match w.bits F.engRst.kind with
    | 1 => if n / 32 < 9 then (s.orderReset (n / 32) (n % 32), false) else (s, true)
    | 2 => if n < 9 then (s.resetEngine n, false) else (s, true)
    | 3 => if n < 256 then (s.askLaneReset n, false) else (s, true)
    | _ => (s, true)

/-- A write of ENG_RST. -/
def execEngRst (w : Who) (d : BitVec 32) (strb : BitVec 4) (s : State) : Host.Outcome State Fault Refusal :=
  let x : Wr := ⟨w, (Reg.engRst).key, d, strb⟩
  s.run true fun s => s.access x .engRst fun s => writeEngRst s x

/-- THREAD_RESET (R484). -/
def execThreadReset (w : Who) (d : BitVec 32) (strb : BitVec 4) (s : State) : Host.Outcome State Fault Refusal :=
  execEngRst w d strb s

/-- ENGINE_RESET (R484). -/
def execEngineReset (w : Who) (d : BitVec 32) (strb : BitVec 4) (s : State) : Host.Outcome State Fault Refusal :=
  execEngRst w d strb s

/-- LANE_RESET (R484). -/
def execLaneReset (w : Who) (d : BitVec 32) (strb : BitVec 4) (s : State) : Host.Outcome State Fault Refusal :=
  execEngRst w d strb s

end Sys2Proof.Machine
end

