-- ==== Sys2Proof/Machine/Debug.lean ====
section
/-! DEFINITION. Debug (spec/18 R486 to R489): breakpoints, halt and step. -/

namespace Sys2Proof.Machine

/-- BREAKPOINT_HIT (R486): the thread is halted before it first issues at the address of breakpoint `i`.
DEDUCED, assumption log 70. -/
def execBreakpointHit (e t i : Nat) (s : State) : Host.Outcome State Fault Refusal :=
  let x := s.thread e t
  s.run (decide (e < 9 ∧ t < 32 ∧ i < 8) && s.fld (.engStat e) F.engStat.state == lifeOn && !s.asleep && x.issues &&
      (!x.halted || x.stepping) && x.drain.isNone && s.couldIssue e t && s.breaks e t &&
      s.breakAt e t x.pc i) fun s =>
    let s := s.modThread e t fun x =>
      { x with halted := true, stepping := false, haltReq := false, bpSkip := true, pair := none, midPair := false }
    let s := s.setFld (.engDbghit e) F.engDbghit.hit 1
    (s.setFld (.engDbghit e) F.engDbghit.thread t).setFld (.engDbghit e) F.engDbghit.bp i

/-- A HALT at the thread's next permitted boundary; REPI is treated as REP (R487, spec/03 R90). -/
def Thread.halt (x : Thread) : Thread :=
  if x.atBoundary ∧ x.rep.isNone then { x with halted := true, stepping := false, haltReq := false, pair := none }
  else { x with haltReq := true }

/-- The end of a halt. -/
def Thread.run (x : Thread) : Thread := { x with halted := false, haltReq := false, stepping := false }

/-- A STEP: one issue, then halted again (R487). DEDUCED, assumption log 53. -/
def Thread.step (x : Thread) : Thread := { x.halt with stepping := true }

/-- The debug commands (R487). -/
def State.debugCmd (s : State) (e t cmd : Nat) : State :=
  match cmd with
  | 1 => s.modThread e t Thread.halt
  | 2 => s.modThread e t Thread.step
  | 3 => s.modThread e t Thread.run
  | 4 => allThreads.foldl (fun s t => s.modThread e t Thread.halt) s
  | 5 => allThreads.foldl (fun s t => s.modThread e t Thread.run) s
  | _ => s

/-- ENG_DBGCTL. -/
def writeEngDbgctl (s : State) (w : Wr) (e : Nat) : State × Bool :=
  let r := Reg.engDbgctl e
  if w.full F.engDbgctl.cmd && w.full F.engDbgctl.thread && s.may w r F.engDbgctl.cmd then
    (s.debugCmd e (w.bits F.engDbgctl.thread) (w.bits F.engDbgctl.cmd), false)
  else (s, false)

/-- A write of a debug register (R488): while debug is closed it is ignored and counted. -/
def writeDebug (s : State) (w : Wr) (r : Reg) : State × Bool :=
  if !s.debugOpen then (s, true)
  else match r with
    | .engDbgctl e => writeEngDbgctl s w e
    | r => s.plainWrite w r

/-- A write of ENG_DBGCTL: a thread's is ignored without being counted (R488). -/
def execDbgctl (w : Who) (e : Nat) (d : BitVec 32) (strb : BitVec 4) (s : State) : Host.Outcome State Fault Refusal :=
  let x : Wr := ⟨w, (Reg.engDbgctl e).key, d, strb⟩
  s.run (decide (e < 9) && isHost w) fun s => s.access x (.engDbgctl e) fun s => writeDebug s x (.engDbgctl e)

/-- HALT (R487). -/
def execDbgHalt (w : Who) (e : Nat) (d : BitVec 32) (strb : BitVec 4) (s : State) : Host.Outcome State Fault Refusal :=
  execDbgctl w e d strb s

/-- STEP (R487). -/
def execDbgStep (w : Who) (e : Nat) (d : BitVec 32) (strb : BitVec 4) (s : State) : Host.Outcome State Fault Refusal :=
  execDbgctl w e d strb s

/-- RUN (R487). -/
def execDbgRun (w : Who) (e : Nat) (d : BitVec 32) (strb : BitVec 4) (s : State) : Host.Outcome State Fault Refusal :=
  execDbgctl w e d strb s

/-- HALTALL (R487). -/
def execDbgHaltall (w : Who) (e : Nat) (d : BitVec 32) (strb : BitVec 4) (s : State) :
    Host.Outcome State Fault Refusal := execDbgctl w e d strb s

/-- RUNALL (R487). -/
def execDbgRunall (w : Who) (e : Nat) (d : BitVec 32) (strb : BitVec 4) (s : State) :
    Host.Outcome State Fault Refusal := execDbgctl w e d strb s

end Sys2Proof.Machine
end

