-- ==== Sys2Proof/Machine/Mailbox.lean ====
section
/-! DEFINITION. The mailbox and the doorbells (spec/17 R467 to R472). The unit's values are captured at the
acceptance; those of the tick-clocked units that R468 names in the tick after it. -/

namespace Sys2Proof.Machine

/-- The low half of a 64-bit value. -/
def low32 (x : BitVec 64) : BitVec 32 := x.extractLsb' 0 32

/-- The high half of a 64-bit value. -/
def high32 (x : BitVec 64) : BitVec 32 := x.extractLsb' 32 32

/-- A correction log entry as LOGA captures it (spec/12 R326). -/
def State.logAWords (s : State) (i : Nat) : List (BitVec 32) :=
  match (s.fld .memLogv F.memLogv.valid).testBit i, s.logEntry i with
  | true, some x =>
    [BitVec.ofNat 32 (2 ^ 31 + (if x.multi then 2 ^ 30 else 0) + x.bank * 2 ^ 24 + x.word),
     BitVec.ofNat 32 (x.sr.toNat * 2 ^ 24 + x.sc.toNat * 2 ^ 16 + x.count), low32 x.first, high32 x.first]
  | _, _ => [0, 0, 0, 0]

/-- A correction log entry as LOGB captures it (spec/12 R326). -/
def State.logBWords (s : State) (i : Nat) : List (BitVec 32) :=
  match (s.fld .memLogv F.memLogv.valid).testBit i, s.logEntry i with
  | true, some x => [low32 x.last, high32 x.last, BitVec.ofNat 32 x.count, 0]
  | _, _ => [0, 0, 0, 0]

/-- The counters of group `g` with the time of the present tick (R468). -/
def State.chainWords (s : State) (g : Nat) : List (BitVec 32) :=
  [BitVec.ofNat 32 (s.count (4 * g + 1) * 2 ^ 16 + s.count (4 * g)),
   BitVec.ofNat 32 (s.count (4 * g + 3) * 2 ^ 16 + s.count (4 * g + 2)), low32 s.tickTime, high32 s.tickTime]

/-- What a selector captures (R468; spec/19 R507); none for a reserved one. DESIGN CHOICE, assumption log 48. -/
def State.mailboxWords (s : State) (sel : Nat) : Option (List (BitVec 32)) :=
  let i := sel % 256
  match sel / 256 with
  | 1 => match i with
    | 0 => some [low32 s.tickTime, high32 s.tickTime, 0, 0]
    | 1 => some [low32 s.shore.pps, high32 s.shore.pps, s.rd .laneSync, 0]
    | 2 => some [low32 s.boot.doneAt, high32 s.boot.doneAt, s.rd .wellStat, 0]
    | _ => none
  | 2 => if i < 16 then some (s.chainWords i) else none
  | 3 => if i < 16 then some [s.position i, s.rd (.posSpeed i), s.rd (.posLastt i), s.rd (.posStat i)] else none
  | 4 => if i < 32 then some (s.logAWords i) else none
  | 5 => if i < 32 then some (s.logBWords i) else none
  | 6 => if i < 16 then some (s.faultWords i) else none
  | 0x80 => if i < 64 then some (s.alarmWords i) else none
  | 0x81 => if i = 0 then some s.outletCounts else none
  | _ => none

/-- Selectors that only privileged masters may use (R468). DEDUCED, assumption log 73. -/
def selectorPrivileged (sel : Nat) : Bool :=
  decide (4 ≤ sel / 256 ∧ sel / 256 ≤ 6) || decide (0x80 ≤ sel / 256 ∧ sel / 256 < 0x90)

/-- MBX_STAT and the data words as a capture leaves them. -/
def State.placeWords (s : State) (l : List (BitVec 32)) (filt bad : Bool) : State :=
  let s := (List.range 4).foldl (fun s i => s.wr (.mbxData i) (l.getD i 0)) s
  let s := ((s.setFld .mbxStat F.mbxStat.busy 0).setFld .mbxStat F.mbxStat.valid 1).incWrap .mbxStat F.mbxStat.seq
  (s.setFld .mbxStat F.mbxStat.filt (b2n filt)).setFld .mbxStat F.mbxStat.badsel (b2n bad)

/-- A selector that captures from a tick-clocked unit in the tick after its acceptance: TIME, CHAIN and POSCAP (R468). -/
def tickSelector (sel : Nat) : Bool := sel == 0x0100 || sel / 256 == 2 || sel / 256 == 3

/-- The capture of a tick-clocked selector in the present tick, of the values held in it (R468). -/
def State.captureTick (s : State) (sel : Nat) : State :=
  let s := if sel / 256 = 2 then s.countTick else if sel / 256 = 3 then s.quadTick (sel % 256) else s
  { s with mbx := s.mailboxWords sel }

/-- A capture that waits for its tick. -/
def Soon.isMailbox : Soon → Bool
  | .capture _ => true
  | _ => false

/-- Captures that have not been made are abandoned (R470). -/
def State.dropCapture (s : State) : State := { s with mbx := none, soon := s.soon.filter fun x => !x.isMailbox }

/-- A selector is accepted from a host master (R467 to R470); filtered and reserved ones complete at once with zero
data. DESIGN CHOICE, assumption log 48. -/
def State.selectMailbox (s : State) (w : Who) (sel : Nat) : State :=
  match w with
  | .thread .. => s
  | .host mid _ _ =>
    let s := (s.setFld .mbxSel F.mbxSel.sel sel).dropCapture
    let s := ((s.setFld .mbxStat F.mbxStat.valid 0).setFld .mbxStat F.mbxStat.mid mid.toNat).setFld .mbxStat F.mbxStat.busy 0
    let s := (s.setFld .mbxStat F.mbxStat.filt 0).setFld .mbxStat F.mbxStat.badsel 0
    let s := (List.range 4).foldl (fun s i => s.wr (.mbxData i) 0) s
    match s.mailboxWords sel with
    | none => s.placeWords [] false true
    | some l =>
      if selectorPrivileged sel && !(s.rights w).supervisor then
        (s.placeWords [] true false).violate w 7 (Reg.mbxSel).key true
      else (if tickSelector sel && s.shoreRuns then s.later (.capture sel) else { s with mbx := some l }).setFld
        .mbxStat F.mbxStat.busy 1

/-- MBX_SEL: a write that takes any byte of the selector starts a capture (R467). -/
def writeMbxSel (s : State) (w : Wr) : State × Bool :=
  if w.any F.mbxSel.sel then (s.selectMailbox w.who (w.val F.mbxSel.sel (s.rd .mbxSel)), false) else (s, false)

/-- A selector command: a whole write of MBX_SEL. -/
def State.mailbox (s : State) (w : Who) (ok : Bool) (sel : Nat) : Host.Outcome State Fault Refusal :=
  s.run ok fun s => s.selectMailbox w sel

/-- TIME (R468). -/
def execMbxTime (w : Who) (s : State) : Host.Outcome State Fault Refusal := s.mailbox w true 0x0100

/-- PPS (R468). -/
def execMbxPps (w : Who) (s : State) : Host.Outcome State Fault Refusal := s.mailbox w true 0x0101

/-- BOOT (R468). -/
def execMbxBoot (w : Who) (s : State) : Host.Outcome State Fault Refusal := s.mailbox w true 0x0102

/-- CHAIN (R468). -/
def execMbxChain (w : Who) (i : Nat) (s : State) : Host.Outcome State Fault Refusal :=
  s.mailbox w (decide (i < 16)) (0x0200 + i)

/-- POSCAP (R468). -/
def execMbxPoscap (w : Who) (i : Nat) (s : State) : Host.Outcome State Fault Refusal :=
  s.mailbox w (decide (i < 16)) (0x0300 + i)

/-- LOGA (spec/12 R326). -/
def execMbxLoga (w : Who) (i : Nat) (s : State) : Host.Outcome State Fault Refusal :=
  s.mailbox w (decide (i < 32)) (0x0400 + i)

/-- LOGB (spec/12 R326). -/
def execMbxLogb (w : Who) (i : Nat) (s : State) : Host.Outcome State Fault Refusal :=
  s.mailbox w (decide (i < 32)) (0x0500 + i)

/-- FREC (spec/14 R358). -/
def execMbxFrec (w : Who) (i : Nat) (s : State) : Host.Outcome State Fault Refusal :=
  s.mailbox w (decide (i < 16)) (0x0600 + i)

/-- QALM (spec/19 R507). -/
def execMbxQalm (w : Who) (i : Nat) (s : State) : Host.Outcome State Fault Refusal :=
  s.mailbox w (decide (i < 64)) (0x8000 + i)

/-- OUTCNT (spec/19 R507). -/
def execMbxOutcnt (w : Who) (s : State) : Host.Outcome State Fault Refusal := s.mailbox w true 0x8100

/-- MBX_RESERVED_SELECTOR (R469): any selector that captures nothing. DEDUCED, assumption log 73. -/
def execMbxReservedSelector (w : Who) (sel : Nat) (s : State) : Host.Outcome State Fault Refusal :=
  s.mailbox w (decide (sel < 0x10000)) sel

/-- MAILBOX_CAPTURE_DONE (R467). DESIGN CHOICE, assumption log 48. -/
def execMailboxCaptureDone (s : State) : Host.Outcome State Fault Refusal :=
  match s.mbx with
  | none => s.run false id
  | some l => s.run true fun s => ({ s with mbx := none }).placeWords l false false

/-! ### Doorbells (R472) -/

/-- TOP_TDOOR. -/
def writeTopTdoor (s : State) (w : Wr) : State × Bool :=
  let r := Reg.topTdoor
  if s.may w r F.topTdoor.role && w.full F.topTdoor.role && w.full F.topTdoor.thread then
    (s.roleEvt (w.bits F.topTdoor.role) (w.bits F.topTdoor.thread) 12, false)
  else (s, false)

/-- THREAD_DOORBELL (R472). -/
def execThreadDoorbell (w : Who) (d : BitVec 32) (strb : BitVec 4) (s : State) : Host.Outcome State Fault Refusal :=
  let x : Wr := ⟨w, (Reg.topTdoor).key, d, strb⟩
  s.run true fun s => s.access x .topTdoor fun s => writeTopTdoor s x

/-- TOP_HDOORSET. -/
def writeTopHdoorset (s : State) (w : Wr) : State × Bool :=
  (s.wr .topHdoor (s.rd .topHdoor ||| (F.topHdoor.bits.mask &&& w.d &&& w.mask)), false)

/-- HOST_DOORBELL_SET (R472). -/
def execHostDoorbellSet (w : Who) (d : BitVec 32) (strb : BitVec 4) (s : State) : Host.Outcome State Fault Refusal :=
  let x : Wr := ⟨w, (Reg.topHdoorset).key, d, strb⟩
  s.run true fun s => s.access x .topHdoorset fun s => writeTopHdoorset s x

/-- HOST_DOORBELL_CLEAR (R472). -/
def execHostDoorbellClear (w : Who) (d : BitVec 32) (strb : BitVec 4) (s : State) : Host.Outcome State Fault Refusal :=
  let x : Wr := ⟨w, (Reg.topHdoor).key, d, strb⟩
  s.run true fun s => s.access x .topHdoor fun s => s.plainWrite x .topHdoor

end Sys2Proof.Machine
end

