-- ==== Sys2Proof/Machine/Bus.lean ====
section
/-! DEFINITION. Writes of registers (spec/17 R453 to R464): the unit rule of each register, a write of control space by
address, and the schedule window as a target of writes. -/

namespace Sys2Proof.Machine

/-- WELL_CFG (spec/15 R419): a write outside a REG record is ignored and counted. DEDUCED, assumption log 77. -/
def writeWellCfg (s : State) (w : Wr) : State × Bool :=
  (s, (s.rights w.who).supervisor && w.any F.wellCfg.tampact)

/-- LANE_SHCTRL: every write of a master or a thread is ignored and counted (spec/06 R156). -/
def writeLaneShctrl (s : State) (w : Wr) : State × Bool := (s, w.strb != 0)

/-- The unit rule of a register: what a write of it does, and whether the rule refuses it and counts. -/
def unitRule (s : State) (w : Wr) (r : Reg) : State × Bool :=
  match r with
  | .mbxSel => writeMbxSel s w
  | .topTdoor => writeTopTdoor s w
  | .topHdoorset => writeTopHdoorset s w
  | .engCtrl e => writeEngCtrl s w e
  | .engFarbase e => writeFetchReg s w e (.engFarbase e)
  | .engTfetch e t => writeFetchReg s w e (.engTfetch e t)
  | .engTcseg e t => writeFetchReg s w e (.engTcseg e t)
  | .engSmapA e j => writeEngSmap s w e false (.engSmapA e j)
  | .engSmapB e j => writeEngSmap s w e true (.engSmapB e j)
  | .engBp e j => writeDebug s w (.engBp e j)
  | .engDbgctl e => writeDebug s w (.engDbgctl e)
  | .engDbgstat e => writeDebug s w (.engDbgstat e)
  | .engDbghit e => writeDebug s w (.engDbghit e)
  | .engTpc e t => writeEngTpc s w e t
  | .engTsegb e t k => writeEngTsegb s w e t k
  | .engTsegl e t k => writeEngTsegl s w e t k
  | .engTevt e t => writeEngTevt s w e t
  | .engTurg e t => writeEngTurg s w e t
  | .engUop e n k => writeTable s w e (.engUop e n k)
  | .engCusthdr e n => writeTable s w e (.engCusthdr e n)
  | .engTstate e t => writeEngTstate s w e t
  | .engDctl d => writeEngDctl s w d
  | .engCont r => writeRoleReg s w r (.engCont r)
  | .engMirror r => writeRoleReg s w r (.engMirror r)
  | .engCkmask r => writeRoleReg s w r (.engCkmask r)
  | .engFdecl => writeEngFdecl s w
  | .engPwr => writeEngPwr s w
  | .engRst => writeEngRst s w
  | .laneCtrl p => writeLaneCtrl s w p
  | .laneSafe p => writeLaneSafe s w p
  | .laneIo p => writeLaneIo s w p
  | .laneM0 p => writeLaneM s w p 0
  | .laneM1 p => writeLaneM s w p 1
  | .laneM2 p => writeLaneM s w p 2
  | .laneM3 p => writeLaneM s w p 3
  | .laneXbar p => writeLaneXbar s w p
  | .laneShctrl => writeLaneShctrl s w
  | .weirStage p => writeWeirStage s w p false
  | .weirCfg p => writeWeir s w p (.weirCfg p)
  | .weirInit p => writeWeir s w p (.weirInit p)
  | .weirLimd p => writeWeir s w p (.weirLimd p)
  | .weirLims p => writeWeir s w p (.weirLims p)
  | .weirLimp p => writeWeir s w p (.weirLimp p)
  | .weirLimt p => writeWeir s w p (.weirLimt p)
  | .weirWin p => writeWeir s w p (.weirWin p)
  | .weirCgctl g => writeGroup s w g (.weirCgctl g)
  | .weirCgper g => writeGroup s w g (.weirCgper g)
  | .weirCgph g => writeGroup s w g (.weirCgph g)
  | .weirCgld g => writeGroup s w g (.weirCgld g)
  | .cntCtrl n => writeCntCtrl s w n
  | .cntCount n => writeCntCount s w n
  | .cntTop n => writeCntTop s w n
  | .cntCmpa n => writeCntCmp s w n (.cntCmpa n) F.cntCmpa.cmp
  | .cntCmpb n => writeCntCmp s w n (.cntCmpb n) F.cntCmpb.cmp
  | .cntGo => writeCntGo s w
  | .cntSnap => writeCntSnap s w
  | .posCtrl u => writePosWhileOff s w u (.posCtrl u)
  | .posPos u => writePosPos s w u
  | .posCmpv u => writePosCmpv s w u
  | .inlCtrl n => writeInlCtrl s w n
  | .inlWin n => writeInlWin s w n
  | .inlDec n => writeInlDec s w n
  | .fabCh c => writeFabCh s w c
  | .fabCst c => writeFabCst s w c
  | .fabEvpol k => writeFabEvpol s w k
  | .fabFire => writeFabFire s w
  | .fabTrip k => writeFabTrip s w k
  | .fabSpmap i => writeFabSpmap s w i
  | .lckFrel => writeLckFrel s w
  | .lckHmrel => writeLckHmrel s w
  | .memBctl n => writeMemBctl s w n
  | .memLogv => writeMemLogv s w
  | .memClrw => writeMemClrw s w
  | .memRetire i => writeMemRetire s w i
  | .memMigctl => writeMemMigctl s w
  | .cdCtrl c => writeCdCtrl s w c
  | .cdCfg c => writeCdDescriptor s w c (.cdCfg c)
  | .cdPbase c => writeCdDescriptor s w c (.cdPbase c)
  | .cdPlen c => writeCdDescriptor s w c (.cdPlen c)
  | .cdLaddr c => writeCdDescriptor s w c (.cdLaddr c)
  | .cdXlen c => writeCdDescriptor s w c (.cdXlen c)
  | .wellCfg => writeWellCfg s w
  | .outCtrl => writeOutCtrl s w
  | .outRbase => writeOutRing s w .outRbase F.outRbase.base
  | .outRlen => writeOutRing s w .outRlen F.outRlen.len
  | .outRdptr => writeOutRdptr s w
  | .outRes => writeOutRes s w
  | .outRaise => writeOutRaise s w
  | r => s.plainWrite w r

/-- A write of a register by the bus (R457, R458, R471; spec/18 R488): the mailbox and the debug registers take nothing
from a thread. -/
def State.writeReg (s : State) (w : Wr) (r : Reg) : State :=
  if (r.isMailbox || r.isDebug) && !isHost w.who then s else s.access w r fun s => unitRule s w r

/-- A write that a tick-clocked unit has accepted acts (R7), `poison` where it drained poisoned (spec/07 R197). -/
def State.performWrite (s : State) (w : Wr) (poison : Bool) : State :=
  match regAt (w.addr / 4 * 4) with
  | none => s
  | some (.weirStage p) => s.perform w (.weirStage p) fun s => writeWeirStage s w p poison
  | some r => s.perform w r fun s => unitRule s w r

/-- A write of control space at a block address (R453, R455): reserved locations ignore it, but before boot step 8 the
host port counts every write outside the TOP and WELL windows (spec/15 R396). DEDUCED, assumption log 76. -/
def State.writeBus (s : State) (w : Wr) : State :=
  match regAt (w.addr / 4 * 4) with
  | none =>
    if isHost w.who && !s.accepting && !bootWindow w.addr && w.strb != 0 then s.violate w.who 3 w.addr true else s
  | some r => s.writeReg { w with addr := w.addr / 4 * 4 } r

end Sys2Proof.Machine
end

