-- ==== Sys2Proof/Machine/SelfTest.lean ====
section
/-! DEFINITION. The checker self-test of every memory (spec/12 R320, R321): what the test word of a memory answers through
its checker. -/

namespace Sys2Proof.Machine

/-- A bit set in a 16-bit word. -/
def bit16 (k : Nat) : BitVec 16 := BitVec.ofNat 16 (2 ^ k)

/-- The pattern of the self-test; of a 56-bit line its low 56 bits (spec/12 R321). DEDUCED, assumption log 133. -/
def testPattern (line : Bool) : BitVec 64 := if line then 0x5AA5A53C3CC3C3 else 0x5A5AA5A53C3CC3C3

/-- The rows of a word or of a 56-bit line (spec/12 R318). -/
def testRows (line : Bool) : BitVec 8 := if line then 0x7F else 0xFF

/-- The stored bits of a word, numbered as R311 numbers them; of a line those of rows 0 to 6 (R318). -/
def testBits (line : Bool) : List Nat := if line then List.range 56 ++ (List.range 7).map (64 + ·) ++ (List.range 8).map (72 + ·)
  else List.range 80

/-- A word as it is stored: data, row parities, column parities (spec/12 R311). -/
def stored (d : BitVec 64) : BitVec 80 := colParity d ++ rowParity d ++ d

/-- Bit `k` takes a level. -/
def forceBit (x : BitVec 80) (k : Nat) (v : Bool) : BitVec 80 :=
  if v then x ||| BitVec.ofNat 80 (2 ^ k) else x &&& ~~~BitVec.ofNat 80 (2 ^ k)

/-- The syndrome of a single error at bit `k` (spec/12 R312). -/
def singleSyndrome (k : Nat) : BitVec 16 :=
  if k < 64 then bit16 (8 + k / 8) ||| bit16 (k % 8) else if k < 72 then bit16 (8 + (k - 64)) else bit16 (k - 72)

/-- The pairs of check 3: within one byte, and within one column (spec/12 R321). -/
def testPairs (line : Bool) : List (Nat × Nat) :=
  ((List.range (if line then 7 else 8)).map fun i => (8 * i, 8 * i + 1)) ++ (List.range 8).map fun j => (j, 8 + j)

end Sys2Proof.Machine

namespace Sys2Proof

open Sys2Proof.Machine

/-- The syndromes that the checker sees of a stored word, SR in the high byte (spec/12 R311), with what is stuck in it. -/
def Defect.syndrome (f : Defect) (line : Bool) (x : BitVec 80) : BitVec 16 :=
  let d := x.extractLsb' 0 64
  let sr := (x.extractLsb' 64 8 ^^^ rowParity d) &&& testRows line
  let sc := x.extractLsb' 72 8 ^^^ colParity d
  f.lines.foldl (fun s y => if y.2 then s ||| bit16 y.1 else s &&& ~~~bit16 y.1) (sr ++ sc)

/-- The test word is written with `x` and read: the decision, the data and the syndrome. -/
def Defect.answer (f : Defect) (line : Bool) (x : BitVec 80) : EccKind × BitVec 64 × BitVec 16 :=
  let x := f.cells.foldl (fun x y => forceBit x y.1 y.2) x
  let s := f.syndrome line x
  let y := eccDecode (x.extractLsb' 0 64) (s.extractLsb' 8 8) (s.extractLsb' 0 8) (testRows line)
  (y.1, y.2, s)

/-- The memory passes its self-test (spec/12 R321): the pattern reads clean, every single error is corrected with the
syndrome of its position, every pair is uncorrectable, and the poison code reads as poison. -/
def Defect.passes (f : Defect) (line : Bool) : Bool :=
  let d := testPattern line
  let x := stored d
  let flip := fun (x : BitVec 80) k => x ^^^ BitVec.ofNat 80 (2 ^ k)
  f.answer line x == (.clean, d, 0) &&
  ((testBits line).all fun k => f.answer line (flip x k) == (.corrected, d, singleSyndrome k)) &&
  ((testPairs line).all fun p => (f.answer line (flip (flip x p.1) p.2)).1 == .uncorrectable) &&
  (f.answer line ((0xFF#8 ++ testRows line : BitVec 16) ++ (0#64))).1 == .poisoned

/-- Memory `m`, numbered by its bucket (spec/12 R324) or 54 for the test buffer, fails its self-test; one with nothing wrong
passes. -/
def BootEnv.fails (x : BootEnv) (m : Nat) : Bool :=
  x.defects.any fun y => y.1 == m && !y.2.passes (decide (43 ≤ m ∧ m < 52))

/-- The memories of `n` numbers from `lo` on that fail, as bits. -/
def BootEnv.failBits (x : BootEnv) (lo n : Nat) : Nat :=
  (List.range n).foldl (fun v i => if x.fails (lo + i) then v + 2 ^ i else v) 0

end Sys2Proof
end

