-- ==== Sys2Proof/Machine/Flash.lean ====
section
/-! DEFINITION. Flash discovery (spec/15 R397 to R400): the clocks, the commands on the bus, the trial of the read modes,
and where the slots start. -/

namespace Sys2Proof

/-- The distance of `m` times the reference from 800 MHz, in kHz (spec/15 R394). -/
def ratioError (f m : Nat) : Nat := (f * m - 800000) + (800000 - f * m)

/-- The boot ratio M_boot (spec/15 R394): the integer in 4 to 32 that brings the reference closest to 800 MHz.
DESIGN CHOICE, assumption log 127. -/
def BootEnv.mboot (x : BootEnv) : Nat :=
  ((List.range 29).map (4 + ·)).foldl (fun b m =>
    if ratioError x.trefKhz m < ratioError x.trefKhz b ||
        (ratioError x.trefKhz m == ratioError x.trefKhz b && Config.bootTie x.trefKhz) then m else b) 4

/-- The smallest divisor of the boot tick that keeps nvm_sck at or below a limit in kHz (spec/15 R397). -/
def BootEnv.div (x : BootEnv) (limit : Nat) : Nat := (x.trefKhz * x.mboot + limit - 1) / limit

/-- A device answers: the SFDP signature, JESD216 revision B or later, a table of at least 16 DWORDs (spec/15 R397). -/
def FlashDev.answers (d : FlashDev) : Bool := d.sfdp == 0x50444653 && d.revB && decide (16 ≤ d.dwords)

/-- The device on a chip select, where one answers. -/
def BootEnv.device (x : BootEnv) (cs : Nat) : Option FlashDev := (if cs = 0 then x.flash0 else x.flash1).filter FlashDev.answers

/-- The device's tables offer a mode of WELL_FLASH (spec/15 R397). DEDUCED, assumption log 126. -/
def FlashDev.offers (d : FlashDev) (mode : Nat) : Bool :=
  let quad := decide (d.quad ≤ 6) && (decide (d.density ≤ 24) || d.cmd4 || d.entry4)
  match mode with
  | 3 => d.octal
  | 2 => d.read144 && quad
  | 1 => d.read114 && quad
  | _ => true

/-- The SFDP signature reads back correctly in a mode (spec/15 R398). -/
def FlashDev.readsBack (d : FlashDev) (mode : Nat) : Bool :=
  (match mode with
    | 3 => d.back3
    | 2 => d.back2
    | 1 => d.back1
    | _ => d.sfdp) == 0x50444653

/-- 4-byte addresses (spec/15 R397, R399): 8D-8D-8D has no others. -/
def FlashDev.addr4 (d : FlashDev) (mode : Nat) : Bool := mode == 3 || !(decide (d.density ≤ 24) && !d.cmd4)

/-- The clock limit of a mode in kHz (spec/15 R397). -/
def flashLimit (mode : Nat) : Nat := if mode = 3 then 200000 else if mode = 0 then 25000 else 100000

namespace Machine

/-- The software reset: sent in 8D-8D-8D, then 4S-4S-4S, then 1S-1S-1S (spec/15 R397). -/
def resetCmds (cs : Nat) : List FlashCmd := [.reset cs 3, .reset cs 4, .reset cs 0]

/-- The trial of one mode (spec/15 R398): its entry, the read-back of the signature, and the reset that leaves a mode that
fails. -/
def tryMode (d : FlashDev) (mode : Nat) : List FlashCmd :=
  (if mode = 3 then [.enterOctal 0]
   else .quadEnable 0 d.quad :: (if d.addr4 mode && !d.cmd4 then [FlashCmd.enter4 0] else [])) ++
  [.sfdp 0 mode] ++ (if d.readsBack mode then [] else resetCmds 0)

/-- The trials of modes in order: the commands sent, and the first mode that the device offers and that reads back; 1S-1S-1S
where none does (spec/15 R398). -/
def tryModes (d : FlashDev) : List Nat → List FlashCmd × Nat
  | [] => ([], 0)
  | m :: l =>
    if !d.offers m then tryModes d l
    else if d.readsBack m then (tryMode d m, m)
    else let x := tryModes d l; (tryMode d m ++ x.1, x.2)

/-- The discovery on both chip selects, then the trials on the first (spec/15 R397, R398): the commands, and the mode.
DEDUCED, assumption log 126. -/
def discover (x : BootEnv) : List FlashCmd × Nat :=
  let found := resetCmds 0 ++ resetCmds 1 ++ [.sfdp 0 0, .sfdp 1 0]
  match x.device 0 with
  | none => (found, 0)
  | some d => let y := tryModes d [3, 2, 1]; (found ++ y.1, y.2)

/-- Where a slot begins: its chip select and its first byte (spec/15 R399). -/
def slotPlace (x : BootEnv) (slotB : Bool) : Nat × Nat :=
  if !slotB then (0, 0) else if (x.device 1).isSome then (1, 0)
  else (0, match x.device 0 with
    | some d => 2 ^ d.density / 2
    | none => 0)

/-- The slot of `x` lies inside the device that holds it (spec/15 R407). -/
def slotFits (x : BootEnv) (slotB : Bool) (length : Nat) : Bool :=
  match x.device (slotPlace x slotB).1 with
  | some d => decide ((slotPlace x slotB).2 + length ≤ 2 ^ d.density)
  | none => false

/-- The command that reads a slot, in the mode that the trials found (spec/15 R397 to R399). -/
def slotRead (x : BootEnv) (slotB : Bool) (mode : Nat) : FlashCmd :=
  let c := slotPlace x slotB
  .read c.1 mode c.2 ((x.device c.1).any fun d => d.addr4 mode)

end Machine

end Sys2Proof
end

