-- ==== Sys2Proof/Machine/Security.lean ====
section
/-! DEFINITION. The life-cycle state, tamper, the wipe of the Tarn and the image key (spec/15 R414 to R417, spec/11 R295,
spec/16 R447, R449). -/

namespace Sys2Proof.Machine

def State.setSecurity (s : State) (x : Security) : State := { s with security := x }
def State.setBoot (s : State) (x : Boot) : State := { s with boot := x }

/-- WELL_STAT.STEP. -/
def State.bootStep (s : State) : Nat := s.fld .wellStat F.wellStat.step

/-- The code of a life-cycle state (R414); what is no other state is SCRAP. -/
def lcsCode (lcs : Nat) : Nat :=
  match lcs with
  | 0 => 0
  | 1 => 1
  | 3 => 2
  | 7 => 3
  | _ => 4

/-- Debug is open in this state (spec/18 R489). -/
def lcsOpen (lcs : Nat) : Bool := lcsCode lcs != 2 && lcsCode lcs != 4

/-! ### The Tarn -/

/-- Every word of the Tarn holds zero with valid check bits, and the wipe is recorded (spec/11 R295).
DEDUCED, assumption log 82. -/
def State.wipeDone (s : State) (cause : Nat) : State :=
  let s := s.zeroWords (tarnWord 0) 2048
  let s := s.setFld .memTarn F.memTarn.wiping 0
  let s := s.setFld .memTarn F.memTarn.wiped 1
  (s.setFld .memTarn F.memTarn.cause cause).setSecurity { s.security with wipe := 0 }

/-- The Tarn was wiped during this boot (R420). DESIGN CHOICE, assumption log 61. -/
def State.wipedInBoot (s : State) : State :=
  if 1 ≤ s.bootStep ∧ s.bootStep < 8 then s.setFld .wellStat F.wellStat.tarnWiped 1 else s

/-- A wipe starts (spec/11 R295); a trigger in the course of one starts it anew. DEDUCED, assumption log 82. -/
def State.startWipe (s : State) (cause : Nat) : State :=
  ((s.setFld .memTarn F.memTarn.wiping 1).setSecurity { s.security with wipe := cause }).wipedInBoot

/-- TARN_WIPE_COMPLETE (spec/11 R295). -/
def execTarnWipeComplete (s : State) : Host.Outcome State Fault Refusal :=
  s.run (s.bit .memTarn F.memTarn.wiping) fun s => s.wipeDone s.security.wipe

/-! ### Tamper and life-cycle -/

/-- Every ON domain receives CMD SAFE (R416). -/
def State.safeAll (s : State) : State :=
  (List.range 8).foldl (fun s d => if s.domainOn d then (s.domainCmd d 2).1 else s) s

/-- A new level of lcs (R415). Before step 2 of boot it is only what step 2 will sample. -/
def State.changeLcs (s : State) (lcs : Nat) : State :=
  let old := s.security.lcs
  let s := s.setSecurity { s.security with lcs := lcs }
  if !s.boot.sampled || lcs = old then s
  else
    let s := s.setSecurity { s.security with debugShut := s.security.debugShut || !lcsOpen lcs }
    let s := s.setFld .wellStat F.wellStat.lcschg 1
    let s := (s.startWipe 2).alarm 0x1A (BitVec.ofNat 32 lcs)
    if lcsCode lcs = 4 then s.safeAll else s

/-- LCS_CHANGE (R415). -/
def execLcsChange (lcs : Nat) (s : State) : Host.Outcome State Fault Refusal :=
  match s.test with
  | some _ => .fault .functionalStateUndefined
  | none => if lcs < 16 then .next (s.changeLcs lcs) else .next s

/-- tamper_n goes low (R416): the Tarn is wiped, debug closes, and domains receive CMD SAFE where TAMPACT says so. In
SLEEP the block wakes (spec/18 R481). -/
def State.assertTamper (s : State) : State :=
  let s := s.incSat .wellTamp F.wellTamp.tampcnt
  let s := s.setFld .wellStat F.wellStat.tamper 1
  let s := s.setSecurity { s.security with debugShut := true }
  let s := (s.startWipe 1).alarm 0x1B (BitVec.ofNat 32 (s.fld .wellTamp F.wellTamp.tampcnt))
  let s := if s.fld .wellCfg F.wellCfg.tampact ≠ 0 then s.safeAll else s
  s.wakeBlock 4 0

/-- TAMPER (R416): in reset only the level is taken. -/
def execTamper (s : State) : Host.Outcome State Fault Refusal :=
  match s.test with
  | some _ => .fault .functionalStateUndefined
  | none =>
    if !s.bit .wellTamp F.wellTamp.level then .next s
    else
      let t := s.setFld .wellTamp F.wellTamp.level 0
      .next (if s.inReset then t else t.assertTamper)

/-- TAMPER_DEASSERT (R416). -/
def execTamperDeassert (s : State) : Host.Outcome State Fault Refusal :=
  match s.test with
  | some _ => .fault .functionalStateUndefined
  | none => .next (s.setFld .wellTamp F.wellTamp.level 1)

/-! ### The image key (R417, spec/16 R447) -/

/-- key_ack: from the release until eight words are in or step 5 begins. -/
def State.keyAck (s : State) : Bool :=
  !s.inReset && decide (s.security.key.length < 8) && decide (s.bootStep < 5)

/-- KEY_WORD_TRANSFER (spec/16 R447). -/
def execKeyWordTransfer (word : BitVec 32) (s : State) : Host.Outcome State Fault Refusal :=
  s.run s.keyAck fun s =>
    let s := s.setSecurity { s.security with key := s.security.key ++ [word] }
    if s.security.key.length = 8 then s.setFld .wellKeystat F.wellKeystat.keyin 1 else s

/-- The image key is cleared (R413, R417). -/
def State.clearKey (s : State) : State :=
  (s.setSecurity { s.security with key := [] }).setFld .wellKeystat F.wellKeystat.keyclr 1

end Sys2Proof.Machine
end

