-- ==== Sys2Proof/Machine/Resets.lean ====
section
/-! DEFINITION. Power-on and warm reset (spec/18 R483, R484; spec/16 R426 to R428, R450, R451). -/

namespace Sys2Proof.Machine

/-- The ports' input levels, which no reset changes; every output takes its Reset value (spec/16 R428). -/
def Ports.inputs (p : Ports) : Ports :=
  { Ports.init with evin := p.evin, laneIn := p.laneIn, laneSafe := p.laneSafe }

/-- The level of tamper_n after a reset is that before it. -/
def State.keepTamper (s old : State) : State :=
  s.setFld .wellTamp F.wellTamp.level (old.fld .wellTamp F.wellTamp.level)

/-- The state in power-on reset: nothing is kept but the levels at the inputs, the TAP, which follows tap_trst_n
alone (spec/16 R428), and the commands that wait. -/
def State.powerOn (s : State) : State :=
  let t := { State.reset with pending := s.pending, ports := s.ports.inputs, tap := s.tap }
  (t.setSecurity { Security.init with lcs := s.security.lcs }).keepTamper s

/-- POWER_ON_RESET (R484): the only way out of the test modes (R492). -/
def execPowerOnReset (s : State) : Host.Outcome State Fault Refusal := .next s.powerOn

/-! ### Warm reset -/

/-- Registers that a warm reset keeps whole (spec/12 R320, R339; spec/06 R158; spec/10 R272): the buckets, the retire table,
the log's valid bits, MEM_CECNT, MEM_SPSTAT, the crossbar and the stand-ins. DEDUCED, assumption log 83. -/
def warmKeeps (a : Nat) : Bool :=
  (arrayAt (Reg.fabSpmap 0).key 4 8 a).isSome ||
  decide (0x780480 ≤ a ∧ a < 0x780558) || decide (0x780600 ≤ a ∧ a < 0x780A00) || a == 0x780410 || a == 0x780404 ||
  a == 0x780420 || decide (0x724400 ≤ a ∧ a < 0x724800)

/-- Physical words that a warm reset keeps: the Pool and the Tarn (spec/12 R320, spec/11 R296). -/
def warmWord (k : Nat) : Bool := decide (k < 0x100000) || decide (0x110000 ≤ k ∧ k < 0x120000)

/-- The words of a region in the background test return from the test buffer to their bank (spec/12 R335). -/
def State.unbuffer (s : State) : State :=
  match s.integ.bgtSaved with
  | some (b, r) => s.moveWords (bufWord 0) (bankWord b (32 * r)) 32
  | none => s

/-- The memories after a warm reset; a wipe of the Tarn in progress is completed. DEDUCED, assumption log 83. -/
def State.warmMemory (s : State) : State :=
  let s := if s.bit .memTarn F.memTarn.wiping then s.zeroWords (tarnWord 0) 2048 else s
  let s := s.unbuffer
  { s with mem := s.mem.filter (fun c => warmWord (c.1 / 8)), chk := s.chk.filter (fun c => warmWord c.1) }

/-- MEM_BSTAT.PHYS of every slot stays; a page copy in progress goes on (spec/12 R328, R330).
DEDUCED, assumption log 83. -/
def State.keepPool (s old : State) : State :=
  let s := (List.range 32).foldl (fun s n =>
    s.setFld (.memBstat n) F.memBstat.phys (old.fld (.memBstat n) F.memBstat.phys)) s
  if old.integ.copying.isSome then s.setFld .memMigstat F.memMigstat.state 1 else s

/-- Of a lane core a warm reset keeps whether it serves a pin and whether it is retired (spec/06 R158). -/
def keepCores (m : SMap Core) : SMap Core :=
  m.foldl (fun l c => SMap.put l c.1 { Core.init with used := c.2.used, retired := c.2.retired } .init) []

/-- A stand-in is undone only by power-on reset (spec/10 R272): a replaced channel stays disconnected, and a stand-in in
progress goes on. DEDUCED, assumption log 137. -/
def State.keepStandIns (s old : State) : State :=
  let s := (List.range 128).foldl (fun s c => if old.bit (.fabCst c) F.fabCst.replaced then
    s.setFld (.fabCst c) F.fabCst.replaced 1 else s) s
  (List.range 8).foldl (fun s i => s.modChannel (128 + i) fun x => { x with standAt := (old.channel (128 + i)).standAt }) s

/-- The state in warm reset: pwr_req falls (spec/16 R450), ret_req is held (R451), shore time counts on (spec/06
R148). DEDUCED, assumption log 83. -/
def State.warm (s : State) : State :=
  let w := s.warmMemory
  let t := { State.reset with
    pending := s.pending, mem := w.mem, chk := w.chk, regs := s.regs.filter (fun c => warmKeeps c.1),
    integ := { Integrity.init with log := s.integ.log, copying := s.integ.copying, leaks := s.integ.leaks, bgtAt := s.ticks },
    cores := keepCores s.cores, cont := { Continuity.init with rollAt := s.ticks },
    ports := { s.ports.inputs with retReq := s.ports.retReq, retAck := s.ports.retAck, pwrAck := s.ports.pwrAck },
    tap := s.tap, time := s.time, ticks := s.ticks, shoreRuns := s.shoreRuns, boot := { Boot.init with warm := true } }
  let t := (t.setSecurity { Security.init with lcs := s.security.lcs, sampled := s.security.sampled }).keepTamper s
  let t := (t.keepPool s).keepStandIns s
  let t := t.wr .engRstcause (s.rd .engRstcause)
  (t.incSat .engRstcause F.engRstcause.warmcnt).setFld .engRstcause F.engRstcause.last 2

/-- WARM_RESET (R484): while por_n is low, it decides (spec/16 R426). -/
def execWarmReset (s : State) : Host.Outcome State Fault Refusal :=
  s.run true fun s => s.warm

end Sys2Proof.Machine
end

