-- ==== Sys2Proof/Machine/Boot.lean ====
section
/-! DEFINITION. The Wellhead (spec/15): the boot from the release of reset to the first threads, the records of the image,
the verdict on a slot and the scrub. Steps 1 to 8 are taken by RESET_RELEASE, MULTIPLIER_LOCK, the record commands and
the idle steps of the block (assumption log 40). -/

namespace Sys2Proof.Machine

/-! ### Stops and slots -/

/-- A step is reported; the flash bus is driven in steps 3 to 7 alone (R393, R400; spec/16 R445). -/
def State.setStep (s : State) (n : Nat) : State :=
  (s.setFld .wellStat F.wellStat.step n).setPorts { s.ports with nvm := if 3 ≤ n ∧ n ≤ 7 then .idle else .off }

/-- HALT-SAFE with its cause (R411, R417): the image key is cleared. -/
def State.haltSafe (s : State) (cause : Nat) : State :=
  ((s.setStep 15).setFld .wellStat F.wellStat.haltc cause).clearKey

/-- Both slots have failed: BLANK-IDLE in BLANK, else HALT-SAFE (R411, R412). -/
def State.noImage (s : State) : State :=
  if s.fld .wellStat F.wellStat.lcs = 0 then s.setStep 14 else s.haltSafe 3

/-- Whether the life-cycle state admits an UNSIGNED image (R414). -/
def State.unsignedOk (s : State) (env : BootEnv) : Bool :=
  match s.fld .wellStat F.wellStat.lcs with
  | 0 => true
  | 1 => env.devUnsigned
  | _ => false

/-- The whole image key is in. -/
def State.keyIn (s : State) : Bool := s.bit .wellKeystat F.wellKeystat.keyin

/-- The tests of a header, in order (R407, R410): the code of the first that fails.
DESIGN CHOICE, assumption log 60. DEDUCED, assumption log 93. -/
def State.headerCode (s : State) (env : BootEnv) (slotB : Bool) (x : SlotImg) : Option Nat :=
  if (env.device (slotPlace env slotB).1).isNone then some 1
  else if !x.readOk then some 17
  else if !x.magicOk then some 2
  else if x.fmt != 1 then some 3
  else if !x.hcrcOk then some 4
  else if x.length % 8 != 0 || decide (x.length < 224 ∨ 0x400000 < x.length) || !slotFits env slotB x.length then some 5
  else if !x.reservedOk then some Config.headerReservedCode.toNat
  else if !x.unsignedF && (decide (4 ≤ x.keyslot) || !env.pkhSet.getLsbD x.keyslot || env.revoke.getLsbD x.keyslot)
    then some 6
  else if x.unsignedF && !s.unsignedOk env then some 7
  else if x.enc && !s.keyIn then some 8
  else if x.rbi.toNat < env.floor.toNat then some 9
  else none

/-- The tests behind the last record (R406, R407): code and offset of the first that fails.
DESIGN CHOICE, assumption log 60. -/
def trailerCode (x : SlotImg) : Option (Nat × Nat) :=
  let t := x.length - 160
  if !x.endsAtT then some (12, (Config.failOffset 12).toNat)
  else if !x.digestOk then some (14, t)
  else if x.unsignedF then none
  else if !x.keyHashOk then some (15, t + 32)
  else if !x.sigOk then some (15, t + 96)
  else none

/-- Slot B is in progress. -/
def State.slotB (s : State) : Bool := s.bootStep == 6

/-- The slot in progress. -/
def State.slotImg (s : State) (env : BootEnv) : SlotImg := if s.slotB then env.slotB else env.slotA

/-- The failure of a slot is recorded (R410). -/
def State.setCause (s : State) (slotB : Bool) (code off : Nat) : State :=
  if slotB then (s.setFld .wellCauseb F.wellCauseb.code code).setFld .wellCauseb F.wellCauseb.offset off
  else (s.setFld .wellCausea F.wellCausea.code code).setFld .wellCausea F.wellCausea.offset off

/-- No record of a slot has been applied. -/
def Boot.fresh (b : Boot) : Boot :=
  { b with count := 0, shores := 0, muli := 0, mulf := 0, enc := false, regs := [], pool := [], broken := false }

/-- The read of a slot is on the flash bus (R399); with no device there is none. -/
def State.readSlot (s : State) (env : BootEnv) (slotB : Bool) : State :=
  if (env.device (slotPlace env slotB).1).isNone then s
  else s.setBoot { s.boot with flash := s.boot.flash ++ [slotRead env slotB (s.fld .wellFlash F.wellFlash.mode)] }

/-- Slot B begins, or there is no image (R408). -/
def State.tryB (s : State) (env : BootEnv) : State :=
  let s := (s.setStep 6).readSlot env true
  match s.headerCode env true env.slotB with
  | some c => (s.setCause true c 0).noImage
  | none => s.setBoot s.boot.fresh

/-- Slot A begins (R408). -/
def State.tryA (s : State) (env : BootEnv) : State :=
  let s := (s.setStep 5).readSlot env false
  match s.headerCode env false env.slotA with
  | some c => (s.setCause false c 0).tryB env
  | none => s.setBoot s.boot.fresh

/-! ### The scrub (R409) -/

/-- The wake of a slot's bank: through its handshake where one is in progress (spec/16 R427, R451). -/
def State.bootBank (s : State) (n : Nat) : State :=
  let b := s.fld (.memBstat n) F.memBstat.phys
  if s.ports.retAck.getLsbD b then s.moveBank n { st := 1, pend := 0, en := 1 }
  else if s.ports.retReq.getLsbD b then s.setBankLife n { st := 3, pend := 1, en := 1 }
  else s.setBankLife n { st := 2, pend := 0, en := 1 }

/-- A register returns to its reset value; what start-up itself set in it stays. DEDUCED, assumption log 92. -/
def State.scrubReg (s : State) (a : Nat) : State :=
  match regAt a with
  | some (.engStat e) => s.setFld (.engStat e) F.engStat.activeMap 0
  | some (.memBstat n) =>
    ((s.setFld (.memBstat n) F.memBstat.prev 15).setFld (.memBstat n) F.memBstat.handover 0).bootBank n
  | some (.memBctl n) => (s.wr (.memBctl n) (Reg.memBctl n).reset).bootBank n
  | some r => s.wr r r.reset
  | none => { s with regs := SMap.erase s.regs a }

/-- Registers of units that only a record can have set to work before step 8: the domains, the lanes and the schedule, the
weirs, the counters, the position units, the inlets, the fabric but for its stand-ins, the conduits, the background test and
the outlet's pointers. DEDUCED, assumption log 92. -/
def scrubbed (a : Nat) : Bool :=
  decide (0x719000 ≤ a ∧ a < 0x719100) || a == Reg.engFcnt.key || decide (0x720000 ≤ a ∧ a < 0x724400) ||
  decide (0x729000 ≤ a ∧ a < 0x760000) || (decide (0x760000 ≤ a ∧ a < 0x770000) && !(arrayAt (Reg.fabSpmap 0).key 4 8 a).isSome) ||
  decide (0x781000 ≤ a ∧ a < 0x790000) || a == Reg.memBgtstat.key || a == Reg.memBgtfail.key || a == Reg.outWrptr.key ||
  a == Reg.outRdptr.key

/-- What records write is no more: registers, units, and memory refilled with zero; after a warm reset the Pool keeps
what the slot did not write. Stand-ins stay (spec/10 R272). DEDUCED, assumption log 92 and 94. -/
def State.scrub (s : State) : State :=
  let b := s.boot
  let old := s
  let s := b.regs.foldl (fun s a => s.scrubReg a) s.unbuffer
  let keep : Nat → Bool := fun k => b.warm && decide (k < 0x100000) && !b.pool.contains k
  State.keepStandIns { s with
    regs := s.regs.filter fun c => !scrubbed c.1
    mem := s.mem.filter (fun c => keep (c.1 / 8)), chk := s.chk.filter (fun c => keep c.1)
    threads := [], engines := [], locks := [], channels := [], lanes := [], weirs := [], groups := [], domains := []
    counters := [], posUnits := [], inlets := [], conduits := [], startPc := [], threadDom := []
    cont := { Continuity.init with rollAt := s.cont.rollAt }
    integ := { s.integ with bgtSaved := none, bgtAgain := false, handed := [] }
    outlet := { s.outlet with logs := [], traces := [], gap := 0 }
    ports := { s.ports with evout := 0 }
    soon := s.soon.filter Soon.isMailbox } old

/-- The slot in progress fails (R407 to R410). -/
def State.failSlot (s : State) (env : BootEnv) (code off : Nat) : State :=
  let t := s.setCause s.slotB code off
  let t := if s.boot.count = 0 then t else t.scrub
  if s.slotB then t.noImage else t.tryB env

/-! ### Records (R402 to R405) -/

/-- Registers whose contents differ. -/
def changedRegs (a b : SMap (BitVec 32)) : List Nat :=
  ((a ++ b).map (·.1)).filter fun k => (a.find? fun c => c.1 == k) != (b.find? fun c => c.1 == k)

/-- A record is applied by `f`, which writes the Pool words `pool` and the registers `regs`. -/
def State.applyRecord (s : State) (chk : RecChk) (regs pool : List Nat) (f : State → State) : State :=
  let t := f s
  t.setBoot { t.boot with count := t.boot.count + 1, enc := t.boot.enc || chk.enc,
                          regs := t.boot.regs ++ regs ++ changedRegs s.regs t.regs, pool := t.boot.pool ++ pool }

/-- A record of the slot in progress meets its tests in order (R403, R407); `ok` are those of its fields. -/
def State.record (s : State) (chk : RecChk) (ok : Bool) (regs pool : List Nat) (f : State → State) :
    Host.Outcome State Fault Refusal :=
  match s.boot.env with
  | none => s.run false id
  | some env =>
    s.run ((s.bootStep == 5 || s.bootStep == 6) && decide (s.boot.count < (s.slotImg env).nrec)) fun s =>
      if !chk.crcOk then s.failSlot env 10 chk.off
      else if chk.enc && !(s.slotImg env).enc then s.failSlot env 11 chk.off
      else if chk.enc && !chk.tagOk then s.failSlot env 13 chk.off
      else if !ok then s.failSlot env 11 chk.off
      else s.applyRecord chk regs pool f

/-- The engine that holds active role `r`; every one is held while records are read (R395). -/
def State.roleEngine (s : State) (r : Nat) : Nat := (s.engineOf r).getD 0

/-- Words are stored from physical word `k`, one for each of `data`. -/
def State.storeWords (s : State) (k : Nat) (l : List (BitVec 64)) : State :=
  (l.zipIdx k).foldl (fun s x => s.writeWord x.2 0xFF x.1) s

/-- SHORE_RECORD (R404): the ratio is kept for step 7. -/
def execShoreRecord (chk : RecChk) (muli mulf : Nat) (s : State) : Host.Outcome State Fault Refusal :=
  s.record chk (decide (4 ≤ muli ∧ muli ≤ 32 ∧ mulf < 0x10000)) [] [] fun s =>
    s.setBoot { s.boot with shores := s.boot.shores + 1, muli := muli, mulf := mulf }

/-- PSTORE_RECORD (R404): lines of the program store, 56 bits each (spec/02 R36). -/
def execPstoreRecord (chk : RecChk) (role waddr : Nat) (lines : List (BitVec 64)) (s : State) :
    Host.Outcome State Fault Refusal :=
  s.record chk (decide (role < 8 ∧ waddr % 4 = 0 ∧ waddr < 0x4000 ∧ waddr + 4 * lines.length ≤ 0x4000)) [] [] fun s =>
    s.storeWords (pstoreWord (s.roleEngine role) (waddr / 4)) (lines.map fun d => d &&& 0x00FFFFFFFFFFFFFF)

/-- A micro-op of reserved kind or reserved OP (spec/04 R116, R121). -/
def reservedUop (u : BitVec 32) : Bool :=
  let o := F.engUop.op.get u
  match F.engUop.kind.get u with
  | 0 => false
  | 1 => decide (4 ≤ o)
  | 2 => decide (3 ≤ o)
  | 3 => decide (2 ≤ o)
  | 4 => decide (2 ≤ o)
  | 5 => decide (10 ≤ o)
  | _ => true

/-- A decode table that R121 accepts: LEN at most 8, no reserved micro-op. -/
def tableOk (words : List (BitVec 32)) : Bool :=
  words.length == 144 && (List.range 16).all fun n =>
    decide (F.engCusthdr.len.get (words.getD (9 * n) 0) ≤ 8) &&
    (List.range 8).all fun k => !reservedUop (words.getD (9 * n + 1 + k) 0)

/-- The fields of a register that a record sets; reserved bits stay 0. -/
def Reg.fieldBits (r : Reg) (v : BitVec 32) : BitVec 32 := r.fields.foldl (fun x f => x ||| (v &&& f.mask)) 0

/-- Words become the contents of registers. -/
def State.setRegs (s : State) (l : List (Reg × BitVec 32)) : State := l.foldl (fun s x => s.wr x.1 (x.1.fieldBits x.2)) s

/-- The keys of registers that a record writes. -/
def regKeys (l : List (Reg × BitVec 32)) : List Nat := l.map fun x => x.1.key

/-- The registers of a decode table with their words. -/
def tableRegs (e : Nat) (words : List (BitVec 32)) : List (Reg × BitVec 32) :=
  (List.range 16).flatMap fun n => (Reg.engCusthdr e n, words.getD (9 * n) 0) ::
    (List.range 8).map fun k => (Reg.engUop e n k, words.getD (9 * n + 1 + k) 0)

/-- DECODE_RECORD (R404; spec/04 R121). -/
def execDecodeRecord (chk : RecChk) (role : Nat) (words : List (BitVec 32)) (s : State) :
    Host.Outcome State Fault Refusal :=
  let l := tableRegs (s.roleEngine role) words
  s.record chk (decide (role < 8) && tableOk words) (regKeys l) [] fun s => s.setRegs l

/-- The registers of the two slot maps with their entries, four to a register (R404). -/
def mapRegs (e : Nat) (maps : List (BitVec 64)) : List (Reg × BitVec 32) :=
  let half := fun (j : Nat) => unitOf (maps.getD (j / 2) 0) (4 * (j % 2))
  (List.range 16).flatMap fun j => [(Reg.engSmapA e j, half j), (Reg.engSmapB e j, half (16 + j))]

/-- ROLE_RECORD (R404). -/
def execRoleRecord (chk : RecChk) (role active : Nat) (farbase : BitVec 32) (maps : List (BitVec 64)) (s : State) :
    Host.Outcome State Fault Refusal :=
  let e := s.roleEngine role
  let l := (Reg.engFarbase e, farbase) :: mapRegs e maps
  s.record chk (decide (role < 8 ∧ active < 2) && maps.length == 16) (regKeys l) [] fun s =>
    (s.setRegs l).setFld (.engStat e) F.engStat.activeMap active

/-- The registers of a thread with their words (R404); a LIMIT above 0x1_0000 acts as 0x1_0000 (spec/05 R130). -/
def threadRegs (e t : Nat) (x : ThreadRec) : List (Reg × BitVec 32) :=
  let limit := fun (v : BitVec 32) => BitVec.ofNat 32 (min 0x10000 (F.engTsegl.limit.get v))
  [(Reg.engTfetch e t, if x.flags.getLsbD 4 then 1 else 0), (Reg.engTcseg e t, x.csegHi ++ x.csegLo)] ++
  (List.range 8).flatMap fun k =>
    [(Reg.engTsegb e t k, (x.segs.getD k (0, 0)).1), (Reg.engTsegl e t k, limit (x.segs.getD k (0, 0)).2)]

/-- The context of a thread takes its record. -/
def Thread.configured (x : Thread) (r : ThreadRec) : Thread :=
  { x with pc := r.pc, priv := r.flags.toNat % 4, prio := r.prio.toNat, urgmask := r.urgmask, uvec := r.uvec }

/-- THREAD_RECORD (R404). -/
def execThreadRecord (chk : RecChk) (role thr : Nat) (rec : ThreadRec) (s : State) :
    Host.Outcome State Fault Refusal :=
  let e := s.roleEngine role
  let l := threadRegs e thr rec
  let ok := decide (role < 8 ∧ thr < 32 ∧ rec.flags.toNat % 4 ≠ 3 ∧ rec.prio.toNat < 8) && rec.segs.length == 8
  s.record chk ok (regKeys l) [] fun s =>
    let s := (s.setRegs l).modThread e thr fun x => x.configured rec
    { s with startPc := SMap.put s.startPc (32 * role + thr) rec.pc 0 }

/-- The physical words that serve `n` words of the Pool from address `a`. -/
def State.poolWords (s : State) (a n : Nat) : List (Option Nat) :=
  (List.range n).map fun i => s.slotPhys (poolSlot (a + 8 * i)) (slotWord (a + 8 * i))

/-- POOL_RECORD (R404): whole words, without ownership checks; a word of a removed page has no place. -/
def execPoolRecord (chk : RecChk) (addr : Nat) (data : List (BitVec 64)) (s : State) :
    Host.Outcome State Fault Refusal :=
  let ok := decide (addr % 8 = 0 ∧ 0x100000 ≤ addr ∧ addr < 0x500000 ∧ addr + 8 * data.length ≤ 0x500000)
  let places := s.poolWords addr data.length
  s.record chk ok [] (places.filterMap id) fun s =>
    (places.zip data).foldl (fun s x => match x.1 with
      | some k => s.writeWord k 0xFF x.2
      | none => s) s

/-- LRAM_RECORD (R404). -/
def execLramRecord (chk : RecChk) (role off : Nat) (data : List (BitVec 64)) (s : State) :
    Host.Outcome State Fault Refusal :=
  let ok := decide (role < 8 ∧ off % 8 = 0 ∧ off < 0x8000 ∧ off + 8 * data.length ≤ 0x8000)
  s.record chk ok [] [] fun s => s.storeWords (lramWord (s.roleEngine role) (off / 8)) data

/-- TARN_RECORD (R404, R414, R416): in PRODUCTION it must be encrypted; while the Tarn is shut it is skipped.
DEDUCED, assumption log 90. -/
def execTarnRecord (chk : RecChk) (off : Nat) (data : List (BitVec 64)) (s : State) :
    Host.Outcome State Fault Refusal :=
  let ok := decide (off % 8 = 0 ∧ off < 0x4000 ∧ off + 8 * data.length ≤ 0x4000) &&
    (chk.enc || s.fld .wellStat F.wellStat.lcs != 2)
  s.record chk ok [] [] fun s => if s.tarnShut then s else s.storeWords (tarnWord (off / 8)) data

/-- The addresses a REG pair may name (R405). -/
def regWindow (a : Nat) : Bool :=
  decide (0x719000 ≤ a ∧ a < 0x71A000) || decide (0x720000 ≤ a ∧ a < 0x790000) ||
  decide (0x7A0000 ≤ a ∧ a < 0x7B0000) || a == Reg.wellCfg.key

/-- The writes that R405 excludes. -/
def regExcluded (r : Reg) (v : BitVec 32) : Bool :=
  match r with
  | .engDctl _ => F.engDctl.en.get v == 1 || F.engDctl.drst.get v == 1 || F.engDctl.cmd.get v != 0
  | .engFdecl => true
  | .cntGo => true
  | .cntSnap => true
  | .fabFire => true
  | .fabTrip _ => true
  | .fabSpmap _ => true
  | .laneShctrl => true
  | .laneXbar _ => true
  | .memRetire _ => true
  | .memMigctl => true
  | .memClrw => true
  | .cdCtrl _ => F.cdCtrl.kick.get v == 1
  | _ => false

/-- A pair that R405 permits. -/
def pairOk (x : Nat × BitVec 32) : Bool :=
  x.1 % 4 == 0 && regWindow x.1 && match regAt x.1 with
  | some r => !regExcluded r x.2
  | none => true

/-- The writer of REG pairs: a secure master (R404). -/
def wellhead : Who := .host 0 true true

/-- A pair breaks a whole-image rule that its register will not show: a quota that passes the table (spec/06 R180), PAIR on
an odd weir (spec/07 R205), TRCRES below ALMRES (spec/19 R501). DEDUCED, assumption log 88. -/
def State.pairBreaks (s : State) (x : Nat × BitVec 32) : Bool :=
  match regAt x.1 with
  | some (.laneCtrl p) =>
    decide (65536 < s.fld .laneSchquota F.laneSchquota.total + F.laneCtrl.quota.get x.2 -
      s.fld (.laneCtrl p) F.laneCtrl.quota)
  | some (.weirCfg p) => p % 2 == 1 && F.weirCfg.pair.get x.2 == 1
  | some .outRes => decide (F.outRes.trcres.get x.2 < F.outRes.almres.get x.2)
  | _ => false

/-- One pair takes effect as the register's rules state; what a rule refuses is not counted (R405). WELL_CFG takes its value
here alone (R419). -/
def State.writePair (s : State) (x : Nat × BitVec 32) : State :=
  let s := if s.pairBreaks x then s.setBoot { s.boot with broken := true } else s
  match regAt x.1 with
  | some .wellCfg => s.setFld .wellCfg F.wellCfg.tampact (F.wellCfg.tampact.get x.2)
  | some r => (unitRule s ⟨wellhead, x.1, x.2, 15⟩ r).1
  | none => s

/-- REG_RECORD (R404, R405). -/
def execRegRecord (chk : RecChk) (pairs : List (Nat × BitVec 32)) (s : State) : Host.Outcome State Fault Refusal :=
  s.record chk (pairs.all pairOk) ((pairs.map (·.1)).filter fun a => (regAt a).isSome) [] fun s =>
    pairs.foldl (fun s x => s.writePair x) s

end Sys2Proof.Machine
end

