-- ==== Sys2Proof/Machine/Branches.lean ====
section
/-! DEFINITION. The commands of the branches, jumps, calls and returns (spec/03 R76 to R80). -/

namespace Sys2Proof.Machine

/-- BEQ (R76). -/
def execBeq (e t a b : Nat) (off : Int) (s : State) : Host.Outcome State Fault Refusal :=
  s.issue e t (.branch .eq a b off)

/-- BNE (R76). -/
def execBne (e t a b : Nat) (off : Int) (s : State) : Host.Outcome State Fault Refusal :=
  s.issue e t (.branch .ne a b off)

/-- BLT (R76). -/
def execBlt (e t a b : Nat) (off : Int) (s : State) : Host.Outcome State Fault Refusal :=
  s.issue e t (.branch .lt a b off)

/-- BGE (R76). -/
def execBge (e t a b : Nat) (off : Int) (s : State) : Host.Outcome State Fault Refusal :=
  s.issue e t (.branch .ge a b off)

/-- BLTU (R76). -/
def execBltu (e t a b : Nat) (off : Int) (s : State) : Host.Outcome State Fault Refusal :=
  s.issue e t (.branch .ltu a b off)

/-- BGEU (R76). -/
def execBgeu (e t a b : Nat) (off : Int) (s : State) : Host.Outcome State Fault Refusal :=
  s.issue e t (.branch .geu a b off)

/-- BEQI (R76). -/
def execBeqi (e t a : Nat) (imm off : Int) (s : State) : Host.Outcome State Fault Refusal :=
  s.issue e t (.branchI .eq a imm off)

/-- BNEI (R76). -/
def execBnei (e t a : Nat) (imm off : Int) (s : State) : Host.Outcome State Fault Refusal :=
  s.issue e t (.branchI .ne a imm off)

/-- BLTI (R76). -/
def execBlti (e t a : Nat) (imm off : Int) (s : State) : Host.Outcome State Fault Refusal :=
  s.issue e t (.branchI .lt a imm off)

/-- BGEI (R76). -/
def execBgei (e t a : Nat) (imm off : Int) (s : State) : Host.Outcome State Fault Refusal :=
  s.issue e t (.branchI .ge a imm off)

/-- BLTUI (R76). -/
def execBltui (e t a imm : Nat) (off : Int) (s : State) : Host.Outcome State Fault Refusal :=
  s.issue e t (.branchI .ltu a imm off)

/-- BGEUI (R76). -/
def execBgeui (e t a imm : Nat) (off : Int) (s : State) : Host.Outcome State Fault Refusal :=
  s.issue e t (.branchI .geu a imm off)

/-- BZ (R77). -/
def execBz (e t a : Nat) (off : Int) (s : State) : Host.Outcome State Fault Refusal := s.issue e t (.bz false a off)

/-- BNZ (R77). -/
def execBnz (e t a : Nat) (off : Int) (s : State) : Host.Outcome State Fault Refusal := s.issue e t (.bz true a off)

/-- JMP, which is MTS JMP (R80). -/
def execJmp (e t a : Nat) (s : State) : Host.Outcome State Fault Refusal := s.issue e t (.mts 30 a)

/-- CALL, which is MTS CALL (R80). -/
def execCall (e t a : Nat) (s : State) : Host.Outcome State Fault Refusal := s.issue e t (.mts 31 a)

/-- RET, which is MTS RET (R80). -/
def execRet (e t a : Nat) (s : State) : Host.Outcome State Fault Refusal := s.issue e t (.mts 29 a)

end Sys2Proof.Machine
end

