-- ==== Sys2Proof/Machine/HostMemory.lean ====
section
/-! DEFINITION. Accesses of host masters to the block's address space (spec/11 R278 to R283, R290, R294, R306; spec/17
R464). The response of the port is always okay (spec/16 R429); the data of the last read stand in `rdata`. -/

namespace Sys2Proof.Machine

/-- What a host access meets: a physical word, a wait, the wake of a slot, or a violation of a kind (R464). -/
inductive Reach where
  | go (k : Nat)
  | wait
  | wake (n : Nat)
  | bad (kind : Nat)
deriving DecidableEq, Repr

/-- The local RAM alias (R280; spec/14 R369, R375): it waits for an engine that holds the role ON, and for the mirror;
the alias of a vacant role is a violation. DEDUCED, assumption log 79. -/
def State.reachAlias (s : State) (a : Nat) (write : Bool) : Reach :=
  let r := (a - 0x10000) / 0x8000
  let w := a % 0x8000 / 8
  match s.engineOn r with
  | some e => if write && s.mirrorWaits e w then .wait else .go (lramWord e w)
  | none =>
    let taking := match s.cont.takeover with
      | some x => x.role == r
      | none => false
    if s.booted && decide (r < 8) && (s.engineOf r).isNone && !taking then .bad 8 else .wait

/-- The Pool (R288, R291, R306). -/
def State.reachPool (s : State) (w : Who) (a : Nat) (write : Bool) : Reach :=
  match s.poolAnswer a (.host (s.rights w)) write with
  | .go => .go (s.poolPhys a)
  | .stall => .wait
  | .wake => .wake (poolSlot a)
  | .refuse => .bad 4

/-- The Tarn (R294, R295; spec/18 R481): secure masters only; in SLEEP it is in retention. -/
def State.reachTarn (s : State) (w : Who) (a : Nat) : Reach :=
  if !(s.rights w).isSecure || s.tarnShut then .bad 5
  else if s.asleep || s.power.waking || decide (3 ≤ s.power.stage) then .wait
  else .go (tarnWord ((a - 0x600000) / 8))

/-- What a memory access of a host master meets (R278). -/
def State.reach (s : State) (w : Who) (a : Nat) (write : Bool) : Reach :=
  if 0x10000 ≤ a ∧ a < 0x58000 then s.reachAlias a write
  else if inPool a then s.reachPool w a write
  else if inTarn a then s.reachTarn w a
  else .bad 1

/-- The response carries data. DESIGN CHOICE, assumption log 96. -/
def State.respond (s : State) (write : Bool) (d : BitVec 32) : State := if write then s else { s with rdata := d }

/-- A write of a physical word by the service port; a local RAM write goes to its mirror as well (spec/14 R369). -/
def State.hostStore (s : State) (a k : Nat) (d : BitVec 32) (strb : BitVec 4) : State :=
  if 0x100000 ≤ k ∧ k < 0x110000 then
    let y := s.lramPort ((k - 0x100000) / 4096) true (k % 4096) (unitMask a strb)
    y.2.writeLram ((k - 0x100000) / 4096) (k % 4096) y.1 (unitData a d)
  else s.writeWord k (unitMask a strb) (unitData a d)

/-- An access that must wait: it wakes the block from SLEEP (spec/18 R481) and is repeated by its master.
DESIGN CHOICE, assumption log 56. -/
def State.hostWaits (s : State) : State :=
  if s.asleep || s.power.stage != 0 then s.wakeBlock 2 0 else s

/-- A memory access of a host master at a 4-aligned block address. -/
def State.hostMemory (s : State) (w : Who) (write : Bool) (a : Nat) (d : BitVec 32) (strb : BitVec 4) : State :=
  if write && !s.accepting then s.violate w 3 a true
  else match s.reach w a write with
    | .go k =>
      if write then s.hostStore a k d strb
      else
        let x := s.readWord k
        x.2.2.respond false (unitOf x.1 a &&& byteMask strb)
    | .wait => s.hostWaits
    | .wake n => (s.autoWake n).hostWaits
    | .bad kind => (s.respond write 0).violate w kind a write

/-- The schedule window (R278; spec/06 R186): host masters only read it. -/
def State.hostSchedule (s : State) (w : Who) (write : Bool) (a : Nat) (strb : BitVec 4) : State :=
  if write then s.violate w 3 a true else s.respond false (s.schedUnit a &&& byteMask strb)

/-- An access of a host master at a 4-aligned block address (R278, spec/16 R430): one that covers no byte has no
effect. -/
def State.hostAccess (s : State) (w : Who) (write : Bool) (a : Nat) (d : BitVec 32) (strb : BitVec 4) : State :=
  if strb = 0 then s.respond write 0
  else match region a with
    | .control =>
      if write then s.writeBus ⟨w, a, d, strb⟩ else (s.readBus w a strb).2.respond false (s.readBus w a strb).1
    | .sched => s.hostSchedule w write a strb
    | _ => s.hostMemory w write a d strb

/-- HOST_MEMORY_ACCESS (R279). -/
def execHostMemoryAccess (w : Who) (write : Bool) (addr : Nat) (d : BitVec 32) (strb : BitVec 4) (s : State) :
    Host.Outcome State Fault Refusal :=
  s.run (isHost w) fun s => s.hostAccess w write (addr % 2 ^ 24 / 4 * 4) d strb

/-- REGISTER_WRITE (R453, R458): bits [31:24] and [1:0] of the address take no part; a host's access outside control space is
what R278 and R279 say. -/
def execRegisterWrite (w : Who) (addr : Nat) (d : BitVec 32) (strb : BitVec 4) (s : State) :
    Host.Outcome State Fault Refusal :=
  s.run true fun s =>
    if isHost w then s.hostAccess w true (addr % 2 ^ 24 / 4 * 4) d strb else s.writeBus ⟨w, addr % 2 ^ 24, d, strb⟩

/-- RC_READ (R459): a read by its block address; bits [31:24] and [1:0] take no part (R453). -/
def execRcRead (w : Who) (addr : Nat) (strb : BitVec 4) (s : State) : Host.Outcome State Fault Refusal :=
  let a := addr % 2 ^ 24 / 4 * 4
  s.run true fun s =>
    if isHost w then s.hostAccess w false a 0 strb
    else { (s.readBus w a strb).2 with rdata := (s.readBus w a strb).1 }

end Sys2Proof.Machine
end

