-- ==== Sys2Proof/Machine/LoadStore.lean ====
section
/-! DEFINITION. The commands of the loads and stores (spec/03 R74, R75). -/

namespace Sys2Proof.Machine

/-- LD (R75). -/
def execLd (e t rd k off : Nat) (s : State) : Host.Outcome State Fault Refusal := s.issue e t (.load .word rd k off)

/-- LDB (R75). -/
def execLdb (e t rd k off : Nat) (s : State) : Host.Outcome State Fault Refusal := s.issue e t (.load .byte rd k off)

/-- LDD (R75). -/
def execLdd (e t n k off : Nat) (s : State) : Host.Outcome State Fault Refusal := s.issue e t (.load .pair n k off)

/-- ST (R75). -/
def execSt (e t rd k off : Nat) (s : State) : Host.Outcome State Fault Refusal := s.issue e t (.store .word rd k off)

/-- STB (R75). -/
def execStb (e t rd k off : Nat) (s : State) : Host.Outcome State Fault Refusal := s.issue e t (.store .byte rd k off)

/-- STD (R75). -/
def execStd (e t n k off : Nat) (s : State) : Host.Outcome State Fault Refusal := s.issue e t (.store .pair n k off)

end Sys2Proof.Machine
end

