-- ==== Sys2Proof/Machine/LongStarts.lean ====
section
/-! DEFINITION. The commands of the long operations (spec/03 R81 to R85). -/

namespace Sys2Proof.Machine

/-- MUL (R82). -/
def execMul (e t a b : Nat) (s : State) : Host.Outcome State Fault Refusal := s.issue e t (.mul .mul a b)

/-- MULU (R82). -/
def execMulu (e t a b : Nat) (s : State) : Host.Outcome State Fault Refusal := s.issue e t (.mul .mulu a b)

/-- MULQ (R82). -/
def execMulq (e t a b : Nat) (s : State) : Host.Outcome State Fault Refusal := s.issue e t (.mul .mulq a b)

/-- MAC (R82). -/
def execMac (e t n a b : Nat) (s : State) : Host.Outcome State Fault Refusal := s.issue e t (.mac false n a b)

/-- MSC (R82). -/
def execMsc (e t n a b : Nat) (s : State) : Host.Outcome State Fault Refusal := s.issue e t (.mac true n a b)

/-- SCL (R82). -/
def execScl (e t n imm : Nat) (s : State) : Host.Outcome State Fault Refusal := s.issue e t (.scl n imm)

/-- ACLR (R82). -/
def execAclr (e t n : Nat) (s : State) : Host.Outcome State Fault Refusal := s.issue e t (.aclr n)

/-- ASET (R82). -/
def execAset (e t n dn : Nat) (s : State) : Host.Outcome State Fault Refusal := s.issue e t (.aset n dn)

/-- DIV (R83). -/
def execDiv (e t dn b : Nat) (s : State) : Host.Outcome State Fault Refusal := s.issue e t (.div true dn b)

/-- DIVU (R83). -/
def execDivu (e t dn b : Nat) (s : State) : Host.Outcome State Fault Refusal := s.issue e t (.div false dn b)

/-- SQRT (R82). -/
def execSqrt (e t dn : Nat) (s : State) : Host.Outcome State Fault Refusal := s.issue e t (.sqrt dn)

/-- SINCOS (R84). -/
def execSincos (e t a : Nat) (s : State) : Host.Outcome State Fault Refusal := s.issue e t (.cordic .sincos a 0)

/-- ATAN2 (R84). -/
def execAtan2 (e t a b : Nat) (s : State) : Host.Outcome State Fault Refusal := s.issue e t (.cordic .atan2 a b)

/-- MAG (R84). -/
def execMag (e t a b : Nat) (s : State) : Host.Outcome State Fault Refusal := s.issue e t (.cordic .mag a b)

/-- LRD (R85). -/
def execLrd (e t : Nat) (form : LrdForm) (s : State) : Host.Outcome State Fault Refusal := s.issue e t (.lrd form)

end Sys2Proof.Machine
end

