-- ==== Sys2Proof/Machine/StoreBuffer.lean ====
section
/-! DEFINITION. The drain of the store buffer (spec/02 R48 to R51): the oldest entry of an engine reaches its memory or
its unit. -/

namespace Sys2Proof.Machine

/-- The entry as a write of a register (spec/17 R458): its mask selects the bytes. -/
def StoreEntry.write (x : StoreEntry) (e : Nat) : Wr := ⟨.thread e x.thr, 4 * x.unit, x.data, x.mask⟩

/-- The bytes of the entry are stored in a physical word; poisoned data store the poison code (spec/02 R53). -/
def State.storeWord (s : State) (k : Nat) (x : StoreEntry) : State :=
  if x.poison then s.poisonWord (s.served k)
  else s.writeWord k (unitMask (4 * x.unit) x.mask) (unitData (4 * x.unit) x.data)

/-- The same in local RAM, through the thread port, and in its mirror (spec/11 R281, spec/14 R369). -/
def State.storeLram (s : State) (e : Nat) (x : StoreEntry) : State :=
  let y := s.lramPort e false (x.unit / 2) (if x.poison then 0xFF else unitMask (4 * x.unit) x.mask)
  if x.poison then y.2.poisonLram e (x.unit / 2) else y.2.writeLram e (x.unit / 2) y.1 (unitData (4 * x.unit) x.data)

/-- The slot takes a buffered store of engine `e` now: it is ON, or stopping with its retention not yet requested; in a
handover the old owner's stores go first (spec/11 R291, R305, R306). DEDUCED, assumption log 80. -/
def State.slotTakes (s : State) (n e : Nat) : Bool :=
  (!s.bit (.memBstat n) F.memBstat.handover || s.oldOwner n e) &&
  match s.fld (.memBstat n) F.memBstat.state with
  | 2 => true
  | 3 => !s.ports.retReq.getLsbD (s.fld (.memBstat n) F.memBstat.phys)
  | _ => false

/-- The head entry must wait (spec/02 R58, spec/14 R369). DEDUCED, assumption log 80. -/
def State.drainWaits (s : State) (e : Nat) (x : StoreEntry) : Bool :=
  match region (4 * x.unit) with
  | .lram => s.mirrorWaits e (x.unit / 2)
  | .pool => !s.slotTakes (poolSlot (4 * x.unit)) e
  | _ => false

/-- A poisoned store has reached control space (spec/05 R143). -/
def State.markBite (s : State) (e t : Nat) : State := s.modThread e t fun x => { x with bite := true }

/-- A store to a unit: a poisoned value is not taken; a weir stage is marked poisoned (spec/05 R143). -/
def State.storeControl (s : State) (e : Nat) (x : StoreEntry) : State :=
  let w := x.write e
  if x.poison then
    match regAt (4 * x.unit) with
    | some (.weirStage p) => (s.accept w (.weirStage p) true fun s => writeWeirStage s w p true).markBite e x.thr
    | _ => s.markBite e x.thr
  else s.writeBus w

/-- A store to the schedule window is ignored and counted; a poisoned one bites too (spec/06 R186). -/
def State.storeSched (s : State) (e : Nat) (x : StoreEntry) : State :=
  let s := s.violate (.thread e x.thr) 3 (4 * x.unit) true
  if x.poison then s.markBite e x.thr else s

/-- The entry becomes visible (spec/02 R48). A page removed since, and a Tarn closed since, take nothing; the Tarn
counts it (spec/11 R295). DEDUCED, assumption log 81. -/
def State.applyStore (s : State) (e : Nat) (x : StoreEntry) : State :=
  match region (4 * x.unit) with
  | .lram => s.storeLram e x
  | .pool => match s.slotPhys (poolSlot (4 * x.unit)) (slotWord (4 * x.unit)) with
    | some k => s.storeWord k x
    | none => s
  | .tarn =>
    if s.tarnShut then s.violate (.thread e x.thr) 5 (4 * x.unit) true
    else s.storeWord (tarnWord ((4 * x.unit - 0x600000) / 8)) x
  | .control => s.storeControl e x
  | .sched => s.storeSched e x
  | .none => s

/-- A thread that waits for the buffer has one entry less to wait for; at the last its instruction completes (R51). -/
def State.drainStep (s : State) (e t : Nat) : State :=
  match (s.thread e t).drain with
  | none => s
  | some d =>
    if 1 < d.left then s.modThread e t fun x => { x with drain := some { d with left := d.left - 1 } }
    else
      let y := (s.modThread e t fun x => { x with drain := none }).finishDrain e t d.act
      (y.1.modThread e t fun x => { x with loads := x.loads ++ y.2.toList }).boundary e t

/-- A record of thread `t` waits for one store less (spec/14 R370). -/
def State.ckDrained (s : State) (e t : Nat) : State :=
  s.modThread e t fun x => Thread.ckLess x fun c => { c with stores := c.stores - 1 }

/-- The entry leaves the buffer. -/
def State.popEntry (s : State) (e : Nat) (x : StoreEntry) : State :=
  (s.modEngine e fun y => { y with sb := y.sb.drop 1 }).ckDrained e x.thr

/-- What waited for the entry goes on. -/
def State.afterDrain (s : State) (e : Nat) (x : StoreEntry) : State :=
  let s := allThreads.foldl (fun s t => s.drainStep e t) s
  if inPool (4 * x.unit) then s.retFollow (poolSlot (4 * x.unit)) else s

/-- STORE_DRAIN (R48). -/
def execStoreDrain (e : Nat) (s : State) : Host.Outcome State Fault Refusal :=
  match (s.engine e).sb with
  | [] => s.run false id
  | x :: _ => s.run (decide (e < 9) && !s.asleep && !s.drainWaits e x) fun s =>
    ((s.popEntry e x).applyStore e x).afterDrain e x

end Sys2Proof.Machine
end

