-- ==== Sys2Proof/Machine/System.lean ====
section
/-! DEFINITION. The commands of the system instructions (spec/03 R91 to R96). -/

namespace Sys2Proof.Machine

/-- WAIT (R92). -/
def execWaitEvt (e t rd m : Nat) (s : State) : Host.Outcome State Fault Refusal := s.issue e t (.wait rd m)

/-- FENCE (spec/02 R51). -/
def execFence (e t : Nat) (s : State) : Host.Outcome State Fault Refusal := s.issue e t (.fence)

/-- LOCK (R93, spec/13 R342). -/
def execLock (e t rd k : Nat) (s : State) : Host.Outcome State Fault Refusal := s.issue e t (.lock rd k)

/-- UNLOCK (spec/13 R346). -/
def execUnlock (e t rd k : Nat) (s : State) : Host.Outcome State Fault Refusal := s.issue e t (.unlock rd k)

/-- LOG (R94, spec/19 R502). -/
def execLogRec (e t rc dn : Nat) (s : State) : Host.Outcome State Fault Refusal := s.issue e t (.log rc dn)

/-- MFS (R96). -/
def execMfs (e t rd sr : Nat) (s : State) : Host.Outcome State Fault Refusal := s.issue e t (.mfs rd sr)

/-- MTS (R96). -/
def execMts (e t sr a : Nat) (s : State) : Host.Outcome State Fault Refusal := s.issue e t (.mts sr a)

/-- MTS URET (spec/05 R138). -/
def execMtsUret (e t a : Nat) (s : State) : Host.Outcome State Fault Refusal := s.issue e t (.mts 8 a)

/-- SLOTSWAP (spec/02 R28, R29). -/
def execSlotswap (e t : Nat) (s : State) : Host.Outcome State Fault Refusal := s.issue e t (.slotswap)

/-- CHECKPOINT (R95). -/
def execCheckpoint (e t : Nat) (s : State) : Host.Outcome State Fault Refusal := s.issue e t (.checkpoint)

/-- PARK (spec/02 R40). -/
def execPark (e t : Nat) (s : State) : Host.Outcome State Fault Refusal := s.issue e t (.park)

end Sys2Proof.Machine
end

