-- ==== Sys2Proof/Machine/Tap.lean ====
section
/-! DEFINITION. The TAP (spec/18 R488 to R492): its instructions, the debug access, and the entry to the test modes. It
works in reset too (spec/16 R428). -/

namespace Sys2Proof.Machine

/-- IDCODE (R490). -/
def idcode : BitVec 32 := 0x3B256001

/-- The TAP's state with an instruction and the data it captures. -/
def State.setTap (s : State) (x : Tap) : State := { s with tap := x }

/-- The TAP holds instruction `ir` and has captured `d`. -/
def State.tapLoad (s : State) (ir : Nat) (d : BitVec 32) : State := s.setTap { s.tap with ir := ir, dr := d }

/-- TAP_RESET (R490): Test-Logic-Reset loads IDCODE. -/
def execTapReset (s : State) : Host.Outcome State Fault Refusal := .next (s.tapLoad 1 idcode)

/-- TAP_IDCODE (R490). -/
def execTapIdcode (s : State) : Host.Outcome State Fault Refusal := .next (s.tapLoad 1 idcode)

/-- TAP_STATUS (R490): WELL_STAT is captured; it is functional state, undefined in a test mode (R492).
DEDUCED, assumption log 26. -/
def execTapStatus (s : State) : Host.Outcome State Fault Refusal :=
  match s.test with
  | some _ => .fault .functionalStateUndefined
  | none => .next (s.tapLoad 2 (s.rd .wellStat))

/-- TAP_BYPASS (R490): a 1-bit register that captures 0. -/
def State.bypass (s : State) : State := s.tapLoad 31 0

/-- TAP_BYPASS (R490). -/
def execTapBypass (s : State) : Host.Outcome State Fault Refusal := .next s.bypass

/-! ### DBGACC (R491) -/

/-- The master that a debug access is. -/
def dbgMaster : Who := .host 0xFF true false

/-- An access at a 4-aligned address has to wait (spec/11 R280, R306). DESIGN CHOICE, assumption log 56. -/
def State.accessPends (s : State) (write : Bool) (a : Nat) : Bool :=
  if (region a).isControl || (write && !s.accepting) then false
  else match s.reach dbgMaster a write with
    | .wait => true
    | .wake _ => true
    | _ => false

/-- One access through the host port; its data go to the TAP, not to hrp_rdata. DESIGN CHOICE, assumption log 95. -/
def State.dbgAccess (s : State) (write : Bool) (a : Nat) (d : BitVec 32) (strb : BitVec 4) : State :=
  let t := s.hostAccess dbgMaster write a d strb
  let data := if write then 0 else t.rdata
  let pends := decide (strb ≠ 0) && s.accessPends write a
  State.setTap { t with rdata := s.rdata } { t.tap with ir := 3, data := if pends then t.tap.data else data, done := !pends }

/-- TAP_DBGACC (R491): while debug is closed no access is issued, and capture returns zero. -/
def execTapDbgacc (write : Bool) (addr : Nat) (d : BitVec 32) (strb : BitVec 4) (s : State) :
    Host.Outcome State Fault Refusal :=
  match s.test with
  | some _ => .fault .functionalStateUndefined
  | none =>
    if s.debugOpen && !s.inReset then .next (s.dbgAccess write (addr % 2 ^ 24 / 4 * 4) d strb)
    else .next (s.setTap { s.tap with ir := 3, data := 0, done := false })

/-! ### Test modes (R492) -/

/-- The instructions of production test are permitted (R489); in a test mode only power-on reset ends it. -/
def State.testPermitted (s : State) : Bool := s.test.isSome || s.debugOpen

/-- TAP_WRAPSEL (R490): the wrapper chain, or BYPASS where it is refused. DESIGN CHOICE, assumption log 63. -/
def execTapWrapsel (s : State) : Host.Outcome State Fault Refusal :=
  .next (if s.testPermitted then s.tapLoad 4 Config.wrapperData else s.bypass)

/-- Every lane goes inert: OFF, with nothing to play (R492). -/
def State.lanesInert (s : State) : State :=
  let s := (List.range 256).foldl (fun s p => s.setLaneLife p { st := 0, pend := 0, en := 0 }) s
  { s with lanes := [] }

/-- The entry of a test mode (R492). -/
def State.enterTest (s : State) (m : TestMode) (ir : Nat) : State :=
  let s := ((s.lanesInert).wipeDone 1).clearKey
  let s := s.setPorts { s.ports with retReq := 0, pwrReq := false, pwrTgt := 0 }
  State.tapLoad { s with test := some m } ir 0

/-- A test instruction: refused, it acts as BYPASS (R489). DEDUCED, assumption log 26. -/
def State.testInstr (s : State) (m : TestMode) (ir : Nat) : State :=
  if s.testPermitted then s.enterTest m ir else s.bypass

/-- TAP_SCANMODE (R492). -/
def execTapScanmode (s : State) : Host.Outcome State Fault Refusal := .next (s.testInstr .scan 8)

/-- TAP_MBIST (R492). -/
def execTapMbist (s : State) : Host.Outcome State Fault Refusal := .next (s.testInstr .mbist 9)

/-- TAP_LBIST (R492). -/
def execTapLbist (s : State) : Host.Outcome State Fault Refusal := .next (s.testInstr .lbist 10)

end Sys2Proof.Machine
end

