-- ==== Sys2Proof/Machine/Wellhead.lean ====
section
/-! DEFINITION. The Wellhead's steps (spec/15 R393 to R395, R407, R413): the release of reset, the lock, the whole-image
rules, the continuity copies and the release of the first threads. -/

namespace Sys2Proof.Machine

/-! ### Step 1 (R393; spec/12 R320 to R322) -/

/-- The results of the self-test (spec/12 R321, R339): of the banks, the local RAMs, the program stores, the Tarn, the
schedule table and the test buffer. DEDUCED, assumption log 133. -/
def State.selfTest (s : State) (env : BootEnv) : State :=
  let s := s.wr .memStest0 (BitVec.ofNat 32 (env.failBits 0 32))
  let s := s.setFld .memStest1 F.memStest1.done 1
  let s := s.setFld .memStest1 F.memStest1.failhi (env.failBits 32 2)
  let s := s.setFld .memStest1 F.memStest1.lram (env.failBits 34 9)
  let s := s.setFld .memStest1 F.memStest1.pstore (env.failBits 43 9)
  let s := s.setFld .memStest1 F.memStest1.tarn (if env.fails 52 then 1 else 0)
  s.setFld .memStest1 F.memStest1.sched (if env.fails 53 || env.fails 54 then 1 else 0)

/-- A spare bank that failed is out of service (spec/12 R322). -/
def State.failedSpares (s : State) (env : BootEnv) : State :=
  (List.range 2).foldl (fun s b => if env.fails (32 + b) then s.setSpare b 3 else s) s

/-- The lowest-numbered idle spare. -/
def State.idleSpare (s : State) : Option Nat := (List.range 2).find? fun b => s.spare b == 0

/-- Slot `n` moves to an idle spare when its bank failed; its contents are lost (spec/12 R322). None: no spare is left. -/
def State.replaceBank (s : State) (env : BootEnv) (n : Nat) : Option State :=
  let b := s.fld (.memBstat n) F.memBstat.phys
  if !env.fails b then some s
  else match s.idleSpare with
    | none => none
    | some x =>
      let s := (s.setSpare x 2).setFld (.memBstat n) F.memBstat.phys (32 + x)
      some (s.zeroWords (bankWord (32 + x) 0) 16384)

/-- Every slot whose bank failed is replaced. -/
def State.replaceBanks (s : State) (env : BootEnv) : List Nat → Option State
  | [] => some s
  | n :: l => match s.replaceBank env n with
    | some s => State.replaceBanks s env l
    | none => none

/-- The engines that passed self-test, in ascending order (R395). -/
def goodEngines (env : BootEnv) : List Nat :=
  allEngines.filter fun e => !env.fails (34 + e) && !env.fails (43 + e)

/-- Step 1 ends in HALT-SAFE: too few spares or engines, or a memory without a spare (spec/12 R322). -/
def unfit (env : BootEnv) : Bool := env.fails 52 || env.fails 53 || env.fails 54 || decide ((goodEngines env).length < 8)

/-- Step 1 begins: retained banks are woken, the self-test and the fill run (R393; spec/16 R427). -/
def State.beginBoot (s : State) (env : BootEnv) : State :=
  let s := { s with inReset := false }
  let s := (s.setBoot { s.boot with env := some env }).setSecurity { s.security with lcs := env.lcs }
  let s := (s.setStep 1).selfTest env
  let s := (List.range 32).foldl (fun s n => s.bootBank n) s
  let s := s.setPorts { s.ports with retReq := s.ports.retReq &&& ~~~s.ports.retAck }
  match (s.failedSpares env).replaceBanks env (List.range 32) with
  | none => (s.failedSpares env).haltSafe 2
  | some t => if unfit env then t.haltSafe 2 else if env.tref then t else t.haltSafe 4

/-- RESET_RELEASE (R393). DESIGN CHOICE, assumption log 40. -/
def execResetRelease (env : BootEnv) (s : State) : Host.Outcome State Fault Refusal :=
  match s.test with
  | some _ => .fault .functionalStateUndefined
  | none => if s.inReset then .next (s.beginBoot env) else .next s

/-! ### Steps 2 to 4 -/

/-- Roles 0 to 7 and the reserve go to the engines that passed, in ascending order (R395).
DEDUCED, assumption log 79. -/
def State.assignRoles (s : State) (env : BootEnv) : State :=
  (((goodEngines env).zip (List.range 9))).foldl (fun s x => s.setRole x.1 x.2) s

/-- Step 2 samples the fuses (spec/16 R448). -/
def State.sampleFuses (s : State) (env : BootEnv) : State :=
  let s := s.wr .wellFloor env.floor
  let s := s.setFld .wellKeystat F.wellKeystat.pkhrev env.revoke.toNat
  s.setFld .wellKeystat F.wellKeystat.pkhset env.pkhSet.toNat

/-- Step 2 wipes the Tarn: tamper_n low, a life-cycle change over a warm reset, or RETURN (R414; spec/11 R296). -/
def State.bootWipe (s : State) (old : Nat) : State :=
  if !s.bit .wellTamp F.wellTamp.level then (s.wipedInBoot).wipeDone 1
  else if s.boot.warm && old != s.security.lcs then (s.wipedInBoot).wipeDone 2
  else if lcsCode s.security.lcs = 3 then (s.wipedInBoot).wipeDone Config.returnWipeCause.toNat
  else s

/-- Step 2 (R393, R414, R416): what it samples. DEDUCED, assumption log 84. -/
def State.stepTwo (s : State) (env : BootEnv) : State :=
  let old := s.security.sampled
  let low := !s.bit .wellTamp F.wellTamp.level
  let s := (s.setStep 2).setFld .wellStat F.wellStat.lcs (lcsCode s.security.lcs)
  let s := s.setBoot { s.boot with sampled := true }
  let s := s.setSecurity { s.security with sampled := s.security.lcs, debugShut := s.security.debugShut || low }
  let s := s.setFld .wellTamp F.wellTamp.boot (if low then 1 else 0)
  let s := if low then s.setFld .wellStat F.wellStat.tamper 1 else s
  ((s.assignRoles env).sampleFuses env).bootWipe old

/-- Steps 3 and 4 (R397 to R399): the commands on the flash bus, and what WELL_FLASH reports of what they found. -/
def State.findFlash (s : State) (env : BootEnv) : State :=
  let x := discover env
  let s := (s.setStep 4).setBoot { s.boot with flash := x.1 }
  let s := s.setFld .wellFlash F.wellFlash.mode x.2
  let s := s.setFld .wellFlash F.wellFlash.twoDev (if (env.device 1).isSome then 1 else 0)
  let s := s.setFld .wellFlash F.wellFlash.div (env.div (flashLimit x.2))
  match env.device 0 with
  | none => s
  | some d => (s.setFld .wellFlash F.wellFlash.addr4 (if d.addr4 x.2 then 1 else 0)).setFld .wellFlash F.wellFlash.density d.density

/-- At step 5 a key of fewer than eight words is discarded (spec/16 R447). -/
def State.takeKey (s : State) : State := if s.keyIn then s else s.setSecurity { s.security with key := [] }

/-- Step 1 is done: the multiplier is locked and no bank is in retention (R393; spec/16 R427). -/
def State.stepOneDone (s : State) : Bool :=
  s.bootStep == 1 && s.bit .laneShstat F.laneShstat.lock && s.ports.retReq == 0 && s.ports.retAck == 0

/-- From the end of step 1 to the first slot (R393). -/
def State.enterBoot (s : State) (env : BootEnv) : State :=
  let s := s.stepTwo env
  if s.fld .wellStat F.wellStat.lcs = 4 then s.haltSafe 1 else ((s.findFlash env).takeKey).tryA env

/-- DESIGN CHOICE, assumption log 40. -/
def State.bootAdvance (s : State) : State :=
  match s.boot.env with
  | some env => if s.stepOneDone then s.enterBoot env else s
  | none => s

/-- MULTIPLIER_LOCK (R394; spec/06 R145, R146): the first lock starts shore time, or resumes it with GAP where SLEEP had
stopped it (R148). DESIGN CHOICE, assumption log 40. -/
def execMultiplierLock (s : State) : Host.Outcome State Fault Refusal :=
  match s.boot.env with
  | none => s.run false id
  | some env => s.run (env.tref && !s.bit .laneShstat F.laneShstat.lock && !s.bit .laneShstat F.laneShstat.holdover &&
      !s.booted && !s.asleep) fun s =>
    let s := s.setFld .laneShstat F.laneShstat.lock 1
    let s := (s.setFld .laneShctrl F.laneShctrl.muli env.mboot).setFld .laneShctrl F.laneShctrl.mulf 0
    let s := if s.boot.warm && !s.shoreRuns then s.setFld .laneShstat F.laneShstat.gap 1 else s
    State.bootAdvance { s with shoreRuns := true }

/-! ### The whole-image rules (R407) -/

/-- A lane whose LANE_CTRL a record wrote is an EDGE or TIMER lane outside every domain (spec/01 R16).
DEDUCED, assumption log 87. -/
def State.laneOutside (s : State) (p : Nat) : Bool :=
  s.boot.regs.contains (Reg.laneCtrl p).key && (s.mode p == modeEdge || s.mode p == modeTimer) && (s.laneDomain p).isNone

/-- The weirs in use. -/
def State.weirsInUse (s : State) : List Nat := (List.range 256).filter fun p => s.kind p != 0

/-- The members of `l` lie in one domain, or in none. -/
def State.oneDomain (s : State) (l : List Nat) : Bool :=
  match l with
  | [] => true
  | p :: t => t.all fun q => s.laneDomain q == s.laneDomain p

/-- R205 for weir `p`. DEDUCED, assumption log 89. -/
def State.weirBad (s : State) (p : Nat) : Bool :=
  let k := s.kind p
  let per := s.per (s.groupOf p) * 32
  let u := s.unit p
  let dmin := s.fld (.weirLimd p) F.weirLimd.dmin
  let minpw := s.fld (.weirLimp p) F.weirLimp.minpw
  let maxon := s.fld (.weirLimt p) F.weirLimt.maxon
  (k == kindComplement && (p % 2 == 0 || !s.bit (.weirCfg (p - 1)) F.weirCfg.pair)) ||
  ((k == kindDuty || s.bit (.weirWin p) F.weirWin.winen) && (per % u != 0 || decide (65535 < per / u))) ||
  (k == kindWord && decide (s.fld (.weirCgper (s.groupOf p)) F.weirCgper.per < 64)) ||
  (dmin != 0 && decide (dmin * u < minpw)) || decide (s.fld (.weirLimd p) F.weirLimd.dmax < dmin) ||
  (maxon != 0 && decide (maxon * 32 < minpw)) ||
  (k == 6 && s.mode p != modeTimer) || (s.takesStages p && s.mode p != modeEdge)

/-- R205 for group `g`. DEDUCED, assumption log 89. -/
def State.groupBad (s : State) (g : Nat) : Bool :=
  let off := s.fld (.weirCgld g) F.weirCgld.stboff
  decide (off < 45 ∨ 4095 < off) ||
  decide (s.fld (.weirCgper g) F.weirCgper.per ≤ s.fld (.weirCgph g) F.weirCgph.phase) ||
  !s.oneDomain (s.weirsInUse.filter fun p => s.groupOf p == g)

/-- The lanes of an overlap group (spec/07 R203). -/
def State.overlapLanes (s : State) (g : Nat) : List Nat :=
  (List.range 256).filter fun p => s.bit (.weirCfg p) F.weirCfg.oven && s.fld (.weirCfg p) F.weirCfg.ovg == g

/-- A domain with an EDGE lane names a reference group outside it (spec/14 R359). -/
def State.refBad (s : State) (d : Nat) : Bool :=
  let g := s.fld (.engDctl d) F.engDctl.refcg
  ((List.range 256).any fun p => s.laneDomain p == some d && s.mode p == modeEdge) &&
  !(s.bit (.weirCgctl g) F.weirCgctl.domv && s.fld (.weirCgctl g) F.weirCgctl.dom == d)

/-- A role's continuity is set up wrongly: a continuity thread without CEN (spec/14 R366), or an area whose slot the role
does not own (R367). -/
def State.contBad (s : State) (r : Nat) : Bool :=
  let cen := s.bit (.engCont r) F.engCont.cen
  let o := s.fld (.memBctl (s.fld (.engCont r) F.engCont.cslot)) F.memBctl.owner
  (!cen && allThreads.any fun t => s.isContinuity r t) || (cen && o != r && o != 0xC)

/-- Some whole-image rule does not hold (R407). DEDUCED, assumption log 89. -/
def State.imageBad (s : State) : Bool :=
  s.boot.shores != 1 || s.boot.broken || (List.range 256).any s.laneOutside ||
  (List.range 8).any (fun r => (s.thread (s.roleEngine r) 0).priv == 0) ||
  (List.range 256).any s.weirBad || (List.range 32).any s.groupBad ||
  (List.range 32).any (fun g => !s.oneDomain (s.overlapLanes g)) ||
  (List.range 8).any s.refBad || (List.range 8).any s.contBad

/-! ### Step 7 (R413) -/

/-- The continuity copies of role `r` (R413; spec/14 R367, R368): the program store, the mirrored local RAM above zeros,
and the configuration, whose layout is open. DESIGN CHOICE, assumption log 62. -/
def State.continuityCopy (s : State) (r : Nat) : State :=
  if !s.bit (.engCont r) F.engCont.cen then s
  else
    let n := s.fld (.engCont r) F.engCont.cslot
    let e := s.roleEngine r
    let lo := s.fld (.engMirror r) F.engMirror.mlo
    let len := if s.bit (.engMirror r) F.engMirror.men then s.fld (.engMirror r) F.engMirror.mhi + 1 - lo else 0
    let s := s.slotRange n 0 4096 fun k i c s => s.moveWords (pstoreWord e i) k c
    let s := s.slotRange n 4096 4096 fun k _ c s => s.zeroWords k c
    let s := s.slotRange n (4096 + lo) len fun k i c s => s.moveWords (lramWord e (lo + i)) k c
    s.copyRole r

/-- Step 7: the image's ratio, the first calibration, the copies (R393, R394, R413). DEDUCED, assumption log 21. -/
def State.stepSeven (s : State) : State :=
  let s := (s.setFld .laneShctrl F.laneShctrl.muli s.boot.muli).setFld .laneShctrl F.laneShctrl.mulf s.boot.mulf
  (List.range 8).foldl (fun s r => s.continuityCopy r) (s.setFld .laneShstat F.laneShstat.caldone 1)

/-! ### Step 8 (R393, R413; spec/02 R512) -/

/-- Every engine that holds a role has EN = 1 and is ON. -/
def State.startEngine (s : State) (e : Nat) : State :=
  if s.roleOf e = 15 then s else s.setEngLife e { st := 2, pend := 0, en := 1 }

/-- Thread 0 of an active role is READY. -/
def State.startRole (s : State) (r : Nat) : State :=
  match s.engineOf r with
  | some e => s.modThread e 0 fun x => { x with st := .ready }
  | none => s

/-- WELL_STAT and WELL_RBI report the accepted image (R420). -/
def State.reportImage (s : State) (x : SlotImg) : State :=
  let s := s.setFld .wellStat F.wellStat.slotB (if s.slotB then 1 else 0)
  let s := s.setFld .wellStat F.wellStat.encrypted (if s.boot.enc then 1 else 0)
  let s := s.setFld .wellStat F.wellStat.unsigned (if x.unsignedF then 1 else 0)
  (s.setFld .wellStat F.wellStat.keySlot x.keyslot).wr .wellRbi x.rbi

/-- Step 8: the key is cleared, the first threads are released, the time is recorded. -/
def State.stepEight (s : State) : State :=
  let s := allEngines.foldl (fun s e => s.startEngine e) s.clearKey
  let s := (List.range 8).foldl (fun s r => s.startRole r) s
  let s := s.wr .wellBoott (s.time.extractLsb' 0 32)
  (s.setBoot { s.boot with doneAt := s.time }).setStep 8

/-- The assignment of threads to domains that the image carries (spec/01 R15). DESIGN CHOICE, assumption log 6. -/
def State.takeMembers (s : State) (env : BootEnv) : State :=
  { s with threadDom := env.members.foldl (fun m x => SMap.put m x.1 (some x.2) none) [] }

/-- Behind the last record of a slot: its verdict, and the end of the boot (R407, R408, R413).
DESIGN CHOICE, assumption log 40. -/
def State.finishSlot (s : State) (env : BootEnv) : State :=
  match trailerCode (s.slotImg env) with
  | some (c, off) => s.failSlot env c off
  | none =>
    let t := s.takeMembers env
    if t.imageBad then t.failSlot env 16 (Config.failOffset 16).toNat
    else ((t.reportImage (s.slotImg env)).stepSeven).stepEight

/-- What the Wellhead does in an idle step of the block. DESIGN CHOICE, assumption log 40. -/
def State.bootIdle (s : State) : State :=
  match s.boot.env with
  | some env =>
    if s.stepOneDone then s.enterBoot env
    else if (s.bootStep == 5 || s.bootStep == 6) && s.boot.count == (s.slotImg env).nrec then s.finishSlot env
    else s
  | none => s

end Sys2Proof.Machine
end

