-- ==== Sys2Proof/Machine/Dispatch.lean ====
section
/-! DEFINITION. The effect of each command on everything but the queue: one arm per constructor. -/

namespace Sys2Proof.Machine

open Sys2Proof

def exec (i : Instr) (s : State) : Host.Outcome State Fault Refusal :=
  match i with
  | .registerWrite w addr d strb => Sys2Proof.Machine.execRegisterWrite w addr d strb s
  | .rcRead w addr strb => Sys2Proof.Machine.execRcRead w addr strb s
  | .powerOnReset => Sys2Proof.Machine.execPowerOnReset s
  | .warmReset => Sys2Proof.Machine.execWarmReset s
  | .resetRelease env => Sys2Proof.Machine.execResetRelease env s
  | .shoreRecord chk muli mulf => Sys2Proof.Machine.execShoreRecord chk muli mulf s
  | .pstoreRecord chk role waddr lines => Sys2Proof.Machine.execPstoreRecord chk role waddr lines s
  | .decodeRecord chk role words => Sys2Proof.Machine.execDecodeRecord chk role words s
  | .roleRecord chk role active farbase maps => Sys2Proof.Machine.execRoleRecord chk role active farbase maps s
  | .threadRecord chk role thr rec => Sys2Proof.Machine.execThreadRecord chk role thr rec s
  | .poolRecord chk addr data => Sys2Proof.Machine.execPoolRecord chk addr data s
  | .lramRecord chk role off data => Sys2Proof.Machine.execLramRecord chk role off data s
  | .tarnRecord chk off data => Sys2Proof.Machine.execTarnRecord chk off data s
  | .regRecord chk pairs => Sys2Proof.Machine.execRegRecord chk pairs s
  | .keyWordTransfer word => Sys2Proof.Machine.execKeyWordTransfer word s
  | .lcsChange lcs => Sys2Proof.Machine.execLcsChange lcs s
  | .tamper => Sys2Proof.Machine.execTamper s
  | .tarnWipeComplete => Sys2Proof.Machine.execTarnWipeComplete s
  | .multiplierLock => Sys2Proof.Machine.execMultiplierLock s
  | .holdoverEntry => Sys2Proof.Machine.execHoldoverEntry s
  | .multiplierRelock => Sys2Proof.Machine.execMultiplierRelock s
  | .delayLineCalibration core line taps => Sys2Proof.Machine.execDelayLineCalibration core line taps s
  | .calibrationExchange core line => Sys2Proof.Machine.execCalibrationExchange core line s
  | .ppsEdge step load => Sys2Proof.Machine.execPpsEdge step load s
  | .syncLoadApply => Sys2Proof.Machine.execSyncLoadApply s
  | .laneSpareSwap w p d strb => Sys2Proof.Machine.execLaneSpareSwap w p d strb s
  | .spareSwapComplete => Sys2Proof.Machine.execSpareSwapComplete s
  | .laneEnWrite w p d strb => Sys2Proof.Machine.execLaneEnWrite w p d strb s
  | .laneStartDone p => Sys2Proof.Machine.execLaneStartDone p s
  | .laneStopDone p => Sys2Proof.Machine.execLaneStopDone p s
  | .entryDispatch => Sys2Proof.Machine.execEntryDispatch s
  | .setEntry p => Sys2Proof.Machine.execSetEntry p s
  | .clearEntry p => Sys2Proof.Machine.execClearEntry p s
  | .toggleEntry p => Sys2Proof.Machine.execToggleEntry p s
  | .levelEntry p => Sys2Proof.Machine.execLevelEntry p s
  | .oeEntry p => Sys2Proof.Machine.execOeEntry p s
  | .markEntry p => Sys2Proof.Machine.execMarkEntry p s
  | .loopbackCompare p lin => Sys2Proof.Machine.execLoopbackCompare p lin s
  | .streamStart p => Sys2Proof.Machine.execStreamStart p s
  | .streamTxWordBoundary p => Sys2Proof.Machine.execStreamTxWordBoundary p s
  | .streamRxWord p wave => Sys2Proof.Machine.execStreamRxWord p wave s
  | .streamFifoWrite w p d strb => Sys2Proof.Machine.execStreamFifoWrite w p d strb s
  | .streamFifoRead w p strb => Sys2Proof.Machine.execStreamFifoRead w p strb s
  | .captureEdge p lvl step => Sys2Proof.Machine.execCaptureEdge p lvl step s
  | .captureRead w p strb => Sys2Proof.Machine.execCaptureRead w p strb s
  | .decimateBit p bit clock => Sys2Proof.Machine.execDecimateBit p bit clock s
  | .decimateClockLoss p => Sys2Proof.Machine.execDecimateClockLoss p s
  | .mirrorEdge p edge => Sys2Proof.Machine.execMirrorEdge p edge s
  | .stageWrite w p d strb poison => Sys2Proof.Machine.execStageWrite w p d strb poison s
  | .weirDeadline g => Sys2Proof.Machine.execWeirDeadline g s
  | .strobeMissingDeadline g => Sys2Proof.Machine.execStrobeMissingDeadline g s
  | .stageStaleDiscard g => Sys2Proof.Machine.execStageStaleDiscard g s
  | .minpwExpiry p => Sys2Proof.Machine.execMinpwExpiry p s
  | .maxonExpiry p => Sys2Proof.Machine.execMaxonExpiry p s
  | .deadTimeExpiry p => Sys2Proof.Machine.execDeadTimeExpiry p s
  | .countEvent n => Sys2Proof.Machine.execCountEvent n s
  | .cntEnWrite w n d strb => Sys2Proof.Machine.execCntEnWrite w n d strb s
  | .counterOn n => Sys2Proof.Machine.execCounterOn n s
  | .counterOff n => Sys2Proof.Machine.execCounterOff n s
  | .cntGo w d strb => Sys2Proof.Machine.execCntGo w d strb s
  | .cntSnap w d strb => Sys2Proof.Machine.execCntSnap w d strb s
  | .fabFnGo j => Sys2Proof.Machine.execFabFnGo j s
  | .fabFnStart j => Sys2Proof.Machine.execFabFnStart j s
  | .fabFnCount j => Sys2Proof.Machine.execFabFnCount j s
  | .fabFnReset j => Sys2Proof.Machine.execFabFnReset j s
  | .fabFnSnap j => Sys2Proof.Machine.execFabFnSnap j s
  | .quadCount u a b time => Sys2Proof.Machine.execQuadCount u a b time s
  | .indexEdge u rising => Sys2Proof.Machine.execIndexEdge u rising s
  | .posCompareArm w u d strb => Sys2Proof.Machine.execPosCompareArm w u d strb s
  | .speedTimeout u => Sys2Proof.Machine.execSpeedTimeout u s
  | .inletStrobe n data tag step => Sys2Proof.Machine.execInletStrobe n data tag step s
  | .sampleEntry n => Sys2Proof.Machine.execSampleEntry n s
  | .inletDataRead w n strb => Sys2Proof.Machine.execInletDataRead w n strb s
  | .inlEnWrite w n d strb => Sys2Proof.Machine.execInlEnWrite w n d strb s
  | .inletStartDone n => Sys2Proof.Machine.execInletStartDone n s
  | .inletStopDone n => Sys2Proof.Machine.execInletStopDone n s
  | .channelEvent c tap pulse => Sys2Proof.Machine.execChannelEvent c tap pulse s
  | .wakeDelivery c => Sys2Proof.Machine.execWakeDelivery c s
  | .evoutPulseEnd m => Sys2Proof.Machine.execEvoutPulseEnd m s
  | .refractoryEnd c => Sys2Proof.Machine.execRefractoryEnd c s
  | .loopWindowEnd c => Sys2Proof.Machine.execLoopWindowEnd c s
  | .fabFire w d strb => Sys2Proof.Machine.execFabFire w d strb s
  | .tripRelease w k d strb => Sys2Proof.Machine.execTripRelease w k d strb s
  | .fabChWrite w c d strb => Sys2Proof.Machine.execFabChWrite w c d strb s
  | .spareStandIn w n d strb => Sys2Proof.Machine.execSpareStandIn w n d strb s
  | .standInComplete n => Sys2Proof.Machine.execStandInComplete n s
  | .ownerHandover w n d strb => Sys2Proof.Machine.execOwnerHandover w n d strb s
  | .handoverDrainComplete n => Sys2Proof.Machine.execHandoverDrainComplete n s
  | .bankEnWrite w n d strb => Sys2Proof.Machine.execBankEnWrite w n d strb s
  | .autoWake n => Sys2Proof.Machine.execAutoWake n s
  | .retAckRise b => Sys2Proof.Machine.execRetAckRise b s
  | .retAckFall b => Sys2Proof.Machine.execRetAckFall b s
  | .cdEnWrite w c d strb => Sys2Proof.Machine.execCdEnWrite w c d strb s
  | .conduitStartDone c => Sys2Proof.Machine.execConduitStartDone c s
  | .conduitStopDone c => Sys2Proof.Machine.execConduitStopDone c s
  | .conduitStreamTxWord c k => Sys2Proof.Machine.execConduitStreamTxWord c k s
  | .conduitStreamRxWord c k => Sys2Proof.Machine.execConduitStreamRxWord c k s
  | .kick w c d strb => Sys2Proof.Machine.execKick w c d strb s
  | .conduitTransferDone c => Sys2Proof.Machine.execConduitTransferDone c s
  | .correctedWriteback word => Sys2Proof.Machine.execCorrectedWriteback word s
  | .poisonRewrite word => Sys2Proof.Machine.execPoisonRewrite word s
  | .bucketLeak b => Sys2Proof.Machine.execBucketLeak b s
  | .logEntryFree w d strb => Sys2Proof.Machine.execLogEntryFree w d strb s
  | .pageRemap w n d strb => Sys2Proof.Machine.execPageRemap w n d strb s
  | .pageRemove w n d strb => Sys2Proof.Machine.execPageRemove w n d strb s
  | .pageCopyDone => Sys2Proof.Machine.execPageCopyDone s
  | .migrationStart w d strb => Sys2Proof.Machine.execMigrationStart w d strb s
  | .migrationDone => Sys2Proof.Machine.execMigrationDone s
  | .clearWord w d strb => Sys2Proof.Machine.execClearWord w d strb s
  | .bgtRegionStart => Sys2Proof.Machine.execBgtRegionStart s
  | .bgtSaveDone => Sys2Proof.Machine.execBgtSaveDone s
  | .bgtMarchDone fails => Sys2Proof.Machine.execBgtMarchDone fails s
  | .bgtRestoreDone => Sys2Proof.Machine.execBgtRestoreDone s
  | .hostLockRequest w k => Sys2Proof.Machine.execHostLockRequest w k s
  | .hostLockRelease w k => Sys2Proof.Machine.execHostLockRelease w k s
  | .forcedRelease w d strb => Sys2Proof.Machine.execForcedRelease w d strb s
  | .hostMasterAbandon w d strb => Sys2Proof.Machine.execHostMasterAbandon w d strb s
  | .rotationBoundary e => Sys2Proof.Machine.execRotationBoundary e s
  | .swap w e d strb => Sys2Proof.Machine.execSwap w e d strb s
  | .icinv w e d strb => Sys2Proof.Machine.execIcinv w e d strb s
  | .icacheInvalidateDone e => Sys2Proof.Machine.execIcacheInvalidateDone e s
  | .farFetchLineDelivered e t => Sys2Proof.Machine.execFarFetchLineDelivered e t s
  | .loadComplete e t => Sys2Proof.Machine.execLoadComplete e t s
  | .longOpComplete e t pipe => Sys2Proof.Machine.execLongOpComplete e t pipe s
  | .storeDrain e => Sys2Proof.Machine.execStoreDrain e s
  | .poisonedStoreFault e t => Sys2Proof.Machine.execPoisonedStoreFault e t s
  | .engEnWrite w e d strb => Sys2Proof.Machine.execEngEnWrite w e d strb s
  | .engineStopDone e => Sys2Proof.Machine.execEngineStopDone e s
  | .engineStartDone e => Sys2Proof.Machine.execEngineStartDone e s
  | .urgentDiversion e t => Sys2Proof.Machine.execUrgentDiversion e t s
  | .threadCmdPark w e t d strb => Sys2Proof.Machine.execThreadCmdPark w e t d strb s
  | .threadCmdResume w e t d strb => Sys2Proof.Machine.execThreadCmdResume w e t d strb s
  | .threadCmdQuiesce w e t d strb => Sys2Proof.Machine.execThreadCmdQuiesce w e t d strb s
  | .threadCmdRelease w e t d strb => Sys2Proof.Machine.execThreadCmdRelease w e t d strb s
  | .threadCmdClrviol w e t d strb => Sys2Proof.Machine.execThreadCmdClrviol w e t d strb s
  | .threadCmdDeclare w e t d strb => Sys2Proof.Machine.execThreadCmdDeclare w e t d strb s
  | .poke w e t d strb => Sys2Proof.Machine.execPoke w e t d strb s
  | .decodeTableWrite w e off d strb => Sys2Proof.Machine.execDecodeTableWrite w e off d strb s
  | .mov e t a b => Sys2Proof.Machine.execMov e t a b s
  | .add e t a b => Sys2Proof.Machine.execAdd e t a b s
  | .sub e t a b => Sys2Proof.Machine.execSub e t a b s
  | .adds e t a b => Sys2Proof.Machine.execAdds e t a b s
  | .subs e t a b => Sys2Proof.Machine.execSubs e t a b s
  | .andr e t a b => Sys2Proof.Machine.execAndr e t a b s
  | .orr e t a b => Sys2Proof.Machine.execOrr e t a b s
  | .xorr e t a b => Sys2Proof.Machine.execXorr e t a b s
  | .shl e t a b => Sys2Proof.Machine.execShl e t a b s
  | .shr e t a b => Sys2Proof.Machine.execShr e t a b s
  | .sar e t a b => Sys2Proof.Machine.execSar e t a b s
  | .ror e t a b => Sys2Proof.Machine.execRor e t a b s
  | .neg e t a b => Sys2Proof.Machine.execNeg e t a b s
  | .negs e t a b => Sys2Proof.Machine.execNegs e t a b s
  | .abs e t a b => Sys2Proof.Machine.execAbs e t a b s
  | .abss e t a b => Sys2Proof.Machine.execAbss e t a b s
  | .movi e t rd imm => Sys2Proof.Machine.execMovi e t rd imm s
  | .addi e t rd imm => Sys2Proof.Machine.execAddi e t rd imm s
  | .shli e t rd imm => Sys2Proof.Machine.execShli e t rd imm s
  | .shri e t rd imm => Sys2Proof.Machine.execShri e t rd imm s
  | .sari e t rd imm => Sys2Proof.Machine.execSari e t rd imm s
  | .rori e t rd imm => Sys2Proof.Machine.execRori e t rd imm s
  | .seqi e t rd imm => Sys2Proof.Machine.execSeqi e t rd imm s
  | .snei e t rd imm => Sys2Proof.Machine.execSnei e t rd imm s
  | .slti e t rd imm => Sys2Proof.Machine.execSlti e t rd imm s
  | .sltui e t rd imm => Sys2Proof.Machine.execSltui e t rd imm s
  | .ld e t rd k off => Sys2Proof.Machine.execLd e t rd k off s
  | .ldb e t rd k off => Sys2Proof.Machine.execLdb e t rd k off s
  | .ldd e t n k off => Sys2Proof.Machine.execLdd e t n k off s
  | .st e t rd k off => Sys2Proof.Machine.execSt e t rd k off s
  | .stb e t rd k off => Sys2Proof.Machine.execStb e t rd k off s
  | .std e t n k off => Sys2Proof.Machine.execStd e t n k off s
  | .beq e t a b off => Sys2Proof.Machine.execBeq e t a b off s
  | .bne e t a b off => Sys2Proof.Machine.execBne e t a b off s
  | .blt e t a b off => Sys2Proof.Machine.execBlt e t a b off s
  | .bge e t a b off => Sys2Proof.Machine.execBge e t a b off s
  | .bltu e t a b off => Sys2Proof.Machine.execBltu e t a b off s
  | .bgeu e t a b off => Sys2Proof.Machine.execBgeu e t a b off s
  | .beqi e t a imm off => Sys2Proof.Machine.execBeqi e t a imm off s
  | .bnei e t a imm off => Sys2Proof.Machine.execBnei e t a imm off s
  | .blti e t a imm off => Sys2Proof.Machine.execBlti e t a imm off s
  | .bgei e t a imm off => Sys2Proof.Machine.execBgei e t a imm off s
  | .bltui e t a imm off => Sys2Proof.Machine.execBltui e t a imm off s
  | .bgeui e t a imm off => Sys2Proof.Machine.execBgeui e t a imm off s
  | .bz e t a off => Sys2Proof.Machine.execBz e t a off s
  | .bnz e t a off => Sys2Proof.Machine.execBnz e t a off s
  | .jmp e t a => Sys2Proof.Machine.execJmp e t a s
  | .call e t a => Sys2Proof.Machine.execCall e t a s
  | .ret e t a => Sys2Proof.Machine.execRet e t a s
  | .mul e t a b => Sys2Proof.Machine.execMul e t a b s
  | .mulu e t a b => Sys2Proof.Machine.execMulu e t a b s
  | .mulq e t a b => Sys2Proof.Machine.execMulq e t a b s
  | .mac e t n a b => Sys2Proof.Machine.execMac e t n a b s
  | .msc e t n a b => Sys2Proof.Machine.execMsc e t n a b s
  | .scl e t n imm => Sys2Proof.Machine.execScl e t n imm s
  | .aclr e t n => Sys2Proof.Machine.execAclr e t n s
  | .aset e t n dn => Sys2Proof.Machine.execAset e t n dn s
  | .div e t dn b => Sys2Proof.Machine.execDiv e t dn b s
  | .divu e t dn b => Sys2Proof.Machine.execDivu e t dn b s
  | .sqrt e t dn => Sys2Proof.Machine.execSqrt e t dn s
  | .sincos e t a => Sys2Proof.Machine.execSincos e t a s
  | .atan2 e t a b => Sys2Proof.Machine.execAtan2 e t a b s
  | .mag e t a b => Sys2Proof.Machine.execMag e t a b s
  | .lrd e t form => Sys2Proof.Machine.execLrd e t form s
  | .rep e t cnt => Sys2Proof.Machine.execRep e t cnt s
  | .repi e t cnt => Sys2Proof.Machine.execRepi e t cnt s
  | .repeatIteration e t => Sys2Proof.Machine.execRepeatIteration e t s
  | .waitEvt e t rd m => Sys2Proof.Machine.execWaitEvt e t rd m s
  | .fence e t => Sys2Proof.Machine.execFence e t s
  | .lock e t rd k => Sys2Proof.Machine.execLock e t rd k s
  | .unlock e t rd k => Sys2Proof.Machine.execUnlock e t rd k s
  | .logRec e t rc dn => Sys2Proof.Machine.execLogRec e t rc dn s
  | .mfs e t rd sr => Sys2Proof.Machine.execMfs e t rd sr s
  | .mts e t sr a => Sys2Proof.Machine.execMts e t sr a s
  | .mtsUret e t a => Sys2Proof.Machine.execMtsUret e t a s
  | .slotswap e t => Sys2Proof.Machine.execSlotswap e t s
  | .checkpoint e t => Sys2Proof.Machine.execCheckpoint e t s
  | .park e t => Sys2Proof.Machine.execPark e t s
  | .cust e t n ra rb rc => Sys2Proof.Machine.execCust e t n ra rb rc s
  | .customMicroOp e t => Sys2Proof.Machine.execCustomMicroOp e t s
  | .reservedEncoding e t len => Sys2Proof.Machine.execReservedEncoding e t len s
  | .domainArm w dom d strb => Sys2Proof.Machine.execDomainArm w dom d strb s
  | .domainArmed dom => Sys2Proof.Machine.execDomainArmed dom s
  | .domainReset w dom d strb => Sys2Proof.Machine.execDomainReset w dom d strb s
  | .domainDisarmed dom => Sys2Proof.Machine.execDomainDisarmed dom s
  | .cmdResume w dom d strb => Sys2Proof.Machine.execCmdResume w dom d strb s
  | .cmdSafe w dom d strb => Sys2Proof.Machine.execCmdSafe w dom d strb s
  | .cmdHold w dom d strb => Sys2Proof.Machine.execCmdHold w dom d strb s
  | .freezeCommitStop dom => Sys2Proof.Machine.execFreezeCommitStop dom s
  | .freezeSwitch dom => Sys2Proof.Machine.execFreezeSwitch dom s
  | .domainSubstateChange dom => Sys2Proof.Machine.execDomainSubstateChange dom s
  | .holdmaxExpiry dom => Sys2Proof.Machine.execHoldmaxExpiry dom s
  | .engineStallDetect e => Sys2Proof.Machine.execEngineStallDetect e s
  | .fdeclEngine w d strb => Sys2Proof.Machine.execFdeclEngine w d strb s
  | .fdeclLane w d strb => Sys2Proof.Machine.execFdeclLane w d strb s
  | .threadRollback e t => Sys2Proof.Machine.execThreadRollback e t s
  | .checkpointInterval role => Sys2Proof.Machine.execCheckpointInterval role s
  | .checkpointUsable e t => Sys2Proof.Machine.execCheckpointUsable e t s
  | .takeoverRoleTaken => Sys2Proof.Machine.execTakeoverRoleTaken s
  | .takeoverComplete => Sys2Proof.Machine.execTakeoverComplete s
  | .takeoverFail => Sys2Proof.Machine.execTakeoverFail s
  | .engineBistDone e pass => Sys2Proof.Machine.execEngineBistDone e pass s
  | .rollingTestStart => Sys2Proof.Machine.execRollingTestStart s
  | .preloadDone => Sys2Proof.Machine.execPreloadDone s
  | .swapSwitchStart => Sys2Proof.Machine.execSwapSwitchStart s
  | .swapSwitchDone => Sys2Proof.Machine.execSwapSwitchDone s
  | .stormWindowEnd => Sys2Proof.Machine.execStormWindowEnd s
  | .outRaise w d strb => Sys2Proof.Machine.execOutRaise w d strb s
  | .outletRecordWrite => Sys2Proof.Machine.execOutletRecordWrite s
  | .rdptrWrite w d strb => Sys2Proof.Machine.execRdptrWrite w d strb s
  | .mbxTime w => Sys2Proof.Machine.execMbxTime w s
  | .mbxPps w => Sys2Proof.Machine.execMbxPps w s
  | .mbxBoot w => Sys2Proof.Machine.execMbxBoot w s
  | .mbxChain w n => Sys2Proof.Machine.execMbxChain w n s
  | .mbxPoscap w n => Sys2Proof.Machine.execMbxPoscap w n s
  | .mbxLoga w n => Sys2Proof.Machine.execMbxLoga w n s
  | .mbxLogb w n => Sys2Proof.Machine.execMbxLogb w n s
  | .mbxFrec w n => Sys2Proof.Machine.execMbxFrec w n s
  | .mbxQalm w n => Sys2Proof.Machine.execMbxQalm w n s
  | .mbxOutcnt w => Sys2Proof.Machine.execMbxOutcnt w s
  | .mbxReservedSelector w sel => Sys2Proof.Machine.execMbxReservedSelector w sel s
  | .mailboxCaptureDone => Sys2Proof.Machine.execMailboxCaptureDone s
  | .mailboxData3Read w strb => Sys2Proof.Machine.execMailboxData3Read w strb s
  | .threadDoorbell w d strb => Sys2Proof.Machine.execThreadDoorbell w d strb s
  | .hostDoorbellSet w d strb => Sys2Proof.Machine.execHostDoorbellSet w d strb s
  | .hostDoorbellClear w d strb => Sys2Proof.Machine.execHostDoorbellClear w d strb s
  | .sclkFallback => Sys2Proof.Machine.execSclkFallback s
  | .laneSafeChange p lvl => Sys2Proof.Machine.execLaneSafeChange p lvl s
  | .dozeEntry => Sys2Proof.Machine.execDozeEntry s
  | .dozeExit => Sys2Proof.Machine.execDozeExit s
  | .sleepRequest w d strb => Sys2Proof.Machine.execSleepRequest w d strb s
  | .sleepEntered => Sys2Proof.Machine.execSleepEntered s
  | .wake w d strb => Sys2Proof.Machine.execWake w d strb s
  | .wakeComplete => Sys2Proof.Machine.execWakeComplete s
  | .shoreRestart => Sys2Proof.Machine.execShoreRestart s
  | .pwrAckRise => Sys2Proof.Machine.execPwrAckRise s
  | .pwrAckFall => Sys2Proof.Machine.execPwrAckFall s
  | .threadReset w d strb => Sys2Proof.Machine.execThreadReset w d strb s
  | .engineReset w d strb => Sys2Proof.Machine.execEngineReset w d strb s
  | .laneReset w d strb => Sys2Proof.Machine.execLaneReset w d strb s
  | .breakpointHit e t n => Sys2Proof.Machine.execBreakpointHit e t n s
  | .dbgHalt w e d strb => Sys2Proof.Machine.execDbgHalt w e d strb s
  | .dbgStep w e d strb => Sys2Proof.Machine.execDbgStep w e d strb s
  | .dbgRun w e d strb => Sys2Proof.Machine.execDbgRun w e d strb s
  | .dbgHaltall w e d strb => Sys2Proof.Machine.execDbgHaltall w e d strb s
  | .dbgRunall w e d strb => Sys2Proof.Machine.execDbgRunall w e d strb s
  | .tapReset => Sys2Proof.Machine.execTapReset s
  | .tapIdcode => Sys2Proof.Machine.execTapIdcode s
  | .tapStatus => Sys2Proof.Machine.execTapStatus s
  | .tapDbgacc write addr d strb => Sys2Proof.Machine.execTapDbgacc write addr d strb s
  | .tapWrapsel => Sys2Proof.Machine.execTapWrapsel s
  | .tapScanmode => Sys2Proof.Machine.execTapScanmode s
  | .tapMbist => Sys2Proof.Machine.execTapMbist s
  | .tapLbist => Sys2Proof.Machine.execTapLbist s
  | .tapBypass => Sys2Proof.Machine.execTapBypass s
  | .statusCopyRefresh sclk => Sys2Proof.Machine.execStatusCopyRefresh sclk s
  | .hostMemoryAccess w write addr d strb => Sys2Proof.Machine.execHostMemoryAccess w write addr d strb s
  | .tamperDeassert => Sys2Proof.Machine.execTamperDeassert s
  | .channelLevelFall tap => Sys2Proof.Machine.execChannelLevelFall tap s
  | .speedLimitDecay u => Sys2Proof.Machine.execSpeedLimitDecay u s

end Sys2Proof.Machine
end

