-- ==== Sys2Proof/Machine/Tick.lean ====
section
/-! DEFINITION. What an idle step of the block does: the present tick of shore time ends, with everything that its commands
have left due in it, and the next begins (spec/01 R7, spec/06 R145); the steps of SLEEP entry (spec/18 R480) and the
Wellhead's own steps (spec/15 R393) follow. Assumption log 1. -/

namespace Sys2Proof.Machine

/-- What the present tick still holds: the ends of sequences and swaps, entries dispatched and executed, deadlines, counts,
samples, changes of domains, and the pins step by step to its last step. What a command of the tick has done already is no
longer due. DESIGN CHOICE, assumption log 1. -/
def State.endTick (s : State) : State :=
  let s := match s.shore.swap with
    | some x => if s.swapDue x then s.endSwap x else s
    | none => s
  let s := s.laneTickStart
  let s := s.weirTick
  let s := s.counterTick
  let s := s.positionTick
  let s := s.inletTick
  let s := s.domainTick
  let s := s.checkpointTick
  let s := if s.windowEnds then s.endWindow else s
  let s := s.leakTick.bgtTick
  let s := s.dispatchAll
  let s := s.settleTo (s.now + 31)
  let s := s.laneTickEnd
  let s := s.compareTick
  let s := s.fabricTick
  s.visitLine

/-- Shore time one tick further while the shore runs (spec/06 R145). -/
def State.tickShore (s : State) : State :=
  if s.shoreRuns then
    { s with time := s.time + 32, ticks := s.ticks + 1, shore := { s.shore with step := 0 } }
  else s

/-- A level that a TIMER action of the tick before asks for is the lane's from the start of this one (spec/08 R224). -/
def Lane.takeNext (x : Lane) : Lane :=
  match x.next with
  | some v => { x with lvl := v, next := none }
  | none => x

/-- A write of CNT_GO: it starts the counters that waited in the tick before (spec/08 R217). -/
def Soon.isGo : Soon → Bool
  | .write w _ => decide (w.addr / 4 * 4 = (Reg.cntGo).key)
  | _ => false

/-- A capture of values held in the tick: after everything else that acts at its start (spec/08 R226, spec/17 R468). -/
def Soon.isCapture : Soon → Bool
  | .write w _ => decide (w.addr / 4 * 4 = (Reg.cntSnap).key)
  | .capture _ => true
  | _ => false

/-- What the tick before has left for the start of this one takes effect (spec/01 R7). -/
def State.actSoon (s : State) : Soon → State
  | .write w poison => s.performWrite w poison
  | .inject c => s.injectEvent c
  | .release g => s.releaseTrip g
  | .fire x => s.fire x s.now
  | .event r t n => s.roleEvt r t n
  | .matched n => s.matchConduits n
  | .capture sel => s.captureTick sel
  | .stopCounter n => s.stopCounter n
  | .stopInlet n => s.stopInlet n
  | .declareEngine e => s.engineFault e 9
  | .declareLane p => s.laneFault p 10
  | .resetLane p => s.orderLaneReset p
  | .domain d en => s.requestDomain d en true

/-- Starts, then the effects in the order of their causes, then captures. DEDUCED, assumption log 8. -/
def State.actAll (s : State) : State :=
  let l := s.soon
  let s := { s with soon := [] }
  let s := (l.filter Soon.isGo).foldl State.actSoon s
  let s := (l.filter fun x => !x.isGo && !x.isCapture).foldl State.actSoon s
  (l.filter Soon.isCapture).foldl State.actSoon s

/-- The next tick begins: inputs are sampled, a load that is due changes shore time, and what the tick before has settled
acts (spec/01 R7; spec/06 R145, R154). DESIGN CHOICE, assumption log 1. -/
def State.startTick (s : State) : State :=
  let s := s.tickShore
  let s := s.setShore { s.shore with before := s.shore.sampled, sampled := s.ports.laneIn }
  let s := s.liveLanes.foldl (fun s p => s.modLane p Lane.takeNext) s
  let s := (List.range 16).foldl (fun s u => s.sampleUnit u) s
  let s := match s.shore.load with
    | some x => if s.loadDue then s.applyLoad x else s
    | none => s
  let s := s.actAll
  let s := (List.range 64).foldl (fun s n => s.stopLatched n) s
  let s := (allEngines.foldl State.watchEngine s).watchRest
  (s.scanFabric s.now).settle

/-- While the shore is stopped only the fabric goes on by itself: refractory times and pulses end (spec/10 R265, R268).
DESIGN CHOICE, assumption log 1. -/
def State.stoppedTick (s : State) : State :=
  let s := (s.channels.map (·.1)).foldl (fun s c => if (s.channel c).refr then s.endRefractory c s.here else s) s
  let s := (List.range 16).foldl (fun s m => if s.pulseOver m then s.setEvout m false else s) s
  (s.scanFabric s.here).settle

/-- An idle step outside reset. DESIGN CHOICE, assumption log 1. -/
def State.idleStep (s : State) : State :=
  let s := if s.shoreRuns then s.endTick.startTick else s.stoppedTick
  let s := if s.power.stage ≠ 0 then s.sleepAdvance else s
  s.bootIdle

/-- An idle step: in a test mode nothing is defined, and nothing moves; in reset only shore time counts on (spec/06
R148). DESIGN CHOICE, assumption log 1. -/
def State.idle (s : State) : State :=
  if s.test.isSome then s else if s.inReset then s.tickShore else s.idleStep

end Sys2Proof.Machine
end

