-- ==== Sys2Proof/Machine/Step.lean ====
section
/-! DEFINITION. One step of the block: the command at the front of the queue has its effect; on an empty queue the block
idles for one tick (assumption log 1). -/

namespace Sys2Proof.Machine

open Sys2Proof

/-- One step. DESIGN CHOICE, assumption log 1. -/
def step (s : State) : Host.Outcome State Fault Refusal :=
  match s.pending with
  | [] => .next s.idle
  | c :: l => exec c { s with pending := l }

/-- `s` with the command that a word spells at the front of its queue; the table gives no row bits, so no word spells
one. DESIGN CHOICE, assumption log 40. -/
def State.withFetchWord (s : State) (nbits w : Nat) : State :=
  match decodeTableWord nbits w with
  | some c => { s with pending := c :: s.pending }
  | none => s

end Sys2Proof.Machine
end

