-- ==== Sys2Proof/WellFormed.lean ====
section
/-! DEFINITION. Well-formed commands: every operand lies in the range its row's register, unit or encoding gives it.
The meanings are total and answer on ill-formed commands too, without effect or with the operand reduced to its bits. -/

namespace Sys2Proof

open Sys2Proof.Machine (Op)

/-- A thread of an engine (spec/02 R23). -/
def thr (e t : Nat) : Bool := decide (e < 9 ∧ t < 32)

/-- A sender that exists. -/
def Who.wf : Who → Bool
  | .host .. => true
  | .thread e t => thr e t

/-- A record starts on an 8-byte boundary of its slot, behind the header (spec/15 R401, R402). -/
def RecChk.wf (c : RecChk) : Bool := decide (64 ≤ c.off ∧ c.off < 0x400000 ∧ c.off % 8 = 0)

/-- A slot whose header fields fit their bytes (spec/15 R401). -/
def SlotImg.wf (x : SlotImg) : Bool :=
  decide (x.fmt < 2 ^ 16 ∧ x.length < 2 ^ 32 ∧ x.keyslot < 256 ∧ x.nrec < 2 ^ 16)

/-- What is stuck in a memory lies in its stored word and in its syndrome (spec/12 R311). -/
def Defect.wf (x : Defect) : Bool := x.cells.all (fun c => decide (c.1 < 80)) && x.lines.all fun c => decide (c.1 < 16)

/-- A device whose tables' fields are in range (spec/15 R397). -/
def FlashDev.wf (x : FlashDev) : Bool := decide (x.density < 64 ∧ x.dwords < 256 ∧ x.quad < 8)

/-- Surroundings that the ports and the flash can present (spec/15 R394 to R399; spec/16 R448). -/
def BootEnv.wf (x : BootEnv) : Bool :=
  decide (x.lcs < 16 ∧ 25000 ≤ x.trefKhz ∧ x.trefKhz ≤ 200000) && x.defects.all (fun y => decide (y.1 < 55) && y.2.wf) &&
  x.flash0.all FlashDev.wf && x.flash1.all FlashDev.wf && x.slotA.wf && x.slotB.wf &&
  x.members.all fun m => decide (m.1 < 256 ∧ m.2 < 8)

/-- Every operand is in range. -/
def Instr.wf : Instr → Bool
  | .registerWrite w addr _ _ => w.wf && decide (addr < 16777216)
  | .rcRead w addr _ => w.wf && decide (addr < 16777216)
  | .powerOnReset => true
  | .warmReset => true
  | .resetRelease env => env.wf
  | .shoreRecord chk muli mulf => chk.wf && decide (muli < 256 ∧ mulf < 2 ^ 16)
  | .pstoreRecord chk role waddr _ => chk.wf && decide (role < 256 ∧ waddr < 2 ^ 16)
  | .decodeRecord chk role _ => chk.wf && decide (role < 256)
  | .roleRecord chk role active _ _ => chk.wf && decide (role < 256 ∧ active < 256)
  | .threadRecord chk role thr _ => chk.wf && decide (role < 256 ∧ thr < 256)
  | .poolRecord chk addr _ => chk.wf && decide (addr < 2 ^ 32)
  | .lramRecord chk role off _ => chk.wf && decide (role < 256 ∧ off < 2 ^ 32)
  | .tarnRecord chk off _ => chk.wf && decide (off < 2 ^ 32)
  | .regRecord chk pairs => chk.wf && pairs.all fun p => decide (p.1 < 2 ^ 32)
  | .keyWordTransfer _ => true
  | .lcsChange lcs => decide (lcs < 16)
  | .tamper => true
  | .tarnWipeComplete => true
  | .multiplierLock => true
  | .holdoverEntry => true
  | .multiplierRelock => true
  | .delayLineCalibration core line taps => decide (core < 264 ∧ line < 4 ∧ taps < 65536)
  | .calibrationExchange core line => decide (core < 264 ∧ line < 4)
  | .ppsEdge step _ => decide (step < 32)
  | .syncLoadApply => true
  | .laneSpareSwap w p _ _ => w.wf && decide (p < 256)
  | .spareSwapComplete => true
  | .laneEnWrite w p _ _ => w.wf && decide (p < 264)
  | .laneStartDone p => decide (p < 256)
  | .laneStopDone p => decide (p < 256)
  | .entryDispatch => true
  | .setEntry p => decide (p < 256)
  | .clearEntry p => decide (p < 256)
  | .toggleEntry p => decide (p < 256)
  | .levelEntry p => decide (p < 256)
  | .oeEntry p => decide (p < 256)
  | .markEntry p => decide (p < 256)
  | .loopbackCompare p _ => decide (p < 256)
  | .streamStart p => decide (p < 256)
  | .streamTxWordBoundary p => decide (p < 256)
  | .streamRxWord p _ => decide (p < 256)
  | .streamFifoWrite w p _ _ => w.wf && decide (p < 264)
  | .streamFifoRead w p _ => w.wf && decide (p < 264)
  | .captureEdge p _ step => decide (p < 256 ∧ step < 32)
  | .captureRead w p _ => w.wf && decide (p < 264)
  | .decimateBit p _ clock => decide (p < 256 ∧ clock.step < 32)
  | .decimateClockLoss p => decide (p < 256)
  | .mirrorEdge p edge => decide (p < 256 ∧ edge.step < 32)
  | .stageWrite w p _ _ _ => w.wf && decide (p < 256)
  | .weirDeadline g => decide (g < 32)
  | .strobeMissingDeadline g => decide (g < 32)
  | .stageStaleDiscard g => decide (g < 32)
  | .minpwExpiry p => decide (p < 256)
  | .maxonExpiry p => decide (p < 256)
  | .deadTimeExpiry p => decide (p < 256)
  | .countEvent n => decide (n < 64)
  | .cntEnWrite w n _ _ => w.wf && decide (n < 64)
  | .counterOn n => decide (n < 64)
  | .counterOff n => decide (n < 64)
  | .cntGo w _ _ => w.wf
  | .cntSnap w _ _ => w.wf
  | .fabFnGo j => decide (j < 16)
  | .fabFnStart j => decide (j < 16)
  | .fabFnCount j => decide (j < 16)
  | .fabFnReset j => decide (j < 16)
  | .fabFnSnap j => decide (j < 16)
  | .quadCount u _ _ _ => decide (u < 16)
  | .indexEdge u _ => decide (u < 16)
  | .posCompareArm w u _ _ => w.wf && decide (u < 16)
  | .speedTimeout u => decide (u < 16)
  | .inletStrobe n _ tag step => decide (n < 32 ∧ tag < 64 ∧ step < 32)
  | .sampleEntry n => decide (n < 64)
  | .inletDataRead w n _ => w.wf && decide (n < 64)
  | .inlEnWrite w n _ _ => w.wf && decide (n < 64)
  | .inletStartDone n => decide (n < 64)
  | .inletStopDone n => decide (n < 64)
  | .channelEvent c tap pulse => decide (c < 136 ∧ tap < 4 ∧ pulse.step < 32)
  | .wakeDelivery c => decide (c < 136)
  | .evoutPulseEnd m => decide (m < 16)
  | .refractoryEnd c => decide (c < 136)
  | .loopWindowEnd c => decide (c < 136)
  | .fabFire w _ _ => w.wf
  | .tripRelease w k _ _ => w.wf && decide (k < 2)
  | .fabChWrite w c _ _ => w.wf && decide (c < 136)
  | .spareStandIn w n _ _ => w.wf && decide (n < 8)
  | .standInComplete n => decide (n < 8)
  | .ownerHandover w n _ _ => w.wf && decide (n < 32)
  | .handoverDrainComplete n => decide (n < 32)
  | .bankEnWrite w n _ _ => w.wf && decide (n < 32)
  | .autoWake n => decide (n < 32)
  | .retAckRise b => decide (b < 35)
  | .retAckFall b => decide (b < 35)
  | .cdEnWrite w c _ _ => w.wf && decide (c < 32)
  | .conduitStartDone c => decide (c < 32)
  | .conduitStopDone c => decide (c < 32)
  | .conduitStreamTxWord c k => decide (c < 32 ∧ k < 16)
  | .conduitStreamRxWord c k => decide (c < 32 ∧ k < 16)
  | .kick w c _ _ => w.wf && decide (c < 32)
  | .conduitTransferDone c => decide (c < 32)
  | .correctedWriteback word => decide (word < 2097152)
  | .poisonRewrite word => decide (word < 2097152)
  | .bucketLeak b => decide (b < 54)
  | .logEntryFree w _ _ => w.wf
  | .pageRemap w i _ _ => w.wf && decide (i < 256)
  | .pageRemove w i _ _ => w.wf && decide (i < 256)
  | .pageCopyDone => true
  | .migrationStart w _ _ => w.wf
  | .migrationDone => true
  | .clearWord w _ _ => w.wf
  | .bgtRegionStart => true
  | .bgtSaveDone => true
  | .bgtMarchDone fails => fails.all fun i => decide (i < 64)
  | .bgtRestoreDone => true
  | .hostLockRequest w k => w.wf && decide (k < 256)
  | .hostLockRelease w k => w.wf && decide (k < 256)
  | .forcedRelease w _ _ => w.wf
  | .hostMasterAbandon w _ _ => w.wf
  | .rotationBoundary e => decide (e < 9)
  | .swap w e _ _ => w.wf && decide (e < 9)
  | .icinv w e _ _ => w.wf && decide (e < 9)
  | .icacheInvalidateDone e => decide (e < 9)
  | .farFetchLineDelivered e t => thr e t
  | .loadComplete e t => thr e t
  | .longOpComplete e t pipe => thr e t && decide (pipe < 2)
  | .storeDrain e => decide (e < 9)
  | .poisonedStoreFault e t => thr e t
  | .engEnWrite w e _ _ => w.wf && decide (e < 9)
  | .engineStopDone e => decide (e < 9)
  | .engineStartDone e => decide (e < 9)
  | .urgentDiversion e t => thr e t
  | .threadCmdPark w e t _ _ => w.wf && thr e t
  | .threadCmdResume w e t _ _ => w.wf && thr e t
  | .threadCmdQuiesce w e t _ _ => w.wf && thr e t
  | .threadCmdRelease w e t _ _ => w.wf && thr e t
  | .threadCmdClrviol w e t _ _ => w.wf && thr e t
  | .threadCmdDeclare w e t _ _ => w.wf && thr e t
  | .poke w e t _ _ => w.wf && thr e t
  | .decodeTableWrite w e off _ _ => w.wf && decide (e < 9 ∧ off < 4096)
  | .mov e t a b => thr e t && (Op.alu .mov a b).wf
  | .add e t a b => thr e t && (Op.alu .add a b).wf
  | .sub e t a b => thr e t && (Op.alu .sub a b).wf
  | .adds e t a b => thr e t && (Op.alu .adds a b).wf
  | .subs e t a b => thr e t && (Op.alu .subs a b).wf
  | .andr e t a b => thr e t && (Op.alu .and a b).wf
  | .orr e t a b => thr e t && (Op.alu .or a b).wf
  | .xorr e t a b => thr e t && (Op.alu .xor a b).wf
  | .shl e t a b => thr e t && (Op.alu .shl a b).wf
  | .shr e t a b => thr e t && (Op.alu .shr a b).wf
  | .sar e t a b => thr e t && (Op.alu .sar a b).wf
  | .ror e t a b => thr e t && (Op.alu .ror a b).wf
  | .neg e t a b => thr e t && (Op.alu .neg a b).wf
  | .negs e t a b => thr e t && (Op.alu .negs a b).wf
  | .abs e t a b => thr e t && (Op.alu .abs a b).wf
  | .abss e t a b => thr e t && (Op.alu .abss a b).wf
  | .movi e t rd imm => thr e t && (Op.movi rd imm).wf
  | .addi e t rd imm => thr e t && (Op.addi rd imm).wf
  | .shli e t rd imm => thr e t && (Op.shift .shl rd imm).wf
  | .shri e t rd imm => thr e t && (Op.shift .shr rd imm).wf
  | .sari e t rd imm => thr e t && (Op.shift .sar rd imm).wf
  | .rori e t rd imm => thr e t && (Op.shift .ror rd imm).wf
  | .seqi e t rd imm => thr e t && (Op.cmpi .seq rd imm).wf
  | .snei e t rd imm => thr e t && (Op.cmpi .sne rd imm).wf
  | .slti e t rd imm => thr e t && (Op.cmpi .slt rd imm).wf
  | .sltui e t rd imm => thr e t && (Op.cmpi .sltu rd imm).wf
  | .ld e t rd k off => thr e t && (Op.load .word rd k off).wf
  | .ldb e t rd k off => thr e t && (Op.load .byte rd k off).wf
  | .ldd e t n k off => thr e t && (Op.load .pair n k off).wf
  | .st e t rd k off => thr e t && (Op.store .word rd k off).wf
  | .stb e t rd k off => thr e t && (Op.store .byte rd k off).wf
  | .std e t n k off => thr e t && (Op.store .pair n k off).wf
  | .beq e t a b off => thr e t && (Op.branch .eq a b off).wf
  | .bne e t a b off => thr e t && (Op.branch .ne a b off).wf
  | .blt e t a b off => thr e t && (Op.branch .lt a b off).wf
  | .bge e t a b off => thr e t && (Op.branch .ge a b off).wf
  | .bltu e t a b off => thr e t && (Op.branch .ltu a b off).wf
  | .bgeu e t a b off => thr e t && (Op.branch .geu a b off).wf
  | .beqi e t a imm off => thr e t && (Op.branchI .eq a imm off).wf
  | .bnei e t a imm off => thr e t && (Op.branchI .ne a imm off).wf
  | .blti e t a imm off => thr e t && (Op.branchI .lt a imm off).wf
  | .bgei e t a imm off => thr e t && (Op.branchI .ge a imm off).wf
  | .bltui e t a imm off => thr e t && (Op.branchI .ltu a imm off).wf
  | .bgeui e t a imm off => thr e t && (Op.branchI .geu a imm off).wf
  | .bz e t a off => thr e t && (Op.bz false a off).wf
  | .bnz e t a off => thr e t && (Op.bz true a off).wf
  | .jmp e t a => thr e t && (Op.mts 30 a).wf
  | .call e t a => thr e t && (Op.mts 31 a).wf
  | .ret e t a => thr e t && (Op.mts 29 a).wf
  | .mul e t a b => thr e t && (Op.mul .mul a b).wf
  | .mulu e t a b => thr e t && (Op.mul .mulu a b).wf
  | .mulq e t a b => thr e t && (Op.mul .mulq a b).wf
  | .mac e t n a b => thr e t && (Op.mac false n a b).wf
  | .msc e t n a b => thr e t && (Op.mac true n a b).wf
  | .scl e t n imm => thr e t && (Op.scl n imm).wf
  | .aclr e t n => thr e t && (Op.aclr n).wf
  | .aset e t n dn => thr e t && (Op.aset n dn).wf
  | .div e t dn b => thr e t && (Op.div true dn b).wf
  | .divu e t dn b => thr e t && (Op.div false dn b).wf
  | .sqrt e t dn => thr e t && (Op.sqrt dn).wf
  | .sincos e t a => thr e t && (Op.cordic .sincos a 0).wf
  | .atan2 e t a b => thr e t && (Op.cordic .atan2 a b).wf
  | .mag e t a b => thr e t && (Op.cordic .mag a b).wf
  | .lrd e t form => thr e t && (Op.lrd form).wf
  | .rep e t cnt => thr e t && (Op.rep false cnt).wf
  | .repi e t cnt => thr e t && (Op.rep true cnt).wf
  | .repeatIteration e t => thr e t
  | .waitEvt e t rd m => thr e t && (Op.wait rd m).wf
  | .fence e t => thr e t && (Op.fence).wf
  | .lock e t rd k => thr e t && (Op.lock rd k).wf
  | .unlock e t rd k => thr e t && (Op.unlock rd k).wf
  | .logRec e t rc dn => thr e t && (Op.log rc dn).wf
  | .mfs e t rd sr => thr e t && (Op.mfs rd sr).wf
  | .mts e t sr a => thr e t && (Op.mts sr a).wf
  | .mtsUret e t a => thr e t && (Op.mts 8 a).wf
  | .slotswap e t => thr e t && (Op.slotswap).wf
  | .checkpoint e t => thr e t && (Op.checkpoint).wf
  | .park e t => thr e t && (Op.park).wf
  | .cust e t n ra rb rc => thr e t && (Op.cust n ra rb rc).wf
  | .customMicroOp e t => thr e t
  | .reservedEncoding e t len => thr e t && (Op.reserved len).wf
  | .domainArm w dom _ _ => w.wf && decide (dom < 8)
  | .domainArmed dom => decide (dom < 8)
  | .domainReset w dom _ _ => w.wf && decide (dom < 8)
  | .domainDisarmed dom => decide (dom < 8)
  | .cmdResume w dom _ _ => w.wf && decide (dom < 8)
  | .cmdSafe w dom _ _ => w.wf && decide (dom < 8)
  | .cmdHold w dom _ _ => w.wf && decide (dom < 8)
  | .freezeCommitStop dom => decide (dom < 8)
  | .freezeSwitch dom => decide (dom < 8)
  | .domainSubstateChange dom => decide (dom < 8)
  | .holdmaxExpiry dom => decide (dom < 8)
  | .engineStallDetect e => decide (e < 9)
  | .fdeclEngine w _ _ => w.wf
  | .fdeclLane w _ _ => w.wf
  | .threadRollback e t => thr e t
  | .checkpointInterval role => decide (role < 8)
  | .checkpointUsable e t => thr e t
  | .takeoverRoleTaken => true
  | .takeoverComplete => true
  | .takeoverFail => true
  | .engineBistDone e _ => decide (e < 9)
  | .rollingTestStart => true
  | .preloadDone => true
  | .swapSwitchStart => true
  | .swapSwitchDone => true
  | .stormWindowEnd => true
  | .outRaise w _ _ => w.wf
  | .outletRecordWrite => true
  | .rdptrWrite w _ _ => w.wf
  | .mbxTime w => w.wf
  | .mbxPps w => w.wf
  | .mbxBoot w => w.wf
  | .mbxChain w i => w.wf && decide (i < 16)
  | .mbxPoscap w i => w.wf && decide (i < 16)
  | .mbxLoga w i => w.wf && decide (i < 32)
  | .mbxLogb w i => w.wf && decide (i < 32)
  | .mbxFrec w i => w.wf && decide (i < 16)
  | .mbxQalm w i => w.wf && decide (i < 64)
  | .mbxOutcnt w => w.wf
  | .mbxReservedSelector w sel => w.wf && decide (sel < 65536)
  | .mailboxCaptureDone => true
  | .mailboxData3Read w _ => w.wf
  | .threadDoorbell w _ _ => w.wf
  | .hostDoorbellSet w _ _ => w.wf
  | .hostDoorbellClear w _ _ => w.wf
  | .sclkFallback => true
  | .laneSafeChange p _ => decide (p < 256)
  | .dozeEntry => true
  | .dozeExit => true
  | .sleepRequest w _ _ => w.wf
  | .sleepEntered => true
  | .wake w _ _ => w.wf
  | .wakeComplete => true
  | .shoreRestart => true
  | .pwrAckRise => true
  | .pwrAckFall => true
  | .threadReset w _ _ => w.wf
  | .engineReset w _ _ => w.wf
  | .laneReset w _ _ => w.wf
  | .breakpointHit e t i => thr e t && decide (i < 8)
  | .dbgHalt w e _ _ => w.wf && decide (e < 9)
  | .dbgStep w e _ _ => w.wf && decide (e < 9)
  | .dbgRun w e _ _ => w.wf && decide (e < 9)
  | .dbgHaltall w e _ _ => w.wf && decide (e < 9)
  | .dbgRunall w e _ _ => w.wf && decide (e < 9)
  | .tapReset => true
  | .tapIdcode => true
  | .tapStatus => true
  | .tapDbgacc _ addr _ _ => decide (addr < 16777216)
  | .tapWrapsel => true
  | .tapScanmode => true
  | .tapMbist => true
  | .tapLbist => true
  | .tapBypass => true
  | .statusCopyRefresh _ => true
  | .hostMemoryAccess w _ addr _ _ => w.wf && decide (addr < 16777216)
  | .tamperDeassert => true
  | .channelLevelFall tap => decide (tap.channel < 136 ∧ tap.tap < 4)
  | .speedLimitDecay u => decide (u < 16)

end Sys2Proof
end

