-- ==== Sys2Proof/Safety.lean ====
section
/-! DEFINITION. The terms in which statements are made: when the block takes commands, who may write what, what the slot
of an instruction leaves behind, and what the invariants hold. -/

namespace Sys2Proof.Machine

open Sys2Proof

/-! ### The block as a whole -/

/-- The block takes commands: it is in no reset and in no test mode. -/
def State.Live (s : State) : Prop := s.test = none ∧ s.inReset = false

/-- `w` may write every register of the live block: secure rights (spec/17 R457), and boot over (spec/15 R396). -/
def State.Writer (s : State) (w : Who) : Prop :=
  s.Live ∧ s.rights w = .secure ∧ (s.accepting = true ∨ isHost w = false)

/-- A write of all four bytes. -/
def whole : BitVec 4 := 0xF

/-- The command answers a next state of which `P` holds. -/
def Answers (c : Instr) (s : State) (P : State → Prop) : Prop := ∃ t, exec c s = .next t ∧ P t

/-- Memory in its canonical form (assumption log 2). -/
def State.MemOk (s : State) : Prop := Memory.wf s.mem = true

/-- A test mode that no queued command ends: every pin is inert and the Tarn holds nothing (spec/18 R492). -/
structure State.InTest (s : State) : Prop where
  mode  : s.test ≠ none
  stays : Instr.powerOnReset ∉ s.pending
  pins  : ∀ p, s.pin p = s.inert p
  tarn  : ∀ a, 8 * tarnWord 0 ≤ a → a < 8 * tarnWord 2048 → s.byte a = 0

/-- The words of `l` are stored cleanly from physical word `k` on, and every other word is as before. -/
def State.Stored (s : State) (k : Nat) (l : List (BitVec 64)) (t : State) : Prop :=
  (∀ i, i < l.length → t.word (k + i) = l.getD i 0 ∧ t.syn (k + i) = 0) ∧
  ∀ j, j < k ∨ k + l.length ≤ j → t.word j = s.word j ∧ t.syn j = s.syn j

/-- The Wellhead reads a record of the slot in progress, and its checks pass (spec/15 R402, R403, R407). -/
structure State.Reads (s : State) (env : BootEnv) (chk : RecChk) : Prop where
  live  : s.Live
  image : s.boot.env = some env
  step  : s.bootStep = 5 ∨ s.bootStep = 6
  more  : s.boot.count < (s.slotImg env).nrec
  crc   : chk.crcOk = true
  tag   : chk.enc = true → (s.slotImg env).enc = true ∧ chk.tagOk = true
  whole : s.integ.bgtSaved = none

/-- The record was accepted: it is counted, and nothing has changed but registers, threads, memory and the count. -/
def State.Accepts (s : State) (chk : RecChk) (t : State) : Prop :=
  t.boot.count = s.boot.count + 1 ∧ t.boot.enc = (s.boot.enc || chk.enc) ∧ t.boot.env = s.boot.env ∧
  t = { s with boot := t.boot, regs := t.regs, threads := t.threads, mem := t.mem, chk := t.chk, startPc := t.startPc }

/-! ### Registers -/

/-- Every register but those of `l` reads as before. -/
def State.RegsBut (s : State) (l : List Reg) (t : State) : Prop :=
  ∀ r : Reg, (∀ q ∈ l, r.key ≠ q.key) → t.rd r = s.rd r

/-- Nothing but registers of `l` has changed. -/
def State.OnlyRegs (s : State) (l : List Reg) (t : State) : Prop :=
  t = { s with regs := t.regs } ∧ s.RegsBut l t

/-- A field has counted one further, saturating. -/
def State.Counts (s : State) (r : Reg) (f : Fld) (t : State) : Prop := t.fld r f = satInc f.width (s.fld r f)

/-- An alarm of this code is queued. -/
def State.Alarmed (t : State) (code : Nat) : Prop := ∃ a ∈ t.outlet.alarms, a.code = code

/-- Every pin's lane asks for what it asked before, and nothing has changed but the lanes, and the step up to which the
pins have followed: the pins were settled. -/
def State.OnlyPins (s t : State) : Prop :=
  t = { s with lanes := t.lanes, shore := { s.shore with step := t.shore.step } } ∧
  ∀ p, t.lane p = { s.lane p with passed := (t.lane p).passed, passedAt := (t.lane p).passedAt, cut := (t.lane p).cut,
                                  grant := (t.lane p).grant, pinOut := (t.lane p).pinOut, pinOe := (t.lane p).pinOe,
                                  edgeAt := (t.lane p).edgeAt, offAt := (t.lane p).offAt,
                                  compares := (t.lane p).compares }

/-- The fabric has nothing to pass whatever level changes: no channel has a tap enabled, is high, or is in refractory
time (spec/10 R255, R268). -/
def State.FabricStill (s : State) : Prop := s.liveChannels = [] ∧ ∀ c, (s.channel c).refr = false

/-- A background test of slot `n`'s bank is in RESTORE, and will test the region again, where the slot stands in STOPPING in
`t` and the test was in SAVE or MARCH; else the test goes on (spec/12 R335). -/
def State.TestYields (s : State) (n : Nat) (t : State) : Prop :=
  let st := s.fld .memBgtstat F.memBgtstat.state
  let yields := (t.bankLife n).st == 3 && (st == 1 || st == 2) &&
    s.fld .memBgtstat F.memBgtstat.bank == s.fld (.memBstat n) F.memBstat.phys
  t.rd .memBgtstat = (if yields then F.memBgtstat.state.put (s.rd .memBgtstat) 3 else s.rd .memBgtstat) ∧
  t.integ.bgtAgain = (s.integ.bgtAgain || yields)

/-- No other channel than `c` has a tap enabled, is high or in LEVEL mode, or is in refractory time, and `c` does not hear its own echo. -/
def State.Alone (s : State) (c : Nat) : Prop :=
  s.hears c (.echo c) = false ∧
  (∀ c', c' < 136 → c' ≠ c → s.fld (.fabCh c') F.fabCh.tapen = 0 ∧ (s.channel c').high = false ∧ s.levelOut c' = none) ∧
  ∀ c', c' ≠ c → (s.channel c').refr = false

/-- Channel `c` has passed one event, at instant `t`, and its consumer has acted (spec/10 R255, R261, R263 to R265, R267,
R268): a trip is latched, a wake is pending, a function of the counter bank is held, an event output pulses or toggles, shore
time is captured; a consumer that has not let go of the event before overruns. -/
def State.Passes (s : State) (c t : Nat) (u : State) : Prop :=
  let x := s.channel c
  let row := s.rowOf c
  let omode := s.fld (.fabCh c) F.fabCh.omode
  let overrun := u.fld (.fabCst c) F.fabCst.ovr = 1 ∧ s.Counts (.fabCst c) F.fabCst.ovrcnt u
  u.fld (.fabCst c) F.fabCst.passcnt = (s.fld (.fabCst c) F.fabCst.passcnt + 1) % 0x10000 ∧
  (u.channel c).refr = true ∧ (u.channel c).edge = false ∧ (u.channel c).passAt = some t ∧
  u.mem = s.mem ∧ u.threads = s.threads ∧
  (row < 64 → s.tripped row = false → u.tripped row = true ∧ u.Alarmed 0x0B ∧
    s.RegsBut [.fabCst c, .fabTrip (row / 32), .outStat, .outCnt] u) ∧
  (row < 64 → s.tripped row = true → overrun ∧ s.RegsBut [.fabCst c] u) ∧
  (64 ≤ row → row < 96 → (u.channel c).wpend = true ∧ (x.wpend = true → overrun) ∧ s.RegsBut [.fabCst c] u) ∧
  (96 ≤ row → row < 112 → s.RegsBut [.fabCst c] u ∧
    (s.shoreRuns = true ∨ x.fnHeld = [] → (u.channel c).fnHeld = x.fnHeld ++ [s.ticks]) ∧
    (s.shoreRuns = false → x.fnHeld ≠ [] → overrun ∧ (u.channel c).fnHeld = x.fnHeld)) ∧
  (112 ≤ row → row < 128 → s.RegsBut [.fabCst c] u ∧
    (omode = 0 ∨ omode = 3 → u.ports.evout.getLsbD (row - 112) = true ∧
      (s.ports.evout.getLsbD (row - 112) = true → overrun) ∧
      (s.ports.evout.getLsbD (row - 112) = false →
        (u.channel c).pulseEnd = s.ticks + s.fld (.fabCh c) F.fabCh.arg + 1)) ∧
    (omode = 1 → u.ports.evout.getLsbD (row - 112) = !s.ports.evout.getLsbD (row - 112))) ∧
  (128 ≤ row → s.shoreRuns = true → u.rd (.fabSplat (row - 128)) = (s.timeAt t).setWidth 32 ∧
    s.RegsBut [.fabCst c, .fabSplat (row - 128)] u)

/-- An edge or an injection has reached channel `c` at instant `t`, and left its level as seen at `high` (spec/10 R255, R268,
R269): out of refractory time the channel passes the event, but for the 65th of a loop window, which stops a channel with
RING_STOP; in refractory time one edge is kept, and any further one is lost. -/
def State.Meets (s : State) (c t : Nat) (high : Bool) (u : State) : Prop :=
  let x := s.channel c
  let lsus := s.fld (.fabCh c) F.fabCh.lsus
  let stop := s.fld (.fabCh c) F.fabCh.ringStop
  let ring := s.fld (.fabCst c) F.fabCst.ring
  let count := if x.winNo = s.windowNo then x.window + 1 else 1
  (s.stopped c = true → u.regs = s.regs) ∧
  (s.fld (.fabCh c) F.fabCh.wakeEn = 0 → s.bit .outCtrl F.outCtrl.trcen = false → x.refr = false → s.stopped c = false →
    (lsus = 0 ∨ (stop = 0 ∨ ring = 0) ∧ count ≠ 65 → s.coincides c t = none → s.Passes c t u) ∧
    (lsus = 1 → stop = 1 → ring = 0 → count = 65 →
      u.fld (.fabCst c) F.fabCst.ring = 1 ∧ u.fld (.fabCst c) F.fabCst.disabled = 1 ∧ u.Alarmed 0x0C ∧
      u.fld (.fabCst c) F.fabCst.passcnt = s.fld (.fabCst c) F.fabCst.passcnt ∧
      s.RegsBut [.fabCst c, .outStat, .outCnt] u)) ∧
  (x.refr = true → s.refrOver c t = false → s.stopped c = false →
    (x.edge = false → u.channel c = { x with edge := true, high := high } ∧ u.regs = s.regs) ∧
    (x.edge = true → u.channel c = { x with high := high } ∧ u.fld (.fabCst c) F.fabCst.merge = 1 ∧
      s.RegsBut [.fabCst c] u)) ∧
  (u.channel c).high = high

/-- Command `c` writes register `r` of a tick-clocked unit with all of `d`: the write waits for the start of the next tick,
or acts at once while the shore stands still and no wake is to come (spec/01 R7); acting, it leaves a state with `P`. -/
def State.Takes (s : State) (c : Instr) (w : Who) (r : Reg) (d : BitVec 32) (poison : Bool) (P : State → Prop) : Prop :=
  let x : Wr := ⟨w, r.key, d, whole⟩
  exec c s = .next (if s.defers r.key then s.later (.write x poison) else s.performWrite x poison) ∧
  P (s.performWrite x poison)

/-- Command `c` sends lane `p`'s next word, whose first bit starts at `t`, as `v`, and leaves `l` in the FIFO (spec/06
R169). -/
def State.SendsWord (s : State) (c : Instr) (p t : Nat) (v : Word) (l : List Word) : Prop :=
  Answers c s (s.setLane p { s.lane p with started := true, fifo := l, txWord := some v, txStart := t }).OnlyPins

/-- Command `c` sends lane `p`'s next word: the first of its FIFO; else the filler on an export lane, the word before with
REPLAST, or the idle level, which ERRA counts (spec/06 R169, spec/19 R505). -/
def State.SendsNext (s : State) (c : Instr) (p t : Nat) : Prop :=
  let x := s.lane p
  (∀ v l, x.fifo = v :: l → s.SendsWord c p t v l) ∧
  (x.fifo = [] → s.exporting p = true → s.asleep = false → s.SendsWord c p t 0xFFFF []) ∧
  (x.fifo = [] → s.exporting p = false → s.fld (.streamM3 p) F.streamM3.replast = 1 →
    ∀ v, x.txWord = some v → s.SendsWord c p t v []) ∧
  (x.fifo = [] → s.exporting p = false → s.fld (.streamM3 p) F.streamM3.replast = 0 → Answers c s fun u =>
    s.Counts (.laneErr p) F.laneErr.erra u ∧ s.RegsBut [.laneErr p] u ∧
    ({ s.setLane p { x with started := true, txStart := t,
                            txWord := some (if s.bit (.streamM0 p) F.streamM0.idleLvl then 0xFFFF else 0) } with
        regs := u.regs } : State).OnlyPins u)

/-- Command `c` executes `e`, the first entry of lane `p`'s core in the present tick (spec/06 R178, R182, R183): the entry
leaves the core, and in its own tick the lane's level and enable become `v`, and the threads `th`; late by one tick it still
acts, and counts in LATEX with an alarm; later it only counts, in ERRA too. -/
def State.Executes (s : State) (c : Instr) (p : Nat) (e : Entry) (v : Bool × Bool) (th : SMap Thread) : Prop :=
  let x := s.lane p
  let ran : Lane := { x with core := x.core.tail, ranTick := s.ticks,
                             ranCount := if x.ranTick = s.ticks then x.ranCount + 1 else 1 }
  let m := { s.setLane p { ran with lvl := v.1, oe := v.2 } with threads := th }
  (e.tick = s.ticks → Answers c s m.OnlyPins) ∧
  (e.tick + 1 = s.ticks → Answers c s fun t => s.Counts .laneSchrej F.laneSchrej.latex t ∧ t.Alarmed 0x0A ∧
    s.RegsBut [.laneSchrej, .outStat, .outCnt] t ∧ ({ m with regs := t.regs, outlet := t.outlet } : State).OnlyPins t) ∧
  (e.tick + 1 < s.ticks → Answers c s fun t => s.Counts .laneSchrej F.laneSchrej.latex t ∧ t.Alarmed 0x0A ∧
    s.Counts (.laneErr p) F.laneErr.erra t ∧ s.RegsBut [.laneSchrej, .laneErr p, .outStat, .outCnt] t ∧
    ({ s.setLane p ran with regs := t.regs, outlet := t.outlet } : State).OnlyPins t)

/-- The raw level of one lane's input is `v`; every other port is as before. -/
def State.LaneIn (s : State) (p : Nat) (v : Bool) (t : State) : Prop :=
  t.ports = { s.ports with laneIn := t.ports.laneIn } ∧
  ∀ q, q < 256 → t.ports.laneIn.getLsbD q = if q = p then v else s.ports.laneIn.getLsbD q

/-! ### Instructions -/

/-- Thread `t` of engine `e` issues `o` in this slot (spec/02 R24 to R40, R58): it may issue, it is in no sequence, the words
of `o` are there once the slot is taken, nothing stalls it, no parity error and no poison comes first, and nothing else waits
for the thread's boundary. -/
structure State.Clear (s : State) (e t : Nat) (o : Op) : Prop where
  live   : s.Live
  may    : s.canIssue e t = true
  wf     : o.wf = true
  normal : o.normal = o
  rep    : (s.thread e t).rep = none
  cust   : (s.thread e t).cust = none
  drain  : (s.thread e t).drain = none
  loads  : (s.thread e t).loads = []
  queue  : (s.thread e t).cmdQueue = []
  halt   : (s.thread e t).haltReq = false ∧ (s.thread e t).stepping = false
  fetch  : (s.useSlot e t).fetchInstr e t o (s.thread e t).pc (s.wordsOf e t o (s.thread e t).pc) = (.ok, s.useSlot e t)
  hazard : (s.thread e t).hazard o = false
  parity : (s.thread e t).parityError o = false
  clean  : (s.thread e t).bites o = false

/-- The issue was counted once: as the first of a slot, or as the second of a pair (spec/02 R63). -/
def State.Counted (s : State) (e : Nat) (s' : State) : Prop :=
  (s'.rd (.engIssuecnt e) = s.rd (.engIssuecnt e) + 1 ∧ s'.rd (.engPaircnt e) = s.rd (.engPaircnt e)) ∨
  (s'.rd (.engPaircnt e) = s.rd (.engPaircnt e) + 1 ∧ s'.rd (.engIssuecnt e) = s.rd (.engIssuecnt e))

/-- The slot is used (spec/02 R24, R31, R32): the engine's rotation stands behind the first slot whose thread uses it, and
the BOOST pointer behind the winners of the BOOST slots before; the second instruction of a pair takes no slot. -/
def State.SlotUsed (s : State) (e t : Nat) (s' : State) : Prop :=
  ((s.thread e t).midPair = true → (s'.engine e).slot = (s.engine e).slot ∧
    (s'.engine e).boostPtr = (s.engine e).boostPtr ∧ (s'.engine e).slotAt = (s.engine e).slotAt) ∧
  ((s.thread e t).midPair = false → (s'.engine e).slot = (s.nextSlot e).1 ∧
    (s'.engine e).boostPtr = (s.nextSlot e).2.1 ∧ (s'.engine e).slotAt = s.ticks)

/-- What an instruction leaves alone that acts on its thread only: memory, every other thread, every register but the two
issue counters, of the engines everything but the slot and the turns at the iterators, and all the rest of the state. -/
def State.Frame (s : State) (e t : Nat) (s' : State) : Prop :=
  s' = { s with threads := s'.threads, regs := s'.regs, engines := s'.engines } ∧
  (∀ e' t', 32 * e' + t' ≠ 32 * e + t → s'.thread e' t' = s.thread e' t') ∧
  s.RegsBut [.engIssuecnt e, .engPaircnt e] s' ∧
  (∀ e', e' ≠ e → s'.engine e' = s.engine e') ∧ s.SlotUsed e t s' ∧
  s'.engine e = { s.engine e with slot := (s'.engine e).slot, boostPtr := (s'.engine e).boostPtr,
                                  slotAt := (s'.engine e).slotAt, iterWait := (s'.engine e).iterWait, iterPtr := (s'.engine e).iterPtr }

/-- The instruction has issued: the thread is as `f` makes it and goes on at `pc`, and the frame holds. -/
def State.Retires (s : State) (e t : Nat) (f : Thread → Thread) (pc : Word) (s' : State) : Prop :=
  s'.thread e t = { f (s.thread e t) with pc := pc, bpSkip := false, pair := (s'.thread e t).pair,
                                          midPair := (s'.thread e t).midPair } ∧
  s.Counted e s' ∧ s.Frame e t s'

/-- A load just issued: its destinations are written when it completes, not before the next instruction (spec/02 R45). -/
def inFlight (dests : List (Nat × Word)) (poison : Bool) : Load := ⟨dests, poison, true, false⟩

/-- The address behind `o`. -/
def State.after (s : State) (e t : Nat) (o : Op) : Word := (s.thread e t).pc + BitVec.ofNat 16 o.len

end Sys2Proof.Machine
end

