-- ==== Sys2Proof/Certificates/Slice0/Obligations.lean ====
section
/-! DEFINITION. The statements about the block, in the order of the manual. -/

open Sys2Proof Sys2Proof.Machine

/-- A step runs the command at the front of the queue (spec/01 R6, spec/01 R13). A step of a state whose queue begins
with a command is that command's effect on the state with the rest of the queue, whatever the command and the state;
a step on an empty queue idles for one tick (the model's choice, assumption log 1). -/
def Obligations.StepRunsTheFrontCommand : Prop :=
  (∀ (c : Instr) (l : List Instr) (s : State), step { s with pending := c :: l } = exec c { s with pending := l }) ∧
  ∀ s : State, s.pending = [] → step s = .next s.idle

/-- In a test mode functional state is undefined; in reset only the reset's own commands act (spec/18 R492, spec/18
R490, spec/18 R483, spec/16 R428, spec/15 R393). In scan mode, memory BIST or logic BIST every command but
POWER_ON_RESET and seven instructions of the TAP (RESET, IDCODE, BYPASS, WRAPSEL, SCANMODE, MBIST, LBIST) stops with
the named fault, and those commands answer a next state. While the block is in reset, a command other than the
reset's, the life-cycle, tamper and test-access ports' own changes nothing. -/
def Obligations.TestModesAndResetHoldOtherCommands : Prop :=
  (∀ (c : Instr) (s : State), s.test ≠ none →
    (c ∈ [.powerOnReset, .tapReset, .tapIdcode, .tapBypass, .tapWrapsel, .tapScanmode, .tapMbist, .tapLbist] →
      ∃ t, exec c s = .next t) ∧
    (c ∉ [.powerOnReset, .tapReset, .tapIdcode, .tapBypass, .tapWrapsel, .tapScanmode, .tapMbist, .tapLbist] →
      exec c s = .fault .functionalStateUndefined)) ∧
  (∀ (c : Instr) (s : State), s.test = none → s.inReset = true →
    (∀ env, c ≠ .resetRelease env) → (∀ l, c ≠ .lcsChange l) → (∀ w a d b, c ≠ .tapDbgacc w a d b) →
    c ∉ [.powerOnReset, .tamper, .tamperDeassert, .tapReset, .tapIdcode, .tapStatus, .tapBypass, .tapWrapsel,
      .tapScanmode, .tapMbist, .tapLbist] →
    exec c s = .next s)

/-- Every command completes outside the test modes (spec/01 R6, spec/17 R453). Outside the test modes every command,
with every operand and in every state, answers a next state: nothing faults and nothing is refused. -/
def Obligations.EveryCommandCompletesOutsideTestModes : Prop :=
  ∀ (c : Instr) (s : State), s.test = none → ∃ t, exec c s = .next t

/-- Every step keeps a test mode inert and its Tarn empty (spec/18 R492). For every state in a test mode with no power-
on reset queued, in which every pin is inert and the Tarn reads zero, whatever a step answers as next state is such
a state again. -/
def Obligations.TestModeStaysInertAndWiped : Prop :=
  ∀ s s' : State, s.InTest → step s = .next s' → s'.InTest

/-- The TAP instructions, and what the entry to a test mode leaves (spec/18 R489, spec/18 R492, spec/18 R490, spec/18
R491, spec/16 R452). Where the instructions of production test are permitted, SCANMODE, MBIST and LBIST enter their
mode from every state: every pin goes inert, the Tarn is wiped, the image key is cleared and the handshake outputs
fall; a refused one acts as BYPASS. RESET and IDCODE select the identification register, BYPASS the bypass register;
outside the test modes STATUS captures WELL_STAT; WRAPSEL is accepted while test is permitted and acts as BYPASS
where it is not; DBGACC issues nothing while debug is closed. Nothing but the TAP changes. -/
def Obligations.TapInstructionsAndTestModes : Prop :=
  (∀ (s : State) (c : Instr × TestMode × Nat),
    c ∈ [(Instr.tapScanmode, TestMode.scan, 8), (.tapMbist, .mbist, 9), (.tapLbist, .lbist, 10)] →
    Answers c.1 s fun t =>
      (s.testPermitted = true → t.test = some c.2.1 ∧ t.tap.ir = c.2.2 ∧ (∀ p, t.pin p = t.inert p) ∧
        (∀ a, 8 * tarnWord 0 ≤ a → a < 8 * tarnWord 2048 → t.byte a = 0) ∧
        (∀ a, a < 8 * tarnWord 0 ∨ 8 * tarnWord 2048 ≤ a → t.byte a = s.byte a) ∧
        t.security.key = [] ∧ t.ports.retReq = 0 ∧ t.ports.pwrReq = false) ∧
      (s.testPermitted = false → t = { s with tap := { s.tap with ir := 31, dr := 0 } })) ∧
  (∀ s : State,
    exec .tapReset s = .next { s with tap := { s.tap with ir := 1, dr := 0x3B256001 } } ∧
    exec .tapIdcode s = .next { s with tap := { s.tap with ir := 1, dr := 0x3B256001 } } ∧
    exec .tapBypass s = .next { s with tap := { s.tap with ir := 31, dr := 0 } } ∧
    (s.test = none → exec .tapStatus s = .next { s with tap := { s.tap with ir := 2, dr := s.rd .wellStat } }) ∧
    (s.testPermitted = true →
      exec .tapWrapsel s = .next { s with tap := { s.tap with ir := 4, dr := Config.wrapperData } }) ∧
    (s.testPermitted = false → exec .tapWrapsel s = .next { s with tap := { s.tap with ir := 31, dr := 0 } }) ∧
    (s.test = none → s.debugOpen = false → ∀ w a d b,
      exec (.tapDbgacc w a d b) s = .next { s with tap := { s.tap with ir := 3, data := 0, done := false } }))

/-- DBGACC issues one host access as master 0xFF (spec/18 R491). While debug is open, DBGACC makes the access that the
host port would make as the privileged master 0xFF: its writes change what that access changes, its read data go to
the TAP and not to hrp_rdata, and DONE says whether the access waits. -/
def Obligations.DebugAccessIsAHostAccess : Prop :=
  ∀ (s : State) (write : Bool) (addr : Nat) (d : BitVec 32) (strb : BitVec 4),
    s.Live → s.debugOpen = true → addr < 2 ^ 24 → addr % 4 = 0 →
    ∃ u, exec (.hostMemoryAccess (.host 0xFF true false) write addr d strb) s = .next u ∧
      Answers (.tapDbgacc write addr d strb) s fun t =>
        t = { u with rdata := s.rdata, tap := t.tap } ∧ t.tap.ir = 3 ∧
        (t.tap.done = true → t.tap.data = if write then 0 else u.rdata)

/-- POWER_ON_RESET gives every reset value; WARM_RESET keeps what the spec says (spec/18 R484, spec/16 R428, spec/12
R320, spec/11 R296, spec/06 R148). POWER_ON_RESET acts in every state and in every test mode: every register but
WELL_TAMP reads its reset value, memory reads zero, every thread, lane and lock is as after reset, shore time is 0,
and only the levels at the inputs, the TAP and the waiting commands are kept. A warm reset of the live block keeps
every byte of the Pool that is not in the background test's buffer, the Tarn where no wipe is in progress, the leaky
buckets, the retire table, the crossbar and shore time, counts itself, and leaves every thread and lane as after
reset. -/
def Obligations.ResetsGiveResetValues : Prop :=
  (∀ s : State, Answers .powerOnReset s fun t =>
    (∀ r : Reg, r.key ≠ Reg.wellTamp.key → t.rd r = r.reset) ∧
    t.fld .wellTamp F.wellTamp.level = s.fld .wellTamp F.wellTamp.level ∧
    (∀ a, t.byte a = 0) ∧ (∀ k, t.syn k = 0) ∧ (∀ e u, t.thread e u = .init u) ∧ (∀ p, t.lane p = .init) ∧
    (∀ k, t.lock k = .init) ∧ t.inReset = true ∧ t.test = none ∧ t.time = 0 ∧ t.shoreRuns = false ∧
    t.pending = s.pending ∧ t.tap = s.tap ∧ t.ports.laneIn = s.ports.laneIn ∧ t.ports.laneSafe = s.ports.laneSafe ∧
    t.ports.retReq = 0 ∧ t.ports.pwrReq = false ∧ t.ports.evout = 0 ∧ ∀ p, t.pin p = t.inert p) ∧
  (∀ s : State, s.Live → s.integ.bgtSaved = none → Answers .warmReset s fun t =>
    t.inReset = true ∧ t.time = s.time ∧ t.shoreRuns = s.shoreRuns ∧ t.pending = s.pending ∧
    (∀ a, a < 8 * 0x100000 → t.byte a = s.byte a) ∧
    (s.bit .memTarn F.memTarn.wiping = false → ∀ a, 8 * tarnWord 0 ≤ a → a < 8 * tarnWord 2048 → t.byte a = s.byte a) ∧
    (∀ b, b < 54 → t.rd (.memLb b) = s.rd (.memLb b)) ∧ (∀ i, i < 256 → t.rd (.memRetire i) = s.rd (.memRetire i)) ∧
    (∀ p, p < 256 → t.rd (.laneXbar p) = s.rd (.laneXbar p)) ∧
    t.fld .engRstcause F.engRstcause.warmcnt = satInc F.engRstcause.warmcnt.width (s.fld .engRstcause F.engRstcause.warmcnt) ∧
    (∀ e u, t.thread e u = .init u) ∧ (∀ p, t.lane p = .init) ∧ ∀ p, t.pin p = t.inert p)

/-- Decoding an encoded instruction gives it back, and every pair of words decodes in range (spec/04 R99, spec/04 R100,
spec/04 R101, spec/04 R102, spec/04 R103, spec/04 R104, spec/04 R105, spec/04 R106, spec/04 R109, spec/04 R110). For
every Nguano-14 instruction with operands in range, in the form in which its words are read (BEQ names the lower
register first, BNE of one register is BLT, and the reserved forms are left out), both words fit 14 bits and
decoding them gives the instruction back, with every operand at every value. Every two 14-bit words decode to an
instruction whose operands lie in the ranges of its table; what no row of the tables spells decodes as a reserved
encoding. -/
def Obligations.DecodingReadsBackEveryEncoding : Prop :=
  (∀ o : Op, o.wf = true → o.canonical = true →
    (encode14 o).1 < 2 ^ 14 ∧ (encode14 o).2 < 2 ^ 14 ∧ decode14 (encode14 o).1 (encode14 o).2 = o) ∧
  (∀ w v : Nat, w < 2 ^ 14 → v < 2 ^ 14 → (decode14 w v).wf = true ∧ (decode14 w v).normal.wf = true)

/-- A thread's registers read what was last written, and w0 reads zero (spec/03 R66, spec/03 R67, spec/05 R140). A write
of w1 to w15 is read back with its poison bit and leaves every other register alone; a write of w0 changes nothing,
and w0 reads zero and unpoisoned. -/
def Obligations.RegisterFileOfAThread : Prop :=
  ∀ (r : Regs) (k j : Nat) (v : Word) (p : Bool),
    (r.set 0 v p = r ∧ r.get 0 = 0 ∧ r.poison 0 = false) ∧
    (k ≠ 0 → (r.set k v p).get k = v ∧ (r.set k v p).poison k = p) ∧
    (j ≠ k → (r.set k v p).get j = r.get j ∧ (r.set k v p).poison j = r.poison j) ∧
    r.set k v p = { r with w := (r.set k v p).w, wp := (r.set k v p).wp }

/-- MOV, ADD, SUB, the logic and shift operations, NEG, ABS, and the immediate forms (spec/03 R67, spec/03 R70, spec/03
R71, spec/02 R26, spec/02 R63, spec/03 R72, spec/03 R73). An issued MOV, ADD, SUB, AND, OR, XOR, SHL, SHR, SAR, ROR,
NEG or ABS writes wd with the value of its table row (sums wrap, shifts take five bits of the count, a rotate four),
leaves ASTAT alone, goes on at the next instruction, and changes nothing else but the issue counters. MOV carries
the poison bit. An issued ADDS, SUBS, NEGS or ABSS writes the true result where it fits 16 signed bits and leaves
ASTAT alone; elsewhere it writes the nearest value that fits and sets ASTAT.SAT. Nothing else changes but the issue
counters. An issued MOVI, ADDI, SHLI, SHRI, SARI, RORI, SEQI, SNEI, SLTI or SLTUI writes wd with the value of its
row (a compare writes 1 or 0, signed but for SLTUI), leaves ASTAT alone, and changes nothing else but the issue
counters. -/
def Obligations.OperationsThatWrap : Prop :=
  ((∀ (s : State) (e t a b : Nat),
    (s.Clear e t (.alu .mov a b) → Answers (.mov e t a b) s
      (s.Retires e t (fun x => x.setReg a (x.regs.get b) (x.regs.poison b)) (s.after e t (.alu .mov a b)))) ∧
    ∀ c : Instr × Alu × (Word → Word → Word),
      c ∈ ([(Instr.add e t a b, Alu.add, fun x y => x + y), (.sub e t a b, .sub, fun x y => x - y),
        (.andr e t a b, .and, fun x y => x &&& y), (.orr e t a b, .or, fun x y => x ||| y),
        (.xorr e t a b, .xor, fun x y => x ^^^ y), (.shl e t a b, .shl, fun x y => x <<< (y.toNat % 32)),
        (.shr e t a b, .shr, fun x y => x >>> (y.toNat % 32)), (.sar e t a b, .sar, fun x y => x.sshiftRight (y.toNat % 32)),
        (.ror e t a b, .ror, fun x y => x.rotateRight (y.toNat % 16)), (.neg e t a b, .neg, fun _ y => -y),
        (.abs e t a b, .abs, fun _ y => if y.toInt < 0 then -y else y)] :
        List (Instr × Alu × (Word → Word → Word))) →
      s.Clear e t (.alu c.2.1 a b) →
      Answers c.1 s (s.Retires e t (fun x => x.setReg a (c.2.2 (x.regs.get a) (x.regs.get b)) false)
        (s.after e t (.alu c.2.1 a b)))) ∧
  (∀ (s : State) (e t a b : Nat) (c : Instr × Alu × (Word → Word → Int)),
    c ∈ [(Instr.adds e t a b, Alu.adds, fun x y => x.toInt + y.toInt), (.subs e t a b, .subs, fun x y => x.toInt - y.toInt),
      (.negs e t a b, .negs, fun _ y => -y.toInt), (.abss e t a b, .abss, fun _ y => if y.toInt < 0 then -y.toInt else y.toInt)] →
    s.Clear e t (.alu c.2.1 a b) →
    let v := c.2.2 ((s.thread e t).regs.get a) ((s.thread e t).regs.get b)
    Answers c.1 s (s.Retires e t (fun x =>
      let y := x.setReg a (BitVec.ofInt 16 (max (-32768) (min 32767 v))) false
      if -32768 ≤ v ∧ v ≤ 32767 then y else { y with regs := { y.regs with astat := y.regs.astat ||| 0x0100 } })
      (s.after e t (.alu c.2.1 a b))))) ∧
  (∀ (s : State) (e t d n : Nat) (i : Int) (c : Instr × Op × (Word → Word)),
    c ∈ [(Instr.movi e t d i, Op.movi d i, fun _ => BitVec.ofInt 16 i), (.addi e t d i, .addi d i, fun x => x + BitVec.ofInt 16 i),
      (.shli e t d n, .shift .shl d n, fun x => x <<< n), (.shri e t d n, .shift .shr d n, fun x => x >>> n),
      (.sari e t d n, .shift .sar d n, fun x => x.sshiftRight n), (.rori e t d n, .shift .ror d n, fun x => x.rotateRight n),
      (.seqi e t d i, .cmpi .seq d i, fun x => if x.toInt = i then 1 else 0),
      (.snei e t d i, .cmpi .sne d i, fun x => if x.toInt = i then 0 else 1),
      (.slti e t d i, .cmpi .slt d i, fun x => if x.toInt < i then 1 else 0),
      (.sltui e t d n, .cmpi .sltu d n, fun x => if x.toNat < n then 1 else 0)] →
    s.Clear e t c.2.1 →
    Answers c.1 s (s.Retires e t (fun x => x.setReg d (c.2.2 (x.regs.get d)) false) (s.after e t c.2.1)))

/-- Branches go on at their target or at the next instruction; JMP, CALL and RET (spec/03 R76, spec/03 R77, spec/04
R103, spec/03 R80, spec/03 R96). An issued branch goes on at its first word's address plus its offset, modulo 2^16,
where its condition holds of its operands, and at the next instruction where it does not; it writes no register, and
nothing else changes but the issue counters. An issued JMP goes on at the address in its register, CALL does so and
puts the address of the next instruction into LINK, RET goes on at LINK; nothing else changes but the issue
counters. -/
def Obligations.BranchesJumpsAndLink : Prop :=
  (∀ (s : State) (e t a b n : Nat) (i off : Int) (c : Instr × Op × (Word → Word → Prop)),
    c ∈ [(Instr.beq e t a b off, Op.branch .eq a b off, fun x y => x = y), (.bne e t a b off, .branch .ne a b off, fun x y => x ≠ y),
      (.blt e t a b off, .branch .lt a b off, fun x y => x.toInt < y.toInt),
      (.bge e t a b off, .branch .ge a b off, fun x y => ¬ x.toInt < y.toInt),
      (.bltu e t a b off, .branch .ltu a b off, fun x y => x.toNat < y.toNat),
      (.bgeu e t a b off, .branch .geu a b off, fun x y => ¬ x.toNat < y.toNat),
      (.beqi e t a i off, .branchI .eq a i off, fun x _ => x.toInt = i),
      (.bnei e t a i off, .branchI .ne a i off, fun x _ => x.toInt ≠ i),
      (.blti e t a i off, .branchI .lt a i off, fun x _ => x.toInt < i),
      (.bgei e t a i off, .branchI .ge a i off, fun x _ => ¬ x.toInt < i),
      (.bltui e t a n off, .branchI .ltu a n off, fun x _ => x.toNat < n),
      (.bgeui e t a n off, .branchI .geu a n off, fun x _ => ¬ x.toNat < n),
      (.bz e t a off, .bz false a off, fun x _ => x = 0), (.bnz e t a off, .bz true a off, fun x _ => x ≠ 0)] →
    s.Clear e t c.2.1 →
    let x := s.thread e t
    (c.2.2 (x.regs.get a) (x.regs.get b) → Answers c.1 s (s.Retires e t id (x.pc + BitVec.ofInt 16 off))) ∧
    (¬ c.2.2 (x.regs.get a) (x.regs.get b) → Answers c.1 s (s.Retires e t id (s.after e t c.2.1)))) ∧
  (∀ (s : State) (e t a : Nat),
    let x := s.thread e t
    (s.Clear e t (.mts 30 a) → Answers (.jmp e t a) s (s.Retires e t id (x.regs.get a))) ∧
    (s.Clear e t (.mts 31 a) → Answers (.call e t a) s
      (s.Retires e t (fun x => { x with regs := { x.regs with link := x.pc + 2 } }) (x.regs.get a))) ∧
    (s.Clear e t (.mts 29 a) → Answers (.ret e t a) s (s.Retires e t id x.regs.link)))

/-- LD, LDB and LDD, and what an aligned load reads from local RAM (spec/03 R74, spec/03 R75, spec/02 R45, spec/02 R54,
spec/02 R55, spec/05 R131, spec/02 R49, spec/11 R281, spec/12 R312). An issued LD, LDB or LDD whose address passes
its segment's checks puts a load in flight for its destination with the bytes read at w(8 + k) + offset, the lowest
first and zero above a byte, and leaves every register as it was until the load completes. One whose address fails
advances the thread's VIOL and delivers zero, unpoisoned. Where the bytes of an aligned access lie in local RAM, no
buffered store of the engine covers them and the word's check bits agree, the load's halves deliver the bytes stored
there, unpoisoned, and the read changes nothing. -/
def Obligations.LoadsDeliverBehindTheNextInstruction : Prop :=
  (∀ (s : State) (e t d k off : Nat) (c : Instr × Size),
    c ∈ [(Instr.ld e t d k off, Size.word), (.ldb e t d k off, .byte), (.ldd e t d k off, .pair)] →
    s.Clear e t (.load c.2 d k off) →
    let l := halves c.2 ((((s.thread e t).regs.get (8 + k)).toNat + off) % 0x10000)
    let u := s.useSlot e t
    (u.accessOk e t k false l = true → u.accessWaits e t k false l = false → (u.loadHalves e t k l).2.2 = u →
      Answers c.1 s (s.Retires e t (fun x => { x with loads := [inFlight (loadDests c.2 d (u.loadHalves e t k l).1)
        (u.loadHalves e t k l).2.1] }) (s.after e t (.load c.2 d k off)))) ∧
    (u.accessOk e t k false l = false →
      Answers c.1 s (s.Retires e t (fun x =>
        { x with viol := satInc 16 x.viol, loads := [inFlight (loadDests c.2 d []) false] })
        (s.after e t (.load c.2 d k off))))) ∧
  (∀ (s : State) (e t k o n : Nat),
    let a := s.segAddr e t k o
    0 < n → a % 4 + n ≤ 4 → a < 0x8000 → (s.engine e).sb = [] → s.integ.bgtSaved = none → s.syn (lramWord e (a / 8)) = 0 →
    s.loadHalves e t k [⟨o, n⟩] = ((List.range n).map fun i => s.byte (8 * lramWord e 0 + a + i), false, s))

/-- ST, STB and STD (spec/03 R75, spec/02 R48, spec/02 R52, spec/02 R54, spec/02 R55). An issued ST, STB or STD whose
address passes its checks and finds room adds one entry per half to the engine's buffer, each for the aligned unit
that holds the half at w(8 + k) + offset, and no byte of memory changes; one whose address fails advances the
thread's VIOL and stores nothing. -/
def Obligations.StoresEnterTheBuffer : Prop :=
  ∀ (s : State) (e t d k off : Nat) (c : Instr × Size),
    c ∈ [(Instr.st e t d k off, Size.word), (.stb e t d k off, .byte), (.std e t d k off, .pair)] →
    s.Clear e t (.store c.2 d k off) →
    let r := (s.thread e t).regs
    let l := halves c.2 (((r.get (8 + k)).toNat + off) % 0x10000)
    let u := s.useSlot e t
    (u.accessOk e t k true l = true → (s.engine e).sb.length + l.length ≤ 8 →
      (∀ h ∈ l, u.slotStall e t k true h = none) →
      Answers c.1 s fun s' =>
        s'.engine e = { s.engine e with
          sb := (s.engine e).sb ++ s.storeEntries e t k (storeData r c.2 d) (storePoison r c.2 d) 0 l,
          slot := (s'.engine e).slot, boostPtr := (s'.engine e).boostPtr, slotAt := (s'.engine e).slotAt, iterWait := (s'.engine e).iterWait } ∧
        (∀ e', e' ≠ e → s'.engine e' = s.engine e') ∧ s.SlotUsed e t s' ∧ (s'.thread e t).regs = r ∧
        (s'.thread e t).pc = s.after e t (.store c.2 d k off) ∧ s.Counted e s' ∧
        (∀ e' t', 32 * e' + t' ≠ 32 * e + t → s'.thread e' t' = s.thread e' t') ∧
        s' = { s with threads := s'.threads, regs := s'.regs, engines := s'.engines } ∧
        s.RegsBut [.engIssuecnt e, .engPaircnt e] s') ∧
    (u.accessOk e t k true l = false →
      Answers c.1 s (s.Retires e t (fun x => { x with viol := satInc 16 x.viol }) (s.after e t (.store c.2 d k off))))

/-- The multiply pipe and the multiply-accumulates start (spec/03 R81, spec/03 R82, spec/02 R41, spec/02 R44, spec/03
R72, spec/03 R86). An issued MUL, MULU, MULQ, SCL, ACLR or ASET puts one operation in flight that will write MR, or
the named accumulator, with the value of its row (MULQ and SCL clamp to 16 bits and will then set SAT), and changes
no register yet and nothing else but the issue counters. An issued MAC or MSC starts an operation that will add the
signed product to accumulator n, or subtract it, from the value that the operations in flight leave there: modulo
2^40 where ASTAT.SATMAC is 0, clamped to 40 signed bits with SAT where it is 1. Nothing else changes but the issue
counters. -/
def Obligations.MultipliesStart : Prop :=
  (∀ (s : State) (e t a b n i : Nat),
    let x := s.thread e t
    let clamp := fun v : Int => max (-32768) (min 32767 v)
    let starts := fun (c : Instr) (o : Op) (l : LongOp) => s.Clear e t o →
      Answers c s (s.Retires e t (fun x => { x with mul := x.mul ++ [l] }) (s.after e t o))
    let p := (x.regs.get a).toInt * (x.regs.get b).toInt
    let q := (p + 0x4000) / 32768
    let r := (x.accAhead n).toInt / 2 ^ i
    starts (.mul e t a b) (.mul .mul a b) ⟨.mr, (BitVec.ofInt 32 p).setWidth 40, 0, false⟩ ∧
    starts (.mulu e t a b) (.mul .mulu a b) ⟨.mr, BitVec.ofNat 40 ((x.regs.get a).toNat * (x.regs.get b).toNat), 0, false⟩ ∧
    starts (.mulq e t a b) (.mul .mulq a b)
      ⟨.mr, (BitVec.ofInt 32 (clamp q)).setWidth 40, if clamp q = q then 0 else 0x0100, false⟩ ∧
    starts (.scl e t n i) (.scl n i)
      ⟨.mr, (BitVec.ofInt 32 (clamp r)).setWidth 40, if clamp r = r then 0 else 0x0100, false⟩ ∧
    starts (.aclr e t n) (.aclr n) ⟨accOf n, 0, 0, false⟩ ∧
    starts (.aset e t n i) (.aset n i) ⟨accOf n, (x.regs.get (2 * i + 1) ++ x.regs.get (2 * i) : BitVec 32).signExtend 40, 0, false⟩) ∧
  (∀ (s : State) (e t n a b : Nat) (c : Instr × Bool), c ∈ [(Instr.mac e t n a b, false), (.msc e t n a b, true)] →
    s.Clear e t (.mac c.2 n a b) →
    let x := s.thread e t
    let p := (x.regs.get a).toInt * (x.regs.get b).toInt
    let v := (x.accAhead n).toInt + (if c.2 then -p else p)
    let lim := max (-(2 ^ 39)) (min (2 ^ 39 - 1) v)
    Answers c.1 s (s.Retires e t
      (fun y => { y with mul := y.mul ++ [if x.regs.astat.getLsbD 0 then
          ⟨accOf n, BitVec.ofInt 40 lim, if lim = v then 0 else 0x0100, true⟩
        else ⟨accOf n, BitVec.ofInt 40 v, 0, true⟩] }) (s.after e t (.mac c.2 n a b))))

/-- DIV, DIVU, SQRT, SINCOS, ATAN2 and MAG start on an iterator; what a division and a square root deliver (spec/03 R82,
spec/03 R83, spec/03 R84, spec/02 R43, spec/03 R71). Where an iterator is free for the thread, an issued DIV, DIVU,
SQRT, SINCOS, ATAN2 or MAG puts one operation in flight that will write IR with the result of its operands, and
changes no register of the thread yet. Where none is, the slot stalls: the thread stays at the instruction and waits
for an iterator, and STALLCNT counts the slot unless a first instruction has issued in it. DIV divides toward zero
with the remainder's sign the dividend's, DIVU divides unsigned; a quotient out of range delivers the nearest end
with remainder 0 and sets ARITH; a divisor of 0 sets DIVZ. The square root is the greatest whose square is not above
the operand. -/
def Obligations.IteratorStartsWithItsResult : Prop :=
  (∀ (s : State) (e t n a b : Nat),
    let r := (s.thread e t).regs
    ∀ c : Instr × Op × BitVec 32 × Word,
      c ∈ [(Instr.div e t n b, Op.div true n b, divResult (r.pair n) (r.get b)),
        (.divu e t n b, .div false n b, divuResult (r.pair n) (r.get b)), (.sqrt e t n, .sqrt n, sqrtResult (r.pair n), 0),
        (.sincos e t a, .cordic .sincos a 0, sincosResult (r.get a), 0),
        (.atan2 e t a b, .cordic .atan2 a b, cordicResult .atan2 (r.get a) (r.get b), 0),
        (.mag e t a b, .cordic .mag a b, cordicResult .mag (r.get a) (r.get b), 0)] →
      s.Clear e t c.2.1 →
      (s.iterGrant e t = true → Answers c.1 s (s.Retires e t
        (fun x => { x with iter := some ⟨.ir, c.2.2.1.setWidth 40, c.2.2.2, false⟩ }) (s.after e t c.2.1))) ∧
      (s.iterGrant e t = false → Answers c.1 s fun s' =>
        s'.thread e t = { s.thread e t with pair := none, midPair := false } ∧ t ∈ (s'.engine e).iterWait ∧
        s'.rd (.engStallcnt e) = s.rd (.engStallcnt e) + (if (s.thread e t).midPair then 0 else 1) ∧
        s.RegsBut [.engStallcnt e] s' ∧ s.SlotUsed e t s' ∧
        s' = { s with threads := s'.threads, regs := s'.regs, engines := s'.engines })) ∧
  ((∀ (d : BitVec 32) (v : Word), v ≠ 0 → -32768 ≤ d.toInt.tdiv v.toInt → d.toInt.tdiv v.toInt ≤ 32767 →
    ((lowHalf (divResult d v).1).toInt * v.toInt + (highHalf (divResult d v).1).toInt = d.toInt ∧
      ((highHalf (divResult d v).1).toInt).natAbs < v.toInt.natAbs ∧
      0 ≤ (highHalf (divResult d v).1).toInt * d.toInt ∧ (divResult d v).2 = 0)) ∧
  (∀ (d : BitVec 32) (v : Word), v ≠ 0 → (d.toInt.tdiv v.toInt < -32768 ∨ 32767 < d.toInt.tdiv v.toInt) →
    highHalf (divResult d v).1 = 0 ∧ (divResult d v).2 = 0x0200 ∧
      lowHalf (divResult d v).1 = (if d.toInt.tdiv v.toInt < 0 then 0x8000 else 0x7FFF)) ∧
  (∀ d : BitVec 32, (divResult d 0).2 = 0x0400 ∧ highHalf (divResult d 0).1 = lowHalf d ∧
    lowHalf (divResult d 0).1 = (if d.toInt < 0 then 0x8000 else 0x7FFF)) ∧
  (∀ (d : BitVec 32) (v : Word), v ≠ 0 → d.toNat / v.toNat < 2 ^ 16 →
    (lowHalf (divuResult d v).1).toNat * v.toNat + (highHalf (divuResult d v).1).toNat = d.toNat ∧
      (highHalf (divuResult d v).1).toNat < v.toNat ∧ (divuResult d v).2 = 0) ∧
  ∀ d : BitVec 32, (lowHalf (sqrtResult d)).toNat ^ 2 ≤ d.toNat ∧ d.toNat < ((lowHalf (sqrtResult d)).toNat + 1) ^ 2 ∧
    highHalf (sqrtResult d) = 0)

/-- Long operations and loads in flight write their results (spec/02 R41, spec/03 R72, spec/03 R83, spec/03 R85, spec/02
R45, spec/02 R46, spec/02 R47). LONG_OP_COMPLETE ends the oldest operation of the thread's multiply pipe, or its
iterator's: its register takes the value and ASTAT its sticky bits. LRD copies a half or all of MR or IR, or an
accumulator's part, with its poison, into its destination. Nothing else of the state changes, but for an issue its
counters. LOAD_COMPLETE of a thread with one load in flight writes its destinations with its poison; while the
instruction behind the load is still to come, the registers wait for it. Nothing else changes. -/
def Obligations.ResultsInFlightComplete : Prop :=
  (∀ (s : State) (e t : Nat), s.Live → e < 9 → t < 32 →
    let x := s.thread e t
    (∀ (o : LongOp) (l : List LongOp), x.mul = o :: l → x.ck = [] → Answers (.longOpComplete e t 0) s fun s' =>
      s' = s.setThread e t { x with mul := l, regs := (s'.thread e t).regs } ∧
      (s'.thread e t).regs.astat = x.regs.astat ||| o.sticky ∧
      (o.reg = .mr → (s'.thread e t).regs = { x.regs with mr := o.val.setWidth 32, mrp := false, astat := x.regs.astat ||| o.sticky }) ∧
      (o.reg = .acc0 → (s'.thread e t).regs = { x.regs with acc0 := o.val, acc0p := false, astat := x.regs.astat ||| o.sticky }) ∧
      (o.reg = .acc1 → (s'.thread e t).regs = { x.regs with acc1 := o.val, acc1p := false, astat := x.regs.astat ||| o.sticky })) ∧
    (∀ o : LongOp, x.iter = some o → o.reg = .ir → x.ck = [] → exec (.longOpComplete e t 1) s = .next (s.setThread e t
      { x with iter := none, regs := { x.regs with ir := o.val.setWidth 32, irp := false, astat := x.regs.astat ||| o.sticky } })) ∧
    (∀ src d, src < 10 → s.Clear e t (.lrd (.half src d)) → Answers (.lrd e t (.half src d)) s
      (s.Retires e t (fun x => x.setReg d (x.regs.lrdHalf src).1 (x.regs.lrdHalf src).2) (s.after e t (.lrd (.half src d))))) ∧
    ∀ src n, s.Clear e t (.lrd (.pair src n)) → Answers (.lrd e t (.pair src n)) s
      (s.Retires e t (fun x => (x.setReg (2 * n) (lowHalf (x.regs.lrdPair src).1) (x.regs.lrdPair src).2).setReg (2 * n + 1)
        (highHalf (x.regs.lrdPair src).1) (x.regs.lrdPair src).2) (s.after e t (.lrd (.pair src n))))) ∧
  (∀ (s : State) (e t : Nat) (l : Load), s.Live → e < 9 → t < 32 → (s.thread e t).loads = [l] → l.complete = false →
    let x := s.thread e t
    (l.fresh = true → exec (.loadComplete e t) s = .next (s.setThread e t { x with loads := [{ l with complete := true }] })) ∧
    (l.fresh = false → exec (.loadComplete e t) s = .next (s.setThread e t
      { x with loads := [], regs := l.dests.foldl (fun r d => r.set d.1 d.2 l.poison) x.regs,
               flipped := x.flipped.filter fun k => !l.dests.any fun d => d.1 == k })))

/-- The repetition prefixes, and the repetitions of an instruction (spec/03 R87, spec/03 R88, spec/03 R90, spec/02 R63).
An issued REP or REPI with a count above 0 makes the instruction behind it the target of a sequence with that count
(REP reads at most 64 from a register); a count of 0 goes on behind the target. Nothing else changes but the issue
counters. A repetition whose target is a register operation other than MOV executes it, lowers the count, and stays
at the target until the last one, which goes on behind it. Every repetition is an issue of its own. -/
def Obligations.RepetitionsRun : Prop :=
  (∀ (s : State) (e t : Nat) (k : RepCount) (c : Instr × Bool), c ∈ [(Instr.rep e t k, false), (.repi e t k, true)] →
    s.Clear e t (.rep c.2 k) →
    let x := s.thread e t
    let n := match k with
      | .imm n => n
      | .reg r => if c.2 then (x.regs.get r).toNat else min 64 (x.regs.get r).toNat
    let next := s.after e t (.rep c.2 k)
    (0 < n → Answers c.1 s (s.Retires e t (fun x => { x with rep := some ⟨c.2, next, n, false⟩ }) next)) ∧
    (n = 0 → Answers c.1 s (s.Retires e t id (next + BitVec.ofNat 16 (s.codeOp e t next).len)))) ∧
  (∀ (s : State) (e t a b : Nat) (o : Alu) (r : Rep),
    let x := s.thread e t
    s.Live → s.canIssue e t = true → x.rep = some r → 0 < r.count → x.cust = none → x.drain = none → x.loads = [] →
    x.cmdQueue = [] → x.haltReq = false → x.stepping = false → x.midPair = false → o ≠ .mov →
    (s.useSlot e t).fetchWords e t [x.pc] = (.ok, s.useSlot e t) → s.codeOp e t x.pc = .alu o a b →
    s.fetchRefused e t x.pc = none → x.hazard (.alu o a b) = false → x.parityError (.alu o a b) = false →
    x.bites (.alu o a b) = false →
    Answers (.repeatIteration e t) s fun s' =>
      (s'.thread e t).regs = ((x.setReg a (aluResult o (x.regs.get a) (x.regs.get b)).1 false).stick
        (aluResult o (x.regs.get a) (x.regs.get b)).2).regs ∧
      (s'.thread e t).rep = (if r.count = 1 then none else some { r with count := r.count - 1, started := true }) ∧
      (s'.thread e t).pc = (if r.count = 1 then x.pc + 1 else x.pc) ∧
      s'.rd (.engIssuecnt e) = s.rd (.engIssuecnt e) + 1 ∧ s.RegsBut [.engIssuecnt e] s' ∧ s.SlotUsed e t s' ∧
      s' = { s with threads := s'.threads, regs := s'.regs, engines := s'.engines })

/-- WAIT delivers masked events at once or waits for them (spec/03 R92, spec/05 R139). An issued WAIT with a mask of 0
writes 0; with a masked event pending it writes the delivered bits and clears them in EVT; with none the thread goes
to WAITING at the WAIT's own address. A waiting thread that a source then gives a masked event goes on behind the
WAIT with the bits delivered. -/
def Obligations.WaitDeliversOrWaits : Prop :=
  ∀ (s : State) (e t d m : Nat), s.Clear e t (.wait d m) →
    let x := s.thread e t
    let mask := x.regs.get m
    (mask = 0 → Answers (.waitEvt e t d m) s (s.Retires e t (fun x => x.setReg d 0 false) (s.after e t (.wait d m)))) ∧
    (x.evt &&& mask ≠ 0 → Answers (.waitEvt e t d m) s (s.Retires e t
      (fun x => { x.setReg d (x.evt &&& mask) false with evt := x.evt &&& ~~~mask }) (s.after e t (.wait d m)))) ∧
    (mask ≠ 0 → x.evt &&& mask = 0 → Answers (.waitEvt e t d m) s fun s' =>
      s.Retires e t (fun x => { x with st := .waiting, waitMask := mask, waitDst := d }) x.pc s' ∧
      ∀ b : Word, b &&& mask ≠ 0 → x.inhdl = false →
        ((s'.setEvt e t b).thread e t).st = .ready ∧ ((s'.setEvt e t b).thread e t).pc = x.pc + 2 ∧
        ((s'.setEvt e t b).thread e t).evt = (x.evt ||| b) &&& ~~~mask ∧
        ((s'.setEvt e t b).thread e t).regs = x.regs.set d ((x.evt ||| b) &&& mask) false)

/-- MFS reads the special registers, MTS writes them, and MTS URET ends a diversion (spec/03 R96, spec/03 R86, spec/05
R138, spec/03 R80, spec/05 R134, spec/14 R368). An issued MFS writes wd with the special register it names: ASTAT,
LINK, the numbers of engine, role and thread, its own address, EVT, URGMASK, UVEC, URET, VIOL, PRIO over PRIV, and 0
in REPCNT outside a sequence and for a reserved number. Nothing else changes but the issue counters. An issued MTS
writes ASTAT (SATMAC taken, sticky bits cleared by ones), LINK, and clears EVT bits; URGMASK and UVEC take it from a
supervisor thread, and the configuration copy of its role with them (whose layout the model leaves open, assumption
log 62), while a user's write is ignored and counted in VIOL. MTS URET of a thread that is not DIVERTED writes URET;
of a DIVERTED one it ends the diversion, continues at the written address, and resumes the saved sequence if that is
URET. A write of a read-only or reserved number changes nothing. -/
def Obligations.SpecialRegistersAreReadAndWritten : Prop :=
  (∀ (s : State) (e t d : Nat),
    let x := s.thread e t
    ∀ c : Nat × Word,
      c ∈ [(0, x.regs.astat), (1, 0), (2, x.regs.link), (3, BitVec.ofNat 16 (e * 4096 + s.roleOf e * 256 + t)), (4, x.pc),
        (5, x.evt), (6, x.urgmask), (7, x.uvec), (8, x.uret), (9, BitVec.ofNat 16 x.viol),
        (10, BitVec.ofNat 16 (x.prio * 256 + x.priv)), (11, 0), (15, 0), (24, 0), (28, 0)] →
      s.Clear e t (.mfs d c.1) →
      Answers (.mfs e t d c.1) s (s.Retires e t (fun x => x.setReg d c.2 false) (s.after e t (.mfs d c.1)))) ∧
  (∀ (s : State) (e t a : Nat),
    let x := s.thread e t
    let v := x.regs.get a
    (∀ c : Nat × (Thread → Thread),
      c ∈ [(0, fun x : Thread => { x with regs := { x.regs with astat := (x.regs.astat &&& ~~~v &&& 0x0700) ||| (v &&& 1) } }),
        (2, fun x => { x with regs := { x.regs with link := v } }), (5, fun x => { x with evt := x.evt &&& ~~~v }),
        (3, id), (4, id), (9, id), (10, id), (16, id), (28, id)] →
      s.Clear e t (.mts c.1 a) →
      Answers (.mts e t c.1 a) s (s.Retires e t c.2 (s.after e t (.mts c.1 a)))) ∧
    (∀ c : Nat × (Thread → Thread), c ∈ [(6, fun x : Thread => { x with urgmask := v }), (7, fun x => { x with uvec := v })] →
      s.Clear e t (.mts c.1 a) →
      (x.priv = 0 → Answers (.mts e t c.1 a) s
        (s.Retires e t (fun x => { x with viol := satInc 16 x.viol }) (s.after e t (.mts c.1 a)))) ∧
      (x.priv ≠ 0 → Answers (.mts e t c.1 a) s fun s' => ∃ u, s.Retires e t c.2 (s.after e t (.mts c.1 a)) u ∧
        s' = { u with mem := (s.copyThrough e).mem, chk := (s.copyThrough e).chk })) ∧
    (s.Clear e t (.mts 8 a) →
      (x.st ≠ .diverted → Answers (.mtsUret e t a) s (s.Retires e t (fun x => { x with uret := v }) (s.after e t (.mts 8 a)))) ∧
      (x.st = .diverted → Answers (.mtsUret e t a) s (s.Retires e t
        (fun x => { x with st := .ready, inhdl := false, savedRep := none, rep := if v = x.uret then x.savedRep else none }) v))))

/-- FENCE, UNLOCK and SLOTSWAP wait for the store buffer (spec/02 R28, spec/02 R29, spec/02 R51, spec/13 R346, spec/05
R134). An issued FENCE, UNLOCK or a supervisor's SLOTSWAP on a buffer with entries waits for just those; on an empty
buffer FENCE only goes on, UNLOCK releases the lock in its register and delivers the code as a load does, and
SLOTSWAP makes a swap of the slot maps pending. A user's SLOTSWAP only advances VIOL. -/
def Obligations.DrainingInstructions : Prop :=
  ∀ (s : State) (e t d k : Nat),
    let x := s.thread e t
    let n := (s.engine e).sb.length
    (∀ c : Instr × Op × DrainThen,
      c ∈ [(Instr.fence e t, Op.fence, DrainThen.fence), (.slotswap e t, .slotswap, .swap),
        (.unlock e t d k, .unlock d k, .unlock d ((x.regs.get k).toNat % 256))] →
      s.Clear e t c.2.1 → 0 < n → (c.2.2 = .swap → x.priv ≠ 0) →
      Answers c.1 s (s.Retires e t (fun x => { x with drain := some ⟨n, c.2.2⟩ }) (s.after e t c.2.1))) ∧
    (s.Clear e t .fence → n = 0 → Answers (.fence e t) s (s.Retires e t id (s.after e t .fence))) ∧
    (s.Clear e t .slotswap → n = 0 → x.priv ≠ 0 → Answers (.slotswap e t) s fun s' =>
      s'.fld (.engCtrl e) F.engCtrl.swap = 1 ∧ (s'.thread e t).regs = x.regs ∧ (s'.thread e t).pc = x.pc + 1 ∧ s.SlotUsed e t s' ∧
      s.RegsBut [.engCtrl e, .engIssuecnt e, .engPaircnt e] s' ∧
      s' = { s with threads := s'.threads, regs := s'.regs, engines := s'.engines }) ∧
    (s.Clear e t .slotswap → x.priv = 0 → Answers (.slotswap e t) s
      (s.Retires e t (fun x => { x with viol := satInc 16 x.viol }) (s.after e t .slotswap))) ∧
    (s.Clear e t (.unlock d k) → n = 0 → (s.lock ((x.regs.get k).toNat % 256)).holder = some (s.roleIndex e t) →
      (s.lock ((x.regs.get k).toNat % 256)).queue = [] → Answers (.unlock e t d k) s fun s' =>
        s'.lock ((x.regs.get k).toNat % 256) = { s.lock ((x.regs.get k).toNat % 256) with holder := none, told := true } ∧
        (s'.thread e t).loads = [inFlight [(d, 1)] false] ∧ (s'.thread e t).regs = x.regs ∧ (s'.thread e t).pc = x.pc + 2 ∧
        s.RegsBut [.engIssuecnt e, .engPaircnt e] s' ∧
        s' = { s with threads := s'.threads, regs := s'.regs, engines := s'.engines, locks := s'.locks })

/-- LOCK answers a code as a load does (spec/13 R340, spec/13 R341, spec/13 R342, spec/13 R343, spec/03 R93). An issued
LOCK of a lock that no one holds takes it and delivers 1, or 2 after an abandonment, which is then over; of one that
another holds joins the queue and delivers 3; without the rights of the lock's group it delivers 0 and advances
VIOL. -/
def Obligations.LocksAreGranted : Prop :=
  ∀ (s : State) (e t d k : Nat), s.Clear e t (.lock d k) →
    let x := s.thread e t
    let n := (x.regs.get k).toNat % 256
    let i := s.roleIndex e t
    let done := fun (code : Nat) (s' : State) =>
      (s'.thread e t).loads = [inFlight [(d, BitVec.ofNat 16 code)] false] ∧ (s'.thread e t).regs = x.regs ∧
      (s'.thread e t).pc = x.pc + 2 ∧ s.RegsBut [.engIssuecnt e, .engPaircnt e] s' ∧
      s' = { s with threads := s'.threads, regs := s'.regs, engines := s'.engines, locks := s'.locks }
    (∀ j, ¬ i ∈ (s.lock j).queue) →
    (s.lockRights (.thread e t) n = true → (s.lock n).holder = none → Answers (.lock e t d k) s fun s' =>
      done (if (s.lock n).abandoned then 2 else 1) s' ∧
      s'.lock n = { s.lock n with holder := some i, abandoned := false, told := true } ∧ ∀ j, j ≠ n → s'.lock j = s.lock j) ∧
    (s.lockRights (.thread e t) n = true → (∃ h, h ≠ i ∧ (s.lock n).holder = some h) → Answers (.lock e t d k) s fun s' =>
      done 3 s' ∧ s'.lock n = { s.lock n with queue := (s.lock n).queue ++ [i] } ∧ ∀ j, j ≠ n → s'.lock j = s.lock j) ∧
    (s.lockRights (.thread e t) n = false → Answers (.lock e t d k) s
      (s.Retires e t (fun x => { x with viol := satInc 16 x.viol, loads := [inFlight [(d, 0)] false] }) (s.after e t (.lock d k))))

/-- LOG places a record in the outlet (spec/03 R94, spec/19 R494, spec/19 R499, spec/19 R502). An issued LOG of an
enabled outlet with a free place appends one record of kind 2 with the code, the payload and their poison bits, the
role and the thread, at the time of the tick; a disabled outlet takes none. Nothing else changes but the issue
counters. -/
def Obligations.LogsReachTheOutlet : Prop :=
  ∀ (s : State) (e t c n : Nat), s.Clear e t (.log c n) →
    let x := s.thread e t
    (s.bit .outCtrl F.outCtrl.en = true → s.bit .outCtrl F.outCtrl.logen = true → s.bit .outStat F.outStat.ringerr = false →
      s.outlet.logs.length < 32 → Answers (.logRec e t c n) s fun s' =>
        (∃ r : Record, s'.outlet = { s.outlet with logs := s.outlet.logs ++ [r] } ∧ r.word0 = s.tickTime ∧
          r.word1.extractLsb' 60 4 = 2 ∧ r.word1.extractLsb' 32 16 = x.regs.get c ∧
          r.word1.extractLsb' 16 16 = x.regs.get (2 * n + 1) ∧ r.word1.extractLsb' 0 16 = x.regs.get (2 * n) ∧
          r.word1.getLsbD 59 = x.regs.poison c ∧ r.word1.getLsbD 58 = x.regs.poison (2 * n + 1) ∧
          r.word1.getLsbD 57 = x.regs.poison (2 * n)) ∧
        (s'.thread e t).regs = x.regs ∧ (s'.thread e t).pc = x.pc + 2 ∧ s.RegsBut [.engIssuecnt e, .engPaircnt e] s' ∧
        s' = { s with threads := s'.threads, regs := s'.regs, engines := s'.engines, outlet := s'.outlet }) ∧
    ((s.bit .outCtrl F.outCtrl.en = false ∨ s.bit .outCtrl F.outCtrl.logen = false) →
      Answers (.logRec e t c n) s (s.Retires e t id (s.after e t (.log c n))))

/-- PARK, reserved encodings, an empty custom opcode and CHECKPOINT outside a continuity domain (spec/02 R40, spec/04
R110, spec/04 R114, spec/05 R125, spec/03 R95). An issued PARK sends its thread to PARKED with cause 1, or 2 where
the word at its address is 0, with its address in ENG_TPARK, and PARKCNT counts it. A reserved encoding of one or
two words, and a custom opcode whose entry is empty, execute as no operation and advance VIOL. CHECKPOINT of a
thread of no domain goes on. -/
def Obligations.ParkAndReservedEncodings : Prop :=
  ∀ (s : State) (e t n a b c len : Nat),
    let x := s.thread e t
    (s.Clear e t .park → Answers (.park e t) s fun s' =>
      (s'.thread e t).st = .parked ∧ (s'.thread e t).parkCause = (if s.codeWord e t x.pc = 0 then 2 else 1) ∧
      (s'.thread e t).parkPc = x.pc ∧ (s'.thread e t).pc = x.pc + 1 ∧ (s'.thread e t).regs = x.regs ∧
      (s'.thread e t).inhdl = false ∧
      s'.fld (.engParkcnt e) F.engParkcnt.count = satInc F.engParkcnt.count.width (s.fld (.engParkcnt e) F.engParkcnt.count) ∧
      s.RegsBut [.engIssuecnt e, .engPaircnt e, .engParkcnt e] s' ∧
      s' = { s with threads := s'.threads, regs := s'.regs, engines := s'.engines }) ∧
    (s.Clear e t (.reserved len) → Answers (.reservedEncoding e t len) s
      (s.Retires e t (fun x => { x with viol := satInc 16 x.viol }) (x.pc + BitVec.ofNat 16 len))) ∧
    (s.Clear e t (.reserved 2) → s.custLen e n = 0 → (Op.cust n a b c).wf = true → Answers (.cust e t n a b c) s
      (s.Retires e t (fun x => { x with viol := satInc 16 x.viol }) (x.pc + 2))) ∧
    (s.Clear e t .checkpoint → s.threadDomain (s.roleOf e) t = none →
      Answers (.checkpoint e t) s (s.Retires e t id (x.pc + 1)))

/-- A custom instruction runs one micro-op in each slot (spec/04 R113, spec/04 R115, spec/04 R116, spec/04 R118). CUST
begins with micro-op 0 of its entry and stays at its first word until the last; CUSTOM_MICRO_OP executes the next.
Where the micro-op adds two registers, its destination takes their sum in that slot, and the thread goes on behind
both words once the entry's length is reached. -/
def Obligations.CustomInstructions : Prop :=
  ∀ (s : State) (e t n a b c k p q : Nat),
    let x := s.thread e t
    let op := Op.alu .add p q
    s.Live → s.canIssue e t = true → x.rep = none → x.drain = none → x.loads = [] → x.cmdQueue = [] → x.haltReq = false →
    x.stepping = false → k < s.custLen e n → s.micro e ⟨n, a, b, c, k⟩ = .op op → x.hazard op = false →
    x.parityError op = false → x.bites op = false →
    let after := fun (s' : State) =>
      (s'.thread e t).regs = (x.setReg p (x.regs.get p + x.regs.get q) false).regs ∧
      (s'.thread e t).cust = (if k + 1 < s.custLen e n then some ⟨n, a, b, c, k + 1⟩ else none) ∧
      (s'.thread e t).pc = (if k + 1 < s.custLen e n then x.pc else x.pc + 2) ∧
      s'.rd (.engIssuecnt e) = s.rd (.engIssuecnt e) + 1 ∧ s.RegsBut [.engIssuecnt e] s' ∧ s.SlotUsed e t s' ∧
      s' = { s with threads := s'.threads, regs := s'.regs, engines := s'.engines }
    (k = 0 → x.cust = none → (Op.cust n a b c).wf = true →
      (s.useSlot e t).fetchInstr e t (.reserved 2) x.pc (s.wordsOf e t (.reserved 2) x.pc) = (.ok, s.useSlot e t) →
      Answers (.cust e t n a b c) s after) ∧
    (x.cust = some ⟨n, a, b, c, k⟩ → Answers (.customMicroOp e t) s after)

/-- CHECKPOINT records the context of a continuity domain's thread (spec/03 R95, spec/14 R370). An issued CHECKPOINT of
a thread of a CONTINUITY domain whose newest record is usable, or that has none, puts a record of its registers, its
EVT and the address of the next instruction in front, not usable while stores of the thread or long operations are
under way, the other one of the thread's two; a checkpoint while the newest is not usable is skipped and counted. -/
def Obligations.CheckpointRecordsTheContext : Prop :=
  ∀ (s : State) (e t d : Nat), s.Clear e t .checkpoint → s.threadDomain (s.roleOf e) t = some d → s.roleOf e < 8 →
    s.bit (.engDctl d) F.engDctl.policy = true →
    let x := s.thread e t
    ((∀ c l, x.ck = c :: l → c.usable = true) → x.mul = [] → x.iter = none → Answers (.checkpoint e t) s fun s' =>
      (∃ c : CkRecord, (s'.thread e t).ck = c :: x.ck.take 1 ∧ c.usable = false ∧ c.regs = x.regs ∧ c.pc = x.pc + 1 ∧
        c.evt = x.evt ∧ c.st = x.st ∧ c.stores = ((s.engine e).sb.filter fun y => y.thr == t).length ∧ c.muls = 0 ∧ c.iters = 0 ∧
        ∀ y ∈ x.ck.head?, c.slot = 1 - y.slot) ∧
      (s'.thread e t).regs = x.regs ∧ (s'.thread e t).pc = x.pc + 1 ∧ s.RegsBut [.engIssuecnt e, .engPaircnt e] s' ∧
      s' = { s with threads := s'.threads, regs := s'.regs, engines := s'.engines }) ∧
    (∀ c l, x.ck = c :: l → c.usable = false → Answers (.checkpoint e t) s fun s' =>
      (s'.thread e t).ck = x.ck ∧ (s'.thread e t).regs = x.regs ∧ (s'.thread e t).pc = x.pc + 1 ∧
      s'.fld (.engCkstat (s.roleOf e)) F.engCkstat.ckskip =
        satInc F.engCkstat.ckskip.width (s.fld (.engCkstat (s.roleOf e)) F.engCkstat.ckskip))

/-- Rotations, starts, stops, diversions and poison faults of an engine (spec/02 R24, spec/02 R28, spec/02 R31, spec/02
R37, spec/02 R512, spec/05 R125, spec/05 R137, spec/05 R142, spec/05 R143). ROTATION_BOUNDARY, with no slot left
that a thread uses, advances ROTCNT, exchanges the maps where a swap is pending, begins the rotation at slot 0 and
samples the boosted threads; while a slot is left it changes nothing. The end of an invalidation clears ICINV. A
start that ends releases the threads that a stop quiesced; a stop ends at OFF. A permitted urgent diversion goes to
UVEC and saves the address and the sequence. A poisoned store that drained faults its thread (of no domain) at its
boundary with cause 1 and records code 5, and a command that waited applies. -/
def Obligations.EnginesAtTheirBoundaries : Prop :=
  ∀ (s : State) (e t : Nat), s.Live → e < 9 → t < 32 →
    let x := s.thread e t
    (s.fld (.engStat e) F.engStat.state = 2 ∨ s.fld (.engStat e) F.engStat.state = 3 → s.asleep = false →
      s.resting e = false → s.turn e = none → Answers (.rotationBoundary e) s fun s' =>
        s'.fld (.engRotcnt e) F.engRotcnt.rot = (s.fld (.engRotcnt e) F.engRotcnt.rot + 1) % 2 ^ 32 ∧
        s'.fld (.engCtrl e) F.engCtrl.swap = 0 ∧
        s'.fld (.engStat e) F.engStat.activeMap =
          (if s.fld (.engCtrl e) F.engCtrl.swap = 1 then 1 - s.fld (.engStat e) F.engStat.activeMap
           else s.fld (.engStat e) F.engStat.activeMap) ∧
        s'.fld (.engStat e) F.engStat.state = s.fld (.engStat e) F.engStat.state ∧
        s'.engine e = { s.engine e with slot := 0, boostPtr := (s.nextSlot e).2.1, boosted := s'.inheriting e } ∧
        (∀ e', e' ≠ e → s'.engine e' = s.engine e') ∧ s.RegsBut [.engRotcnt e, .engCtrl e, .engStat e] s' ∧
        s' = { s with regs := s'.regs, engines := s'.engines }) ∧
    (s.turn e ≠ none → exec (.rotationBoundary e) s = .next s) ∧
    (s.fld (.engCtrl e) F.engCtrl.icinv = 1 → Answers (.icacheInvalidateDone e) s fun s' =>
      s'.fld (.engCtrl e) F.engCtrl.icinv = 0 ∧ s'.fld (.engCtrl e) F.engCtrl.swap = s.fld (.engCtrl e) F.engCtrl.swap ∧
      s'.fld (.engCtrl e) F.engCtrl.en = s.fld (.engCtrl e) F.engCtrl.en ∧ s.OnlyRegs [.engCtrl e] s') ∧
    (s.fld (.engStat e) F.engStat.state = 1 → s.fld (.engStat e) F.engStat.pend = 0 → s.cont.takeover = none →
      s.asleep = false → s.power.waking = false → Answers (.engineStartDone e) s fun s' =>
        s'.fld (.engStat e) F.engStat.state = 2 ∧ s'.fld (.engStat e) F.engStat.pend = 0 ∧
        s'.fld (.engCtrl e) F.engCtrl.en = s.fld (.engCtrl e) F.engCtrl.en ∧
        (∀ u, u < 32 → s'.thread e u = if (s.thread e u).st = .quiesced ∧ (s.thread e u).byStop = true
          then (s.thread e u).release else s.thread e u) ∧
        (∀ e' u, u < 32 → e' ≠ e → s'.thread e' u = s.thread e' u) ∧
        s.RegsBut [.engStat e, .engCtrl e] s' ∧ s' = { s with regs := s'.regs, threads := s'.threads }) ∧
    (s.fld (.engStat e) F.engStat.state = 3 → s.fld (.engStat e) F.engStat.pend = 0 → s.engineQuiet e = true →
      Answers (.engineStopDone e) s fun s' =>
        s'.fld (.engStat e) F.engStat.state = 0 ∧ s'.fld (.engStat e) F.engStat.pend = 0 ∧
        s'.fld (.engCtrl e) F.engCtrl.en = s.fld (.engCtrl e) F.engCtrl.en ∧ s.OnlyRegs [.engStat e, .engCtrl e] s') ∧
    (s.fld (.engStat e) F.engStat.state = 2 → x.canDivert = true → (∀ l ∈ x.loads, l.complete = true) →
      Answers (.urgentDiversion e t) s fun s' =>
        s'.thread e t = { x with st := .diverted, inhdl := true, uret := x.pc, pc := x.uvec, savedRep := x.rep, rep := none,
                                 pair := none } ∧
        (∀ e' u, 32 * e' + u ≠ 32 * e + t → s'.thread e' u = s.thread e' u) ∧ s' = { s with threads := s'.threads }) ∧
    (x.bite = true → x.atBoundary = true → x.issues = true → s.threadDomain (s.roleOf e) t = none →
      Answers (.poisonedStoreFault e t) s fun s' =>
        s' = (s.threadFault e t 1 5).boundary e t ∧ (x.cmdQueue = [1] → (s'.thread e t).st = .parked) ∧
        (x.cmdQueue = [] → (s'.thread e t).st = .faulted ∧ (s'.thread e t).fcause = 1 ∧ (s'.thread e t).bite = false ∧
        (s'.thread e t).regs = x.regs ∧ (s'.thread e t).pc = x.pc ∧
        s'.fld .engFcnt F.engFcnt.faults = (s.fld .engFcnt F.engFcnt.faults + 1) % 2 ^ F.engFcnt.faults.width ∧
        (s.fld .engFcnt F.engFcnt.faults % 16, FaultRec.mk 5 (s.roleOf e) e t 0 false 0 0 s.time) ∈ s'.cont.faults))

/-- Writes of ENG_CTRL, ENG_TSTATE, ENG_TEVT and the decode table (spec/02 R28, spec/02 R37, spec/02 R512, spec/05 R125,
spec/05 R126, spec/05 R129, spec/05 R135, spec/05 R144, spec/04 R122). A write of ENG_CTRL by a secure writer starts
an engine that is OFF, asks for a swap and invalidates its cache; a command in ENG_TSTATE parks, resumes, quiesces,
releases, clears VIOL or declares a fault of a thread at its boundary; a thread that is resumed or released while
its engine quiesces is quiesced again; a poke sets EVT bits and URGMASK; a decode table register takes a micro-op
while every thread is parked or quiesced, and refuses and counts a change else. What the configuration copy holds
reaches it too (the model leaves the copy's layout open, assumption log 62). -/
def Obligations.CommandsOfEnginesAndThreads : Prop :=
  ∀ (s : State) (w : Who) (d : BitVec 32) (e t : Nat), s.Writer w → e < 9 → t < 32 →
    let x := s.thread e t
    let held := fun y : Thread => if s.quiescing e ∧ (y.issues ∨ y.st = .waiting) ∧ y.atBoundary
      then { y with st := .quiesced, prior := y.st, byStop := true, pair := none } else y
    (∀ c ∈ ([.engEnWrite w e d whole, .swap w e d whole, .icinv w e d whole] : List Instr),
      s.asleep = false → (s.fld (.engStat e) F.engStat.state = 0 ∨
        s.fld (.engStat e) F.engStat.state = 2 ∧ F.engCtrl.en.get d = 1) → Answers c s fun s' =>
        s'.fld (.engCtrl e) F.engCtrl.en = F.engCtrl.en.get d ∧
        s'.fld (.engStat e) F.engStat.state =
          (if s.fld (.engStat e) F.engStat.state = 0 then F.engCtrl.en.get d else 2) ∧
        s'.fld (.engCtrl e) F.engCtrl.swap =
          (if F.engCtrl.swap.get d = 1 then 1 else s.fld (.engCtrl e) F.engCtrl.swap) ∧
        (F.engCtrl.icinv.get d = 1 → s'.fld (.engCtrl e) F.engCtrl.icinv = 1 ∧ (s'.engine e).icache = [] ∧
          ∀ u, u < 32 → (s'.thread e u).lineBuf = none) ∧
        (F.engCtrl.icinv.get d = 0 → s'.threads = s.threads ∧ s'.engines = s.engines) ∧
        s.RegsBut [.engCtrl e, .engStat e] s' ∧
        s' = { s with regs := s'.regs, threads := s'.threads, engines := s'.engines }) ∧
    (x.atBoundary = true → x.cmdQueue = [] → F.engTstate.prio.get d = x.prio → F.engTstate.priv.get d = x.priv →
      (F.engTstate.cmd.get d = 1 → x.st ≠ .parked → Answers (.threadCmdPark w e t d whole) s fun s' =>
        s'.thread e t = { x with st := .parked, inhdl := false, rep := none, savedRep := none, byStop := false, pair := none,
                                 parkCause := 6, parkPc := x.pc } ∧
        s'.fld (.engParkcnt e) F.engParkcnt.count = satInc F.engParkcnt.count.width (s.fld (.engParkcnt e) F.engParkcnt.count) ∧
        s.RegsBut [.engParkcnt e] s' ∧ s' = { s with regs := s'.regs, threads := s'.threads }) ∧
      (∀ c : Instr × Nat × Bool × Thread,
        c ∈ [(.threadCmdResume w e t d whole, 2, decide (x.st = .parked), held { x with st := .ready, fcause := 0 }),
          (.threadCmdQuiesce w e t d whole, 3, x.issues || decide (x.st = .waiting), { x with st := .quiesced, prior := x.st, byStop := false, pair := none }),
          (.threadCmdRelease w e t d whole, 4, decide (x.st = .quiesced), held x.release),
          (.threadCmdClrviol w e t d whole, 5, true, { x with viol := 0 })] →
        F.engTstate.cmd.get d = c.2.1 → c.2.2.1 = true → Answers c.1 s fun s' =>
          s'.thread e t = c.2.2.2 ∧ (∀ e' u, 32 * e' + u ≠ 32 * e + t → s'.thread e' u = s.thread e' u) ∧
          s' = { s with threads := s'.threads }) ∧
      (F.engTstate.cmd.get d = 6 → x.issues = true → s.threadDomain (s.roleOf e) t = none →
        Answers (.threadCmdDeclare w e t d whole) s fun s' =>
          (s'.thread e t).st = .faulted ∧ (s'.thread e t).fcause = 5 ∧ (s'.thread e t).regs = x.regs ∧ (s'.thread e t).pc = x.pc ∧
          s'.fld .engFcnt F.engFcnt.faults = (s.fld .engFcnt F.engFcnt.faults + 1) % 2 ^ F.engFcnt.faults.width)) ∧
    (Answers (.poke w e t d whole) s fun s' =>
      s'.thread e t = Thread.waitTest { x with evt := x.evt ||| d.setWidth 16, urgmask := d.extractLsb' 16 16 } ∧
      (∀ e' u, 32 * e' + u ≠ 32 * e + t → s'.thread e' u = s.thread e' u) ∧
      s' = { s with threads := s'.threads, mem := (s.copyThrough e).mem, chk := (s.copyThrough e).chk }) ∧
    ∀ n k, n < 16 → k < 8 →
      (s.tableIdle e = true → Answers (.decodeTableWrite w e (0xC00 + 32 * n + 4 * k) d whole) s fun s' =>
        (s'.rd (.engUop e n k)).extractLsb' 0 24 = d.extractLsb' 0 24 ∧ s.RegsBut [.engUop e n k] s' ∧
        s' = { s with regs := s'.regs, mem := (s.copyThrough e).mem, chk := (s.copyThrough e).chk }) ∧
      (s.tableIdle e = false → (s.rd (.engUop e n k)).extractLsb' 0 24 ≠ d.extractLsb' 0 24 →
        Answers (.decodeTableWrite w e (0xC00 + 32 * n + 4 * k) d whole) s fun s' =>
          s' = s.violate w 3 (Reg.engUop e n k).key true)

/-- The oldest store reaches its memory or its unit; a far line is delivered (spec/02 R37, spec/02 R38, spec/02 R48,
spec/02 R50, spec/02 R53, spec/05 R134, spec/05 R143, spec/06 R186, spec/12 R317). STORE_DRAIN takes the oldest
entry of the buffer: to local RAM, the Pool or the Tarn it stores its four bytes and no others, or the poison code,
in the mirror of a mirrored local word too, and LRCOL counts a store that the open RAM cycle makes meet one of the
service port (assumption log 119); to control space it is the write of that register by its thread; to the schedule
window it only advances VIOL. FAR_FETCH_LINE_DELIVERED puts the Pool's word into the cache and the thread's line
buffer; a stale miss ends without a line. -/
def Obligations.StoresDrainAndFarLinesArrive : Prop :=
  ∀ (s : State) (e : Nat), s.Live → e < 9 →
    (∀ (x : StoreEntry) (l : List StoreEntry), (s.engine e).sb = x :: l → s.asleep = false →
      (∀ u, u < 32 → (s.thread e u).drain = none) →
      let a := 4 * x.unit
      (∀ k : Nat, (region a = .lram ∧ k = lramWord e (x.unit / 2) ∧ s.mirrorAddr e (x.unit / 2) = none ∨
          region a = .pool ∧ s.slotPhys (poolSlot a) (slotWord a) = some k ∧
            s.fld (.memBstat (poolSlot a)) F.memBstat.state = 2 ∧ s.bit (.memBstat (poolSlot a)) F.memBstat.handover = false ∨
          region a = .tarn ∧ s.tarnShut = false ∧ k = tarnWord ((a - 0x600000) / 8)) →
        s.integ.bgtSaved = none → x.mask = 0xF → (s.decodeWord k).1 = .clean →
        let near := (s.engine e).lramNear false (x.unit / 2) s.ticks
        Answers (.storeDrain e) s fun s' =>
          (x.poison = false → (∀ i, i < 4 → s'.byte (8 * k + 4 * (x.unit % 2) + i) = x.data.extractLsb' (8 * i) 8) ∧
            (∀ b, b < 8 * k + 4 * (x.unit % 2) ∨ 8 * k + 4 * (x.unit % 2) + 4 ≤ b → s'.byte b = s.byte b) ∧ s'.chk = s.chk) ∧
          (x.poison = true → s'.syn k = poisonSyn k ∧ (∀ i, i < 8 → s'.byte (8 * k + i) = 0) ∧
            (∀ b, b < 8 * k ∨ 8 * k + 8 ≤ b → s'.byte b = s.byte b) ∧ ∀ j, j ≠ k → s'.syn j = s.syn j) ∧
          s'.engine e = { s.engine e with sb := l, lramLast := (s'.engine e).lramLast, lramTies := (s'.engine e).lramTies } ∧
          (∀ u, (s'.thread e u).regs = (s.thread e u).regs) ∧ s.RegsBut [.memLrcol e] s' ∧
          s'.fld (.memLrcol e) F.memLrcol.count =
            (if region a = .lram ∧ near = true ∧ Config.ramTie e (s.engine e).lramTies = true
             then satInc F.memLrcol.count.width (s.fld (.memLrcol e) F.memLrcol.count) else s.fld (.memLrcol e) F.memLrcol.count) ∧
          s' = { s with mem := s'.mem, chk := s'.chk, engines := s'.engines, threads := s'.threads, regs := s'.regs }) ∧
      (∀ a' k', region a = .lram → s.mirrorAddr e (x.unit / 2) = some a' → s.mirrorWaits e (x.unit / 2) = false →
        s.slotPhys (poolSlot a') (slotWord a') = some k' → s.integ.bgtSaved = none → x.mask = 0xF → x.poison = false →
        (s.decodeWord (lramWord e (x.unit / 2))).1 = .clean → (s.decodeWord k').1 = .clean →
        Answers (.storeDrain e) s fun s' => ∀ i, i < 4 →
          s'.byte (8 * lramWord e (x.unit / 2) + 4 * (x.unit % 2) + i) = x.data.extractLsb' (8 * i) 8 ∧
          s'.byte (8 * k' + 4 * (x.unit % 2) + i) = x.data.extractLsb' (8 * i) 8) ∧
      (region a = .control → x.poison = false → Answers (.storeDrain e) s fun s' =>
        s' = ((s.popEntry e x).writeBus ⟨.thread e x.thr, a, x.data, x.mask⟩).afterDrain e x) ∧
      (region a = .sched → x.poison = false → x.thr < 32 → Answers (.storeDrain e) s fun s' =>
        (s'.thread e x.thr).viol = satInc 16 (s.thread e x.thr).viol ∧ (s'.thread e x.thr).regs = (s.thread e x.thr).regs ∧
        s'.engine e = { s.engine e with sb := l } ∧ s' = { s with engines := s'.engines, threads := s'.threads })) ∧
    ∀ t la : Nat, t < 32 → (s.thread e t).miss = some la →
      ((s.thread e t).missStale = true → Answers (.farFetchLineDelivered e t) s fun s' =>
        s'.thread e t = { s.thread e t with miss := none, missStale := false } ∧ s' = { s with threads := s'.threads }) ∧
      ∀ k : Nat, (s.thread e t).missStale = false → inPool (s.farAddr e la) = true →
        s.slotPhys (poolSlot (s.farAddr e la)) (slotWord (s.farAddr e la)) = some k →
        s.fld (.memBstat (poolSlot (s.farAddr e la))) F.memBstat.state = 2 → s.integ.bgtSaved = none →
        (s.decodeWord k).1 = .clean → Answers (.farFetchLineDelivered e t) s fun s' =>
          s'.thread e t = { s.thread e t with miss := none, missStale := false, lineBuf := some ⟨la, s.word k, 0⟩ } ∧
          ((SMap.get (s'.engine e).icache (la % 256) []).find? fun y => y.line == la) = some ⟨la, s.word k, 0⟩ ∧
          (∀ j, j ≠ la % 256 → SMap.get (s'.engine e).icache j [] = SMap.get (s.engine e).icache j []) ∧
          s' = { s with threads := s'.threads, engines := s'.engines }

/-- Reset is released, the multiplier locks, and the records of an image take effect (spec/15 R393, spec/15 R394,
spec/15 R402, spec/15 R403, spec/15 R404, spec/15 R405, spec/15 R407, spec/15 R410, spec/12 R321, spec/12 R339).
RESET_RELEASE with sound memories begins step 1; MULTIPLIER_LOCK starts shore time on the boot ratio and, with no
bank in retention, goes past step 2. A record whose checks pass takes effect: lines and words are stored where their
record says and nowhere else, tables, maps and threads get their contents, the ratio is kept, and pairs act as
writes of a secure master. A record whose CRC fails records cause 10 for its slot and stores nothing (statement
about the first record of slot A). -/
def Obligations.BootStartsAndReadsRecords : Prop :=
  ∀ (s : State) (env : BootEnv) (chk : RecChk),
    (s.test = none → s.inReset = true → (∀ m, env.fails m = false) → Answers (.resetRelease env) s fun t =>
        t.inReset = false ∧ t.boot.env = some env ∧ t.security.lcs = env.lcs ∧
        t.fld .wellStat F.wellStat.step = (if env.tref then 1 else 15) ∧
        (env.tref = false → t.fld .wellStat F.wellStat.haltc = 4) ∧ t.rd .memStest0 = 0 ∧
        t.fld .memStest1 F.memStest1.done = 1 ∧ t.mem = s.mem ∧ t.chk = s.chk ∧ t.threads = s.threads) ∧
    (s.Live → s.boot.env = some env → env.tref = true → s.fld .laneShstat F.laneShstat.lock = 0 →
      s.fld .laneShstat F.laneShstat.holdover = 0 → s.bootStep = 1 → s.asleep = false → Answers .multiplierLock s fun t =>
        t.shoreRuns = true ∧ t.time = s.time ∧ t.fld .laneShstat F.laneShstat.lock = 1 ∧
        t.fld .laneShctrl F.laneShctrl.muli = env.mboot ∧ t.fld .laneShctrl F.laneShctrl.mulf = 0 ∧
        (s.ports.retReq ≠ 0 → t.bootStep = 1 ∧ s.RegsBut [.laneShctrl, .laneShstat] t) ∧
        (s.ports.retReq = 0 → s.ports.retAck = 0 → t.fld .wellStat F.wellStat.lcs = lcsCode s.security.lcs ∧
          t.bootStep ∈ ([5, 6, 14, 15] : List Nat) ∧ (lcsCode s.security.lcs = 4 → t.bootStep = 15))) ∧
    (s.Live → s.boot.env = some env → s.bootStep = 5 → s.boot.count = 0 → s.boot.count < (s.slotImg env).nrec →
      chk.crcOk = false → ∀ d, Answers (.lramRecord chk 0 0 d) s fun t =>
        t.fld .wellCausea F.wellCausea.code = 10 ∧ t.fld .wellCausea F.wellCausea.offset = chk.off % 2 ^ 24 ∧
        t.mem = s.mem ∧ t.chk = s.chk ∧ t.bootStep ∈ ([6, 14, 15] : List Nat)) ∧
    (s.Reads env chk →
      (∀ muli mulf, 4 ≤ muli → muli ≤ 32 → mulf < 0x10000 → Answers (.shoreRecord chk muli mulf) s fun t =>
        s.Accepts chk t ∧ t.regs = s.regs ∧ t.mem = s.mem ∧ t.threads = s.threads ∧ t.boot.muli = muli ∧
        t.boot.mulf = mulf ∧ t.boot.shores = s.boot.shores + 1) ∧
      (∀ pairs, pairs.all pairOk = true → Answers (.regRecord chk pairs) s fun t =>
        t.boot.count = (pairs.foldl (fun s x => s.writePair x) s).boot.count + 1 ∧
        t = { pairs.foldl (fun s x => s.writePair x) s with boot := t.boot }) ∧
      (∀ off d, off % 8 = 0 → off + 8 * d.length ≤ 0x4000 → off < 0x4000 → s.tarnShut = false →
        (chk.enc = true ∨ s.fld .wellStat F.wellStat.lcs ≠ 2) → Answers (.tarnRecord chk off d) s fun t =>
          s.Accepts chk t ∧ s.Stored (tarnWord (off / 8)) d t ∧ t.regs = s.regs ∧ t.threads = s.threads) ∧
      (∀ addr d, addr % 8 = 0 → 0x100000 ≤ addr → addr < 0x500000 → addr + 8 * d.length ≤ 0x500000 →
        Answers (.poolRecord chk addr d) s fun t => s.Accepts chk t ∧ t.regs = s.regs ∧ t.threads = s.threads ∧
          let place := fun i => s.slotPhys (poolSlot (addr + 8 * i)) (slotWord (addr + 8 * i))
          (∀ i k, i < d.length → place i = some k → (∀ j, i < j → j < d.length → place j ≠ some k) →
            t.word k = d.getD i 0 ∧ t.syn k = 0) ∧
          ∀ k, (∀ i, i < d.length → place i ≠ some k) → t.word k = s.word k ∧ t.syn k = s.syn k) ∧
      ∀ role e, role < 8 → s.engineOf role = some e →
        (∀ waddr d, waddr % 4 = 0 → waddr < 0x4000 → waddr + 4 * d.length ≤ 0x4000 →
          Answers (.pstoreRecord chk role waddr d) s fun t =>
            s.Accepts chk t ∧ s.Stored (pstoreWord e (waddr / 4)) (d.map fun x => x &&& 0xFFFFFFFFFFFFFF) t ∧
            t.regs = s.regs ∧ t.threads = s.threads) ∧
        (∀ off d, off % 8 = 0 → off < 0x8000 → off + 8 * d.length ≤ 0x8000 → Answers (.lramRecord chk role off d) s fun t =>
          s.Accepts chk t ∧ s.Stored (lramWord e (off / 8)) d t ∧ t.regs = s.regs ∧ t.threads = s.threads) ∧
        (∀ words, tableOk words = true → Answers (.decodeRecord chk role words) s fun t =>
          s.Accepts chk t ∧ t.mem = s.mem ∧ t.threads = s.threads ∧ ∀ n, n < 16 →
            t.fld (.engCusthdr e n) F.engCusthdr.len = F.engCusthdr.len.get (words.getD (9 * n) 0) ∧
            ∀ k, k < 8 → t.rd (.engUop e n k) = words.getD (9 * n + 1 + k) 0 &&& 0xFFFFFF) ∧
        (∀ active farbase maps, active < 2 → maps.length = 16 → Answers (.roleRecord chk role active farbase maps) s fun t =>
          s.Accepts chk t ∧ t.mem = s.mem ∧ t.threads = s.threads ∧
          t.fld (.engFarbase e) F.engFarbase.farbase = F.engFarbase.farbase.get farbase ∧
          t.fld (.engStat e) F.engStat.activeMap = active ∧ ∀ j, j < 16 →
            t.rd (.engSmapA e j) = (Reg.engSmapA e j).fieldBits (unitOf (maps.getD (j / 2) 0) (4 * (j % 2))) ∧
            t.rd (.engSmapB e j) = (Reg.engSmapB e j).fieldBits (unitOf (maps.getD (8 + j / 2) 0) (4 * (j % 2)))) ∧
        ∀ u r, u < 32 → r.flags.toNat % 4 ≠ 3 → r.prio.toNat < 8 → r.segs.length = 8 →
          Answers (.threadRecord chk role u r) s fun t =>
            s.Accepts chk t ∧ t.mem = s.mem ∧
            t.thread e u = { s.thread e u with pc := r.pc, priv := r.flags.toNat % 4, prio := r.prio.toNat, urgmask := r.urgmask,
                                               uvec := r.uvec } ∧
            (∀ e' u', 32 * e' + u' ≠ 32 * e + u → t.thread e' u' = s.thread e' u') ∧
            t.rd (.engTcseg e u) = r.csegHi ++ r.csegLo ∧ SMap.get t.startPc (32 * role + u) 0 = r.pc)

/-- Tamper, life-cycle changes, the wipe of the Tarn and the image key (spec/15 R414, spec/15 R415, spec/15 R416,
spec/15 R417, spec/16 R447, spec/11 R295). Tamper wipes the Tarn with cause 1, closes debug and counts itself; a
life-cycle change after step 2 wipes with cause 2, sets LCSCHG and raises its alarm, and before step 2 is only a
level; the wipe that completes leaves every byte of the Tarn zero and no other changed. A key word is appended until
eight are in. In RUN, with TAMPACT 0, nothing else changes. -/
def Obligations.SecurityEvents : Prop :=
  ∀ s : State, s.test = none →
    (s.fld .wellTamp F.wellTamp.level = 1 → s.inReset = true → Answers .tamper s fun t =>
      t.fld .wellTamp F.wellTamp.level = 0 ∧ t.fld .wellTamp F.wellTamp.tampcnt = s.fld .wellTamp F.wellTamp.tampcnt ∧
      s.OnlyRegs [.wellTamp] t) ∧
    (s.fld .wellTamp F.wellTamp.level = 1 → s.inReset = false → s.fld .wellCfg F.wellCfg.tampact = 0 →
      s.fld .engPwrstat F.engPwrstat.state = 0 → s.power.stage = 0 → Answers .tamper s fun t =>
        t.fld .wellTamp F.wellTamp.level = 0 ∧
        t.fld .wellTamp F.wellTamp.tampcnt = satInc F.wellTamp.tampcnt.width (s.fld .wellTamp F.wellTamp.tampcnt) ∧
        t.fld .wellStat F.wellStat.tamper = 1 ∧ t.fld .memTarn F.memTarn.wiping = 1 ∧
        t.security = { s.security with debugShut := true, wipe := 1 } ∧ (∃ a ∈ t.outlet.alarms, a.code = 0x1B) ∧
        s.RegsBut [.wellTamp, .wellStat, .memTarn, .outStat, .outCnt] t ∧
        t = { s with regs := t.regs, security := t.security, outlet := t.outlet }) ∧
    (s.fld .wellTamp F.wellTamp.level = 0 → exec .tamper s = .next s) ∧
    (Answers .tamperDeassert s fun t => t.fld .wellTamp F.wellTamp.level = 1 ∧
      t.fld .wellTamp F.wellTamp.tampcnt = s.fld .wellTamp F.wellTamp.tampcnt ∧ s.OnlyRegs [.wellTamp] t) ∧
    (∀ l, l < 16 → (s.boot.sampled = false ∨ l = s.security.lcs) →
      exec (.lcsChange l) s = .next { s with security := { s.security with lcs := l } }) ∧
    (∀ l, l < 16 → s.boot.sampled = true → l ≠ s.security.lcs → lcsCode l ≠ 4 → Answers (.lcsChange l) s fun t =>
      t.fld .wellStat F.wellStat.lcschg = 1 ∧ t.fld .memTarn F.memTarn.wiping = 1 ∧
      t.security = { s.security with lcs := l, debugShut := s.security.debugShut || !lcsOpen l, wipe := 2 } ∧
      (∃ a ∈ t.outlet.alarms, a.code = 0x1A) ∧ s.RegsBut [.wellStat, .memTarn, .outStat, .outCnt] t ∧
      t = { s with regs := t.regs, security := t.security, outlet := t.outlet }) ∧
    (s.inReset = false → s.fld .memTarn F.memTarn.wiping = 1 → Answers .tarnWipeComplete s fun t =>
      (∀ a, 8 * tarnWord 0 ≤ a → a < 8 * tarnWord 2048 → t.byte a = 0) ∧
      (∀ a, a < 8 * tarnWord 0 ∨ 8 * tarnWord 2048 ≤ a → t.byte a = s.byte a) ∧ t.fld .memTarn F.memTarn.wiping = 0 ∧
      t.fld .memTarn F.memTarn.wiped = 1 ∧ t.fld .memTarn F.memTarn.cause = s.security.wipe % 4 ∧ t.security.wipe = 0 ∧
      s.RegsBut [.memTarn] t ∧ t = { s with regs := t.regs, mem := t.mem, chk := t.chk, security := t.security }) ∧
    ∀ word, s.inReset = false → s.security.key.length < 8 → s.bootStep < 5 → Answers (.keyWordTransfer word) s fun t =>
      t.security = { s.security with key := s.security.key ++ [word] } ∧
      (s.security.key.length = 7 → t.fld .wellKeystat F.wellKeystat.keyin = 1) ∧
      (s.security.key.length < 7 → t.regs = s.regs) ∧ s.RegsBut [.wellKeystat] t ∧
      t = { s with regs := t.regs, security := t.security }

/-- The multiplier, calibration and synchronisation of shore time (spec/06 R147, spec/06 R148, spec/06 R150, spec/06
R151, spec/06 R153, spec/06 R154, spec/06 R155, spec/18 R482, spec/16 R444). Loss of the reference enters HOLDOVER
with LOCKLOST and an alarm, and a relock leaves it. A line out of service that calibrates within 36 to 120 taps is
exchanged later, at a boundary at which its lane is quiet; a failed one leaves nothing to exchange, and the third
failure in a row is CALFAIL with an alarm. A tsync_pps edge is captured, and a load edge takes NEXT, which is
applied where every domain is DISARMED and refused else. Shore time that SLEEP stopped resumes with GAP, and every
mirror in bypass goes back to timed operation, holding its level for at most 3 ticks. -/
def Obligations.ShoreEvents : Prop :=
  ∀ (s : State), s.Live →
    (s.shoreRuns = true → s.fld .laneShstat F.laneShstat.lock = 1 → Answers .holdoverEntry s fun t =>
      t.fld .laneShstat F.laneShstat.holdover = 1 ∧ t.fld .laneShstat F.laneShstat.lock = 0 ∧
      t.fld .laneShstat F.laneShstat.locklost = 1 ∧ (∃ a ∈ t.outlet.alarms, a.code = 0x08) ∧
      s.RegsBut [.laneShstat, .outStat, .outCnt] t ∧ t = { s with regs := t.regs, outlet := t.outlet }) ∧
    (s.fld .laneShstat F.laneShstat.holdover = 1 → Answers .multiplierRelock s fun t =>
      t.fld .laneShstat F.laneShstat.holdover = 0 ∧ t.fld .laneShstat F.laneShstat.lock = 1 ∧
      t.fld .laneShstat F.laneShstat.locklost = s.fld .laneShstat F.laneShstat.locklost ∧ s.OnlyRegs [.laneShstat] t) ∧
    (s.shoreRuns = false → s.booted = true → s.powerState = 0 → Answers .shoreRestart s fun t =>
      let timed := fun p => p ∈ s.mirrors ∧ (s.lane p).bypass = true
      t.fld .laneShstat F.laneShstat.gap = 1 ∧ (∀ p, ¬ timed p → t.lane p = s.lane p) ∧
      (∀ p, timed p → t.lane p = { s.lane p with bypass := false, hold := (t.lane p).hold } ∧
        s.now ≤ (t.lane p).hold ∧ (t.lane p).hold ≤ s.now + 96 ∧
        t.fld (.laneErr p) F.laneErr.erra = satInc F.laneErr.erra.width (s.fld (.laneErr p) F.laneErr.erra)) ∧
      (∀ r : Reg, r.key ≠ Reg.laneShstat.key → (∀ p, timed p → r.key ≠ (Reg.laneErr p).key) → t.rd r = s.rd r) ∧
      t = { s with regs := t.regs, lanes := t.lanes, shoreRuns := true }) ∧
    (∀ core line taps, core < 264 → line < 4 →
      ((s.core core).inService line = true → exec (.delayLineCalibration core line taps) s = .next s) ∧
      (s.shoreRuns = true → (s.core core).inService line = false → 36 ≤ taps → taps ≤ 120 → Answers (.delayLineCalibration core line taps) s fun t =>
        SMap.get (t.core core).spans line 0 = taps ∧ SMap.get (t.core core).fails line 0 = 0 ∧
        (t.core core).done.getLsbD line = true ∧
        t.fld (.laneCal core) F.laneCal.calcnt = (s.fld (.laneCal core) F.laneCal.calcnt + 1) % 256 ∧
        (∀ c, c ≠ core → t.core c = s.core c) ∧ s.RegsBut [.laneCal core, .laneShstat] t ∧
        t = { s with regs := t.regs, cores := t.cores }) ∧
      (s.shoreRuns = true → (s.core core).inService line = false → taps < 36 ∨ 120 < taps → Answers (.delayLineCalibration core line taps) s fun t =>
        let n := SMap.get (s.core core).fails line 0
        SMap.get (t.core core).fails line 0 = n + 1 ∧ SMap.get (t.core core).spans line 0 = 0 ∧
        (∀ l, l ≠ line → SMap.get (t.core core).spans l 0 = SMap.get (s.core core).spans l 0) ∧
        (t.core core).calfail = ((s.core core).calfail || decide (2 ≤ n)) ∧
        (n = 2 → t.fld .laneShstat F.laneShstat.calfailany = 1 ∧ ∃ a ∈ t.outlet.alarms, a.code = 0x09) ∧
        (n ≠ 2 → t.regs = s.regs ∧ t.outlet = s.outlet) ∧ t = { s with regs := t.regs, cores := t.cores, outlet := t.outlet }) ∧
      (s.shoreRuns = true → SMap.get (s.core core).spans line 0 ≠ 0 → (s.core core).inService line = false →
        s.shore.step = 0 → (∀ p, s.laneOfCore core = some p → s.quietLane p = true) →
        Answers (.calibrationExchange core line) s fun t =>
        (t.core core).inService line = true ∧
        t.fld (.laneCal core) (if line < 2 then F.laneCal.outTaps else F.laneCal.inTaps) =
          SMap.get (s.core core).spans line 0 % 256 ∧ SMap.get (t.core core).spans line 0 = 0 ∧
        s.RegsBut [.laneCal core] t ∧ t = { s with regs := t.regs, cores := t.cores })) ∧
    (∀ step load, step < 32 → s.shoreRuns = true → s.shore.load = none → Answers (.ppsEdge step load) s fun t =>
      t.shore.pps = s.tickTime + BitVec.ofNat 64 step ∧
      t.rd .lanePpscap = (s.tickTime + BitVec.ofNat 64 step).setWidth 32 ∧ t.fld .laneSync F.laneSync.ppsseen = 1 ∧
      t.shore.load = (if load || s.bit .laneSync F.laneSync.arm then
        some ⟨s.rd .laneNexthi ++ (s.rd .laneNextlo &&& 0xFFFFFFE0), step, s.ticks⟩ else none) ∧
      t.fld .laneSync F.laneSync.arm = 0 ∧
      s.RegsBut [.lanePpscap, .laneSync] t ∧ t = { s with regs := t.regs, shore := t.shore }) ∧
    ∀ x, s.shore.load = some x → s.shoreRuns = true → x.tick + 4 ≤ s.ticks → Answers .syncLoadApply s fun t =>
      t.shore.load = none ∧ t.fld .laneSync F.laneSync.arm = s.fld .laneSync F.laneSync.arm ∧
      (s.allDisarmed = false → t.fld .laneSync F.laneSync.refused = 1 ∧ t.time = s.time ∧ s.RegsBut [.laneSync] t ∧
        t = { s with regs := t.regs, shore := t.shore }) ∧
      (s.allDisarmed = true → t.fld .laneSync F.laneSync.loaded = 1 ∧ t.fld .laneSync F.laneSync.res = x.step % 32 ∧
        t.time = x.next + (if x.step < 16 then 128 else 96) ∧
        t.shore.pps = (if x.step < 16 then x.next + BitVec.ofNat 64 x.step else x.next - BitVec.ofNat 64 (32 - x.step)) ∧
        s.RegsBut [.laneSync, .lanePpscap] t ∧ t = { s with time := t.time, regs := t.regs, shore := t.shore })

/-- Lanes start, stop, are reset and are swapped to spares (spec/06 R158, spec/06 R159, spec/06 R161, spec/06 R163,
spec/06 R180, spec/06 R184, spec/06 R187, spec/01 R7, spec/01 R20, spec/16 R439, spec/18 R484). LANE_CTRL starts an
OFF lane and takes MODE and QUOTA, stops an ON lane, whose entries are dropped, and is latched in between. Four
ticks on, a start that ends gives a lane its first level and enable (EDGE, TIMER: those of its M0; MIRROR: its
source's), and a stop ends at OFF. A spare swap retires the former core and makes the pin inert from the next tick
until it completes, which discards and counts the entries that are late. A lane reset is OFF with everything
discarded. lane_safe follows its port. -/
def Obligations.LanesInTheirLifeCycle : Prop :=
  ∀ (s : State) (w : Who) (p : Nat) (d : BitVec 32) (lvl : Bool), p < 256 →
    let x := s.lane p
    let en := F.laneCtrl.en.get d
    (s.Live → Answers (.laneSafeChange p lvl) s fun t => ({ s with ports := t.ports } : State).OnlyPins t ∧
      t.ports = { s.ports with laneSafe := t.ports.laneSafe } ∧
      ∀ q, q < 256 → t.ports.laneSafe.getLsbD q = if q = p then lvl else s.ports.laneSafe.getLsbD q) ∧
    (s.Writer w → s.shore.swap = none → F.laneCtrl.domv.get d = s.fld (.laneCtrl p) F.laneCtrl.domv →
      F.laneCtrl.dom.get d = s.fld (.laneCtrl p) F.laneCtrl.dom →
      let total := s.fld .laneSchquota F.laneSchquota.total + F.laneCtrl.quota.get d - s.fld (.laneCtrl p) F.laneCtrl.quota
      let same := F.laneCtrl.mode.get d = s.mode p ∧ F.laneCtrl.quota.get d = s.fld (.laneCtrl p) F.laneCtrl.quota
      (s.fld (.laneStat p) F.laneStat.state = 0 → total ≤ 65536 →
        s.Takes (.laneEnWrite w p d whole) w (.laneCtrl p) d false fun t =>
          let y : Lane := if en = 0 then x else
            { x with since := s.ticks, capture := if F.laneCtrl.mode.get d = modeCapture then [] else x.capture }
          t.fld (.laneStat p) F.laneStat.state = en ∧ t.fld (.laneCtrl p) F.laneCtrl.en = en ∧
          t.mode p = F.laneCtrl.mode.get d ∧ t.fld (.laneCtrl p) F.laneCtrl.quota = F.laneCtrl.quota.get d ∧
          t.fld .laneSchquota F.laneSchquota.total = total ∧ s.RegsBut [.laneStat p, .laneCtrl p, .laneSchquota] t ∧
          ({ s.setLane p y with regs := t.regs } : State).OnlyPins t) ∧
      (s.fld (.laneStat p) F.laneStat.state = 2 → en = 0 → same →
        s.Takes (.laneEnWrite w p d whole) w (.laneCtrl p) d false fun t =>
          t.fld (.laneStat p) F.laneStat.state = 3 ∧ t.fld (.laneCtrl p) F.laneCtrl.en = 0 ∧ t.mode p = s.mode p ∧
          s.RegsBut [.laneStat p, .laneCtrl p] t ∧
          ({ s.setLane p { x with queue := [], core := [], since := s.wordEnd p } with regs := t.regs } : State).OnlyPins t) ∧
      (∀ st, st ∈ [1, 3] → s.fld (.laneStat p) F.laneStat.state = st → same →
        s.Takes (.laneEnWrite w p d whole) w (.laneCtrl p) d false fun t =>
          t.laneLife p = ⟨st, if (st = 1 ∧ en = 0) ∨ (st = 3 ∧ en = 1) then 1 else 0, en⟩ ∧
          s.RegsBut [.laneStat p, .laneCtrl p] t ∧ ({ s with regs := t.regs } : State).OnlyPins t)) ∧
    (∀ q, 256 ≤ q → q < 264 → s.Writer w →
      (s.laneWindow q = false → s.Takes (.laneEnWrite w q d whole) w (.laneCtrl q) d false fun t => t = s) ∧
      (s.laneWindow q = true → s.fld (.laneStat q) F.laneStat.state = 0 → s.shore.swap = none →
        F.laneCtrl.domv.get d = s.fld (.laneCtrl q) F.laneCtrl.domv → F.laneCtrl.dom.get d = s.fld (.laneCtrl q) F.laneCtrl.dom →
        F.laneCtrl.quota.get d = s.fld (.laneCtrl q) F.laneCtrl.quota →
        s.fld .laneSchquota F.laneSchquota.total ≤ 65536 →
        s.Takes (.laneEnWrite w q d whole) w (.laneCtrl q) d false fun t =>
          t.mode q = F.laneCtrl.mode.get d ∧ t.fld (.laneCtrl q) F.laneCtrl.en = s.fld (.laneCtrl q) F.laneCtrl.en ∧
          s.OnlyRegs [.laneCtrl q] t)) ∧
    (s.Live → s.shoreRuns = true → s.shore.swap = none → s.fld (.laneStat p) F.laneStat.pend = 0 → x.since + 4 ≤ s.ticks →
      (s.fld (.laneStat p) F.laneStat.state = 1 → s.primed p = true → s.mode p ≠ modeQuad →
        Answers (.laneStartDone p) s fun t => t.fld (.laneStat p) F.laneStat.state = 2 ∧
          (s.mode p = modeEdge → (t.lane p).lvl = s.bit (.edgeM0 p) F.edgeM0.initOut ∧
            (t.lane p).oe = s.bit (.edgeM0 p) F.edgeM0.initOe) ∧
          (s.mode p = modeTimer → (t.lane p).lvl = s.bit (.timerM0 p) F.timerM0.initOut ∧
            (t.lane p).oe = s.bit (.timerM0 p) F.timerM0.oe) ∧
          (s.mode p = modeMirror → (t.lane p).lvl = s.mirrorLevel p ∧ (t.lane p).oe = s.bit (.mirrorM0 p) F.mirrorM0.oe) ∧
          (t.lane p).onAt = s.ticks ∧ (t.lane p).started = false ∧ (t.weir p).periods = [] ∧
          (∀ q, q ≠ p → (t.lane q).lvl = (s.lane q).lvl ∧ (t.lane q).oe = (s.lane q).oe) ∧
          s.RegsBut [.laneStat p, .laneCtrl p] t ∧ t = { s with regs := t.regs, lanes := t.lanes, weirs := t.weirs }) ∧
      (s.fld (.laneStat p) F.laneStat.state = 1 → s.mode p = modeQuad →
        Answers (.laneStartDone p) s fun t => t.fld (.laneStat p) F.laneStat.state = 2 ∧ (t.lane p).onAt = s.ticks ∧
          (p % 2 = 0 → s.fld (.quadM0 p) F.quadM0.role = 0 →
            let u := s.fld (.quadM0 p) F.quadM0.posu
            t.position u = s.rd (.posPos u) ∧ (t.posUnit u).raw = s.rd (.posPos u) ∧ t.rd (.posSpeed u) = 0 ∧
            t.fld (.posStat u) F.posStat.still = 1)) ∧
      (s.fld (.laneStat p) F.laneStat.state = 3 → Answers (.laneStopDone p) s fun t =>
        t.fld (.laneStat p) F.laneStat.state = 0 ∧ s.RegsBut [.laneStat p, .laneCtrl p] t ∧
        ({ s with regs := t.regs } : State).OnlyPins t)) ∧
    (s.Writer w → s.shore.swap = none → F.laneXbar.core.get d ≠ s.coreOf p →
      let c := F.laneXbar.core.get d
      (s.isSpare c = true → Answers (.laneSpareSwap w p d whole) s fun t =>
        t.coreOf p = c ∧ (t.core c).used = true ∧ (t.core (s.coreOf p)).retired = true ∧
        (t.core (s.coreOf p)).used = false ∧
        t.shore = { s.shore with swap := some ⟨p, s.coreOf p, (s.laneLife p).st, s.ticks⟩ } ∧
        (t.laneLife p).st = (if (s.laneLife p).st = 0 then 0 else 1) ∧ t.swapStop p = true ∧
        ({ t with ticks := s.ticks + 1 } : State).pin p = t.inert p ∧
        (s.coreOf p < 256 → s.RegsBut [.laneXbar p, .laneStat p, .laneSchquota] t) ∧
        ({ s with regs := t.regs, cores := t.cores, shore := t.shore } : State).OnlyPins t) ∧
      (s.isSpare c = false →
        exec (.laneSpareSwap w p d whole) s = .next (s.violate w 3 (Reg.laneXbar p).key true))) ∧
    (∀ old st tick, s.Live → s.shore.swap = some ⟨p, old, st, tick⟩ → s.swapDue ⟨p, old, st, tick⟩ = true →
      st = 0 ∨ (s.laneLife p).st = 1 ∧ (s.laneLife p).pend = 0 ∧ s.mode p ≠ modeQuad →
      Answers .spareSwapComplete s fun t =>
        let held := x.core.map (·.1) ++ x.queue
        t.shore = { s.shore with swap := none } ∧
        (t.lane p).core = [] ∧ (t.lane p).queue = held.filter (fun e => !decide (e.due < s.now)) ∧
        t.fld (.laneErr p) F.laneErr.erra =
          min 0xFFFF (s.fld (.laneErr p) F.laneErr.erra + (held.filter fun e => decide (e.due < s.now)).length) ∧
        (t.laneLife p).st = (if st = 0 then (s.laneLife p).st else if st = 3 then 0 else 2) ∧
        s.RegsBut [.laneErr p, .laneStat p, .laneCtrl p] t) ∧
    (s.Writer w → F.engRst.kind.get d = 3 → F.engRst.target.get d = p →
      exec (.laneReset w d whole) s =
        .next (if s.shoreRuns || s.asleep then s.later (.resetLane p) else s.actSoon (.resetLane p))) ∧
    (s.shore.swap = none →
      let t := s.actSoon (.resetLane p)
      t.laneLife p = ⟨0, 0, 0⟩ ∧ t.rd (.laneErr p) = 0 ∧ t.mode p = s.mode p ∧ (t.lane p).queue = [] ∧ (t.lane p).core = [] ∧
      (t.lane p).fifo = [] ∧ (t.lane p).capture = [] ∧ s.RegsBut [.laneStat p, .laneCtrl p, .laneErr p] t ∧
      (∀ q, q ≠ p → (t.lane q).queue = (s.lane q).queue ∧ (t.lane q).core = (s.lane q).core ∧
        (t.lane q).fifo = (s.lane q).fifo ∧ (t.lane q).lvl = (s.lane q).lvl ∧ (t.lane q).oe = (s.lane q).oe) ∧
      t = { s with regs := t.regs, lanes := t.lanes })

/-- Entries are dispatched to their core and executed in their tick (spec/06 R178, spec/06 R181, spec/06 R182, spec/06
R183, spec/06 R184, spec/07 R199, spec/05 R511). The dispatcher moves the entry that is due first into its lane's
core, or discards and counts it where the lane is not ON in EDGE mode or its word is bad (stated where just one
entry is due), and goes on until nothing is due or the tick's eight are spent. The core's first entry sets the level
and the enable its action names at its step; late by one tick it still acts, with LATEX and an alarm; later it only
counts in LATEX and ERRA. MARK raises the window's event in the weir's thread, and asks for no change of the pin. -/
def Obligations.ScheduledEntriesTakeEffect : Prop :=
  ∀ (s : State) (p : Nat), s.Live → p < 256 →
    let x := s.lane p
    (s.shoreRuns = true → Answers .entryDispatch s fun t => t.dispatchesLeft = 0 ∨ t.dispatchNext = none) ∧
    (s.dispatchesLeft = 0 ∨ s.dispatchNext = none → exec .entryDispatch s = .next s) ∧
    (∀ e, s.shoreRuns = true → 0 < s.dispatchesLeft → s.dispatchNext = some (p, e) → s.dispatchOne.dispatchNext = none →
      Answers .entryDispatch s fun t =>
        let moved := (s.readEntry e).1 && s.laneOn p && s.mode p == modeEdge
        t.lane p = { x with queue := x.queue.erase e,
                            core := if moved then insertCore x.core ({ e with syn := 0 }, s.ticks) else x.core } ∧
        (∀ q, q ≠ p → t.lane q = s.lane q) ∧
        t.shore = { s.shore with dispPtr := (p + 1) % 256, dispTick := s.ticks, dispCount := 9 - s.dispatchesLeft } ∧
        (moved = false → s.Counts (.laneErr p) F.laneErr.erra t) ∧
        (e.syn = 0 → (moved = true → t.regs = s.regs) ∧ s.RegsBut [.laneErr p] t ∧
          t = { s with shore := t.shore, lanes := t.lanes, regs := t.regs })) ∧
    ∀ (e : Entry) (l : List Entry), s.executable p = e :: l →
      let role := s.fld (.weirWin p) F.weirWin.role
      let th := s.fld (.weirWin p) F.weirWin.thread
      (e.act = 0 → s.Executes (.setEntry p) p e (true, x.oe) s.threads) ∧
      (e.act = 1 → s.Executes (.clearEntry p) p e (false, x.oe) s.threads) ∧
      (e.act = 2 → s.Executes (.toggleEntry p) p e (!x.lvl, x.oe) s.threads) ∧
      (e.act = 3 → s.Executes (.levelEntry p) p e (e.arg.testBit 0, e.arg.testBit 1) s.threads) ∧
      (e.act = 4 → s.Executes (.oeEntry p) p e (x.lvl, e.arg.testBit 0) s.threads) ∧
      (e.act = 5 → s.takingOver role = true ∨ s.engineOf role = none →
        s.Executes (.markEntry p) p e (x.lvl, x.oe) s.threads) ∧
      ∀ k, e.act = 5 → s.takingOver role = false → s.engineOf role = some k →
        s.Executes (.markEntry p) p e (x.lvl, x.oe) (s.modThread k th fun y =>
          Thread.waitTest { y with evt := y.evt ||| evtBit (10 + e.arg % 2) }).threads

/-- STREAM lanes send and receive words, and M2 reaches their FIFO (spec/06 R167, spec/06 R168, spec/06 R169, spec/06
R176, spec/19 R505, spec/01 R7). A transmitting lane sends the next word of its FIFO at its start and at each word
boundary, 16 bit periods on; with an empty FIFO the filler on an export lane, the word before with REPLAST, or the
idle level, which ERRA counts. A receiving lane samples a word at PHASE of each bit behind INV_IN and appends it, or
counts it in ERRA when the FIFO is full. Writes and reads of M2 append and remove words. -/
def Obligations.StreamLanesSendAndReceive : Prop :=
  ∀ (s : State) (w : Who) (p : Nat) (d : BitVec 32), s.Live → p < 256 →
    let x := s.lane p
    let start := 32 * s.streamTick p
    let next := x.txStart + 16 * s.bitPeriod p
    (s.streamDue p = true → s.fld (.streamM0 p) F.streamM0.dir = 0 → s.SendsNext (.streamStart p) p start) ∧
    (s.streamDue p = true → s.fld (.streamM0 p) F.streamM0.dir = 1 →
      exec (.streamStart p) s = .next (s.setLane p { x with started := true, txStart := start })) ∧
    (s.wordDue p = true → s.fld (.streamM0 p) F.streamM0.dir = 0 → s.SendsNext (.streamTxWordBoundary p) p next) ∧
    (∀ lvl edges, s.wordDue p = true → s.fld (.streamM0 p) F.streamM0.dir = 1 →
      (x.fifo.length < 16 → Answers (.streamRxWord p ⟨lvl, edges⟩) s fun t =>
        ∃ v : Word, t = (s.setLane p { x with txStart := next, fifo := x.fifo ++ [v] }).setLaneIn p
            (xor lvl (edges.length % 2 == 1)) s.here ∧
          ∀ k, k < 16 → v.getLsbD (if s.bit (.streamM0 p) F.streamM0.msbf then 15 - k else k) =
            xor (lineLevel lvl edges (k * s.bitPeriod p + s.fld (.streamM0 p) F.streamM0.phase % s.bitPeriod p))
              (s.bit (.laneIo p) F.laneIo.invIn)) ∧
      (16 ≤ x.fifo.length → exec (.streamRxWord p ⟨lvl, edges⟩) s =
        .next ((((s.setLane p { x with txStart := next }).incSat (.laneErr p) F.laneErr.erra).setLaneIn p
          (xor lvl (edges.length % 2 == 1)) s.here)))) ∧
    ∀ q, q < 264 →
      let y := s.lane q
      (s.laneWindow q = false → (s.Writer w → s.Takes (.streamFifoWrite w q d whole) w (.laneM2 q) d false fun t => t = s) ∧
        exec (.streamFifoRead w q whole) s = .next { s with rdata := 0 }) ∧
      (s.laneWindow q = true → s.mode q = modeStream → s.fld (.streamM0 q) F.streamM0.cden = 0 →
        (s.Writer w → y.fifo.length < 16 → s.Takes (.streamFifoWrite w q d whole) w (.laneM2 q) d false fun t =>
          t = s.setLane q { y with fifo := y.fifo ++ [d.setWidth 16] }) ∧
        (s.Writer w → 16 ≤ y.fifo.length → s.Takes (.streamFifoWrite w q d whole) w (.laneM2 q) d false fun t => t = s) ∧
        (∀ v l, y.fifo = v :: l →
          exec (.streamFifoRead w q whole) s = .next { s.setLane q { y with fifo := l } with rdata := v.setWidth 32 }) ∧
        (y.fifo = [] → exec (.streamFifoRead w q whole) s = .next { s with rdata := 0 }))

/-- CAPTURE, MIRROR and DECIMATE lanes at work, the input filter, and the loopback compare (spec/06 R166, spec/06 R170,
spec/06 R171, spec/06 R172, spec/06 R173, spec/06 R174, spec/06 R176, spec/09 R249, spec/09 R250, spec/10 R258,
spec/05 R143). A level at an input is seen whatever the lane's mode. A lane that takes edges holds a change for FILT
ticks, and counts in ERRB a pulse that is shorter; an accepted edge that CAPTURE selects enters its FIFO or ERRA,
with the instant it had at the pin, and a MIRROR lane shows it 96 steps later, in bypass at once. A selected clock
edge passes a bit through the decimator; a clock that stops is lost. A loopback compare that differs counts in ERRB. -/
def Obligations.InputLanesTakeEdges : Prop :=
  ∀ (s : State) (w : Who) (p step : Nat) (lvl : Bool), s.Live → p < 256 → step < 32 →
    let x := s.lane p
    let at_ := s.stepAt step
    let time := s.timeAt at_
    let v := xor lvl (s.bit (.laneIo p) F.laneIo.invIn)
    let seen := (s.settleTo at_).setLaneIn p lvl at_
    (s.FabricStill → s.LaneIn p lvl seen ∧ ({ s with ports := seen.ports } : State).OnlyPins seen) ∧
    (s.laneOn p = false ∨ s.mode p ≠ modeCapture ∧ s.mode p ≠ modeQuad ∨ s.shoreRuns = false →
      exec (.captureEdge p lvl step) s = .next seen) ∧
    (s.laneOn p = true → s.shoreRuns = true → s.swapStop p = false →
      let y := { seen.lane p with inTick := s.ticks + 1 }
      let filt := 32 * s.fld (.laneIo p) F.laneIo.filt
      let selected := (s.fld (.captureM0 p) F.captureM0.edges).testBit (if v then 0 else 1)
      (s.mode p = modeCapture → filt = 0 → x.cand = none → v ≠ x.filt → Answers (.captureEdge p lvl step) s fun t =>
        let z := { y with filt := v, accAt := (at_, time) }
        (selected = true → x.capture.length < 8 →
          t = seen.setLane p { z with capture := x.capture ++ [(v, time.extractLsb' 0 48)] }) ∧
        (selected = true → 8 ≤ x.capture.length → seen.Counts (.laneErr p) F.laneErr.erra t ∧ seen.RegsBut [.laneErr p] t ∧
          t = { seen.setLane p z with regs := t.regs }) ∧
        (selected = false → t = seen.setLane p z)) ∧
      (s.mode p = modeQuad → filt = 0 → x.cand = none → v ≠ x.filt →
        exec (.captureEdge p lvl step) s = .next (seen.setLane p { y with filt := v, accAt := (at_, time) })) ∧
      (s.mode p = modeCapture ∨ s.mode p = modeQuad → x.cand = none → v = x.filt →
        exec (.captureEdge p lvl step) s = .next (seen.setLane p y)) ∧
      (s.mode p = modeCapture ∨ s.mode p = modeQuad → 0 < filt →
        (x.cand = none → v ≠ x.filt →
          exec (.captureEdge p lvl step) s = .next (seen.setLane p { y with cand := some (at_, time) })) ∧
        (∀ c, x.cand = some c → at_ < c.1 + filt → v = x.filt → Answers (.captureEdge p lvl step) s fun t =>
          seen.Counts (.laneErr p) F.laneErr.errb t ∧ seen.RegsBut [.laneErr p] t ∧
          t = { seen.setLane p { y with cand := none } with regs := t.regs })) ∧
      (∀ c n, x.cand = some c → c.1 + filt ≤ n → s.mode p = modeCapture → x.capture.length < 8 →
        (s.fld (.captureM0 p) F.captureM0.edges).testBit (if !x.filt then 0 else 1) = true →
        s.acceptBy p n = s.setLane p { x with filt := !x.filt, accAt := c, cand := none,
                                              capture := x.capture ++ [(!x.filt, c.2.extractLsb' 0 48)] })) ∧
    (∀ c l, s.mode p = modeCapture → x.capture = c :: l →
      exec (.captureRead w p whole) s =
        .next { s.setLane p { x with capture := l } with rdata := c.2.extractLsb' 0 32 }) ∧
    (s.mode p = modeCapture → x.capture = [] → exec (.captureRead w p whole) s = .next { s with rdata := 0 }) ∧
    (s.laneOn p = true → s.mode p = modeMirror → s.swapStop p = false →
      let src := s.fld (.mirrorM0 p) F.mirrorM0.src
      let seen := (s.settleTo at_).setLaneIn src lvl at_
      let out := xor v (s.bit (.mirrorM0 p) F.mirrorM0.inv)
      (s.shoreRuns = true → s.fld (.laneIo p) F.laneIo.filt = 0 → x.cand = none → v ≠ x.filt →
        exec (.mirrorEdge p ⟨lvl, step⟩) s = .next (seen.setLane p { seen.lane p with
          inTick := s.ticks + 1, filt := v, accAt := (at_, time),
          echo := x.echo ++ [(if at_ < x.hold then x.hold else at_ + 96, out)] })) ∧
      (s.shoreRuns = false → Answers (.mirrorEdge p ⟨lvl, step⟩) s
        (seen.setLane p { seen.lane p with lvl := out, filt := v }).OnlyPins)) ∧
    (∀ rising, s.laneOn p = true → s.mode p = modeDecimate → s.swapStop p = false → s.shoreRuns = true →
      let seen := ((s.settleTo at_).setLaneIn p lvl at_).setLaneIn (s.fld (.decimateM0 p) F.decimateM0.clklane) rising at_
      let z := { seen.lane p with clkAt := s.ticks, clkLost := false }
      let n := 32 + s.fld (.decimateM0 p) F.decimateM0.dec
      let bit := xor (if s.fld (.decimateM0 p) F.decimateM0.clklane = p then rising else lvl) (s.bit (.laneIo p) F.laneIo.invIn)
      let f := if (s.inlet n).owed then Sinc.init else (s.inlet n).sinc
      (rising = s.bit (.decimateM0 p) F.decimateM0.clkedge → exec (.decimateBit p lvl ⟨rising, step⟩) s = .next seen) ∧
      (rising ≠ s.bit (.decimateM0 p) F.decimateM0.clkedge →
        (s.decConflict p = true → exec (.decimateBit p lvl ⟨rising, step⟩) s =
          .next ((seen.setLane p z).incSat (.laneErr p) F.laneErr.errb)) ∧
        (s.decConflict p = false → s.inlOn n = false → exec (.decimateBit p lvl ⟨rising, step⟩) s = .next (seen.setLane p z)) ∧
        (s.decConflict p = false → s.inlOn n = true → Answers (.decimateBit p lvl ⟨rising, step⟩) s fun t =>
          let g := f.step (s.osr n) (s.fld (.inlDec n) F.inlDec.shift) bit
          (g.2 = none → t = (seen.setLane p z).setInlet n { seen.inlet n with sinc := g.1, owed := false }) ∧
          ∀ r, g.2 = some r → t = ((seen.setLane p z).setInlet n { seen.inlet n with sinc := g.1, owed := false }).takeSample
            n r 0 at_))) ∧
    (let n := s.fld (.decimateM0 p) F.decimateM0.mclkTmo
     s.shoreRuns = true → s.laneOn p = true → s.mode p = modeDecimate → n ≠ 0 → x.clkLost = false →
      x.clkAt + 8 * n ≤ s.ticks → Answers (.decimateClockLoss p) s fun t =>
        t.fld (.decimateM1 p) F.decimateM1.clkloss = 1 ∧ s.Counts (.laneErr p) F.laneErr.erra t ∧
        t.lane p = { x with clkLost := true } ∧ s.RegsBut [.decimateM1 p, .laneErr p] t ∧
        (s.decConflict p = false → (t.inlet (s.decInlet p)).owed = true) ∧
        t = { s with regs := t.regs, lanes := t.lanes, inlets := t.inlets }) ∧
    ∀ b n l, x.compares = (b, n) :: l → s.shoreRuns = true → n + max 1 (s.fld (.laneIo p) F.laneIo.loopdly) ≤ s.ticks →
      let end_ := s.now + 31
      let seen := (s.settleTo end_).setLaneIn p lvl end_
      let u := seen.setLane p { seen.lane p with compares := (seen.lane p).compares.tail }
      (lvl = b → exec (.loopbackCompare p lvl) s = .next u) ∧
      (lvl ≠ b → (u.comparable p && (u.pin p).2) = false → exec (.loopbackCompare p lvl) s = .next u) ∧
      (lvl ≠ b → (u.comparable p && (u.pin p).2) = true →
        let counted := u.incSat (.laneErr p) F.laneErr.errb
        ((∀ dom, s.laneDomain p = some dom → s.bit (.engDctl dom) F.engDctl.loopflt = false) →
          exec (.loopbackCompare p lvl) s = .next counted) ∧
        ∀ dom, s.laneDomain p = some dom → s.bit (.engDctl dom) F.engDctl.loopflt = true →
          exec (.loopbackCompare p lvl) s = .next (counted.laneFault p 7))

/-- Stages, deadlines, fallbacks and the pin-level limits of weirs (spec/07 R188, spec/07 R191, spec/07 R193, spec/07
R194, spec/07 R195, spec/07 R196, spec/07 R200, spec/07 R201, spec/07 R203, spec/07 R204, spec/05 R143, spec/01 R7).
A stage write fills the stage of an active weir, or is STALE where its domain is not ON, or is refused where its
KIND takes none or its lane is not ON in EDGE mode. At a deadline the period number advances, and a group's one
LEVEL weir releases its counted stage into LAST and HIST, or repeats LAST with LASTCAUSE 2 or 5 and LATE. Stages up
to the strobe are discarded as STALE. MINPW, MAXON and the dead time end at their instants. -/
def Obligations.WeirsTakeStagesAndDeadlines : Prop :=
  ∀ (s : State) (w : Who) (p g : Nat) (d : BitVec 32), s.Live → p < 256 → g < 32 →
    let x := s.lane p
    (∀ poison, s.Writer w → s.shore.swap = none →
      (∀ dom, s.laneDomain p = some dom → s.domainOn dom = true →
        (s.takesStages p = true → s.laneOn p = true → s.mode p = modeEdge →
          s.Takes (.stageWrite w p d whole poison) w (.weirStage p) d poison fun t =>
            t.rd (.weirStage p) = (if poison then s.rd (.weirStage p) else d) ∧ t.fld (.weirStat p) F.weirStat.valid = 1 ∧
            t.fld (.weirStat p) F.weirStat.poison = (if poison then 1 else 0) ∧
            t.fld (.weirStat p) F.weirStat.ovwr =
              (if s.bit (.weirStat p) F.weirStat.valid then 1 else s.fld (.weirStat p) F.weirStat.ovwr) ∧
            (t.weir p).acc = s.ticks - 1 ∧ t.weir p = { s.weir p with acc := (t.weir p).acc } ∧
            s.RegsBut [.weirStage p, .weirStat p] t ∧ t = { s with regs := t.regs, weirs := t.weirs }) ∧
        (s.takesStages p = false ∨ s.laneOn p = false ∨ s.mode p ≠ modeEdge →
          s.Takes (.stageWrite w p d whole poison) w (.weirStage p) d poison fun t =>
            t = s.violate w 3 (Reg.weirStage p).key true)) ∧
      ((∀ dom, s.laneDomain p = some dom → s.domainOn dom = false) →
        s.Takes (.stageWrite w p d whole poison) w (.weirStage p) d poison fun t =>
          s.Counts (.weirCnt p) F.weirCnt.stale t ∧ s.OnlyRegs [.weirCnt p] t)) ∧
    (∀ c : Instr × Bool, c = (.weirDeadline g, false) ∧ s.deadlineDue g = true ∨
        c = (.strobeMissingDeadline g, true) ∧ s.missingDue g = true →
      s.bit .outCtrl F.outCtrl.trcen = false → s.bit (.weirCgctl g) F.weirCgctl.coh = false →
      let dom := s.fld (.weirCgctl g) F.weirCgctl.dom
      let number := if (s.group g).deadlines = [] then 0 else (s.fld (.weirCgpnum g) F.weirCgpnum.pnum + 1) % 2 ^ 32
      let after := fun t : State => t.fld (.weirCgpnum g) F.weirCgpnum.pnum = number ∧
        (t.group g).deadlines.head? = some s.ticks ∧ (t.group g).strobe = none ∧ (t.group g).armed = (s.group g).armed ∧
        (c.2 = true → s.Counts (.weirCgstat g) F.weirCgstat.stbmiss t) ∧ t.mem = s.mem ∧ t.threads = s.threads
      (s.deciding g = [] → Answers c.1 s fun t => after t ∧ s.RegsBut [.weirCgpnum g, .weirCgstat g] t ∧
        t = { s with regs := t.regs, groups := t.groups }) ∧
      (s.deciding g = [p] → s.kind p = kindLevel → s.complemented p = false →
        (s.ownCause p g c.2 = 0 → Answers c.1 s fun t => after t ∧ t.rd (.weirLast p) = s.rd (.weirStage p) ∧
          t.rd (.weirHist p) = s.rd (.weirLast p) ∧ t.fld (.weirStat p) F.weirStat.lastcause = 0 ∧
          t.fld (.weirStat p) F.weirStat.fbrun = 0 ∧ t.fld (.weirStat p) F.weirStat.valid = 0 ∧
          t.fld (.weirStat p) F.weirStat.tag = number % 256 ∧ (s.sub dom = subArmed → t.sub dom = subRun)) ∧
        (s.ownCause p g c.2 ≠ 0 → s.fld (.weirStat p) F.weirStat.valid = 0 → s.policy p = 0 → Answers c.1 s fun t =>
          after t ∧ t.rd (.weirLast p) = s.rd (.weirLast p) ∧ t.rd (.weirHist p) = s.rd (.weirLast p) ∧
          t.fld (.weirStat p) F.weirStat.lastcause = (if c.2 then 5 else 2) ∧ s.Counts (.weirStat p) F.weirStat.fbrun t ∧
          s.Counts (.weirCnt p) F.weirCnt.late t ∧ t.sub dom = s.sub dom))) ∧
    (∀ n, (s.group g).strobe = some n → s.groupLive g = true → s.byStrobe g = true →
      let st := n - s.fld (.weirCgld g) F.weirCgld.stboff
      s.ticks = st + 1 → Answers (.stageStaleDiscard g) s fun t =>
        (∀ q, q < 256 → if s.groupOf q = g ∧ s.fld (.weirStat q) F.weirStat.valid = 1 ∧ (s.weir q).acc ≤ st then
            t.fld (.weirStat q) F.weirStat.valid = 0 ∧ t.rd (.weirStage q) = 0 ∧ s.Counts (.weirCnt q) F.weirCnt.stale t
          else t.rd (.weirStat q) = s.rd (.weirStat q) ∧ t.rd (.weirStage q) = s.rd (.weirStage q) ∧
            t.rd (.weirCnt q) = s.rd (.weirCnt q)) ∧ t = { s with regs := t.regs }) ∧
    (let end_ := x.passedAt + s.fld (.weirLimp p) F.weirLimp.minpw
     s.shoreRuns = true → s.limited p = true → s.here < end_ → s.dueBy end_ = true →
      Answers (.minpwExpiry p) s fun t => (t.lane p).passed = (s.request p end_).1 ∧
        ((s.request p end_).1 ≠ x.passed → (t.lane p).passedAt = end_) ∧ t.here = end_ ∧ s.OnlyPins t) ∧
    (let end_ := x.passedAt + 32 * s.fld (.weirLimt p) F.weirLimt.maxon
     s.shoreRuns = true → s.limited p = true → s.fld (.weirLimt p) F.weirLimt.maxon ≠ 0 → x.limited = true →
      s.here ≤ end_ → s.dueBy end_ = true → Answers (.maxonExpiry p) s fun t =>
        ((∀ u, s.here ≤ u → u ≤ end_ → (s.request p u).1 = true) → (t.lane p).cut = true ∧ (t.lane p).limited = false) ∧
        t.here = end_ ∧ s.OnlyPins t) ∧
    ∀ o, (s.lane (partner p)).offAt = some o →
      let end_ := o + s.fld (.weirLimp (p / 2 * 2)) F.weirLimp.deadt
      s.shoreRuns = true → s.here ≤ end_ → s.dueBy end_ = true → Answers (.deadTimeExpiry p) s fun t =>
        (t.wantsOn p end_ = true → t.deadTimeOk p end_ = true → t.overlapOk p end_ = true → (t.lane p).grant = true) ∧
        t.here = end_ ∧ s.OnlyPins t

/-- Counters count in their mode, match, are reset and are captured (spec/08 R213, spec/08 R214, spec/08 R215, spec/08
R216, spec/08 R218, spec/08 R219, spec/08 R221, spec/08 R224, spec/08 R226, spec/08 R227, spec/01 R7). A count event
that is due moves a counter as its mode says: up or down and round at TOP, up and down between 0 and TOP, or once up
to TOP with DONE; a carry counts the next in its chain. A value that equals a compare sets its flag and fires its
producer at the next tick's start. The fabric function COUNT is a count event, RESET enters the period start, and
CNT_SNAP and SNAP capture a group's values once in a tick. -/
def Obligations.CountersCount : Prop :=
  ∀ (s : State) (w : Who) (n : Nat) (d : BitVec 32), s.Live → n < 64 →
    let v := s.count n
    let top := (s.counter n).top
    let newTop := s.fld (.cntTop n) F.cntTop.top
    let down := s.fld (.cntStat n) F.cntStat.dir
    let mode := s.fld (.cntCtrl n) F.cntCtrl.mode
    let cmpa := s.fld (.cntCmpa n) F.cntCmpa.cmp
    let cmpb := s.fld (.cntCmpb n) F.cntCmpb.cmp
    let evt := fun f => s.fld (.cntEvt n) f
    (s.chained n = true → exec (.countEvent n) s = .next s) ∧
    (s.countDue n = true → s.resetComing n = true → exec (.countEvent n) s = .next s) ∧
    (s.countDue n = true → s.resetComing n = false → n % 4 = 3 ∨ s.fld (.cntCtrl (n + 1)) F.cntCtrl.chain = 0 →
      Answers (.countEvent n) s fun t =>
        let new := match mode with
          | 0 => if v = top ∨ v = 0xFFFF then 0 else v + 1
          | 1 => if v = 0 then newTop else v - 1
          | 2 => if down = 1 ∨ top ≤ v then (if v ≤ 1 then 0 else v - 1) else (v + 1) % 0x10000
          | _ => if s.bit (.cntStat n) F.cntStat.done then v else (v + 1) % 0x10000
        t.count n = new ∧ (t.counter n).cntAt = some s.ticks ∧
        (mode = 3 → t.fld (.cntStat n) F.cntStat.done = if v + 1 = top then 1 else s.fld (.cntStat n) F.cntStat.done) ∧
        (mode = 2 → t.fld (.cntStat n) F.cntStat.dir =
          if down = 1 ∨ top ≤ v then (if v ≤ 1 then 0 else 1) else if v + 1 = top then 1 else 0) ∧
        (new ≠ v → v < 0xFFFF → new = cmpa → t.fld (.cntStat n) F.cntStat.ma = 1 ∧ .fire (.cma n) ∈ t.soon ∧
          (evt F.cntEvt.aen = 1 → .event (evt F.cntEvt.role) (evt F.cntEvt.thread) (8 + evt F.cntEvt.abit) ∈ t.soon)) ∧
        (new ≠ v → v < 0xFFFF → new = cmpb → t.fld (.cntStat n) F.cntStat.mb = 1 ∧ .fire (.cmb n) ∈ t.soon ∧
          (evt F.cntEvt.ben = 1 → .event (evt F.cntEvt.role) (evt F.cntEvt.thread) (8 + evt F.cntEvt.bbit) ∈ t.soon)) ∧
        (0 < new → (mode = 1 → 0 < v) → new ≠ cmpa → new ≠ cmpb →
          s.RegsBut [.cntCount n, .cntStat n] t ∧ t = { s with regs := t.regs, counters := t.counters })) ∧
    (let m := n + 1
     s.countDue n = true → s.resetComing n = false → mode = 0 → n % 4 ≠ 3 → s.fld (.cntCtrl m) F.cntCtrl.chain = 1 →
      Answers (.countEvent n) s fun t =>
        (v = top ∨ v = 0xFFFF → t.count n = 0 ∧ ((s.counter m).cntAt ≠ some s.ticks → s.count m ≠ (s.counter m).top →
          s.count m ≠ 0xFFFF → t.count m = s.count m + 1)) ∧
        (v ≠ top → v < 0xFFFF → t.count n = v + 1 ∧ t.count m = s.count m)) ∧
    (∀ j c, j < 16 → s.bankHolder j = some c → s.shoreRuns = true →
      let func := s.fld (.cntFabfn j) F.cntFabfn.func
      let held := (s.channel c).fnHeld.tail
      (func = 3 → ((List.range 64).filter fun m => s.fld (.cntCtrl m) F.cntCtrl.clksrc == 2 &&
          s.fld (.cntCtrl m) F.cntCtrl.clkch == j) = [n] → Answers (.fabFnCount j) s fun t =>
        t = (s.countEvent n).takeHeld c ∧ (t.channel c).fnHeld = held ∧
        (s.chained n = false → s.cntState n = 2 → (s.counter n).cntAt ≠ some s.ticks → s.resetComing n = false →
          mode = 0 → v ≠ top → v < 0xFFFF → t.count n = v + 1)) ∧
      (func = 4 → s.fld (.cntFabfn j) F.cntFabfn.tgt = n → s.chained n = false → s.cntState n = 2 →
        Answers (.fabFnReset j) s fun t => t.count n = (if mode = 1 then newTop else 0) ∧
          (t.counter n).top = newTop ∧ (t.counter n).cntAt = some s.ticks ∧ (t.channel c).fnHeld = held ∧
          (mode = 2 → t.fld (.cntStat n) F.cntStat.dir = 0) ∧
          t.fld (.cntStat n) F.cntStat.done = (if mode = 3 ∧ newTop = 0 then 1 else 0) ∧ t.cntLife n = s.cntLife n)) ∧
    let shot := fun (u : State) (g : Nat) (t : State) =>
      let h := u.countTick
      t.rd (.cntSnapv g 0) = BitVec.ofNat 16 (h.count (4 * g + 1)) ++ BitVec.ofNat 16 (h.count (4 * g)) ∧
      t.rd (.cntSnapv g 1) = BitVec.ofNat 16 (h.count (4 * g + 3)) ++ BitVec.ofNat 16 (h.count (4 * g + 2)) ∧
      t.rd (.cntSnapv g 2) = s.tickTime.extractLsb' 0 32 ∧ t.rd (.cntSnapv g 3) = s.rd (.cntSnapv g 3) + 1 ∧
      t.fld .cntSnap F.cntSnap.seq = (s.fld .cntSnap F.cntSnap.seq + 1) % 0x10000 ∧
      (t.counter (4 * g)).snapAt = some s.ticks ∧
      h.RegsBut [.cntSnapv g 0, .cntSnapv g 1, .cntSnapv g 2, .cntSnapv g 3, .cntSnap] t ∧
      t = { h with regs := t.regs, counters := t.counters }
    (s.Writer w → s.Takes (.cntSnap w d whole) w .cntSnap d false fun t =>
      let g := F.cntSnap.group.get d
      (s.shoreRuns = false ∨ (s.counter (4 * g)).snapAt = some s.ticks → t = s) ∧
      (s.shoreRuns = true → (s.counter (4 * g)).snapAt ≠ some s.ticks → shot s g t)) ∧
    ∀ j c, j < 16 → s.bankHolder j = some c → s.shoreRuns = true → s.fld (.cntFabfn j) F.cntFabfn.func = 5 →
      let g := s.fld (.cntFabfn j) F.cntFabfn.tgt % 16
      Answers (.fabFnSnap j) s fun t => ((s.counter (4 * g)).snapAt = some s.ticks → t = s.takeHeld c) ∧
        ((s.counter (4 * g)).snapAt ≠ some s.ticks → shot (s.takeHeld c) g t)

/-- Counters are enabled, started, stopped and reach ON and OFF (spec/08 R216, spec/08 R217, spec/08 R220, spec/08 R227,
spec/01 R7, spec/01 R20). EN starts a counter that is OFF, with its fields, and stops one that is ON. GO and the
fabric functions GO and START take every armed counter they name, that was in STARTING before the tick, to ON with
the count it holds; a counter without ARM reaches ON by itself, and a stop ends at OFF in the next tick. A chained
counter follows its base and has no state of its own. -/
def Obligations.CountersStartAndStop : Prop :=
  ∀ (s : State) (w : Who) (n : Nat) (d : BitVec 32), s.Live → n < 64 →
    let en := F.cntCtrl.en.get d
    let fields := [F.cntCtrl.ledge, F.cntCtrl.presc, F.cntCtrl.clklane, F.cntCtrl.clkch, F.cntCtrl.clksrc, F.cntCtrl.mode]
    (s.chained n = true → exec (.counterOn n) s = .next s ∧ exec (.counterOff n) s = .next s) ∧
    (∀ a, s.chained n = false → s.shoreRuns = true → (s.cntLife n).st = 1 → (s.counter n).onDue = some a → a ≤ s.ticks →
      Answers (.counterOn n) s fun t =>
        t.cntLife n = { s.cntLife n with st := 2 } ∧ t.count n = s.count n ∧ (t.counter n).onAt = s.ticks ∧
        ∀ m, m < 64 → m ≠ n → t.cntLife m = s.cntLife m ∧ t.count m = s.count m) ∧
    (s.chained n = false → s.shoreRuns = true → (s.cntLife n).st = 3 → (s.counter n).since < s.ticks →
      Answers (.counterOff n) s fun t =>
        ((s.cntLife n).pend = 0 → t.cntLife n = { s.cntLife n with st := 0 }) ∧
        ((s.cntLife n).pend = 1 → t.cntLife n = ⟨1, 0, (s.cntLife n).en⟩) ∧
        s.RegsBut [.cntStat n, .cntCtrl n] t ∧ t = { s with regs := t.regs, counters := t.counters }) ∧
    (s.Writer w → s.chained n = false → F.cntCtrl.domv.get d = s.fld (.cntCtrl n) F.cntCtrl.domv →
      F.cntCtrl.dom.get d = s.fld (.cntCtrl n) F.cntCtrl.dom → F.cntCtrl.chain.get d = s.fld (.cntCtrl n) F.cntCtrl.chain →
      ((s.cntLife n).st = 0 → s.Takes (.cntEnWrite w n d whole) w (.cntCtrl n) d false fun t =>
        t.cntLife n = { s.cntLife n with st := en, en := en } ∧
        (∀ f ∈ F.cntCtrl.arm :: fields, t.fld (.cntCtrl n) f = f.get d) ∧
        (en = 1 → t.counter n = { s.counter n with
          since := s.ticks, onDue := if F.cntCtrl.arm.get d = 0 then some (s.ticks + 1) else none }) ∧
        s.RegsBut [.cntStat n, .cntCtrl n] t ∧ t = { s with regs := t.regs, counters := t.counters }) ∧
      ((s.cntLife n).st = 2 → en = 0 → (∀ f ∈ fields, f.get d = s.fld (.cntCtrl n) f) →
        s.Takes (.cntEnWrite w n d whole) w (.cntCtrl n) d false fun t =>
          t.cntLife n = { s.cntLife n with st := 3, en := 0 } ∧ (t.counter n).since = s.ticks ∧ t.count n = s.count n ∧
          s.RegsBut [.cntStat n, .cntCtrl n] t ∧ t = { s with regs := t.regs, counters := t.counters })) ∧
    let started := fun (f : Nat → Bool) (t : State) =>
      (∀ m, m < 64 →
        let go := f m && !s.chained m && (s.cntLife m).st == 1 && s.bit (.cntCtrl m) F.cntCtrl.arm &&
          decide ((s.counter m).since < s.ticks)
        t.cntLife m = (if go then { s.cntLife m with st := 2 } else s.cntLife m) ∧
        (go = true → (t.counter m).onAt = s.ticks) ∧ t.count m = s.count m)
    (s.Writer w → s.Takes (.cntGo w d whole) w .cntGo d false fun t =>
      (s.shoreRuns = true → F.cntGo.go.get d = 1 → started (fun _ => true) t) ∧ (F.cntGo.go.get d = 0 → t = s)) ∧
    ∀ j c, j < 16 → s.bankHolder j = some c → s.shoreRuns = true →
      (s.fld (.cntFabfn j) F.cntFabfn.func = 1 → Answers (.fabFnGo j) s fun t =>
        started (fun _ => true) t ∧ (t.channel c).fnHeld = (s.channel c).fnHeld.tail) ∧
      (s.fld (.cntFabfn j) F.cntFabfn.func = 2 → Answers (.fabFnStart j) s fun t =>
        started (fun m => m / 4 == s.fld (.cntFabfn j) F.cntFabfn.tgt % 16) t ∧
        (t.channel c).fnHeld = (s.channel c).fnHeld.tail)

/-- Quadrature counts, the index, the compare, speed and standstill (spec/08 R231, spec/08 R232, spec/08 R233, spec/08
R234, spec/08 R235, spec/08 R237, spec/08 R238, spec/01 R7). A sampled edge of A or B moves the count by one, and
the position with a play of one; both at once are ILLEGAL. The index captures the position, after a count of the
same tick, and may load it; a write of POS_CMPV arms the compare against the position of its tick, and a count that
meets it in an enabled direction fires. SPEED goes to 0 at its timeout and is bounded as time passes. -/
def Obligations.PositionUnitsCount : Prop :=
  ∀ (s : State) (w : Who) (u : Nat) (d : BitVec 32), s.Live → u < 16 →
    let x := s.posUnit u
    let h := s.quadTick u
    (x.step = none → ∀ a b time, exec (.quadCount u a b time) s = .next s) ∧
    (∀ p q, s.unitLane u = some p → x.step = some q → s.shoreRuns = true → Answers (.quadCount u q.a q.b q.time) s fun t =>
      (t.posUnit u).a = q.a ∧ (t.posUnit u).b = q.b ∧ (t.posUnit u).step = none ∧ t.mem = s.mem ∧ t.outlet = s.outlet ∧
      (q.a ≠ x.a → q.b ≠ x.b → t.fld (.posStat u) F.posStat.illegal = 1 ∧ s.Counts (.laneErr p) F.laneErr.erra t ∧
        (t.posUnit u).raw = x.raw ∧ t.position u = s.position u ∧ s.RegsBut [.posStat u, .laneErr p] t) ∧
      (q.a = x.a → q.b = x.b → t.regs = s.regs ∧ t.position u = s.position u) ∧
      (q.a ≠ x.a ∧ q.b = x.b ∨ q.a = x.a ∧ q.b ≠ x.b →
        let down := if q.a ≠ x.a then q.a == q.b else q.a != q.b
        let r := if down then x.raw - 1 else x.raw + 1
        let gap := (r - s.position u).toInt
        let times := if s.posDown u == down && !s.bit (.posStat u) F.posStat.still then (q.at_ :: x.edges).take 9 else [q.at_]
        (t.posUnit u).raw = r ∧
        (0 < gap → t.position u = r ∧ t.fld (.posStat u) F.posStat.dir = 0) ∧
        (gap < -1 → t.position u = r + 1 ∧ t.fld (.posStat u) F.posStat.dir = 1) ∧
        (0 < gap ∨ gap < -1 → t.fld (.posStat u) F.posStat.pendrev = 0 ∧ t.fld (.posStat u) F.posStat.still = 0 ∧
          t.rd (.posLastt u) = q.time.extractLsb' 0 32 ∧ (t.posUnit u).edges = times ∧
          t.rd (.posSpeed u) = speedOf times (2 ^ s.fld (.posCtrl u) F.posCtrl.spdavg) down ∧
          s.RegsBut [.posStat u, .posSpeed u, .posLastt u] t ∧
          (s.fld (.posStat u) F.posStat.armed = 1 → t.position u = s.rd (.posCmpv u) →
            s.fld (.posCmpc u) (if down then F.posCmpc.dnen else F.posCmpc.upen) = 1 →
            t.fld (.posStat u) F.posStat.armed = 0 ∧ t.fld (.posStat u) F.posStat.match = 1 ∧ .fire (.pos u) ∈ t.soon) ∧
          (s.fld (.posStat u) F.posStat.armed = 0 → t.soon = s.soon ∧ t.threads = s.threads)) ∧
        (gap ≤ 0 → -1 ≤ gap → t.position u = s.position u ∧
          t.fld (.posStat u) F.posStat.pendrev = (if s.posDown u == down then 0 else 1) ∧ s.RegsBut [.posStat u] t))) ∧
    (s.indexDue u = true → Answers (.indexEdge u x.z) s fun t =>
      let mode := s.fld (.posCtrl u) F.posCtrl.idxmode
      let load := mode = 2 ∨ mode = 3 ∧ x.indexed = false
      t.rd (.posIdxcap u) = h.position u ∧ t.fld (.posStat u) F.posStat.idxseen = 1 ∧ (t.posUnit u).indexed = true ∧
      (t.posUnit u).index = false ∧
      (load → t.position u = s.rd (.posIdxval u) ∧ (t.posUnit u).raw = s.rd (.posIdxval u)) ∧
      (¬load → t.position u = h.position u ∧ (t.posUnit u).raw = (h.posUnit u).raw) ∧
      h.RegsBut [.posIdxcap u, .posStat u] t ∧ t = { h with regs := t.regs, posUnits := t.posUnits }) ∧
    (s.Writer w → s.Takes (.posCompareArm w u d whole) w (.posCmpv u) d false fun t =>
      let gap := (d - h.position u).toInt
      t.rd (.posCmpv u) = d ∧ t.fld (.posStat u) F.posStat.armed = 1 ∧ t.fld (.posStat u) F.posStat.match = 0 ∧
      t.bit (.posStat u) F.posStat.behindAtArm = (if h.posDown u then decide (0 < gap) else decide (gap < 0)) ∧
      h.OnlyRegs [.posCmpv u, .posStat u] t) ∧
    ∀ e, s.sinceEdge u = some e → s.shoreRuns = true → (s.unitLane u).isSome = true →
      (s.fld (.posTmo u) F.posTmo.speedTimeout ≠ 0 → s.fld (.posTmo u) F.posTmo.speedTimeout * 8192 ≤ e →
        s.bit (.posStat u) F.posStat.still = false → Answers (.speedTimeout u) s fun t =>
          t.rd (.posSpeed u) = 0 ∧ t.fld (.posStat u) F.posStat.still = 1 ∧ s.OnlyRegs [.posSpeed u, .posStat u] t) ∧
      (e ≠ 0 → Answers (.speedLimitDecay u) s fun t =>
        let m : Int := (roundDiv stepsPerSecond e : Nat)
        (t.rd (.posSpeed u)).toInt = max (-m) (min m (s.rd (.posSpeed u)).toInt) ∧ s.OnlyRegs [.posSpeed u] t)

/-- Samples, windows, reads and life-cycles of inlets (spec/09 R241, spec/09 R243, spec/09 R244, spec/09 R245, spec/09
R247, spec/09 R248, spec/09 R251, spec/01 R7, spec/01 R20). A strobe takes a sample, or DROP where it comes within
four ticks of the last; a sample outside the window sets WINHIT and counts. The sample enters its register two ticks
later, with OVR over an unread one and the thread event; a read of INL_DATA releases it, and in the tick of an entry
returns what stood before. EN starts and stops an inlet, each in four ticks. -/
def Obligations.InletsTakeSamples : Prop :=
  ∀ (s : State) (w : Who) (n : Nat) (d : BitVec 32), s.Live → n < 64 →
    let y := s.inlet n
    let en := F.inlCtrl.en.get d
    (∀ data tag step, n < 32 → step < 32 →
      let at_ := s.stepAt step
      (s.inlOn n = false → exec (.inletStrobe n data tag step) s = .next s) ∧
      (s.inlOn n = true → s.shoreRuns = true → (∀ l, y.lastEdge = some l → l + 128 ≤ at_) →
        (∀ g, g < 32 → s.fld (.weirCgctl g) F.weirCgctl.inl ≠ n) →
        (s.fld (.inlCtrl n) F.inlCtrl.winen = 0 → Answers (.inletStrobe n data tag step) s fun t =>
          t.inlet n = { y with lastEdge := some at_,
                               waiting := y.waiting ++ [⟨data, tag % 64, s.timeAt at_, s.ticks + 2⟩] } ∧
          (∀ m, m ≠ n → t.inlet m = s.inlet m) ∧ ({ s with inlets := t.inlets } : State).OnlyPins t) ∧
        (s.fld (.inlCtrl n) F.inlCtrl.winen = 1 → s.fld (.inlCtrl n) F.inlCtrl.tagen = 0 →
          s.fld (.inlCtrl n) F.inlCtrl.signed = 0 → s.fld (.inlWin n) F.inlWin.hi < data.toNat →
          Answers (.inletStrobe n data tag step) s fun t =>
            t.fld (.inlStat n) F.inlStat.winhit = 1 ∧ t.fld (.inlStat n) F.inlStat.winside = 1 ∧
            s.Counts (.inlCnt n) F.inlCnt.wincnt t ∧ (t.inlet n).lastEdge = some at_)) ∧
      (∀ l, s.inlOn n = true → s.shoreRuns = true → y.lastEdge = some l → at_ < l + 128 →
        Answers (.inletStrobe n data tag step) s fun t => s.Counts (.inlCnt n) F.inlCnt.drop t ∧ s.OnlyRegs [.inlCnt n] t) ∧
      (s.shoreRuns = false → s.fld (.inlCtrl n) F.inlCtrl.winen = 0 → exec (.inletStrobe n data tag step) s = .next s)) ∧
    (∀ z l, y.waiting = z :: l → z.due ≤ s.ticks → s.shoreRuns = true → s.bit .outCtrl F.outCtrl.trcen = false →
      Answers (.sampleEntry n) s fun t =>
        t.fld (.inlData n) F.inlData.data = z.data.toNat ∧ t.fld (.inlData n) F.inlData.tag = z.tag % 64 ∧
        t.fld (.inlData n) F.inlData.ready = 1 ∧ t.rd (.inlTime n) = z.time.extractLsb' 0 32 ∧
        (s.fld (.inlData n) F.inlData.ready = 1 → t.fld (.inlData n) F.inlData.ovr = 1 ∧ s.Counts (.inlCnt n) F.inlCnt.ovrcnt t) ∧
        (s.fld (.inlData n) F.inlData.ready = 0 → t.fld (.inlData n) F.inlData.ovr = s.fld (.inlData n) F.inlData.ovr ∧
          t.rd (.inlCnt n) = s.rd (.inlCnt n)) ∧
        t.inlet n = { y with waiting := l, entered := (t.inlet n).entered } ∧
        s.RegsBut [.inlData n, .inlTime n, .inlCnt n] t ∧
        t = { s with regs := t.regs, inlets := t.inlets, threads := t.threads } ∧
        (s.fld (.inlCtrl n) F.inlCtrl.even = 0 → t.threads = s.threads) ∧
        ∀ k, s.fld (.inlCtrl n) F.inlCtrl.even = 1 → s.takingOver (s.fld (.inlCtrl n) F.inlCtrl.role) = false →
          s.engineOf (s.fld (.inlCtrl n) F.inlCtrl.role) = some k →
          t.threads = (s.modThread k (s.fld (.inlCtrl n) F.inlCtrl.thread) fun z =>
            Thread.waitTest { z with evt := z.evt ||| evtBit (4 + s.fld (.inlCtrl n) F.inlCtrl.ebit) }).threads) ∧
    (s.enteredNow n = none → Answers (.inletDataRead w n whole) s fun t =>
      t.rdata = s.rd (.inlData n) ∧ t.fld (.inlData n) F.inlData.ready = 0 ∧ t.fld (.inlData n) F.inlData.ovr = 0 ∧
      t.fld (.inlData n) F.inlData.data = s.fld (.inlData n) F.inlData.data ∧ t.rd (.inlRtime n) = s.rd (.inlTime n) ∧
      s.RegsBut [.inlData n, .inlRtime n] t ∧ t = { s with regs := t.regs, rdata := t.rdata }) ∧
    (∀ e, s.enteredNow n = some e → Answers (.inletDataRead w n whole) s fun t =>
      t.rdata = e.data ∧ t.fld (.inlData n) F.inlData.ready = s.fld (.inlData n) F.inlData.ready ∧
      t.fld (.inlData n) F.inlData.ovr = 0 ∧ t.fld (.inlData n) F.inlData.data = s.fld (.inlData n) F.inlData.data ∧
      t.rd (.inlRtime n) = e.time ∧ s.RegsBut [.inlData n, .inlCnt n, .inlRtime n] t) ∧
    (s.Writer w → F.inlCtrl.domv.get d = s.fld (.inlCtrl n) F.inlCtrl.domv →
      F.inlCtrl.dom.get d = s.fld (.inlCtrl n) F.inlCtrl.dom →
      let thread := [F.inlCtrl.even, F.inlCtrl.role, F.inlCtrl.thread, F.inlCtrl.ebit]
      let window := [F.inlCtrl.tmask, F.inlCtrl.tval, F.inlCtrl.tagen, F.inlCtrl.signed, F.inlCtrl.winen]
      ((s.inlLife n).st = 0 → s.inlLocked n = false → s.Takes (.inlEnWrite w n d whole) w (.inlCtrl n) d false fun t =>
        t.inlLife n = { s.inlLife n with st := en, en := en } ∧
        (∀ f ∈ thread ++ window, t.fld (.inlCtrl n) f = f.get d) ∧
        (en = 1 → t.inlet n = { y with since := s.ticks, sinc := .init, owed := false, entered := none } ∧
          t.fld (.inlData n) F.inlData.ready = 0 ∧ t.fld (.inlData n) F.inlData.ovr = 0) ∧
        s.RegsBut [.inlCtrl n, .inlStat n, .inlData n] t ∧ t = { s with regs := t.regs, inlets := t.inlets }) ∧
      ((s.inlLife n).st = 2 → en = 0 → (∀ f ∈ thread ++ window, f.get d = s.fld (.inlCtrl n) f) →
        s.Takes (.inlEnWrite w n d whole) w (.inlCtrl n) d false fun t =>
          t.inlLife n = { s.inlLife n with st := 3, en := 0 } ∧ t.inlet n = { y with since := s.ticks } ∧
          s.RegsBut [.inlCtrl n, .inlStat n] t ∧ t = { s with regs := t.regs, inlets := t.inlets })) ∧
    (s.shoreRuns = true → (s.inlLife n).pend = 0 → y.since + 4 ≤ s.ticks →
      ((s.inlLife n).st = 1 → Answers (.inletStartDone n) s fun t => t.inlLife n = { s.inlLife n with st := 2 } ∧
        s.RegsBut [.inlStat n, .inlCtrl n] t ∧ t = { s with regs := t.regs, inlets := t.inlets }) ∧
      ((s.inlLife n).st = 3 → Answers (.inletStopDone n) s fun t => t.inlLife n = { s.inlLife n with st := 0 } ∧
        s.RegsBut [.inlStat n, .inlCtrl n] t ∧ t = { s with regs := t.regs, inlets := t.inlets }))

/-- An event passes its channel to the consumer (spec/10 R255, spec/10 R256, spec/10 R257, spec/10 R259, spec/10 R261,
spec/10 R263, spec/10 R264, spec/10 R265, spec/10 R267, spec/10 R268, spec/10 R269, spec/10 R273). An event input
that rises, through an enabled tap and an open gate, or an injection at the next tick's start, passes a channel out
of refractory time, and its consumer acts (stated where no other channel has anything to pass). In refractory time
one edge is kept, and any further one is lost and sets MERGE; the 65th event of a loop window stops a channel with
RING_STOP. The combined level, and an event output in LEVEL mode, follow the falls of an input and the writes of
FAB_CH. -/
def Obligations.FabricPassesEvents : Prop :=
  ∀ (s : State) (w : Who) (c : Nat) (d : BitVec 32), s.Live → c < 136 → s.Alone c →
    let x := s.channel c
    (∀ tap j held step, tapEvin (s.rowOf c) tap = some j → s.connected c = true →
      (s.evinLevel j = true → exec (.channelEvent c tap ⟨held, step⟩) s = .next s) ∧
      (tap < 4 → step < 32 → s.evinLevel j = false → (s.fld (.fabCh c) F.fabCh.tapen).testBit tap = true →
        s.gateOpen c = true → s.combined c = false → x.high = false → Answers (.channelEvent c tap ⟨held, step⟩) s fun t =>
          s.Meets c (s.stepAt step) held t ∧ t.evinLevel j = held) ∧
      (s.evinLevel j = true → x.refr = false → x.high = s.combined c → Answers (.channelLevelFall ⟨c, tap⟩) s fun t =>
        t.evinLevel j = false ∧ (∀ i, i < 64 → i ≠ j → t.evinLevel i = s.evinLevel i) ∧
        (t.channel c).high = t.combined c ∧ t.regs = s.regs ∧
        (∀ m, m < 16 → t.ports.evout.getLsbD m =
          if s.levelOut c = some m then t.combined c else s.ports.evout.getLsbD m) ∧
        t = { s with ports := t.ports, channels := t.channels })) ∧
    (s.Writer w → F.fabFire.ch.get d < 136 →
      exec (.fabFire w d whole) s = .next (if s.shoreRuns then s.later (.inject (F.fabFire.ch.get d)) else s)) ∧
    (∀ k, s.chanOf k = c → s.Meets c s.now x.high (s.injectEvent k)) ∧
    ∀ k, k < 136 → s.chanOf k = c → s.Writer w → x.refr = false → Answers (.fabChWrite w k d whole) s fun t =>
      (∀ f ∈ (Reg.fabCh c).fields, t.fld (.fabCh c) f = f.get d) ∧ (t.channel c).high = t.combined c ∧
      (∀ m, t.levelOut c = some m → t.ports.evout.getLsbD m = t.combined c) ∧
      (t.combined c = false ∨ x.high = true → s.RegsBut [.fabCh c] t ∧
        t = { s with regs := t.regs, ports := t.ports, channels := t.channels }) ∧
      (t.combined c = true → x.high = false → F.fabCh.lsus.get d = 0 → F.fabCh.wakeEn.get d = 0 →
        s.bit .outCtrl F.outCtrl.trcen = false → (t.channel c).refr = true ∧
        t.fld (.fabCst c) F.fabCst.passcnt = (s.fld (.fabCst c) F.fabCst.passcnt + 1) % 0x10000)

/-- Wakes are delivered, pulses, refractory times and loop windows end, trips are released, spares stand in (spec/10
R258, spec/10 R262, spec/10 R263, spec/10 R265, spec/10 R268, spec/10 R269, spec/10 R270, spec/10 R272, spec/01 R7).
A pending wake sets WAKEj in every thread of the engine that holds its role ON and accepts it. An evout pulse ends
after its ticks. A refractory time ends, and an edge kept in it passes. A loop window ends with its count at zero. A
trip release waits for the next tick's start, and clears the trip unless the channel is high, which sets RELREF. A
spare takes its target's configuration, and replaces it 17 ticks later. -/
def Obligations.FabricTimesEnd : Prop :=
  ∀ (s : State) (w : Who) (c : Nat) (d : BitVec 32), s.Live → c < 136 →
    let x := s.channel c
    let row := s.rowOf c
    let role := (row - 64) / 4
    (64 ≤ row → row < 96 → x.wpend = true →
      (s.wakeAccepts role = none → exec (.wakeDelivery c) s = .next s) ∧
      ∀ e, s.engineOn role = some e → s.takingOver role = false → s.asleep = false →
        s.fld .engFstat F.engFstat.swap = 0 ∨ s.cont.rollRole ≠ role → Answers (.wakeDelivery c) s fun t =>
          t.channel c = { x with wpend := false } ∧ (∀ c', c' ≠ c → t.channel c' = s.channel c') ∧
          (∀ u, u < 32 → t.thread e u =
            Thread.waitTest { s.thread e u with evt := (s.thread e u).evt ||| evtBit ((row - 64) % 4) }) ∧
          (∀ e' u, u < 32 → e' ≠ e → t.thread e' u = s.thread e' u) ∧
          t = { s with channels := t.channels, threads := t.threads }) ∧
    (∀ m, m < 16 →
      let k := s.chanOf (112 + m)
      s.fld (.fabCh k) F.fabCh.omode = 0 ∨ s.fld (.fabCh k) F.fabCh.omode = 3 → s.ports.evout.getLsbD m = true →
      s.shoreRuns = false ∨ (s.channel k).pulseEnd ≤ s.ticks ∧ (s.channel (112 + m)).pulseEnd ≤ s.ticks →
      Answers (.evoutPulseEnd m) s fun t => t.ports = { s.ports with evout := t.ports.evout } ∧
        (∀ j, j < 16 → t.ports.evout.getLsbD j = if j = m then false else s.ports.evout.getLsbD j) ∧
        t = { s with ports := t.ports }) ∧
    (x.refr = true → s.shoreRuns = false ∨ s.refrOver c (s.now + 31) = true →
      (x.edge = false ∨ s.connected c = false → Answers (.refractoryEnd c) s fun t =>
        t.channel c = { x with refr := false, edge := false } ∧ (∀ c', c' ≠ c → t.channel c' = s.channel c') ∧
        t = { s with channels := t.channels }) ∧
      (x.edge = true → s.connected c = true → s.Alone c → s.stopped c = false → s.fld (.fabCh c) F.fabCh.lsus = 0 →
        s.fld (.fabCh c) F.fabCh.wakeEn = 0 → s.bit .outCtrl F.outCtrl.trcen = false → Answers (.refractoryEnd c) s fun t =>
          t.fld (.fabCst c) F.fabCst.passcnt = (s.fld (.fabCst c) F.fabCst.passcnt + 1) % 0x10000 ∧
          (t.channel c).refr = true ∧ (t.channel c).edge = false)) ∧
    (s.shoreRuns = false ∨ x.winNo ≠ s.windowNo → Answers (.loopWindowEnd c) s fun t =>
      t.channel c = { x with window := 0, winNo := s.windowNo } ∧ (∀ c', c' ≠ c → t.channel c' = s.channel c') ∧
      t = { s with channels := t.channels }) ∧
    (∀ k i, k < 2 → i < 32 → s.Writer w → d = BitVec.ofNat 32 (2 ^ i) →
      exec (.tripRelease w k d whole) s =
        .next (if s.shoreRuns && s.tripped (32 * k + i) then s.later (.release (32 * k + i)) else s)) ∧
    (∀ g, g < 64 → s.tripped g = true →
      let t := s.releaseTrip g
      let k := s.chanOf g
      (s.combined k = false → (∀ j, j < 64 → t.tripped j = if j = g then false else s.tripped j) ∧
        s.RegsBut [.fabTrip (g / 32)] t) ∧
      (s.combined k = true → (∀ j, j < 64 → t.tripped j = s.tripped j) ∧ t.fld (.fabCst k) F.fabCst.relref = 1 ∧
        s.RegsBut [.fabCst k] t) ∧ ({ s with regs := t.regs } : State).OnlyPins t) ∧
    (∀ n, n < 8 → s.Writer w → s.fld (.fabSpmap n) F.fabSpmap.en = 0 → F.fabSpmap.en.get d = 1 →
      let tgt := F.fabSpmap.tgt.get d
      (s.shoreRuns = true → s.spareFor tgt = none → Answers (.spareStandIn w n d whole) s fun t =>
        t.fld (.fabSpmap n) F.fabSpmap.en = 1 ∧ t.fld (.fabSpmap n) F.fabSpmap.tgt = tgt ∧
        t.rd (.fabCh (128 + n)) = s.rd (.fabCh tgt) ∧
        t.channel (128 + n) = { s.channel (128 + n) with standAt := s.ticks, high := (s.channel tgt).high } ∧
        (∀ c', c' ≠ 128 + n → t.channel c' = s.channel c') ∧ s.RegsBut [.fabSpmap n, .fabCh (128 + n)] t ∧
        t = { s with regs := t.regs, channels := t.channels }) ∧
      (s.shoreRuns = false ∨ (s.spareFor tgt).isSome = true →
        exec (.spareStandIn w n d whole) s = .next (s.violate w 3 (Reg.fabSpmap n).key true))) ∧
    ∀ n, n < 8 → s.shoreRuns = true → s.fld (.fabSpmap n) F.fabSpmap.en = 1 → s.fld (.fabSpmap n) F.fabSpmap.active = 0 →
      (s.channel (128 + n)).standAt + 17 ≤ s.ticks → Answers (.standInComplete n) s fun t =>
        let tgt := s.fld (.fabSpmap n) F.fabSpmap.tgt
        t.fld (.fabSpmap n) F.fabSpmap.active = 1 ∧ t.fld (.fabCst tgt) F.fabCst.replaced = 1 ∧ t.connected tgt = false ∧
        s.OnlyRegs [.fabSpmap n, .fabCst tgt] t

/-- A slot changes hands, drains, goes to rest and wakes, with its retention handshake (spec/11 R291, spec/11 R292,
spec/11 R305, spec/11 R306, spec/12 R334, spec/12 R335, spec/16 R451). A write of MEM_BCTL hands the slot over where
OWNER differs (PREV keeps the old owner, HANDOVER is set, and the new owner is the slot's from the next tick) and
requests its life-cycle by EN, latched while the slot is under migration; the drain clears HANDOVER; an access wakes
a slot with AUTO_WAKE set and counts the wake of an OFF slot. The acknowledges end STOPPING at OFF and STARTING at
ON, or turn round where the opposite request is latched; that of the Tarn stays while SLEEP holds it. ret_req
follows STOPPING and STARTING, and a background test of the bank goes to RESTORE in STOPPING; every other register
stays. -/
def Obligations.SlotsChangeHandsAndRest : Prop :=
  ∀ (s : State) (w : Who) (n : Nat) (d : BitVec 32), s.Live → n < 32 →
    let r := Reg.memBctl n
    let phys := s.fld (.memBstat n) F.memBstat.phys
    let life := s.bankLife n
    let held := s.migrating n && life.st == 2
    let follows := fun t : State => ∀ q, q < 35 → t.ports.retReq.getLsbD q =
      if q = phys then (match (t.bankLife n).st with
        | 3 => s.ports.retReq.getLsbD q || !s.slotBusy n
        | 1 => false
        | _ => s.ports.retReq.getLsbD q) else s.ports.retReq.getLsbD q
    (∀ c ∈ [Instr.ownerHandover w n d whole, .bankEnWrite w n d whole], s.Writer w →
      (s.bit (.memBstat n) F.memBstat.handover = false ∨ F.memBctl.owner.get d = s.fld r F.memBctl.owner) →
      Answers c s fun t =>
        t.fld r F.memBctl.owner = F.memBctl.owner.get d ∧ t.fld r F.memBctl.autoWake = F.memBctl.autoWake.get d ∧
        (F.memBctl.owner.get d ≠ s.fld r F.memBctl.owner →
          t.fld (.memBstat n) F.memBstat.prev = s.fld r F.memBctl.owner ∧ t.fld (.memBstat n) F.memBstat.handover = 1) ∧
        (F.memBctl.owner.get d = s.fld r F.memBctl.owner → ∀ f ∈ [F.memBstat.prev, F.memBstat.handover],
          t.fld (.memBstat n) f = s.fld (.memBstat n) f) ∧
        t.bankLife n = (if held then ⟨2, 1 - F.memBctl.en.get d, F.memBctl.en.get d⟩ else life.request (F.memBctl.en.get d)) ∧
        t.fld (.memBstat n) F.memBstat.phys = phys ∧ follows t ∧
        t.slotOwner n = (if F.memBctl.owner.get d = s.fld r F.memBctl.owner then s.slotOwner n
          else if s.shoreRuns then s.fld r F.memBctl.owner else F.memBctl.owner.get d) ∧
        (F.memBctl.owner.get d ≠ s.fld r F.memBctl.owner →
          ({ t with ticks := s.ticks + 1 } : State).slotOwner n = F.memBctl.owner.get d) ∧
        s.TestYields n t ∧ s.RegsBut [r, .memBstat n, .memBgtstat] t ∧
        t = { s with regs := t.regs, ports := { s.ports with retReq := t.ports.retReq },
                     integ := { s.integ with bgtAgain := t.integ.bgtAgain, handed := t.integ.handed } }) ∧
    (s.bit (.memBstat n) F.memBstat.handover = true → s.oldBusy n = false →
      Answers (.handoverDrainComplete n) s fun t => t.fld (.memBstat n) F.memBstat.handover = 0 ∧ t.bankLife n = life ∧
        (∀ f ∈ [F.memBstat.phys, F.memBstat.prev], t.fld (.memBstat n) f = s.fld (.memBstat n) f) ∧
        s.OnlyRegs [.memBstat n] t) ∧
    (s.bit r F.memBctl.autoWake = true → (life.st = 0 ∨ life.st = 3) → Answers (.autoWake n) s fun t =>
      t.bankLife n = (if life.st = 0 then { life with st := 1, en := 1 } else ⟨3, 1, 1⟩) ∧ follows t ∧
      t.fld (.memBconf n) F.memBconf.wakes =
        (if life.st = 0 then satInc 16 (s.fld (.memBconf n) F.memBconf.wakes) else s.fld (.memBconf n) F.memBconf.wakes) ∧
      t.fld (.memBconf n) F.memBconf.conflict = s.fld (.memBconf n) F.memBconf.conflict ∧
      s.TestYields n t ∧ s.RegsBut [r, .memBstat n, .memBconf n, .memBgtstat] t ∧
      t = { s with regs := t.regs, ports := { s.ports with retReq := t.ports.retReq },
                   integ := { s.integ with bgtAgain := t.integ.bgtAgain } }) ∧
    (∀ b, b < 34 → s.slotOfBank b = some n →
      (s.ports.retReq.getLsbD b = true → s.ports.retAck.getLsbD b = false → life.st = 3 →
        Answers (.retAckRise b) s fun t =>
          t.bankLife n = (if life.pend = 1 then ⟨1, 0, life.en⟩ else { life with st := 0 }) ∧
          t.ports.retReq.getLsbD b = (life.pend == 0) ∧
          (∀ q, q < 35 → t.ports.retAck.getLsbD q = (s.ports.retAck.getLsbD q || q == b)) ∧
          (∀ q, q < 35 → q ≠ b → t.ports.retReq.getLsbD q = s.ports.retReq.getLsbD q) ∧
          s.RegsBut [r, .memBstat n] t ∧
          t = { s with regs := t.regs, ports := { s.ports with retReq := t.ports.retReq, retAck := t.ports.retAck } }) ∧
      (s.ports.retReq.getLsbD b = false → s.ports.retAck.getLsbD b = true → life.st = 1 →
        Answers (.retAckFall b) s fun t =>
          t.bankLife n = (if life.pend = 1 then ⟨3, 0, life.en⟩ else { life with st := 2 }) ∧
          t.ports.retReq.getLsbD b = (life.pend == 1 && !s.slotBusy n) ∧
          (∀ q, q < 35 → t.ports.retAck.getLsbD q = (s.ports.retAck.getLsbD q && q != b)) ∧
          (∀ q, q < 35 → q ≠ b → t.ports.retReq.getLsbD q = s.ports.retReq.getLsbD q) ∧
          s.TestYields n t ∧ s.RegsBut [r, .memBstat n, .memBgtstat] t ∧
          t = { s with regs := t.regs, ports := { s.ports with retReq := t.ports.retReq, retAck := t.ports.retAck },
                       integ := { s.integ with bgtAgain := t.integ.bgtAgain } })) ∧
    (s.ports.retReq.getLsbD 34 = false → s.ports.retAck.getLsbD 34 = true → s.slotOfBank 34 = none →
      Answers (.retAckFall 34) s fun t => t.ports.retAck.getLsbD 34 = false ∧
        t = { s with ports := { s.ports with retAck := t.ports.retAck } }) ∧
    (s.ports.retReq.getLsbD 34 = true → s.ports.retAck.getLsbD 34 = false → Answers (.retAckRise 34) s fun t =>
      t.ports.retAck.getLsbD 34 = true ∧ t.ports.retReq.getLsbD 34 = (s.power.stage != 0 || (s.asleep && !s.power.waking)) ∧
      t = { s with ports := { s.ports with retReq := t.ports.retReq, retAck := t.ports.retAck } })

/-- Write-backs, buckets, the log, pages, migration, cleared words and the background test (spec/12 R315, spec/12 R316,
spec/12 R324, spec/12 R327, spec/12 R328, spec/12 R329, spec/12 R330, spec/12 R331, spec/12 R332, spec/12 R333,
spec/12 R336, spec/12 R338). A corrected word is written back, an uncorrectable one takes the poison code, a bucket
leaks where it is due, a written 1 frees a log entry (an error of the same tick is logged again), an accepted entry
removes a page from the next tick or starts its copy, an accepted migration runs to PHYS = DST with its old spare
out of service, MEM_CLRW zeroes a word, and a region of the background test is chosen, saved, marched with its
failures counted and recorded, and restored. A copied word arrives clean, or as the poison code; every other word,
register and unit stays, but what the reads of bad words count. -/
def Obligations.WordsAreRepairedRetiredAndTested : Prop :=
  ∀ (s : State) (w : Who) (d : BitVec 32), s.Live →
    let arrives := fun (src dst : Nat) (t : State) => match s.decodeWord src with
      | (.clean, x) => t.word dst = x ∧ t.syn dst = 0
      | (.corrected, x) => t.word dst = x ∧ t.syn dst = 0
      | _ => t.word dst = 0 ∧ t.syn dst = poisonSyn dst
    let same := fun (q : Nat) (t : State) => t.word q = s.word q ∧ t.syn q = s.syn q
    let bgt := s.fld .memBgtstat F.memBgtstat.state
    let bank := s.fld .memBgtstat F.memBgtstat.bank
    let region := s.fld .memBgtstat F.memBgtstat.region
    let home := bankWord bank (32 * region)
    (∀ k, (s.decodeWord k).1 = .corrected → Answers (.correctedWriteback k) s fun t =>
      s.Stored k [(s.decodeWord k).2] t ∧ t = { s with mem := t.mem, chk := t.chk }) ∧
    (∀ k, (s.decodeWord k).1 = .uncorrectable → Answers (.poisonRewrite k) s fun t =>
      t.word k = 0 ∧ t.syn k = poisonSyn k ∧ (∀ q, q ≠ k → same q t) ∧ t = { s with mem := t.mem, chk := t.chk }) ∧
    (∀ b, b < 54 → s.leakDue b = true → Answers (.bucketLeak b) s fun t =>
      t.fld (.memLb b) F.memLb.level = s.fld (.memLb b) F.memLb.level - 1 ∧ t.leakDue b = false ∧
      (∀ f ∈ [F.memLb.hit, F.memLb.k, F.memLb.thresh], t.fld (.memLb b) f = s.fld (.memLb b) f) ∧
      s.RegsBut [.memLb b] t ∧ t = { s with regs := t.regs, integ := { s.integ with leaks := t.integ.leaks } }) ∧
    (s.Writer w → (s.shoreRuns = true → ∀ i x, i < 32 → d.getLsbD i = true → s.logEntry i = some x → s.logNow x = []) →
      Answers (.logEntryFree w d whole) s fun t =>
        t.rd .memLogv = s.rd .memLogv &&& ~~~d ∧
        (∀ i, i < 32 → t.logEntry i = if (d &&& s.rd .memLogv).getLsbD i then none else s.logEntry i) ∧
        s.RegsBut [.memLogv] t ∧ t = { s with regs := t.regs, integ := { s.integ with log := t.integ.log } }) ∧
    (∀ i x sr sc, i < 32 → s.Writer w → s.shoreRuns = true → d = 1#32 <<< i → s.rd .memLogv = d →
      s.logEntry i = some x → s.logNow x = [(sr, sc)] → Answers (.logEntryFree w d whole) s fun t =>
        t.rd .memLogv = 1 ∧ ∃ y, t.logEntry 0 = some y ∧ y.bank = x.bank ∧ y.word = x.word ∧ y.count = 1 ∧
          y.sr = sr ∧ y.sc = sc ∧ y.first = s.tickTime ∧ y.last = s.tickTime) ∧
    (∀ i, i < 256 → ∀ c ∈ [Instr.pageRemap w i d whole, .pageRemove w i d whole], s.Writer w →
      let r := Reg.memRetire i
      let slot := F.memRetire.slot.get d
      let page := F.memRetire.page.get d
      let valid := F.memRetire.valid.get d == 1
      let remap := F.memRetire.remap.get d == 1
      s.bit r F.memRetire.valid = false →
      (valid = true → ∀ j, j < 256 → s.bit (.memRetire j) F.memRetire.valid = true →
        ¬(s.fld (.memRetire j) F.memRetire.slot = slot ∧ s.fld (.memRetire j) F.memRetire.page = page) ∧
        (remap = true → s.bit (.memRetire j) F.memRetire.remap = true →
          ¬(s.fld (.memRetire j) F.memRetire.sb = F.memRetire.sb.get d ∧
            s.fld (.memRetire j) F.memRetire.spage = F.memRetire.spage.get d))) →
      (valid = true → remap = true → s.spare (F.memRetire.sb.get d) < 2 ∧ s.copierBusy = false) →
      Answers c s fun t =>
        (∀ f ∈ [F.memRetire.valid, F.memRetire.remap, F.memRetire.sb, F.memRetire.spage, F.memRetire.slot, F.memRetire.page],
          t.fld r f = f.get d) ∧
        (valid = true → ∀ k, k < 512 →
          t.slotPhys slot (512 * page + k) =
            (if remap || s.shoreRuns then some (bankWord (s.fld (.memBstat slot) F.memBstat.phys) (512 * page + k)) else none) ∧
          ({ t with ticks := s.ticks + 1 } : State).slotPhys slot (512 * page + k) =
            (if remap then some (bankWord (s.fld (.memBstat slot) F.memBstat.phys) (512 * page + k)) else none)) ∧
        (valid = true → remap = true → t.fld r F.memRetire.copy = 1 ∧ t.fld .memMigstat F.memMigstat.state = 1 ∧
          s.RegsBut [r, .memMigstat, .memBgtstat] t ∧
          t = { s with regs := t.regs, integ := { s.integ with copying := some i, bgtAgain := t.integ.bgtAgain } }) ∧
        ((valid && remap) = false → s.RegsBut [r] t ∧
          t = { s with regs := t.regs, integ := { s.integ with removed := t.integ.removed } })) ∧
    (∀ i, s.integ.copying = some i → s.integ.bgtSaved = none →
      let r := Reg.memRetire i
      let sb := s.fld r F.memRetire.sb
      let src := bankWord (s.fld (.memBstat (s.fld r F.memRetire.slot)) F.memBstat.phys) (512 * s.fld r F.memRetire.page)
      let dst := bankWord (32 + sb) (512 * s.fld r F.memRetire.spage)
      i < 256 → Answers .pageCopyDone s fun t =>
        (∀ k, k < 512 → arrives (src + k) (dst + k) t) ∧ (∀ q, q < dst ∨ dst + 512 ≤ q → same q t) ∧
        t.fld r F.memRetire.copy = 0 ∧ t.fld .memMigstat F.memMigstat.state = 0 ∧ t.fld .memIstat F.memIstat.retdone = 1 ∧
        t.spare sb = (if s.spare sb = 0 then 1 else s.spare sb) ∧ t.integ.copying = none ∧
        t = { s with regs := t.regs, mem := t.mem, chk := t.chk, integ := t.integ, outlet := t.outlet } ∧
        ((∀ k, k < 512 → (s.decodeWord (src + k)).1 = .clean) →
          s.RegsBut [r, .memMigstat, .memIstat, .memSpstat] t ∧ t.outlet = s.outlet)) ∧
    (s.Writer w → F.memMigctl.go.get d = 1 → s.copierBusy = false →
      s.fld (.memBstat (F.memMigctl.src.get d)) F.memBstat.state = 2 → s.spare (F.memMigctl.dst.get d) = 0 →
      Answers (.migrationStart w d whole) s fun t =>
        (∀ f ∈ [F.memMigctl.go, F.memMigctl.src, F.memMigctl.dst], t.fld .memMigctl f = f.get d) ∧
        t.fld .memMigstat F.memMigstat.state = 2 ∧ s.RegsBut [.memMigctl, .memMigstat, .memBgtstat] t ∧
        t = { s with regs := t.regs, integ := { s.integ with bgtAgain := t.integ.bgtAgain } }) ∧
    (s.fld .memMigstat F.memMigstat.state = 2 → s.integ.bgtSaved = none →
      let n := s.fld .memMigctl F.memMigctl.src
      let dst := s.fld .memMigctl F.memMigctl.dst
      let old := s.fld (.memBstat n) F.memBstat.phys
      old < 34 → old ≠ 32 + dst → Answers .migrationDone s fun t =>
        (∀ a, a < 16384 → s.retireOf n (a / 512) = none →
          arrives (bankWord old a) (bankWord (32 + dst) a) t ∧ t.slotPhys n a = some (bankWord (32 + dst) a)) ∧
        (∀ q, q < bankWord (32 + dst) 0 ∨ bankWord (33 + dst) 0 ≤ q → same q t) ∧
        (∀ a, a < 16384 → s.retireOf n (a / 512) ≠ none → same (bankWord (32 + dst) a) t) ∧
        t.fld (.memBstat n) F.memBstat.phys = 32 + dst ∧ t.spare dst = 2 ∧ (32 ≤ old → t.spare (old - 32) = 3) ∧
        t.fld .memMigctl F.memMigctl.go = 0 ∧ t.fld .memMigstat F.memMigstat.state = 0 ∧
        t.fld .memIstat F.memIstat.migdone = 1 ∧
        t.bankLife n = (if (s.bankLife n).st = 2 ∧ (s.bankLife n).pend = 1 then ⟨3, 0, (s.bankLife n).en⟩ else s.bankLife n) ∧
        t = { s with regs := t.regs, mem := t.mem, chk := t.chk, integ := t.integ, outlet := t.outlet, ports := t.ports } ∧
        ((∀ a, a < 16384 → (s.decodeWord (bankWord old a)).1 = .clean) →
          s.RegsBut [.memBstat n, .memBctl n, .memSpstat, .memMigctl, .memMigstat, .memIstat, .memBgtstat] t ∧
          t.outlet = s.outlet ∧ t.integ = { s.integ with bgtAgain := t.integ.bgtAgain })) ∧
    (∀ k, s.Writer w → s.clearTarget (8 * F.memClrw.addr.get d) = some k → Answers (.clearWord w d whole) s fun t =>
      s.Stored (s.served k) [0] t ∧ t = { s with mem := t.mem, chk := t.chk }) ∧
    (∀ b r pass, s.bgtNext = some (b, r, pass) → s.bit .memBgtctl F.memBgtctl.en = true → bgt = 0 → s.shoreRuns = true →
      s.integ.bgtAt + 800 * max 2 (s.fld .memBgtint F.memBgtint.interval) ≤ s.ticks → Answers .bgtRegionStart s fun t =>
        t.fld .memBgtstat F.memBgtstat.state = 1 ∧ t.fld .memBgtstat F.memBgtstat.bank = b ∧
        t.fld .memBgtstat F.memBgtstat.region = r ∧
        t.fld .memBgtstat F.memBgtstat.passes = (s.fld .memBgtstat F.memBgtstat.passes + if pass then 1 else 0) % 2048 ∧
        s.RegsBut [.memBgtstat] t ∧
        t = { s with regs := t.regs, integ := { s.integ with bgtAgain := false, bgtAt := s.ticks } }) ∧
    (bgt = 1 → s.integ.bgtSaved = none → Answers .bgtSaveDone s fun t =>
      (∀ k, k < 32 → arrives (home + k) (bufWord k) t) ∧ (∀ q, q < bufWord 0 ∨ bufWord 32 ≤ q → same q t) ∧
      t.integ.bgtSaved = some (bank, region) ∧ t.fld .memBgtstat F.memBgtstat.state = 2 ∧
      t.fld .memBgtstat F.memBgtstat.bank = bank ∧ t.fld .memBgtstat F.memBgtstat.region = region ∧
      t = { s with regs := t.regs, mem := t.mem, chk := t.chk, integ := t.integ, outlet := t.outlet } ∧
      ((∀ k, k < 32 → (s.decodeWord (home + k)).1 = .clean) → s.RegsBut [.memBgtstat] t)) ∧
    (∀ fails : List Nat, bgt = 2 → Answers (.bgtMarchDone fails) s fun t =>
      t.fld .memBgtstat F.memBgtstat.state = 3 ∧
      (fails = [] → s.OnlyRegs [.memBgtstat] t) ∧
      (fails ≠ [] → t.fld .memIstat F.memIstat.bgtfail = 1 ∧
        t.fld .memBgtfail F.memBgtfail.failcnt = min 255 (s.fld .memBgtfail F.memBgtfail.failcnt + fails.length) ∧
        t.fld .memBgtfail F.memBgtfail.bank = bank ∧ t.fld .memBgtfail F.memBgtfail.region = region ∧
        t.fld .memBgtfail F.memBgtfail.word = fails.getLastD 0 % 32 ∧ t.Alarmed 0x12 ∧
        s.RegsBut [.memBgtstat, .memBgtfail, .memIstat, .outStat, .outCnt] t ∧
        t = { s with regs := t.regs, outlet := t.outlet })) ∧
    (∀ b r, bgt = 3 → s.integ.bgtSaved = some (b, r) → b < 34 → r < 512 → Answers .bgtRestoreDone s fun t =>
      (∀ k, k < 32 → arrives (bufWord k) (bankWord b (32 * r + k)) t) ∧
      (∀ q, q < bankWord b (32 * r) ∨ bankWord b (32 * r + 32) ≤ q → same q t) ∧
      t.integ.bgtSaved = none ∧ t.fld .memBgtstat F.memBgtstat.state = 0 ∧
      t.fld .memBgtstat F.memBgtstat.region = (if s.integ.bgtAgain then region else (region + 1) % 512) ∧
      t.fld .memBgtstat F.memBgtstat.bank =
        (if s.integ.bgtAgain ∨ region < 511 then bank else if bank < 33 then bank + 1 else 0) ∧
      (∀ n, s.slotOfBank bank = some n → ∀ q, q < 35 → t.ports.retReq.getLsbD q =
        if q = bank then (match (s.bankLife n).st with
          | 3 => s.ports.retReq.getLsbD q || !({ s with regs := t.regs } : State).slotBusy n
          | 1 => false
          | _ => s.ports.retReq.getLsbD q) else s.ports.retReq.getLsbD q) ∧
      (s.slotOfBank bank = none → t.ports = s.ports) ∧
      t = { s with regs := t.regs, mem := t.mem, chk := t.chk, integ := t.integ, outlet := t.outlet,
                   ports := { s.ports with retReq := t.ports.retReq } } ∧
      ((∀ k, k < 32 → (s.decodeWord (bufWord k)).1 = .clean) → s.RegsBut [.memBgtstat] t))

/-- A conduit starts, streams words, copies its transfer when triggered, and stops (spec/11 R297, spec/11 R298, spec/11
R299, spec/11 R300, spec/11 R302, spec/11 R303, spec/11 R304). EN requests the life-cycle: STARTING clears the
positions, TRIGPEND and ERR, an inconsistent descriptor reaches ON with ERR 5 and an alarm, OFF ends a transfer. A
stream word moves four lane words between the ring and the lane's FIFO and advances the lane's position; poison
sends the idle level, a lane not served sets ERR 4, a ring word refused stops the conduit. A trigger starts a COPY,
is kept, or is counted as lost; at its end the words stand at the other side and CD_POS, DONECNT, CDONE and the
pending trigger follow. -/
def Obligations.ConduitsMoveWords : Prop :=
  ∀ (s : State) (w : Who) (c k : Nat) (d : BitVec 32), s.Live → c < 32 →
    let life := s.cdLife c
    let p := s.fld (.cdCfg c) F.cdCfg.lane0 + k
    let ring := s.cdRingAddr c k
    let sub := s.cdLen c / s.cdLanes c
    let next := if s.cdPosition c k + 8 < sub then s.cdPosition c k + 8 else 0
    let event := next = 0 ∨ (s.bit (.cdEvt c) F.cdEvt.half = true ∧ next = s.cdLen c / (2 * s.cdLanes c))
    let told := fun t : State => t.threads = if s.bit (.cdEvt c) F.cdEvt.even
      then (s.roleEvt (s.fld (.cdEvt c) F.cdEvt.role) (s.fld (.cdEvt c) F.cdEvt.thread) 7).threads else s.threads
    let done := fun t : State => t.fld (.cdStat c) F.cdStat.donecnt = (s.fld (.cdStat c) F.cdStat.donecnt + 1) % 65536 ∧ told t
    let undone := fun t : State =>
      t.fld (.cdStat c) F.cdStat.donecnt = s.fld (.cdStat c) F.cdStat.donecnt ∧ t.threads = s.threads
    let firstErr := fun (e : Nat) (t : State) => t.fld (.cdStat c) F.cdStat.err =
      if s.fld (.cdStat c) F.cdStat.err = 0 then e else s.fld (.cdStat c) F.cdStat.err
    let dies := fun (e : Nat) (t : State) => firstErr e t ∧ (t.conduit c).dead = true ∧ t.Alarmed 0x13
    (s.Writer w → F.cdCtrl.kick.get d = 0 → Answers (.cdEnWrite w c d whole) s fun t =>
      t.cdLife c = life.request (F.cdCtrl.en.get d) ∧ t = { s with regs := t.regs, conduits := t.conduits } ∧
      ((life.st = 0 ∧ F.cdCtrl.en.get d = 1) → (∀ j, j < 16 → t.rd (.cdPos c j) = 0) ∧
        t.fld (.cdStat c) F.cdStat.trigpend = 0 ∧ t.fld (.cdStat c) F.cdStat.err = 0 ∧ t.conduit c = .init ∧
        ∀ q : Reg, q.key ≠ (Reg.cdStat c).key → q.key ≠ (Reg.cdCtrl c).key → (∀ j, j < 16 → q.key ≠ (Reg.cdPos c j).key) →
          t.rd q = s.rd q) ∧
      (¬(life.st = 0 ∧ F.cdCtrl.en.get d = 1) → s.RegsBut [.cdStat c, .cdCtrl c] t ∧ t.conduit c = s.conduit c)) ∧
    (life.st = 1 → life.pend = 0 → Answers (.conduitStartDone c) s fun t =>
      t.cdLife c = { life with st := 2 } ∧
      (s.cdInconsistent c = true → dies 5 t ∧ s.RegsBut [.cdStat c, .cdCtrl c, .outStat, .outCnt] t) ∧
      (s.cdInconsistent c = false → s.OnlyRegs [.cdStat c, .cdCtrl c] t)) ∧
    (life.st = 3 → life.pend = 0 → Answers (.conduitStopDone c) s fun t =>
      t.cdLife c = { life with st := 0 } ∧ t.conduit c = .init ∧ (∀ j, j < 16 → t.rd (.cdPos c j) = s.rd (.cdPos c j)) ∧
      ((s.conduit c).busy = false → s.RegsBut [.cdStat c, .cdCtrl c] t ∧
        t = { s with regs := t.regs, conduits := t.conduits })) ∧
    (s.Writer w → F.cdCtrl.kick.get d = 1 → s.fld (.cdCfg c) F.cdCfg.trig ≠ 2 → F.cdCtrl.en.get d = life.en → life.en = 1 →
      s.cdLive c = true → (s.cdKind c = 3 ∨ s.cdKind c = 4) → Answers (.kick w c d whole) s fun t =>
        t.cdLife c = life ∧ (t.conduit c).busy = true ∧ (t.conduit c).dead = false ∧
        t.fld (.cdStat c) F.cdStat.trigpend = (if (s.conduit c).busy then 1 else s.fld (.cdStat c) F.cdStat.trigpend) ∧
        t.fld (.cdStat c) F.cdStat.trigovr = (if (s.conduit c).busy ∧ s.bit (.cdStat c) F.cdStat.trigpend
          then satInc 8 (s.fld (.cdStat c) F.cdStat.trigovr) else s.fld (.cdStat c) F.cdStat.trigovr) ∧
        s.RegsBut [.cdStat c] t ∧ t = { s with regs := t.regs, conduits := t.conduits }) ∧
    (∀ x ∈ [(Instr.conduitStreamTxWord c k, 1), (.conduitStreamRxWord c k, 2)], s.cdLive c = true → s.paused = false →
      s.cdKind c = x.2 → k < s.cdLanes c →
      (s.cdServes c k = false → Answers x.1 s fun t => firstErr 4 t ∧ s.OnlyRegs [.cdStat c] t) ∧
      (s.cdServes c k = true → s.cdTurn c ≠ some k → exec x.1 s = .next s) ∧
      (s.cdTurn c = some k → s.cdAnswer ring (x.2 == 2) = .refuse → Answers x.1 s fun t => dies (s.cdRefusal ring) t ∧ t.lanes = s.lanes ∧ t.mem = s.mem ∧ t.chk = s.chk ∧
          s.RegsBut [.cdStat c, .outStat, .outCnt] t)) ∧
    (s.cdLanes c = k + 1 → (s.conduit c).ptr = k → s.cdTurn c = if s.cdLaneReady c k then some k else
      (List.range k).find? fun i => s.cdLaneReady c i) ∧
    (s.cdLive c = true → s.paused = false → s.cdKind c = 1 → s.cdTurn c = some k → s.cdAnswer ring false = .go →
      let from' := s.served (s.poolPhys ring)
      let poisoned := (s.decodeWord from').1 = .poisoned ∨ (s.decodeWord from').1 = .uncorrectable
      Answers (.conduitStreamTxWord c k) s fun t =>
        let idle : Word := if s.bit (.streamM0 p) F.streamM0.idleLvl then 0xFFFF else 0
        (¬poisoned → t.lane p = { s.lane p with fifo := (s.lane p).fifo ++ laneWords (s.decodeWord from').2 }) ∧
        (poisoned → t.lane p = { s.lane p with fifo := (s.lane p).fifo ++ [idle, idle, idle, idle] } ∧ firstErr 3 t ∧
          t.fld (.laneErr p) F.laneErr.erra = satInc F.laneErr.erra.width (s.fld (.laneErr p) F.laneErr.erra)) ∧
        (∀ q, q ≠ p → t.lane q = s.lane q) ∧ t.cdPosition c k = next ∧ (event → done t) ∧ (¬event → undone t) ∧
        (t.conduit c).ptr = (k + 1) % s.cdLanes c ∧
        ((s.decodeWord from').1 = .clean → s.RegsBut [.cdStat c, .cdPos c k] t ∧
          t = { s with regs := t.regs, lanes := t.lanes, threads := t.threads, conduits := t.conduits })) ∧
    (s.cdLive c = true → s.paused = false → s.cdKind c = 2 → s.cdTurn c = some k → s.cdAnswer ring true = .go → Answers (.conduitStreamRxWord c k) s fun t =>
        s.Stored (s.served (s.poolPhys ring)) [poolWord ((s.lane p).fifo.take 4)] t ∧
        t.lane p = { s.lane p with fifo := (s.lane p).fifo.drop 4 } ∧ (∀ q, q ≠ p → t.lane q = s.lane q) ∧
        t.cdPosition c k = next ∧ (event → done t) ∧ (¬event → undone t) ∧ s.RegsBut [.cdStat c, .cdPos c k] t ∧
        t.conduit c = { s.conduit c with ptr := (k + 1) % s.cdLanes c } ∧
        t = { s with regs := t.regs, lanes := t.lanes, threads := t.threads, conduits := t.conduits, mem := t.mem,
                     chk := t.chk }) ∧
    (∀ e, s.cdLive c = true → s.paused = false → (s.conduit c).busy = true → (s.cdKind c = 3 ∨ s.cdKind c = 4) →
      s.engineOn (s.fld (.cdLaddr c) F.cdLaddr.role) = some e → 0 < s.cdLen c →
      (∀ b r, s.integ.bgtSaved = some (b, r) → b < 34 ∧ r < 512) →
      let n := s.cdXlen c / 8
      let ringWord := fun i => s.served (s.poolPhys (s.cdCopyAddr c i))
      let local' := fun i => lramWord e (s.cdLocalWord c i)
      let src := if s.cdKind c = 3 then ringWord else local'
      let dst := if s.cdKind c = 3 then local' else ringWord
      (∀ i, i < n → s.cdAnswer (s.cdCopyAddr c i) (s.cdKind c == 4) = .go ∧ s.cdLocalWord c i < 4096 ∧
        (s.cdKind c = 3 → s.mirrorAddr e (s.cdLocalWord c i) = none ∧
          (s.engine e).lramNear true (s.cdLocalWord c i) s.ticks = false) ∧ (s.decodeWord (src i)).1 = .clean) →
      (∀ i j, i < j → j < n → ringWord i ≠ ringWord j) → Answers (.conduitTransferDone c) s fun t =>
        (∀ i, i < n → t.word (dst i) = s.word (src i) ∧ t.syn (dst i) = 0) ∧
        (∀ q, (∀ i, i < n → q ≠ dst i) → t.word q = s.word q ∧ t.syn q = s.syn q) ∧
        t.cdPosition c 0 = (s.cdPosition c 0 + s.cdXlen c) % s.cdLen c ∧ done t ∧
        t.fld (.cdStat c) F.cdStat.trigpend = 0 ∧ (t.conduit c).busy = s.bit (.cdStat c) F.cdStat.trigpend ∧
        s.RegsBut [.cdStat c, .cdPos c 0] t ∧
        (∀ e', t.engine e' = { s.engine e' with lramLast := (t.engine e').lramLast }) ∧
        t = { s with regs := t.regs, threads := t.threads, conduits := t.conduits, engines := t.engines, mem := t.mem,
                     chk := t.chk })

/-- Domains arm, are reset and disarm; RESUME, SAFE, HOLD, a freeze and its period starts (spec/01 R17, spec/14 R360,
spec/14 R361, spec/14 R362, spec/14 R363, spec/14 R365, spec/18 R483, spec/18 R485, spec/08 R220, spec/09 R251). A
write of EN or DRST, taking the descriptor only while OFF, moves the domain in its life-cycle in the tick after it,
at once while the shore stands still; arming locks the limits and reaches ARMED; a stop parks its threads, clears
its stages and entries and stops its counters and inlets. RESUME and SAFE are asked for and take effect at a later
period start, HOLD freezes at once; the freeze fixes the held periods, discards releases that have not started,
restarts the held periods or goes to SAFE at F, and HOLDMAX ends it. Every pin follows; other registers and units
stay. -/
def Obligations.DomainsChangeState : Prop :=
  ∀ (s : State) (w : Who) (m : Nat) (d : BitVec 32), s.Live → m < 8 →
    let life := s.domLife m
    let r := Reg.engDctl m
    let stat := Reg.engDstat m
    let dom := s.domain m
    let cfg := [F.engDctl.holdmax, F.engDctl.refcg, F.engDctl.loopflt, F.engDctl.dfa, F.engDctl.policy]
    let kept := ∀ f ∈ cfg, f.get d = s.fld r f
    let arms := fun t : State => t.domLife m = life.request 1 ∧
      t.fld stat F.engDstat.limitLock = (if life.st = 0 then 1 else s.fld stat F.engDstat.limitLock) ∧
      (∀ f ∈ [F.engDstat.sub, F.engDstat.degraded, F.engDstat.holdcnt], t.fld stat f = s.fld stat f) ∧
      s.RegsBut [r, stat] t ∧ State.OnlyPins { s with regs := t.regs } t
    let stops := fun t : State => t.domLife m = life.request 0 ∧
      (life.st ≠ 2 → s.RegsBut [r, stat] t ∧ t.sub m = s.sub m ∧ State.OnlyPins { s with regs := t.regs } t) ∧
      (life.st = 2 → t.sub m = 0 ∧ t.domain m = .init ∧ (∀ x, x < 8 → x ≠ m → t.domLife x = s.domLife x ∧ t.sub x = s.sub x) ∧
        (∀ p, p < 256 → s.laneDomain p = some m → (t.lane p).queue = [] ∧ (t.lane p).core = [] ∧ (t.lane p).held = none ∧
          t.rd (.weirStage p) = 0 ∧ t.fld (.weirStat p) F.weirStat.valid = 0) ∧
        (∀ p, p < 256 → s.laneDomain p ≠ some m → (t.lane p).queue = (s.lane p).queue ∧ (t.lane p).core = (s.lane p).core ∧
          t.rd (.weirStage p) = s.rd (.weirStage p) ∧ t.rd (.weirStat p) = s.rd (.weirStat p)) ∧
        (∀ i e, (i, some m) ∈ s.threadDom → s.engineOf (i / 32) = some e →
          (t.thread e (i % 32)).st = .parked ∧ (t.thread e (i % 32)).halted = false) ∧
        t.mem = s.mem ∧ t.chk = s.chk)
    let counts := fun n => s.bit (.cntCtrl n) F.cntCtrl.domv && s.fld (.cntCtrl n) F.cntCtrl.dom == m
    let samples := fun n => s.bit (.inlCtrl n) F.inlCtrl.domv && s.fld (.inlCtrl n) F.inlCtrl.dom == m
    (s.Writer w → F.engDctl.en.get d = 1 → F.engDctl.drst.get d = 0 → F.engDctl.cmd.get d = 0 → (life.st = 0 ∨ kept) →
      Answers (.domainArm w m d whole) s fun t =>
        (∀ f ∈ cfg, t.fld r f = f.get d) ∧ t.fld r F.engDctl.en = 1 ∧ (s.shoreRuns = false → arms t) ∧
        (s.shoreRuns = true → s.RegsBut [r] t ∧ t = { s with regs := t.regs, soon := s.soon ++ [.domain m 1] })) ∧
    arms (s.actSoon (.domain m 1)) ∧
    (life.st = 1 → s.countersArmed m = true → life.pend = 0 → Answers (.domainArmed m) s fun t =>
      t.domLife m = { life with st := 2 } ∧ t.sub m = 1 ∧
      (∀ g, g < 32 → (t.group g) = if s.bit (.weirCgctl g) F.weirCgctl.domv ∧ s.fld (.weirCgctl g) F.weirCgctl.dom = m
        then { armed := s.ticks, deadlines := [], strobe := none } else s.group g) ∧
      (∀ g, g < 32 → t.rd (.weirCgpnum g) = if s.bit (.weirCgctl g) F.weirCgctl.domv ∧
        s.fld (.weirCgctl g) F.weirCgctl.dom = m then 0 else s.rd (.weirCgpnum g)) ∧
      (∀ p, p < 256 → ∀ q ∈ [Reg.weirLast p, .weirHist p],
        t.rd q = if s.laneDomain p = some m then s.rd (.weirInit p) else s.rd q) ∧
      (∀ p, p < 256 → t.weir p = if s.laneDomain p = some m then { s.weir p with periods := [] } else s.weir p) ∧
      (∀ q : Reg, q.key ≠ r.key → q.key ≠ stat.key → (∀ g, g < 32 → q.key ≠ (Reg.weirCgpnum g).key) →
        (∀ p, p < 256 → q.key ≠ (Reg.weirLast p).key ∧ q.key ≠ (Reg.weirHist p).key) → t.rd q = s.rd q) ∧
      State.OnlyPins { s with regs := t.regs, groups := t.groups, weirs := t.weirs } t) ∧
    (life.st = 1 → s.countersArmed m = true → life.pend = 1 → Answers (.domainArmed m) s fun t =>
      t.domLife m = ⟨3, 0, life.en⟩ ∧ t.sub m = 0 ∧ ∀ n, n < 64 → counts n = true → Soon.stopCounter n ∈ t.soon) ∧
    (s.Writer w → F.engDctl.en.get d = 0 → F.engDctl.drst.get d = 1 → F.engDctl.cmd.get d = 0 → kept →
      Answers (.domainReset w m d whole) s fun t =>
        t.fld r F.engDctl.en = 0 ∧ (∀ f ∈ cfg, t.fld r f = s.fld r f) ∧
        (s.shoreRuns = true → s.RegsBut [r] t ∧ t = { s with regs := t.regs, soon := s.soon ++ [.domain m 0] }) ∧
        (s.shoreRuns = false → stops t ∧ (life.st = 2 →
          (∀ n, n < 64 → t.cntLife n = s.cntLife n ∧ t.inlLife n = s.inlLife n) ∧
          t.soon = s.soon ++ ((List.range 64).filter counts).map Soon.stopCounter ++
            ((List.range 64).filter samples).map Soon.stopInlet))) ∧
    (let t := s.actSoon (.domain m 0);
      stops t ∧ (life.st = 2 → t.soon = s.soon ∧ ∀ n, n < 64 →
        (s.chained n = false → t.cntLife n = if counts n then (s.cntLife n).request 0 else s.cntLife n) ∧
        t.inlLife n = if samples n then (s.inlLife n).request 0 else s.inlLife n)) ∧
    (∀ n, n < 64 → (s.chained n = false → (s.actSoon (.stopCounter n)).cntLife n = (s.cntLife n).request 0) ∧
      (s.actSoon (.stopInlet n)).inlLife n = (s.inlLife n).request 0) ∧
    (life.st = 3 → s.shoreRuns = true → Answers (.domainDisarmed m) s fun t =>
      t.domLife m = (if life.pend = 1 then ⟨1, 0, life.en⟩ else { life with st := 0 }) ∧
      t.fld stat F.engDstat.limitLock = life.pend ∧ t.sub m = s.sub m ∧ s.RegsBut [r, stat] t ∧
      State.OnlyPins { s with regs := t.regs } t) ∧
    (s.Writer w → s.domainOn m = true → F.engDctl.en.get d = 0 → F.engDctl.drst.get d = 0 → kept →
      (F.engDctl.cmd.get d = 1 → (s.sub m = 4 ∨ s.sub m = 5) → Answers (.cmdResume w m d whole) s fun t =>
        t.domain m = { dom with next := some 2, asked := s.ticks } ∧ (∀ x, x ≠ m → t.domain x = s.domain x) ∧
        s.RegsBut [] t ∧ State.OnlyPins { s with regs := t.regs, domains := t.domains } t) ∧
      (F.engDctl.cmd.get d = 2 → 1 ≤ s.sub m → s.sub m ≤ 4 → Answers (.cmdSafe w m d whole) s fun t =>
        t.domain m = { dom with next := some 5, asked := s.ticks } ∧ (∀ x, x ≠ m → t.domain x = s.domain x) ∧
        s.RegsBut [] t ∧ State.OnlyPins { s with regs := t.regs, domains := t.domains } t) ∧
      (F.engDctl.cmd.get d = 3 → 1 ≤ s.sub m → s.sub m ≤ 3 → Answers (.cmdHold w m d whole) s fun t =>
        t.domain m = { dom with froze := some (s.ticks, s.sub m), stopped := false, switched := false } ∧ (∀ x, x ≠ m → t.domain x = s.domain x) ∧
        t.sub m = 4 ∧ t.fld stat F.engDstat.holdcnt = 0 ∧ t.domLife m = life ∧
        s.Counts (.engDcnt m) F.engDcnt.freezes t ∧
        (∀ f ∈ [F.engDcnt.takeovers, F.engDcnt.rollbacks, F.engDcnt.laneswaps], t.fld (.engDcnt m) f = s.fld (.engDcnt m) f) ∧
        s.RegsBut [stat, .engDcnt m] t ∧ State.OnlyPins { s with regs := t.regs, domains := t.domains } t)) ∧
    (s.domainOn m = true → s.sub m = 4 → dom.stopped = false → Answers (.freezeCommitStop m) s fun t =>
      t.domain m = { dom with stopped := true } ∧ (∀ x, x ≠ m → t.domain x = s.domain x) ∧
      (∀ p, p < 256 → (t.lane p).lvl = (s.lane p).lvl ∧ (t.lane p).oe = (s.lane p).oe ∧
        (s.laneDomain p = some m → (t.lane p).held = s.heldPeriod p ∧
          (t.lane p).queue = (s.lane p).queue.filter (fun y => !s.withdrawn p y) ∧
          (t.lane p).core = (s.lane p).core.filter (fun y => !s.withdrawn p y.1) ∧
          t.weir p = { s.weir p with periods := (s.weir p).periods.filter fun y => !s.unstarted p y }) ∧
        (s.laneDomain p ≠ some m → (t.lane p).held = (s.lane p).held ∧ (t.lane p).queue = (s.lane p).queue ∧
          (t.lane p).core = (s.lane p).core ∧ t.weir p = s.weir p)) ∧
      t = { s with domains := t.domains, lanes := t.lanes, weirs := t.weirs }) ∧
    (s.domainOn m = true → s.sub m = 4 → dom.stopped = true → dom.switched = false → s.shoreRuns = true →
      s.atPeriodStart m = true → Answers (.freezeSwitch m) s fun t =>
        t.domain m = { dom with switched := true, fTick := s.ticks } ∧
        (s.bit r F.engDctl.dfa = true → t.sub m = 5 ∧ t.domLife m = life ∧ s.RegsBut [stat] t ∧
          State.OnlyPins { s with regs := t.regs, domains := t.domains } t) ∧
        (s.bit r F.engDctl.dfa = false → (∀ p, p < 256 → (t.lane p).held = if s.laneDomain p = some m
          then (s.lane p).held.map (fun h => { h with start := s.now }) else (s.lane p).held) ∧
          t = { s with domains := t.domains, lanes := t.lanes })) ∧
    (∀ c, (c = Instr.domainSubstateChange m ∧ s.shoreRuns = true ∧ dom.asked < s.ticks ∧ s.atPeriodStart m = true) ∨
        (c = Instr.holdmaxExpiry m ∧ s.sub m = 4 ∧ dom.switched = true ∧ s.fld r F.engDctl.holdmax ≠ 0 ∧
          s.fld r F.engDctl.holdmax ≤ s.fld stat F.engDstat.holdcnt) →
      ∀ n, s.domainOn m = true → (c = Instr.domainSubstateChange m → dom.next = some n) →
        (c = Instr.holdmaxExpiry m → n = 5) → n < 8 → (s.sub m = 4 → n = 5 → dom.stopped = true) → Answers c s fun t =>
          t.sub m = n ∧ t.domLife m = life ∧
          t.domain m = (if n = 2 then .init else if s.sub m = 4 ∧ dom.switched = false then
            { dom with next := none, switched := true, fTick := s.ticks } else { dom with next := none }) ∧
          (∀ p, p < 256 → (t.lane p).held = (if n = 2 ∧ s.laneDomain p = some m then none else (s.lane p).held) ∧
            (t.lane p).queue = (s.lane p).queue ∧ (t.lane p).lvl = (s.lane p).lvl ∧ (t.lane p).oe = (s.lane p).oe) ∧
          s.RegsBut [stat] t ∧ t = { s with regs := t.regs, domains := t.domains, lanes := t.lanes })

/-- A fault of an engine or a lane is recorded and acts on its domains; a failed takeover (spec/14 R356, spec/14 R357,
spec/14 R358, spec/14 R372, spec/14 R375, spec/14 R376, spec/14 R382, spec/14 R383). An engine that could use its
slots and has completed none for 1600 ticks, or one declared faulted in the tick before, loses its role and its
undrained stores and goes to BIST; where the reserve can mask it a takeover begins and CONTINUITY domains go to
COAST, else the domains with a thread in the role freeze. A declared lane fault swaps in a spare core or freezes. A
takeover that fails freezes with DEGRADED. Each is recorded in the ring, in ENG_FCNT, as an alarm and in the
registers of its domains; memory, threads and lanes stay (but a swapped lane). -/
def Obligations.FaultsFreezeOrAreMasked : Prop :=
  ∀ (s : State) (w : Who) (e p : Nat) (d : BitVec 32), s.Live →
    let index := s.fld .engFcnt F.engFcnt.faults % 16
    let recorded := fun (x : FaultRec) (t : State) =>
      (index, x) ∈ t.cont.faults ∧ t.fld .engFcnt F.engFcnt.newest = index ∧
      t.fld .engFcnt F.engFcnt.faults = (s.fld .engFcnt F.engFcnt.faults + 1) % 65536 ∧ t.Alarmed 0x18 ∧
      ∀ m, m < 8 → x.mask.testBit m = true → t.fld (.engDfault m) F.engDfault.code = x.code ∧
        t.fld (.engDfault m) F.engDfault.role = x.role ∧ t.fld (.engDfault m) F.engDfault.thread = x.thread ∧
        t.fld (.engDfault m) F.engDfault.lane = x.lane ∧ t.rd (.engDftime m) = s.time.extractLsb' 0 32
    let frozen := fun (m : Nat) (t : State) => t.sub m = 4 ∧ s.Counts (.engDcnt m) F.engDcnt.freezes t ∧
      (t.domain m).stopped = false ∧ (t.domain m).switched = false ∧ t.fld .engFstat F.engFstat.dfault = 1
    let fenced := fun (t : State) => t.roleOf e = 15 ∧ t.engLife e = ⟨0, 0, 0⟩ ∧ (t.engine e).sb = [] ∧
      (s.outOfService e = false → e ∈ t.cont.bist)
    let still := fun (t : State) => t.mem = s.mem ∧ t.chk = s.chk ∧ t.threads = s.threads ∧ t.lanes = s.lanes ∧ t.locks = s.locks
    let r := s.roleOf e
    let doms := s.roleDomains r
    let masked := s.cont.takeover = none ∧ s.bit (.engCont r) F.engCont.cen = true ∧ s.engineOf 8 ≠ none ∧
      (s.fld .engRollstat F.engRollstat.phase ≠ 4 ∨ s.cont.rollRole = r)
    let fails := fun (code : Nat) (t : State) =>
      fenced t ∧ still t ∧
      (8 ≤ r → recorded ⟨code, if r = 8 then 8 else 15, e, 0, 0, false, 0, 0, s.time⟩ t ∧ t.domains = s.domains ∧
        (∀ m, m < 8 → t.sub m = s.sub m)) ∧
      (r < 8 →
        (masked → t.cont.takeover = some ⟨r, e, none⟩ ∧ t.fld .engFstat F.engFstat.takeover = 1 ∧
          t.fld .engFstat F.engFstat.trole = r ∧ recorded ⟨code, r, e, 0, 0, false, domainMask doms, 2, s.time⟩ t) ∧
        (¬masked → t.cont.takeover = s.cont.takeover ∧ recorded ⟨code, r, e, 0, 0, false, domainMask doms,
          ((doms.filter s.running).head?.map s.freezeCode).getD 0, s.time⟩ t) ∧
        ∀ m, m < 8 →
          (m ∈ doms → s.running m = true →
            (masked ∧ s.bit (.engDctl m) F.engDctl.policy = true ∧ s.sub m ≠ 3 →
              t.sub m = 3 ∧ t.domain m = { s.domain m with saved := s.sub m } ∧ s.Counts (.engDcnt m) F.engDcnt.takeovers t) ∧
            (¬(masked ∧ s.bit (.engDctl m) F.engDctl.policy = true ∧ s.sub m ≠ 3) → frozen m t ∧
              (¬masked → t.fld (.engDstat m) F.engDstat.degraded = 1))) ∧
          (¬(m ∈ doms ∧ s.running m = true) → t.rd (.engDstat m) = s.rd (.engDstat m) ∧ t.domain m = s.domain m))
    let declared := fun (c : Instr) (k n : Nat) (x : Soon) =>
      s.Writer w → F.engFdecl.kind.get d = k → F.engFdecl.target.get d = n →
        exec c s = .next (if s.shoreRuns then s.later x else s.actSoon x)
    (e < 9 → (∀ x, s.cont.takeover = some x → x.engine ≠ some e) →
      ((∃ th, th < 32 ∧ ((s.thread e th).st = .ready ∨ (s.thread e th).st = .diverted) ∧ (s.thread e th).halted = false ∧
          s.couldIssue e th = true) → s.fld (.engStat e) F.engStat.state = 2 → s.asleep = false → s.shoreRuns = true →
        (∃ n, (s.engine e).stall = some n ∧ n + 1600 ≤ s.ticks) → (s.engine e).slotAt + 1600 ≤ s.ticks →
        Answers (.engineStallDetect e) s (fails 1)) ∧
      fails 9 (s.actSoon (.declareEngine e))) ∧
    (e < 9 → declared (.fdeclEngine w d whole) 1 e (.declareEngine e)) ∧
    (p < 256 → declared (.fdeclLane w d whole) 2 p (.declareLane p)) ∧
    (p < 256 →
      let t := s.actSoon (.declareLane p)
      let lost := fun (m o : Nat) => (⟨10, 15, 15, 0, p, true, m, o, s.time⟩ : FaultRec)
      t.mem = s.mem ∧ t.chk = s.chk ∧ t.threads = s.threads ∧ t.locks = s.locks ∧ t.engines = s.engines ∧
      (s.laneDomain p = none → recorded (lost 0 0) t ∧ t.lanes = s.lanes ∧ t.domains = s.domains) ∧
      (∀ m, s.laneDomain p = some m →
        (s.running m = false → recorded (lost (2 ^ m) 0) t ∧ t.lanes = s.lanes ∧ t.domains = s.domains) ∧
        (s.running m = true → ∀ c, s.freeSpare = some c → s.bit (.engDctl m) F.engDctl.policy = true →
          s.shore.swap = none → s.coreOf p < 256 →
          recorded (lost (2 ^ m) 3) t ∧ s.Counts (.engDcnt m) F.engDcnt.laneswaps t ∧ t.coreOf p = c ∧
          t.shore.swap = some ⟨p, s.coreOf p, (s.laneLife p).st, s.ticks⟩ ∧ (t.core c).used = true ∧
          (t.core (s.coreOf p)).retired = true ∧ t.sub m = s.sub m) ∧
        (s.running m = true → (s.freeSpare = none ∨ s.bit (.engDctl m) F.engDctl.policy = false ∨ s.shore.swap ≠ none ∨
            256 ≤ s.coreOf p) →
          recorded (lost (2 ^ m) (s.freezeCode m)) t ∧ frozen m t ∧ t.lanes = s.lanes))) ∧
    (∀ role failed, s.cont.takeover = some ⟨role, failed, some e⟩ → e < 9 → role < 8 → Answers .takeoverFail s fun t =>
      fenced t ∧ still t ∧ t.cont.takeover = none ∧ t.fld .engFstat F.engFstat.takeover = 0 ∧
      recorded ⟨12, role, e, 0, 0, false, domainMask (s.roleDomains role), 6, s.time⟩ t ∧
      ∀ m, m < 8 → (m ∈ s.roleDomains role ∧ s.running m = true → frozen m t ∧ t.fld (.engDstat m) F.engDstat.degraded = 1) ∧
        (¬(m ∈ s.roleDomains role ∧ s.running m = true) → t.rd (.engDstat m) = s.rd (.engDstat m)))

/-- Checkpoints, rollback, the reserve that takes a role and restores it, BIST and the rolling test (spec/14 R366,
spec/14 R368, spec/14 R370, spec/14 R371, spec/14 R372, spec/14 R373, spec/14 R376, spec/14 R378, spec/14 R379). A
checkpoint records each continuity thread or waits for its boundary; its record becomes usable when its stores and
operations are done, its copy written to the area, and a faulted thread goes back to it, waking the area where it is
retained; a record with an uncorrectable word faults the thread with cause 4. The reserve takes the role with its
configuration, and at the end has the program store, the mirrored range and the recorded contexts from the
continuity area; COAST ends. An engine that passes BIST waits for or takes the reserve role, one that fails is out
of service. The rolling test starts, preloads, quiesces the role and moves it. Other memory and threads stay. -/
def Obligations.ContinuityRestoresWork : Prop :=
  ∀ (s : State) (e e' th : Nat), s.Live → e < 9 → e' < 9 → th < 32 →
    let x := s.thread e th
    let phase := s.fld .engRollstat F.engRollstat.phase
    let others := fun (t : State) => ∀ k y, 32 * k + y ≠ 32 * e + th → t.thread k y = s.thread k y
    let good := fun (role y : Nat) (c : CkRecord) => s.hasContexts role = true →
      ∃ k, s.contextAt role y c.slot = some k ∧ ∀ j, j < 32 → s.syn (s.served (k + j)) = 0
    let bad := fun (role : Nat) (c : CkRecord) (k j : Nat) => s.hasContexts role = true ∧
      s.contextAt role th c.slot = some k ∧ j < 32 ∧ (s.decodeWord (s.served (k + j))).1 = .uncorrectable
    (∀ role, s.engineOf role = some e → role < 8 → s.fld (.engCont role) F.engCont.ckint ≠ 0 →
      s.tick % (s.fld (.engCont role) F.engCont.ckint * 800) = 0 → s.shoreRuns = true → s.asleep = false →
      SMap.get s.cont.ckTick role 0 ≠ s.ticks + 1 →
      Answers (.checkpointInterval role) s fun t =>
        (s.isContinuity role th = false → t.thread e th = x) ∧
        (s.isContinuity role th = true → (x.atBoundary = false ∨ x.cmdQueue ≠ []) →
          t.thread e th = { x with cmdQueue := x.cmdQueue ++ [8] }) ∧
        (s.isContinuity role th = true → x.atBoundary = true → x.cmdQueue = [] →
          ((∃ c l, x.ck = c :: l ∧ c.usable = false) → t.thread e th = x) ∧
          ((∀ c ∈ x.ck.head?, c.usable = true) → ∃ c : CkRecord, t.thread e th = { x with ck := c :: x.ck.take 1 } ∧
            c.usable = false ∧ c.regs = x.settled ∧ c.pc = x.pc ∧ c.st = x.st ∧ c.prior = x.prior ∧ c.evt = x.evt ∧ c.rep = x.rep ∧
            c.uret = x.uret ∧ c.stores = ((s.engine e).sb.filter fun y => y.thr == th).length ∧
            c.muls = x.mul.length ∧ c.iters = if x.iter = none then 0 else 1)) ∧
        s.RegsBut [.engCkstat role] t ∧ SMap.get t.cont.ckTick role 0 = s.ticks + 1 ∧
        t = { s with regs := t.regs, threads := t.threads, cont := { s.cont with ckTick := t.cont.ckTick } }) ∧
    (∀ c l, x.ck = c :: l → c.usable = false → c.stores = 0 → c.muls = 0 → c.iters = 0 →
      (s.hasContexts (s.roleOf e) = true → s.canRestore (s.roleOf e) = true) → s.MemOk → SMap.wf s.chk 0 = true →
      Answers (.checkpointUsable e th) s fun t =>
        (∀ k q, s.hasContexts (s.roleOf e) = true → s.contextAt (s.roleOf e) th c.slot = some k → s.integ.bgtSaved = none →
          k ≤ q → q < k + 32 → t.syn q = 0) ∧
        (∀ q, s.integ.bgtSaved = none → ¬(s.hasContexts (s.roleOf e) = true ∧
            ∃ k, s.contextAt (s.roleOf e) th c.slot = some k ∧ k ≤ q ∧ q < k + 32) → t.word q = s.word q ∧ t.syn q = s.syn q) ∧
        t.thread e th = { x with ck := { c with usable := true } :: l, rolled := false } ∧ others t ∧
        (s.roleOf e < 8 → t.fld (.engCkstat (s.roleOf e)) F.engCkstat.records =
          (s.fld (.engCkstat (s.roleOf e)) F.engCkstat.records + 1) % 65536) ∧
        s.RegsBut [.engCkstat (s.roleOf e)] t ∧
        t = { s with regs := t.regs, threads := t.threads, mem := t.mem, chk := t.chk }) ∧
    (∀ c k j, x.usable = some c → x.rollback = true → x.st = .faulted → s.switching (s.roleOf e) = false →
      s.canRestore (s.roleOf e) = true → bad (s.roleOf e) c k j →
      Answers (.threadRollback e th) s fun t => (t.thread e th).st = .faulted ∧ (t.thread e th).fcause = 4 ∧
        (t.thread e th).rollback = false ∧ t.mem = s.mem) ∧
    (∀ c n, x.usable = some c → x.rollback = true → x.st = .faulted → s.switching (s.roleOf e) = false →
      s.hasContexts (s.roleOf e) = true → s.admitsRole (s.roleOf e) = true →
      s.fld (.engCont (s.roleOf e)) F.engCont.cslot = n → s.bit (.memBctl n) F.memBctl.autoWake = true →
      (s.bankLife n).st = 0 → Answers (.threadRollback e th) s fun t => (t.bankLife n).st = 1 ∧ t.threads = s.threads ∧
        s.RegsBut [.memBctl n, .memBstat n, .memBconf n] t) ∧
    (∀ c, x.usable = some c → x.rollback = true → x.st = .faulted → c.st ≠ .waiting → s.quiescing e = false →
      s.switching (s.roleOf e) = false →
      (s.hasContexts (s.roleOf e) = true → s.canRestore (s.roleOf e) = true) → good (s.roleOf e) th c →
      Answers (.threadRollback e th) s fun t =>
      let y := t.thread e th
      (y.regs = c.regs ∧ y.pc = c.pc ∧ y.st = c.st ∧ y.evt = c.evt ∧ y.rep = c.rep ∧ y.uret = c.uret ∧ y.rolled = true ∧
        y.rollback = false ∧ y.priv = x.priv ∧ y.urgmask = x.urgmask ∧ y.uvec = x.uvec ∧ y.ck = x.ck ∧ y.loads = [] ∧
        y.mul = [] ∧ y.iter = none) ∧ others t ∧
      (∀ m, s.threadDomain (s.roleOf e) th = some m → s.Counts (.engDcnt m) F.engDcnt.rollbacks t ∧ s.RegsBut [.engDcnt m] t) ∧
      t = { s with regs := t.regs, threads := t.threads }) ∧
    (∀ role failed, s.cont.takeover = some ⟨role, failed, none⟩ → s.engineOf 8 = some e → failed < 9 → failed ≠ e →
      role < 8 → e ∉ s.cont.waiting → SMap.rising s.regs = true → Answers .takeoverRoleTaken s fun t =>
        t.cont.takeover = some ⟨role, failed, some e⟩ ∧ t.roleOf e = role ∧ t.engLife e = ⟨1, 0, 1⟩ ∧ t.engine e = .init ∧
        e ∉ t.cont.bist ∧ t.fld .engRollstat F.engRollstat.phase = 0 ∧ t.fld .engFstat F.engFstat.swap = 0 ∧
        (∀ r ∈ [Reg.engIssuecnt e, .engPaircnt e, .engStallcnt e, .engIcmiss e, .engRotcnt e], t.rd r = 0) ∧
        (let old := s.thread failed th
         t.thread e th = { Thread.init th with priv := old.priv, prio := old.prio, urgmask := old.urgmask, uvec := old.uvec,
                                               parkCause := 7, pc := SMap.get s.startPc (32 * role + th) 0, ck := old.ck }) ∧
        (∀ off v, roleConfig off = true → off < 4096 → SMap.get t.regs (0x710000 + 0x1000 * e + off) v =
          SMap.get s.regs (0x710000 + 0x1000 * failed + off) v) ∧
        (∀ k y, 9 ≤ k ∨ k ≠ e → y < 32 → t.thread k y = s.thread k y) ∧ t.mem = s.mem ∧ t.chk = s.chk) ∧
    (∀ role failed c k j, s.cont.takeover = some ⟨role, failed, some e⟩ → s.canRestore role = true → x.usable = some c →
      s.isContinuity role th = true → (∀ m, s.threadDomain role th = some m → (s.domLife m).st = 2) → bad role c k j →
      Answers .takeoverComplete s fun t => (t.thread e th).st = .faulted ∧ (t.thread e th).fcause = 4) ∧
    (∀ role failed, s.cont.takeover = some ⟨role, failed, some e⟩ → s.canRestore role = true → role < 8 → s.MemOk →
      SMap.wf s.chk 0 = true → (∀ y c, y < 32 → (s.thread e y).usable = some c → good role y c) →
      Answers .takeoverComplete s fun t =>
        let n := s.fld (.engCont role) F.engCont.cslot
        let mirrored := fun a => s.bit (.engMirror role) F.engMirror.men = true ∧ s.fld (.engMirror role) F.engMirror.mlo ≤ a ∧
          a ≤ s.fld (.engMirror role) F.engMirror.mhi
        let stopped := ∃ m, s.threadDomain role th = some m ∧ ((s.domLife m).st = 3 ∨ (s.domLife m).st = 0)
        t.cont.takeover = none ∧ t.fld .engFstat F.engFstat.takeover = 0 ∧ t.engLife e = ⟨2, 0, 1⟩ ∧
        (∀ a k, a < 4096 → s.slotPhys n a = some k →
          t.word (pstoreWord e a) = s.word k &&& 0x00FFFFFFFFFFFFFF ∧ t.syn (pstoreWord e a) = 0) ∧
        (∀ a k, a < 4096 → s.slotPhys n (4096 + a) = some k → mirrored a →
          t.word (lramWord e a) = s.word k ∧ t.syn (lramWord e a) = s.syn k) ∧
        (∀ a, a < 4096 → ¬mirrored a → t.word (lramWord e a) = 0 ∧ t.syn (lramWord e a) = 0) ∧
        (∀ q, (q < pstoreWord e 0 ∨ pstoreWord (e + 1) 0 ≤ q) → (q < lramWord e 0 ∨ lramWord (e + 1) 0 ≤ q) →
          t.word q = s.word q ∧ t.syn q = s.syn q) ∧
        (∀ c, x.usable = some c → s.isContinuity role th = true → ¬stopped → t.thread e th = x.taken th c) ∧
        ((x.usable = none ∨ s.isContinuity role th = false ∨ stopped) → t.thread e th = x) ∧
        (∀ m, m < 8 → t.sub m = if m ∈ s.roleDomains role ∧ s.domainOn m ∧ s.sub m = 3 then (s.domain m).saved % 8 else s.sub m) ∧
        t = { s with regs := t.regs, mem := t.mem, chk := t.chk, threads := t.threads, cont := t.cont }) ∧
    (e ∈ s.cont.bist → ¬(phase = 1 ∧ s.roleOf e = 8) →
      (Answers (.engineBistDone e false) s fun t => (t.fld .engFstat F.engFstat.oos).testBit e = true ∧
        t.cont = { s.cont with bist := s.cont.bist.filter (· != e) } ∧ s.RegsBut [.engFstat] t ∧
        t = { s with regs := t.regs, cont := t.cont }) ∧
      (Answers (.engineBistDone e true) s fun t => t.thread e th = .init th ∧ e ∉ t.cont.bist ∧
        (∀ k y, k ≠ e → y < 32 → t.thread k y = s.thread k y) ∧
        (s.engineOf 8 ≠ none → t.cont.waiting = s.cont.waiting ++ [e] ∧ s.RegsBut [] t) ∧
        (s.engineOf 8 = none → s.cont.waiting = [] → t.cont.waiting = [] ∧ t.roleOf e = 8 ∧ t.engLife e = ⟨2, 0, 1⟩))) ∧
    (phase = 1 → s.roleOf e = 8 →
      (Answers (.engineBistDone e false) s fun t => (t.fld .engFstat F.engFstat.oos).testBit e = true ∧
        t.fld .engRollstat F.engRollstat.lastfail = 1 ∧ t.fld .engRollstat F.engRollstat.phase = 0 ∧
        t.fld .engFstat F.engFstat.swap = 0 ∧ t.Alarmed 0x19 ∧ t.mem = s.mem ∧ t.threads = s.threads ∧
        (e ∉ s.cont.waiting → t.roleOf e = 15 ∧ t.engLife e = ⟨0, 0, 0⟩)) ∧
      (∀ r, ((List.range 8).map fun i => (s.fld .engRollstat F.engRollstat.rollptr + 1 + i) % 8).find?
          (fun r => (s.engineOn r).isSome) = some r → Answers (.engineBistDone e true) s fun t =>
        t.fld .engRollstat F.engRollstat.phase = 2 ∧ t.cont = { s.cont with rollRole := r } ∧ s.RegsBut [.engRollstat] t ∧
        t = { s with regs := t.regs, cont := t.cont })) ∧
    (s.bit .engRoll F.engRoll.en = true → phase = 0 → s.engineOf 8 ≠ none → s.cont.takeover = none → s.cont.bist = [] →
      s.asleep = false → s.booted = true →
      s.cont.rollAt + max 1 (s.fld .engRoll F.engRoll.rollint) * 800000000 ≤ s.ticks →
      Answers .rollingTestStart s fun t => t.fld .engRollstat F.engRollstat.phase = 1 ∧
        t.cont = { s.cont with rollAt := s.ticks } ∧ s.RegsBut [.engRollstat] t ∧ t = { s with regs := t.regs, cont := t.cont }) ∧
    (phase = 2 → Answers .preloadDone s fun t => t.fld .engRollstat F.engRollstat.phase = 3 ∧
      (∀ f ∈ [F.engRollstat.lastfail, F.engRollstat.rollptr, F.engRollstat.swaps], t.fld .engRollstat f = s.fld .engRollstat f) ∧
      s.OnlyRegs [.engRollstat] t) ∧
    (phase = 3 → s.engineOn s.cont.rollRole = some e → s.switchAllowed s.cont.rollRole e = true →
      Answers .swapSwitchStart s fun t => t.fld .engRollstat F.engRollstat.phase = 4 ∧ t.fld .engFstat F.engFstat.swap = 1 ∧
        t.thread e th = (if x.atBoundary ∧ x.cmdQueue = [] then
          (if x.st = .ready ∨ x.st = .diverted ∨ x.st = .waiting then { x with st := .quiesced, prior := x.st, byStop := true, pair := none }
           else x)
          else { x with cmdQueue := x.cmdQueue ++ [9] }) ∧
        s.RegsBut [.engRollstat, .engFstat] t ∧ t = { s with regs := t.regs, threads := t.threads }) ∧
    (s.cont.rollRole < 8 → s.engineOf s.cont.rollRole = some e → s.engineOf 8 = some e' → phase = 4 → s.engineQuiet e = true →
      s.MemOk → SMap.wf s.chk 0 = true → Answers .swapSwitchDone s fun t =>
        t.roleOf e' = s.cont.rollRole ∧ t.roleOf e = 8 ∧ t.engLife e' = ⟨2, 0, 1⟩ ∧
        (∀ a, a < 4096 → t.word (pstoreWord e' a) = s.word (pstoreWord e a) ∧ t.syn (pstoreWord e' a) = s.syn (pstoreWord e a) ∧
          t.word (lramWord e' a) = s.word (lramWord e a) ∧ t.syn (lramWord e' a) = s.syn (lramWord e a)) ∧
        (∀ q, (q < pstoreWord e' 0 ∨ pstoreWord (e' + 1) 0 ≤ q) → (q < lramWord e' 0 ∨ lramWord (e' + 1) 0 ≤ q) →
          t.word q = s.word q ∧ t.syn q = s.syn q) ∧
        t.thread e' th = (let y := { x with lineBuf := none }
          if y.st = .quiesced ∧ y.byStop = true then y.release else y) ∧ t.thread e th = .init th ∧
        t.fld .engRollstat F.engRollstat.phase = 0 ∧ t.fld .engRollstat F.engRollstat.rollptr = s.cont.rollRole ∧
        t.fld .engRollstat F.engRollstat.swaps = (s.fld .engRollstat F.engRollstat.swaps + 1) % 65536 ∧
        t.fld .engFstat F.engFstat.swap = 0 ∧
        t = { s with regs := t.regs, mem := t.mem, chk := t.chk, threads := t.threads, engines := t.engines })

/-- DOZE and SLEEP are entered and left through the power handshake (spec/16 R450, spec/16 R451, spec/18 R478, spec/18
R479, spec/18 R480, spec/18 R481, spec/18 R482). DOZE is requested when every engine has rested for DOZEDLY and left
when one does not; the acknowledge enters the state asked for and its fall makes the next request. A sleep request
quiesces the threads, then gates the engines and rests the slots, then asks for SLEEP; entry counts, invalidates the
caches, and stops the shore unless it is to keep time. A wake records its cause, wakes the slots and asks for RUN;
its completion brings the engines to ON with their threads released. Nothing else changes. -/
def Obligations.PowerFollowsItsHandshake : Prop :=
  ∀ (s : State) (w : Who) (e th n : Nat) (d : BitVec 32), s.Live → e < 9 → th < 32 → n < 32 →
    let x := s.thread e th
    let busy := s.ports.pwrReq = true ∨ s.ports.pwrAck = true
    let asks := fun (k : Nat) (t : State) =>
      (busy → t.power.next = some k ∧ t.ports.pwrReq = s.ports.pwrReq ∧ t.ports.pwrTgt = s.ports.pwrTgt) ∧
      (¬busy → t.ports.pwrReq = true ∧ t.ports.pwrTgt = k ∧ t.fld .engPwrstat F.engPwrstat.hs = 1 ∧ t.power.next = s.power.next)
    let quiet := fun (t : State) => t.thread e th = if x.atBoundary ∧ x.cmdQueue = [] then
        (if x.st = .ready ∨ x.st = .diverted ∨ x.st = .waiting then { x with st := .quiesced, prior := x.st, byStop := true, pair := none }
         else x)
      else { x with cmdQueue := x.cmdQueue ++ [9] }
    let released := fun (t : State) => t.thread e th = if x.st = .quiesced ∧ x.byStop = true then x.release else x
    let takes := fun (t : State) => ∀ f ∈ [F.engPwr.sleepKeepTime, F.engPwr.dozeEn, F.engPwr.dozedly], t.fld .engPwr f = f.get d
    (s.booted = true → s.bit .engPwr F.engPwr.dozeEn = true → s.powerState = 0 → s.allRest = true →
      (∃ a, s.power.restAt = some a ∧ a + 800 * max 1 (s.fld .engPwr F.engPwr.dozedly) ≤ s.ticks) →
      (∀ k, k < 9 → (s.engine k).slotAt = 0 ∨ (s.engine k).slotAt + 800 * max 1 (s.fld .engPwr F.engPwr.dozedly) ≤ s.ticks) →
      s.power.stage = 0 → s.power.waking = false → s.powerIdle = true → Answers .dozeEntry s fun t => asks 1 t ∧ t.powerState = 0 ∧
        s.RegsBut [.engPwrstat] t ∧ t = { s with regs := t.regs, ports := t.ports }) ∧
    ((s.powerState = 1 ∨ (s.ports.pwrReq = true ∧ s.ports.pwrTgt = 1)) → s.allRest = false → s.runAsked = false →
      Answers .dozeExit s fun t => asks 0 t ∧ s.RegsBut [.engPwrstat] t ∧
        t = { s with regs := t.regs, ports := t.ports, power := t.power }) ∧
    (s.ports.pwrReq = true → s.ports.pwrAck = false → Answers .pwrAckRise s fun t =>
      t.ports = { s.ports with pwrReq := false, pwrAck := true } ∧
      (s.ports.pwrTgt = 0 → t.powerState = 0 ∧ t.power = s.power ∧
        (t.engLife e).st = if s.power.waking ∧ (s.engLife e).en = 1 ∧ (s.engLife e).st = 0 then 1 else (s.engLife e).st) ∧
      (s.ports.pwrTgt = 1 → t.powerState = 1 ∧ s.RegsBut [.engPwrstat] t) ∧
      (s.ports.pwrTgt = 2 → s.power.stage = 4 → t.power = { s.power with stage := 5 } ∧ s.RegsBut [] t) ∧
      t = { s with regs := t.regs, ports := t.ports, power := t.power }) ∧
    (s.ports.pwrAck = true → s.ports.pwrReq = false → Answers .pwrAckFall s fun t =>
      t.ports.pwrAck = false ∧ (s.power.next = none → t.ports = { s.ports with pwrAck := false } ∧ t.power = s.power ∧
        t.fld .engPwrstat F.engPwrstat.hs = 0) ∧
      (∀ k, s.power.next = some k → t.ports = { s.ports with pwrAck := false, pwrReq := true, pwrTgt := k } ∧
        t.power = { s.power with next := none } ∧ t.fld .engPwrstat F.engPwrstat.hs = 1) ∧
      t.powerState = s.powerState ∧ s.RegsBut [.engPwrstat] t ∧ t = { s with regs := t.regs, ports := t.ports, power := t.power }) ∧
    (s.Writer w → F.engPwr.sleepreq.get d = 1 → F.engPwr.wake.get d = 0 → s.booted = true → s.powerState ≠ 2 →
      s.power.stage = 0 → s.power.waking = false → Answers (.sleepRequest w d whole) s fun t =>
        takes t ∧ t.fld .engPwr F.engPwr.sleepreq = 1 ∧
        (s.cont.takeover ≠ none ∨ s.fld .engRollstat F.engRollstat.phase = 4 → t.power = { s.power with stage := 1 } ∧
          s.RegsBut [.engPwr] t ∧ t = { s with regs := t.regs, power := t.power }) ∧
        (s.cont.takeover = none → s.fld .engRollstat F.engRollstat.phase ≠ 4 → 2 ≤ t.power.stage ∧ quiet t ∧
          t.fld .engRollstat F.engRollstat.phase = 0 ∧ t.mem = s.mem ∧ t.lanes = s.lanes)) ∧
    (s.power.stage = 2 → (∀ k, k < 9 → s.engineQuiet k = true) → (∀ k, k < 32 → (s.bankLife k).st ≠ 1) →
      Answers .sleepEntered s fun t => 3 ≤ t.power.stage ∧ t.ports.retReq.getLsbD 34 = true ∧
        t.engLife e = ⟨0, (if (s.engLife e).st = 0 then (s.engLife e).pend else 0), (s.engLife e).en⟩ ∧
        (t.bankLife n).st = (if (s.bankLife n).en = 1 ∧ (s.bankLife n).st = 2 then 3 else (s.bankLife n).st) ∧
        t = { s with regs := t.regs, ports := t.ports, power := t.power, integ := { s.integ with bgtAgain := t.integ.bgtAgain } }) ∧
    (s.power.stage = 3 → (∀ k, k < 32 → (s.bankLife k).st = 0) → s.ports.retAck.getLsbD 34 = true →
      Answers .sleepEntered s fun t => t.power.stage = 4 ∧ asks 2 t ∧ s.RegsBut [.engPwrstat] t ∧
        t = { s with regs := t.regs, ports := t.ports, power := t.power }) ∧
    (s.power.stage = 5 → Answers .sleepEntered s fun t =>
      t.asleep = true ∧ t.fld .engPwr F.engPwr.sleepreq = 0 ∧ t.power.stage = 0 ∧
      t.fld .engPwrstat F.engPwrstat.sleeps = (s.fld .engPwrstat F.engPwrstat.sleeps + 1) % 4096 ∧
      (t.engine e).icache = [] ∧ t.thread e th = { x with lineBuf := none, missStale := x.miss.isSome } ∧
      (s.bit .engPwr F.engPwr.sleepKeepTime = true → s.RegsBut [.engPwr, .engPwrstat] t ∧
        t = { s with regs := t.regs, engines := t.engines, threads := t.threads, power := t.power }) ∧
      (s.bit .engPwr F.engPwr.sleepKeepTime = false → t.shoreRuns = false ∧ t.mem = s.mem ∧ ∀ m, m < 8 →
        t.sub m = if s.domainOn m ∧ 1 ≤ s.sub m ∧ s.sub m ≤ 4 then 5 else s.sub m)) ∧
    (s.Writer w → F.engPwr.wake.get d = 1 → F.engPwr.sleepreq.get d = 0 → Answers (.wake w d whole) s fun t =>
      takes t ∧ t.mem = s.mem ∧ t.threads = s.threads ∧ t.engines = s.engines ∧ t.lanes = s.lanes ∧
      ((s.powerState = 2 ∧ s.power.waking = false) ∨ s.power.stage ≠ 0 →
        t.fld .engPwrstat F.engPwrstat.wcause = 3 ∧ t.fld .engPwr F.engPwr.sleepreq = 0 ∧ t.power.stage = 0 ∧
        t.power.waking = true ∧ asks 0 t ∧ t.bankLife n = (if (s.bankLife n).en = 1 ∧ ((s.bankLife n).st = 0 ∨ (s.bankLife n).st = 3)
          then (s.bankLife n).request 1 else s.bankLife n)) ∧
      (s.powerState = 1 → s.power.stage = 0 → asks 0 t) ∧
      ((s.powerState = 0 ∨ (s.powerState = 2 ∧ s.power.waking = true)) → s.power.stage = 0 → s.RegsBut [.engPwr] t ∧
        t = { s with regs := t.regs })) ∧
    (s.power.waking = true → s.powerState = 0 → s.runAsked = false → s.arraysAwake = true → Answers .wakeComplete s fun t =>
      t.power = { s.power with waking := false } ∧
      ((s.engLife e).st = 1 → (s.engLife e).pend = 0 → (t.engLife e).st = 2 ∧ released t) ∧
      ((s.engLife e).st = 2 → t.engLife e = s.engLife e ∧ released t) ∧
      ((s.engLife e).st = 0 → t.engLife e = s.engLife e ∧ t.thread e th = x) ∧
      t = { s with regs := t.regs, threads := t.threads, power := t.power })

/-- Thread and engine resets; breakpoints, HALT, STEP, RUN, HALTALL and RUNALL (spec/18 R483, spec/18 R484, spec/18
R486, spec/18 R487, spec/18 R488, spec/05 R125, spec/13 R349). A thread reset parks a thread that does not issue,
with cause 7, its registers zero, its records gone and its locks abandoned, and waits for the boundary of one that
does; an engine reset parks every thread, discards the undrained stores and clears the statistics, and keeps role
and life-cycle. A breakpoint halts the thread before the address and records itself; the debug commands halt, step
and run a thread or all of them. Memory and every other thread and register stay. -/
def Obligations.ResetsAndDebugStopThreads : Prop :=
  ∀ (s : State) (w : Who) (e th i : Nat) (d : BitVec 32), s.Live → e < 9 → th < 32 →
    let x := s.thread e th
    let n := s.roleIndex e th
    let parked := fun (t : State) =>
      let y := t.thread e th
      y.st = .parked ∧ y.parkCause = 7 ∧ y.parkPc = x.pc ∧ y.pc = x.pc ∧ y.regs = .zero ∧ y.priv = x.priv ∧ y.prio = x.prio ∧
      y.urgmask = x.urgmask ∧ y.uvec = x.uvec ∧ y.viol = 0 ∧ y.loads = [] ∧ y.halted = false ∧ y.cmdQueue = []
    let freed := fun (t : State) => s.roleOf e ≤ 8 → ∀ k, k < 256 → (s.lock k).holder = some n →
      (t.lock k).abandoned = true ∧ (t.lock k).holder ≠ some n
    let others := fun (t : State) => ∀ k y, 32 * k + y ≠ 32 * e + th → t.thread k y = s.thread k y
    (s.Writer w → F.engRst.kind.get d = 1 → F.engRst.target.get d = 32 * e + th →
      (x.issues = false → Answers (.threadReset w d whole) s fun t =>
        parked t ∧ freed t ∧ (t.thread e th).ck = [] ∧ s.Counts (.engParkcnt e) F.engParkcnt.count t ∧
        s.RegsBut [.engParkcnt e, .lckStats] t ∧ t = { s with regs := t.regs, threads := t.threads, locks := t.locks }) ∧
      (x.issues = true → (x.atBoundary = false ∨ x.cmdQueue ≠ []) → Answers (.threadReset w d whole) s fun t =>
        t.thread e th = { x with cmdQueue := x.cmdQueue ++ [10] } ∧ others t ∧ t = { s with threads := t.threads })) ∧
    (s.Writer w → F.engRst.kind.get d = 2 → F.engRst.target.get d = e →
      ((∀ y, s.cont.takeover = some y → y.engine ≠ some e) → Answers (.engineReset w d whole) s fun t =>
        parked t ∧ freed t ∧ (t.engine e).sb = [] ∧ (t.engine e).icache = (s.engine e).icache ∧
        (∀ r ∈ [Reg.engIssuecnt e, .engPaircnt e, .engStallcnt e, .engIcmiss e, .engRotcnt e], t.rd r = 0) ∧
        t.engLife e = s.engLife e ∧ t.roleOf e = s.roleOf e ∧ t.mem = s.mem ∧ t.chk = s.chk ∧ t.lanes = s.lanes ∧
        t.cont = s.cont) ∧
      (∀ y, s.cont.takeover = some y → y.engine = some e → Answers (.engineReset w d whole) s fun t => t = (s.failTakeover y).resetContexts e ∧
        parked t ∧ t.roleOf e = 15 ∧ (t.engine e).sb = [] ∧ (s.outOfService e = false → e ∈ t.cont.bist) ∧ t.cont.takeover = none ∧
        ∀ r ∈ [Reg.engIssuecnt e, .engPaircnt e, .engStallcnt e, .engIcmiss e, .engRotcnt e], t.rd r = 0)) ∧
    (i < 8 → s.fld (.engStat e) F.engStat.state = 2 → s.asleep = false → x.issues = true → x.halted = false → x.drain = none →
      s.couldIssue e th = true → s.breaks e th = true → s.breakAt e th x.pc i = true →
      Answers (.breakpointHit e th i) s fun t =>
        t.thread e th = { x with halted := true, stepping := false, haltReq := false, bpSkip := true, pair := none,
                                 midPair := false } ∧ others t ∧
        t.fld (.engDbghit e) F.engDbghit.hit = 1 ∧ t.fld (.engDbghit e) F.engDbghit.thread = th ∧
        t.fld (.engDbghit e) F.engDbghit.bp = i ∧ s.RegsBut [.engDbghit e] t ∧ t = { s with regs := t.regs, threads := t.threads }) ∧
    (s.Writer w → isHost w = true → s.debugOpen = true →
      let halted := if x.atBoundary ∧ x.rep = none then { x with halted := true, stepping := false, haltReq := false, pair := none }
        else { x with haltReq := true }
      let running := { x with halted := false, haltReq := false, stepping := false }
      (∀ c : Instr × Nat × Thread, (c = (.dbgHalt w e d whole, 1, halted) ∨ c = (.dbgStep w e d whole, 2, { halted with stepping := true }) ∨
          c = (.dbgRun w e d whole, 3, running)) →
        F.engDbgctl.cmd.get d = c.2.1 → F.engDbgctl.thread.get d = th → Answers c.1 s fun t =>
          t.thread e th = c.2.2 ∧ others t ∧ t = { s with threads := t.threads }) ∧
      (∀ c : Instr × Nat × Thread, (c = (.dbgHaltall w e d whole, 4, halted) ∨ c = (.dbgRunall w e d whole, 5, running)) →
        F.engDbgctl.cmd.get d = c.2.1 → Answers c.1 s fun t =>
          t.thread e th = c.2.2 ∧ (∀ k y, k ≠ e → y < 32 → t.thread k y = s.thread k y) ∧ t = { s with threads := t.threads }))

/-- Host lock requests and releases, forced release, an abandoned master, and the doorbells (spec/13 R341, spec/13 R342,
spec/13 R344, spec/13 R345, spec/13 R346, spec/13 R347, spec/13 R348, spec/13 R349, spec/13 R352, spec/17 R472). A
host read of LCK_REQ answers 0 with a violation of kind 6, 1 or 2 when it gets the lock or learns of its grant, and
3 when it queues, leaving every other queue; a read of LCK_REL answers 1 and passes the lock on, or 0. A forced
release passes the lock on when the holder is as expected, else it is counted as a miss; an abandoned master leaves
every queue and lock. The lock passes to the arbiter's choice, with LOCKF for a thread. A doorbell sets MBX of a
thread in an active role, or sets and clears host bits; nothing else changes. -/
def Obligations.HostsLockAndAreHeard : Prop :=
  ∀ (s : State) (w : Who) (mid : BitVec 8) (p sec : Bool) (k : Nat) (d : BitVec 32), s.Live → k < 256 →
    let h := Who.host mid p sec
    let i := 288 + mid.toNat
    let x := s.lock k
    let passes := fun (u t : State) => match arbitrate 544 x.ptr (fun i => u.effPrio 256 i k) x.queue with
      | none => t.lock k = { u.lock k with holder := none, told := true } ∧ t.threads = s.threads
      | some j => t.lock k = { u.lock k with holder := some j, queue := x.queue.filter (· != j), ptr := (j + 1) % 544,
                                             told := false } ∧
          t.threads = if j < 288 then (s.roleEvt (j / 32) (j % 32) 6).threads else s.threads
    let still := fun t : State => ∀ j, j ≠ k → t.lock j = s.lock j
    (s.lockRights h k = false → Answers (.hostLockRequest h k) s fun t =>
      t.rdata = 0 ∧ t.locks = s.locks ∧ s.Counts .topHviol F.topHviol.count t ∧ t.fld .topHvlast F.topHvlast.kind = 6 ∧
      t.fld .topHvlast F.topHvlast.mid = mid.toNat ∧ t.fld .topIstat F.topIstat.hviol = 1 ∧
      s.RegsBut [.topHviol, .topHvlast, .topHvaddr, .topIstat] t ∧ t = { s with regs := t.regs, rdata := t.rdata }) ∧
    (s.lockRights h k = true → Answers (.hostLockRequest h k) s fun t =>
      (∀ j, j ≠ k → t.lock j = { s.lock j with queue := (s.lock j).queue.filter (· != i) }) ∧
      t.rdata = (match x.holder with
        | none => if x.abandoned then 2 else 1
        | some j => if j = i then (if x.told then 1 else if x.abandoned then 2 else 1) else 3) ∧
      (x.holder = none → t.lock k = { x with holder := some i, abandoned := false, told := true }) ∧
      (x.holder = some i → t.lock k = if x.told then x else { x with abandoned := false, told := true }) ∧
      (∀ j, x.holder = some j → j ≠ i → t.lock k = if i ∈ x.queue then x else { x with queue := x.queue ++ [i] }) ∧
      t = { s with locks := t.locks, rdata := t.rdata }) ∧
    (x.holder = some i → Answers (.hostLockRelease h k) s fun t =>
      t.rdata = 1 ∧ passes s t ∧ still t ∧ t = { s with locks := t.locks, threads := t.threads, rdata := t.rdata }) ∧
    (x.holder ≠ some i → s.lockRights h k = true → Answers (.hostLockRelease h k) s fun t =>
      t.rdata = 0 ∧ t.lock k = { x with queue := x.queue.filter (· != i) } ∧ still t ∧
      t = { s with locks := t.locks, rdata := t.rdata }) ∧
    (s.Writer w → F.lckFrel.lock.get d = k → x.holder = some (F.lckFrel.holder.get d) →
      Answers (.forcedRelease w d whole) s fun t =>
        passes (if F.lckFrel.abandon.get d = 1 then s.setLock k { x with abandoned := true } else s) t ∧ still t ∧
        s.Counts .lckStats F.lckStats.forced t ∧ t.fld .lckStats F.lckStats.fmiss = s.fld .lckStats F.lckStats.fmiss ∧
        s.RegsBut [.lckStats] t ∧ t = { s with regs := t.regs, locks := t.locks, threads := t.threads }) ∧
    (s.Writer w → F.lckFrel.lock.get d = k → x.holder ≠ some (F.lckFrel.holder.get d) →
      Answers (.forcedRelease w d whole) s fun t => s.Counts .lckStats F.lckStats.fmiss t ∧
        t.fld .lckStats F.lckStats.forced = s.fld .lckStats F.lckStats.forced ∧ s.OnlyRegs [.lckStats] t) ∧
    (s.Writer w → Answers (.hostMasterAbandon w d whole) s fun t =>
      let m := 288 + F.lckHmrel.master.get d
      m ∉ (t.lock k).queue ∧ (t.lock k).holder ≠ some m ∧ (x.holder = some m → (t.lock k).abandoned = true) ∧
      (x.holder ≠ some m → t.lock k = { x with queue := x.queue.filter (· != m) }) ∧
      s.RegsBut [.lckStats] t ∧ t = { s with regs := t.regs, locks := t.locks, threads := t.threads }) ∧
    (Answers (.threadDoorbell w d whole) s fun t =>
      (∀ e, s.engineOf (F.topTdoor.role.get d) = some e → s.takingOver (F.topTdoor.role.get d) = false →
        let th := F.topTdoor.thread.get d
        t.thread e th = Thread.waitTest { s.thread e th with evt := (s.thread e th).evt ||| 0x1000 } ∧
        ∀ a y, 32 * a + y ≠ 32 * e + th → t.thread a y = s.thread a y) ∧
      (s.engineOf (F.topTdoor.role.get d) = none ∨ s.takingOver (F.topTdoor.role.get d) = true → t = s) ∧ t = { s with threads := t.threads }) ∧
    (Answers (.hostDoorbellSet w d whole) s fun t => t.rd .topHdoor = s.rd .topHdoor ||| (d &&& 0xFFFF) ∧
      s.OnlyRegs [.topHdoor] t) ∧
    (Answers (.hostDoorbellClear w d whole) s fun t => t.rd .topHdoor = s.rd .topHdoor &&& ~~~(d &&& 0xFFFF) ∧
      s.OnlyRegs [.topHdoor] t)

/-- Selectors capture their words, the data are placed and taken, and the copies are refreshed (spec/17 R465, spec/17
R466, spec/17 R467, spec/17 R468, spec/17 R469, spec/17 R470, spec/12 R326, spec/14 R358, spec/19 R507, spec/16
R435). A selector that the master may use clears VALID and the data, sets BUSY and records the master, and captures
the words its unit gives, those of a tick-clocked unit at the start of the next tick; the capture's end places them
at once with VALID and a new SEQ; a read of MBX_DATA3 clears VALID. A filtered selector completes at once with
zeros, FILT and a violation of kind 7, a reserved one with BADSEL. An edge of SCLK samples every copy register; a
returning edge ends the fallback. The units captured stay. -/
def Obligations.TheMailboxAnswersItsSelectors : Prop :=
  ∀ (s : State) (mid : BitVec 8) (p sec : Bool) (i : Nat), s.Live →
    let w := Who.host mid p sec
    let group := fun (s : State) (g : Nat) => ([BitVec.ofNat 32 (s.count (4 * g + 1) * 65536 + s.count (4 * g)),
      BitVec.ofNat 32 (s.count (4 * g + 3) * 65536 + s.count (4 * g + 2)), s.tickTime.extractLsb' 0 32,
      s.tickTime.extractLsb' 32 32] : List (BitVec 32))
    let unit := fun (s : State) (i : Nat) => [s.position i, s.rd (.posSpeed i), s.rd (.posLastt i), s.rd (.posStat i)]
    let now := fun s : State => ([s.tickTime.extractLsb' 0 32, s.tickTime.extractLsb' 32 32, 0, 0] : List (BitVec 32))
    let ticked := fun sel : Nat => sel = 0x100 ∨ 0x200 ≤ sel ∧ sel < 0x400
    (∀ c : Instr × Nat × Bool × List (BitVec 32),
      (c = (.mbxTime w, 0x100, false, now s) ∨
        c = (.mbxPps w, 0x101, false, [s.shore.pps.extractLsb' 0 32, s.shore.pps.extractLsb' 32 32, s.rd .laneSync, 0]) ∨
        c = (.mbxBoot w, 0x102, false, [s.boot.doneAt.extractLsb' 0 32, s.boot.doneAt.extractLsb' 32 32, s.rd .wellStat, 0]) ∨
        (i < 16 ∧ (c = (.mbxChain w i, 0x200 + i, false, group s i) ∨
          c = (.mbxPoscap w i, 0x300 + i, false, unit s i) ∨
          c = (.mbxFrec w i, 0x600 + i, true, s.faultWords i))) ∨
        (i < 32 ∧ (c = (.mbxLoga w i, 0x400 + i, true, s.logAWords i) ∨ c = (.mbxLogb w i, 0x500 + i, true, s.logBWords i))) ∨
        (i < 64 ∧ c = (.mbxQalm w i, 0x8000 + i, true, s.alarmWords i)) ∨ c = (.mbxOutcnt w, 0x8100, true, s.outletCounts)) →
      (c.2.2.1 = true → p = true ∨ sec = true) → Answers c.1 s fun t =>
        (s.shoreRuns = true → ticked c.2.1 → t.mbx = none ∧ t.soon = s.dropCapture.soon ++ [.capture c.2.1]) ∧
        (s.shoreRuns = false ∨ ¬ticked c.2.1 → t.mbx = some c.2.2.2 ∧ t.soon = s.dropCapture.soon) ∧ (∀ n, n < 4 → t.rd (.mbxData n) = 0) ∧ t.fld .mbxSel F.mbxSel.sel = c.2.1 ∧
        t.fld .mbxStat F.mbxStat.valid = 0 ∧ t.fld .mbxStat F.mbxStat.busy = 1 ∧ t.fld .mbxStat F.mbxStat.mid = mid.toNat ∧
        t.fld .mbxStat F.mbxStat.seq = s.fld .mbxStat F.mbxStat.seq ∧
        s.RegsBut [.mbxSel, .mbxStat, .mbxData 0, .mbxData 1, .mbxData 2, .mbxData 3] t ∧
        t = { s with regs := t.regs, mbx := t.mbx, soon := t.soon }) ∧
    ((s.captureTick 0x100).mbx = some (now s) ∧ (i < 16 → (s.captureTick (0x300 + i)).mbx = some (unit (s.quadTick i) i) ∧
      (s.captureTick (0x200 + i)).mbx = some (group s.countTick i))) ∧
    (∀ c ∈ [Instr.mbxFrec w (i % 16), .mbxLoga w (i % 32), .mbxLogb w (i % 32), .mbxQalm w (i % 64), .mbxOutcnt w],
      p = false → sec = false → Answers c s fun t =>
        t.mbx = none ∧ (∀ n, n < 4 → t.rd (.mbxData n) = 0) ∧ t.fld .mbxStat F.mbxStat.valid = 1 ∧
        t.fld .mbxStat F.mbxStat.filt = 1 ∧ t.fld .mbxStat F.mbxStat.badsel = 0 ∧ t.fld .mbxStat F.mbxStat.busy = 0 ∧
        t.fld .topHvlast F.topHvlast.kind = 7 ∧ s.Counts .topHviol F.topHviol.count t ∧
        t = { s with regs := t.regs, mbx := none, soon := s.dropCapture.soon }) ∧
    (i < 65536 → s.mailboxWords i = none → Answers (.mbxReservedSelector w i) s fun t =>
      t.mbx = none ∧ (∀ n, n < 4 → t.rd (.mbxData n) = 0) ∧ t.fld .mbxStat F.mbxStat.valid = 1 ∧
      t.fld .mbxStat F.mbxStat.badsel = 1 ∧ t.fld .mbxStat F.mbxStat.filt = 0 ∧ t.fld .mbxStat F.mbxStat.busy = 0 ∧
      t.fld .mbxSel F.mbxSel.sel = i ∧
      s.RegsBut [.mbxSel, .mbxStat, .mbxData 0, .mbxData 1, .mbxData 2, .mbxData 3] t ∧
      t = { s with regs := t.regs, mbx := none, soon := s.dropCapture.soon }) ∧
    (∀ l, s.mbx = some l → Answers .mailboxCaptureDone s fun t =>
      t.mbx = none ∧ (∀ n, n < 4 → t.rd (.mbxData n) = l.getD n 0) ∧ t.fld .mbxStat F.mbxStat.valid = 1 ∧
      t.fld .mbxStat F.mbxStat.busy = 0 ∧ t.fld .mbxStat F.mbxStat.seq = (s.fld .mbxStat F.mbxStat.seq + 1) % 256 ∧
      t.fld .mbxStat F.mbxStat.mid = s.fld .mbxStat F.mbxStat.mid ∧
      s.RegsBut [.mbxStat, .mbxData 0, .mbxData 1, .mbxData 2, .mbxData 3] t ∧ t = { s with regs := t.regs, mbx := none }) ∧
    (∀ strb : BitVec 4, strb ≠ 0 → Answers (.mailboxData3Read w strb) s fun t =>
      t.rdata = s.rd (.mbxData 3) &&& byteMask strb ∧ t.fld .mbxStat F.mbxStat.valid = 0 ∧
      (∀ f ∈ [F.mbxStat.seq, F.mbxStat.mid, F.mbxStat.filt, F.mbxStat.badsel, F.mbxStat.busy],
        t.fld .mbxStat f = s.fld .mbxStat f) ∧ s.RegsBut [.mbxStat] t ∧ t = { s with regs := t.regs, rdata := t.rdata }) ∧
    (Answers .sclkFallback s fun t => t.fld .topCopyseq F.topCopyseq.sclksrc = 1 ∧
      t.fld .topCopyseq F.topCopyseq.seq = s.fld .topCopyseq F.topCopyseq.seq ∧ s.OnlyRegs [.topCopyseq] t) ∧
    (∀ sclk : Bool, (sclk = true ∨ s.bit .topCopyseq F.topCopyseq.sclksrc = true) → Answers (.statusCopyRefresh sclk) s fun t =>
      (∀ r ∈ copyRegs, t.copyOf r = s.view r) ∧
      t.fld .topCopyseq F.topCopyseq.seq = (s.fld .topCopyseq F.topCopyseq.seq + 1) % 65536 ∧
      t.fld .topCopyseq F.topCopyseq.sclksrc = (if sclk then 0 else s.fld .topCopyseq F.topCopyseq.sclksrc) ∧
      s.RegsBut [.topCopyseq] t ∧ t = { s with regs := t.regs, copies := t.copies })

/-- Raised alarms, records written to the ring, the read pointer, and the end of a storm window (spec/19 R494, spec/19
R495, spec/19 R498, spec/19 R499, spec/19 R500, spec/19 R501, spec/19 R502, spec/19 R503, spec/19 R504). A raised
code is queued as an alarm with its source. The outlet writes both words of the first candidate that has room at
WRPTR and takes it from its queue; an alarm goes before a GAP, a GAP before logs, logs before traces; a refused word
sets RINGERR, queues OUTRING and drops both FIFOs. The read pointer moves no further than what is unread. A storm
ends at the end of a window with few alarms. Every other word and register stays. -/
def Obligations.TheOutletWritesItsRing : Prop :=
  ∀ (s : State) (w : Who) (d : BitVec 32), s.Live →
    let o := s.outlet
    let n := s.fld .outRlen F.outRlen.len
    let wp := s.fld .outWrptr F.outWrptr.ptr
    let rp := s.fld .outRdptr F.outRdptr.ptr
    let unread := (wp + n - rp) % n
    let free := n - 1 - unread
    let place := 16 * (s.fld .outRbase F.outRbase.base + wp)
    (s.Writer w → 0x30 ≤ F.outRaise.code.get d → F.outRaise.code.get d ≤ 0x3F →
      let u := if s.windowEnds then s.endWindow else s
      (s.fld .outStorm F.outStorm.thresh = 0 ∨ u.outlet.window + 1 ≤ s.fld .outStorm F.outStorm.thresh ∨
        u.bit .outStat F.outStat.storm) →
      Answers (.outRaise w d whole) s fun t =>
        t.outlet = { u.outlet with alarms := joinAlarm u.outlet.alarms (F.outRaise.code.get d) (BitVec.ofNat 32 (match w with
          | .host mid _ _ => mid.toNat
          | .thread e th => 0x8000 + 32 * s.roleOf e + th)) s.tickTime, almTotal := u.outlet.almTotal + 1, window := u.outlet.window + 1 } ∧
        t = { u with outlet := t.outlet }) ∧
    (s.Writer w → d.toNat % 16 = 0 → d.toNat / 16 < n → (d.toNat / 16 + n - rp) % n ≤ unread →
      Answers (.rdptrWrite w d whole) s fun t => t.fld .outRdptr F.outRdptr.ptr = d.toNat / 16 ∧ s.OnlyRegs [.outRdptr] t) ∧
    (s.bit .outCtrl F.outCtrl.en = true → s.bit .outStat F.outStat.ringerr = false → s.paused = false →
      s.bit .outCtrl F.outCtrl.xen = false → s.fld .outRes F.outRes.almres ≤ s.fld .outRes F.outRes.trcres → 0 < n → wp < n →
      let k := s.served (s.poolPhys place)
      let k' := s.served (s.poolPhys (place + 8))
      (s.poolAnswer place .outlet true = .go → k ≠ k' →
        let put := fun (w0 w1 : BitVec 64) (o' : Outlet) (t : State) =>
          t.word k = w0 ∧ t.word k' = w1 ∧ t.syn k = 0 ∧ t.syn k' = 0 ∧
          (∀ q, q ≠ k → q ≠ k' → t.word q = s.word q ∧ t.syn q = s.syn q) ∧
          t.fld .outWrptr F.outWrptr.ptr = (wp + 1) % n ∧ t.outlet = { o' with written := (o.written + 1) % 2 ^ 32 } ∧
          s.RegsBut [.outWrptr, .outCnt, .outStat] t ∧
          t = { s with mem := t.mem, chk := t.chk, regs := t.regs, outlet := t.outlet }
        let roomy := s.fld .outRes F.outRes.trcres < free
        (∀ a l, o.alarms = a :: l → roomy → Answers .outletRecordWrite s (put a.time
          (recWord [(60, 1), (48, a.code), (32, a.count), (0, a.detail.toNat)]) { o with alarms := l })) ∧
        (o.alarms = [] → o.gap ≠ 0 → roomy → Answers .outletRecordWrite s
          (put o.gapTime (recWord [(60, 3), (0, o.gap)]) { o with gap := 0 })) ∧
        (∀ r l, o.alarms = [] → o.gap = 0 → o.logs = r :: l → roomy → Answers .outletRecordWrite s
          (put r.word0 r.word1 { o with logs := l })) ∧
        (∀ r l, o.alarms = [] → o.gap = 0 → o.logs = [] → o.traces = r :: l → roomy → Answers .outletRecordWrite s
          (put r.word0 r.word1 { o with traces := l })) ∧
        (∀ a l, o.alarms = a :: l → o.logs = [] → o.traces = [] → 1 ≤ free → Answers .outletRecordWrite s (put a.time
          (recWord [(60, 1), (48, a.code), (32, a.count), (0, a.detail.toNat)]) { o with alarms := l }))) ∧
      (∀ a l, o.alarms = a :: l → o.logs = [] → o.traces = [] → 1 ≤ free → s.poolAnswer place .outlet true = .refuse →
        Answers .outletRecordWrite s fun t => t.fld .outStat F.outStat.ringerr = 1 ∧ t.fld .outStat F.outStat.loss = 1 ∧
          t.Alarmed 0x03 ∧ t.mem = s.mem ∧ t.chk = s.chk ∧ t.fld .outWrptr F.outWrptr.ptr = wp)) ∧
    (s.shoreRuns = true → s.tick % (800 * max 1 (s.fld .outStorm F.outStorm.window)) = 0 → o.windowAt ≠ s.ticks + 1 →
      Answers .stormWindowEnd s fun t => t.outlet.window = 0 ∧ t.outlet.windowAt = s.ticks + 1 ∧
      (s.bit .outStat F.outStat.storm = true → o.window ≤ s.fld .outStorm F.outStorm.low →
        t.fld .outStat F.outStat.storm = 0 ∧ t.Alarmed 0x02 ∧ s.RegsBut [.outStat] t) ∧
      ((s.bit .outStat F.outStat.storm = false ∨ s.fld .outStorm F.outStorm.low < o.window) →
        t.outlet = { o with window := 0, windowAt := s.ticks + 1 } ∧ s.RegsBut [] t) ∧ t = { s with regs := t.regs, outlet := t.outlet })

/-- Register writes and reads through the rights filter, and accesses of hosts to memory (spec/17 R453, spec/17 R455,
spec/17 R456, spec/17 R457, spec/17 R458, spec/17 R459, spec/17 R462, spec/17 R464, spec/17 R465, spec/11 R282,
spec/11 R288, spec/11 R294). A write takes the strobed bytes of each field that the rights let it reach, a filtered
one changes nothing and is counted as kind 2 for a host and in VIOL for a thread; one with no strobe or of a
reserved location has no effect. A read clears the RC fields it covers whole; a host read of a copy register gives
the copy. A memory access of a host reads or writes the unit of the word it reaches (but bytes of local RAM that a
thread wrote in the same RAM cycle stay, and LRCOL counts), waits, or is counted under its kind; every other byte
and register stays. -/
def Obligations.AccessesReachTheirRegistersAndMemory : Prop :=
  ∀ (s : State) (w : Who) (addr i : Nat) (d : BitVec 32) (strb : BitVec 4), s.Live → i < 8 →
    let a := addr % 2 ^ 24 / 4 * 4
    let m := byteMask strb
    let rules := [Reg.lckGrights i, .memBgtint, .topHroute i, .engRoll, .outTsel i]
    let counted := fun (kind : Nat) (write : Bool) (t : State) => ∀ mid p sec, w = .host mid p sec →
      s.Counts .topHviol F.topHviol.count t ∧ t.fld .topHvlast F.topHvlast.mid = mid.toNat ∧
      t.fld .topHvlast F.topHvlast.kind = kind ∧ t.fld .topHvlast F.topHvlast.write = (if write then 1 else 0) ∧
      t.fld .topHvaddr F.topHvaddr.addr = a / 4 ∧ t.fld .topIstat F.topIstat.hviol = 1 ∧
      s.RegsBut [.topHviol, .topHvlast, .topHvaddr, .topIstat] t
    (∀ r ∈ rules, a = r.key → s.Writer w → Answers (.registerWrite w addr d strb) s fun t =>
      (∀ f ∈ r.fields, t.fld r f = f.get ((s.rd r &&& ~~~m) ||| (d &&& m))) ∧ s.OnlyRegs [r] t) ∧
    (∀ r ∈ rules, a = r.key → (s.rights w).supervisor = false → (s.accepting = true ∨ isHost w = false) →
      (∃ f ∈ r.fields, f.mask &&& m ≠ 0) → Answers (.registerWrite w addr d strb) s fun t =>
        counted 2 true t ∧ (isHost w = true → t = { s with regs := t.regs }) ∧
        (∀ e th, w = .thread e th → t.thread e th = { s.thread e th with viol := satInc 16 (s.thread e th).viol } ∧
          t = { s with threads := t.threads })) ∧
    exec (.registerWrite w addr d 0) s = .next s ∧ exec (.rcRead w addr 0) s = .next { s with rdata := 0 } ∧
    (regAt a = none → isHost w = false ∨ region a = .control → exec (.rcRead w addr strb) s = .next { s with rdata := 0 } ∧
      ((s.accepting = true ∨ isHost w = false) → exec (.registerWrite w addr d strb) s = .next s)) ∧
    (∀ r ∈ [Reg.topHviol, .lckStats, .outCnt, .memUecnt], a = r.key → strb = whole ∨ strb = 0x3 →
      Answers (.rcRead w addr strb) s fun t =>
        (∀ f ∈ r.fields, t.fld r f = (if f.mask &&& ~~~m = 0 then 0 else s.fld r f) ∧
          (f.mask &&& ~~~m = 0 → f.get t.rdata = s.fld r f)) ∧
        s.RegsBut [r] t ∧ t = { s with regs := t.regs, rdata := t.rdata }) ∧
    (∀ r ∈ copyRegs, a = r.key → isHost w = true → (∀ e, r ≠ .engDbgstat e) →
      exec (.rcRead w addr strb) s = .next { s with rdata := r.visible (s.rights w) (s.copyOf r) &&& m }) ∧
    (isHost w = true →
      exec (.hostMemoryAccess w true addr d strb) s = exec (.registerWrite w addr d strb) s ∧
      exec (.hostMemoryAccess w false addr d strb) s = exec (.rcRead w addr strb) s ∧
      (0x600000 ≤ a → a < 0x604000 → (s.rights w).isSecure = true → s.tarnShut = false → s.asleep = false →
        s.power.waking = false → s.power.stage < 3 → ∀ write, s.reach w a write = .go (tarnWord ((a - 0x600000) / 8))) ∧
      (∀ k, strb ≠ 0 → region a ≠ .control → region a ≠ .sched → s.reach w a false = .go k →
        (s.decodeWord (s.served k)).1 = .clean →
        exec (.hostMemoryAccess w false addr d strb) s = .next { s with rdata := unitOf (s.word (s.served k)) a &&& m }) ∧
      (∀ k, s.accepting = true → strb ≠ 0 → region a ≠ .control → region a ≠ .sched → s.reach w a true = .go k →
        (s.decodeWord (s.served k)).1 = .clean → s.served k = k →
        (0x100000 ≤ k → k < 0x110000 → s.mirrorAddr ((k - 0x100000) / 4096) (k % 4096) = none) →
        Answers (.hostMemoryAccess w true addr d strb) s fun t =>
          let half := a / 4 % 2 * 4
          let e := (k - 0x100000) / 4096
          let near := 0x100000 ≤ k ∧ k < 0x110000 ∧ (s.engine e).lramNear true (k % 4096) s.ticks = true
          let stores := fun kept : BitVec 8 => ∀ b, b < 4 → t.byte (8 * k + half + b) =
            if strb.getLsbD b && !kept.getLsbD (half + b) then d.extractLsb' (8 * b) 8 else s.byte (8 * k + half + b)
          (¬near → stores 0 ∧ t.regs = s.regs) ∧
          (near → (stores 0 ∧ t.regs = s.regs) ∨ (stores (((s.engine e).lramLast.map (·.mask)).getD 0) ∧
            s.Counts (.memLrcol e) F.memLrcol.count t ∧ s.RegsBut [.memLrcol e] t)) ∧
          (∀ q, q < 8 * k + half ∨ 8 * k + half + 4 ≤ q → t.byte q = s.byte q) ∧
          (∀ j, t.engine j = { s.engine j with lramLast := (t.engine j).lramLast, lramTies := (t.engine j).lramTies }) ∧
          (k < 0x100000 ∨ 0x110000 ≤ k → t.engines = s.engines) ∧
          t = { s with mem := t.mem, chk := t.chk, engines := t.engines, regs := t.regs }) ∧
      (∀ write kind, (write = true → s.accepting = true) → strb ≠ 0 → region a ≠ .control → region a ≠ .sched →
        s.reach w a write = .bad kind → Answers (.hostMemoryAccess w write addr d strb) s fun t =>
          counted (kind % 16) write t ∧ (write = false → t.rdata = 0) ∧ t = { s with regs := t.regs, rdata := t.rdata }) ∧
      (∀ write, (write = true → s.accepting = true) → strb ≠ 0 → region a ≠ .control → region a ≠ .sched →
        s.asleep = false → s.power.stage = 0 → s.reach w a write = .wait →
        exec (.hostMemoryAccess w write addr d strb) s = .next s))

/-- The short-immediate group and the short-branch group are read as the spec lays them out (spec/04 R101, spec/04
R105). Every word of group 01 is MOVI, ADDI, an immediate shift or an immediate compare with the immediate of its
row, and every word of group 1101 is BZ or BNZ by bit 9 with a signed offset in [8:4] and its register in [3:0]. The
words of the example of the encoding chapter decode to their instructions. -/
def Obligations.ShortGroupsDecode : Prop :=
  (∀ w v : Nat, w < 2 ^ 14 →
    let d := w % 16
    let imm := w / 16 % 64
    let i6 : Int := if imm < 32 then imm else (imm : Int) - 64
    let i4 : Int := if imm % 16 < 8 then ((imm % 16 : Nat) : Int) else ((imm % 16 : Nat) : Int) - 16
    let off : Int := if imm % 32 < 16 then ((imm % 32 : Nat) : Int) else ((imm % 32 : Nat) : Int) - 32
    (w / 4096 = 1 →
      (w / 1024 % 4 = 0 → decode14 w v = .movi d i6) ∧ (w / 1024 % 4 = 1 → decode14 w v = .addi d i6) ∧
      (w / 1024 % 4 = 2 → (imm / 16 = 0 → decode14 w v = .shift .shl d (imm % 16)) ∧
        (imm / 16 = 1 → decode14 w v = .shift .shr d (imm % 16)) ∧ (imm / 16 = 2 → decode14 w v = .shift .sar d (imm % 16)) ∧
        (imm / 16 = 3 → decode14 w v = .shift .ror d (imm % 16))) ∧
      (w / 1024 % 4 = 3 → (imm / 16 = 0 → decode14 w v = .cmpi .seq d i4) ∧ (imm / 16 = 1 → decode14 w v = .cmpi .sne d i4) ∧
        (imm / 16 = 2 → decode14 w v = .cmpi .slt d i4) ∧ (imm / 16 = 3 → decode14 w v = .cmpi .sltu d ((imm % 16 : Nat) : Int)))) ∧
    (w / 1024 = 13 → (w / 512 % 2 = 0 → decode14 w v = .bz false d off) ∧ (w / 512 % 2 = 1 → decode14 w v = .bz true d off))) ∧
  decode14 0x2013 0x1414 = .load .word 3 1 0 ∧ decode14 0x1414 0x3F23 = .addi 4 1 ∧ decode14 0x3F23 0x0135 = .mac false 1 3 5 ∧
  decode14 0x3F25 0x010F = .scl 1 15 ∧ decode14 0x3F18 0x0006 = .lrd (.half 0 6) ∧ decode14 0x3D69 0x0006 = .branchI .geu 6 9 6 ∧
  decode14 0x392D 0x3FF6 = .branchI .ne 2 (-3) (-10) ∧ decode14 0x35E4 0 = .bz false 4 (-2)

/-- The compare-and-branch groups are read and written as the spec lays them out (spec/04 R103, spec/04 R104). Every
word of groups 1100, 1110, 11110 and 111110 is the branch of its row, with the second word as its signed offset. BEQ
and BNE of two registers are encoded with the lower and the higher register first, BNE of one register as BLT of it;
neither of these ever branches, and BRA's first word is 0x3E00. -/
def Obligations.BranchGroupsDecode : Prop :=
  (∀ w v : Nat, w < 2 ^ 14 → v < 2 ^ 14 →
    let a := w / 16 % 16
    let b := w % 16
    let i : Int := if b < 8 then b else (b : Int) - 16
    let off : Int := if v < 8192 then v else (v : Int) - 16384
    let c := w / 256 % 4
    (w / 1024 = 12 → (c = 0 → decode14 w v = .branch .lt a b off) ∧ (c = 1 → decode14 w v = .branch .ge a b off) ∧
      (c = 2 → decode14 w v = .branch .ltu a b off) ∧ (c = 3 → decode14 w v = .branch .geu a b off)) ∧
    (w / 1024 = 14 → (c = 0 → decode14 w v = .branchI .eq a i off) ∧ (c = 1 → decode14 w v = .branchI .ne a i off) ∧
      (c = 2 → decode14 w v = .branchI .lt a i off) ∧ (c = 3 → decode14 w v = .branchI .ge a i off)) ∧
    (w / 512 = 30 → (c % 2 = 0 → decode14 w v = .branchI .ltu a (b : Int) off) ∧
      (c % 2 = 1 → decode14 w v = .branchI .geu a (b : Int) off)) ∧
    (w / 256 = 62 → (a ≤ b → decode14 w v = .branch .eq a b off) ∧ (b < a → decode14 w v = .branch .ne b a off))) ∧
  (∀ (a b : Nat) (off : Int), a < 16 → b < 16 →
    (encode14 (.branch .eq a b off)).1 = 0x3E00 + 16 * min a b + max a b ∧
    (a ≠ b → (encode14 (.branch .ne a b off)).1 = 0x3E00 + 16 * max a b + min a b) ∧
    encode14 (.branch .ne a a off) = encode14 (.branch .lt a a off) ∧
    (encode14 (.branch .lt a a off)).1 / 1024 = 12) ∧
  (encode14 (.branch .eq 0 0 0)).1 = 0x3E00 ∧
  (∀ (s : State) (e t a : Nat) (off : Int),
    (s.Clear e t (.branch .ne a a off) → Answers (.bne e t a a off) s (s.Retires e t id (s.after e t (.branch .ne a a off)))) ∧
    (s.Clear e t (.branch .lt a a off) → Answers (.blt e t a a off) s (s.Retires e t id (s.after e t (.branch .lt a a off)))))

/-- Every step keeps memory in its canonical form (spec/12 R317, spec/12 R320, spec/11 R281, spec/11 R284). From every
state whose list of memory cells rises strictly by address and lists no byte equal to what an unlisted one reads as,
whatever command stands at the front of the queue, a step that answers a next state leaves memory in that form. The
form is the model's (assumption log 2). -/
def Obligations.EveryStepKeepsMemoryCanonical : Prop := ∀ s s' : State, s.MemOk → step s = .next s' → s'.MemOk

/-- Memory after reset is in its canonical form and reads zero (spec/12 R320). The state in power-on reset lists no
byte, so its memory is in the canonical form that every step keeps, and every byte reads zero (assumption log 2: the
power-on fill). -/
def Obligations.ResetMemoryIsCanonical : Prop := State.reset.MemOk ∧ ∀ a, State.reset.byte a = 0

/-- What a command leaves for the next tick acts at its start, starts first and captures last (spec/01 R7, spec/01 R20,
spec/08 R217, spec/08 R226). A write accepted in a tick, an injection, a firing, an event or a capture that waits
for the next tick takes effect at its start: alone, it is the whole effect; of several, a start of counters comes
first, captures last, and the others stay in the order of their causes, wherever they stand in line (the model's
choice, assumption log 8). In reset an idle step only counts shore time on, and in a test mode it changes nothing. -/
def Obligations.WhatWaitsForTheTickActsAtItsStart : Prop :=
  (∀ (s : State) (x : Soon), s.soon = [x] → s.actAll = State.actSoon { s with soon := [] } x) ∧
  (∀ (s : State) (w : Wr) (poison : Bool) (x y : Soon) (sel : Nat), w.addr / 4 * 4 = 0x741000 →
    x.isGo = false → x.isCapture = false → y.isGo = false → y.isCapture = false →
    s.soon = [.capture sel, x, .write w poison, y] ∨ s.soon = [x, y, .capture sel, .write w poison] ∨
      s.soon = [x, .write w poison, .capture sel, y] →
    s.actAll = (((({ s with soon := [] } : State).performWrite w poison).actSoon x).actSoon y).captureTick sel) ∧
  (∀ s : State, s.pending = [] → s.test = none → s.inReset = true →
    step s = .next (if s.shoreRuns then
      { s with time := s.time + 32, ticks := s.ticks + 1, shore := { s.shore with step := 0 } } else s)) ∧
  ∀ s : State, s.pending = [] → s.test ≠ none → step s = .next s

/-- The self-test of the memories, the boot ratio, and the discovery of the flash (spec/12 R320, spec/12 R321, spec/15
R394, spec/15 R397, spec/15 R398, spec/15 R399, spec/15 R400, spec/16 R445). A sound checker and word pass the self-
test, any stuck cell and any stuck syndrome bit of a stored row or column fail it, and the results stand in
MEM_STEST. At the lock of the multiplier the ratio is the one closest to 800 MHz; both chip selects are reset and
read; the mode is the first of 8D-8D-8D, 1S-4S-4S and 1S-1S-4S that the first device offers and reads back in, else
1S-1S-1S; the divisor is the smallest that keeps the clock limit; slots begin where R399 says; and the bus is driven
in steps 3 to 7 only. The order of commands within the discovery is the model's (assumption log 126). -/
def Obligations.TheSelfTestAndTheFlashAreTried : Prop :=
  (∀ line, (Defect.mk [] []).passes line = true) ∧
  (∀ line k v, k ∈ testBits line → (Defect.mk [(k, v)] []).passes line = false) ∧
  (∀ line k v, k < 16 → (line = true → k ≠ 15) → (Defect.mk [] [(k, v)]).passes line = false) ∧
  (∀ (env : BootEnv) (m : Nat), env.mboot ∈ (List.range 29).map (4 + ·) ∧
    (4 ≤ m → m ≤ 32 → ratioError env.trefKhz env.mboot ≤ ratioError env.trefKhz m) ∧
    ∀ limit, 0 < limit → env.trefKhz * env.mboot ≤ limit * env.div limit ∧
      ∀ n, env.trefKhz * env.mboot ≤ limit * n → env.div limit ≤ n) ∧
  (∀ (s : State) (env : BootEnv), s.test = none → s.inReset = true → Answers (.resetRelease env) s fun t =>
    (∀ m, m < 32 → (t.fld .memStest0 F.memStest0.faillo).testBit m = env.fails m) ∧
    (∀ m, m < 2 → (t.fld .memStest1 F.memStest1.failhi).testBit m = env.fails (32 + m)) ∧
    (∀ e, e < 9 → (t.fld .memStest1 F.memStest1.lram).testBit e = env.fails (34 + e) ∧
      (t.fld .memStest1 F.memStest1.pstore).testBit e = env.fails (43 + e)) ∧
    t.bit .memStest1 F.memStest1.tarn = env.fails 52 ∧ t.bit .memStest1 F.memStest1.sched = (env.fails 53 || env.fails 54) ∧
    t.ports.nvm = .off) ∧
  ∀ (s : State) (env : BootEnv), s.Live → s.boot.env = some env → env.tref = true → s.fld .laneShstat F.laneShstat.lock = 0 →
    s.fld .laneShstat F.laneShstat.holdover = 0 → s.bootStep = 1 → s.asleep = false → s.ports.retReq = 0 → s.ports.retAck = 0 →
    lcsCode s.security.lcs ≠ 4 → Answers .multiplierLock s fun t =>
      let mode := t.fld .wellFlash F.wellFlash.mode
      let keeps := fun (d : FlashDev) (m : Nat) => d.offers m = true ∧ d.readsBack m = true
      t.ports.nvm = (if t.bootStep = 5 ∨ t.bootStep = 6 then .idle else .off) ∧
      (∃ l, t.boot.flash = [.reset 0 3, .reset 0 4, .reset 0 0, .reset 1 3, .reset 1 4, .reset 1 0, .sfdp 0 0, .sfdp 1 0] ++ l) ∧
      t.fld .wellFlash F.wellFlash.div = env.div (flashLimit mode) % 256 ∧
      t.fld .wellFlash F.wellFlash.twoDev = (if env.device 1 = none then 0 else 1) ∧
      (env.device 0 = none → mode = 0) ∧
      ∀ d, env.device 0 = some d →
        t.fld .wellFlash F.wellFlash.density = d.density % 256 ∧
        t.fld .wellFlash F.wellFlash.addr4 = (if mode = 3 ∨ 24 < d.density ∨ d.cmd4 then 1 else 0) ∧
        (keeps d 3 → mode = 3) ∧ (¬keeps d 3 → keeps d 2 → mode = 2) ∧ (¬keeps d 3 → ¬keeps d 2 → keeps d 1 → mode = 1) ∧
        (¬keeps d 3 → ¬keeps d 2 → ¬keeps d 1 → mode = 0) ∧
        ∀ cs m start a4, FlashCmd.read cs m start a4 ∈ t.boot.flash → m = mode ∧
          (cs = 0 ∧ start = 0 ∨ cs = 1 ∧ start = 0 ∧ env.device 1 ≠ none ∨ cs = 0 ∧ start = 2 ^ d.density / 2 ∧ env.device 1 = none)
end

