-- ==== Sys2Proof/Laws/Maps.lean ====
section
/-! SUPPORT. The laws of sparse maps: a read after a write, and the canonical form under every operation. -/

namespace Sys2Proof.Machine

variable {V : Type}

/-! ### Reads after writes -/

theorem SMap.get_erase_self (m : SMap V) (k : Nat) (d : V) : SMap.get (m.erase k) k d = d := by
  induction m with
  | nil => rfl
  | cons c m ih => by_cases h : c.1 = k <;> simp_all [SMap.erase, SMap.get]

theorem SMap.get_erase_ne {m : SMap V} {k j : Nat} (d : V) (h : j ≠ k) : SMap.get (m.erase k) j d = m.get j d := by
  induction m with
  | nil => rfl
  | cons c m ih =>
    by_cases hk : c.1 = k
    · have : c.1 ≠ j := fun e => h (e ▸ hk)
      simp_all [SMap.erase, SMap.get]
    · simp [SMap.erase, hk, SMap.get, ih]

theorem SMap.get_insert_ne {m : SMap V} {k j : Nat} (v d : V) (h : j ≠ k) :
    SMap.get (m.insert k v) j d = m.get j d := by
  induction m with
  | nil => simp [SMap.insert, SMap.get, h.symm]
  | cons c m ih =>
    unfold SMap.insert
    split
    · simp [SMap.get, h.symm]
    · simp [SMap.get, ih]

theorem SMap.get_insert_erase (m : SMap V) (k : Nat) (v d : V) : SMap.get ((m.erase k).insert k v) k d = v := by
  induction m with
  | nil => simp [SMap.erase, SMap.insert, SMap.get]
  | cons c m ih =>
    by_cases hk : c.1 = k
    · simpa [SMap.erase, hk] using ih
    · simp only [SMap.erase, hk, if_false, SMap.insert]
      split
      · simp [SMap.get]
      · simpa [SMap.get, hk] using ih

/-- A read of the written key. -/
@[simp] theorem SMap.get_put_self [DecidableEq V] (m : SMap V) (k : Nat) (v d : V) : SMap.get (m.put k v d) k d = v := by
  unfold SMap.put
  split
  · simp_all [SMap.get_erase_self]
  · exact SMap.get_insert_erase m k v d

/-- A read of another key. -/
theorem SMap.get_put_ne [DecidableEq V] {m : SMap V} {k j : Nat} (v d d' : V) (h : j ≠ k) :
    SMap.get (m.put k v d) j d' = m.get j d' := by
  unfold SMap.put
  split
  · exact SMap.get_erase_ne d' h
  · rw [SMap.get_insert_ne v d' h, SMap.get_erase_ne d' h]

/-! ### The canonical form -/

theorem SMap.rising_iff (m : SMap V) : m.rising = true ↔ m.Pairwise fun a b => a.1 < b.1 := by
  induction m with
  | nil => simp [SMap.rising]
  | cons c m ih =>
    cases m with
    | nil => simp [SMap.rising]
    | cons c' m =>
      rw [SMap.rising, Bool.and_eq_true, ih, decide_eq_true_eq]
      constructor
      · rintro ⟨h, hp⟩
        refine List.pairwise_cons.2 ⟨?_, hp⟩
        intro x hx
        rcases List.mem_cons.1 hx with rfl | hx
        · exact h
        · exact Nat.lt_trans h ((List.pairwise_cons.1 hp).1 x hx)
      · intro hp
        exact ⟨(List.pairwise_cons.1 hp).1 c' (by simp), (List.pairwise_cons.1 hp).2⟩

theorem SMap.erase_eq_filter (m : SMap V) (k : Nat) : m.erase k = m.filter fun c => !(c.1 == k) := by
  induction m with
  | nil => rfl
  | cons c m ih => by_cases h : c.1 = k <;> simp [SMap.erase, h, ih]

theorem SMap.mem_insert {m : SMap V} {k : Nat} {v : V} {c : Nat × V} :
    c ∈ SMap.insert m k v ↔ c = (k, v) ∨ c ∈ m := by
  induction m with
  | nil => simp [SMap.insert]
  | cons x m ih =>
    unfold SMap.insert
    split
    · simp
    · simp only [List.mem_cons, ih]
      tauto

theorem SMap.rising_insert {m : SMap V} {k : Nat} (v : V) (h : m.Pairwise fun a b => a.1 < b.1)
    (hk : ∀ c ∈ m, c.1 ≠ k) : (SMap.insert m k v).Pairwise fun a b => a.1 < b.1 := by
  induction m with
  | nil => simp [SMap.insert]
  | cons x m ih =>
    have hx := List.pairwise_cons.1 h
    unfold SMap.insert
    split
    · rename_i hlt
      refine List.pairwise_cons.2 ⟨?_, h⟩
      intro c hc
      rcases List.mem_cons.1 hc with rfl | hc
      · exact hlt
      · exact Nat.lt_trans hlt (hx.1 c hc)
    · rename_i hlt
      refine List.pairwise_cons.2 ⟨?_, ih hx.2 fun c hc => hk c (by simp [hc])⟩
      intro c hc
      rcases SMap.mem_insert.1 hc with rfl | hc
      · have := hk x (by simp)
        omega
      · exact hx.1 c hc

/-- A filter keeps the canonical form. -/
theorem SMap.wf_filter [DecidableEq V] {m : SMap V} {d : V} (p : Nat × V → Bool) (h : m.wf d = true) :
    SMap.wf (m.filter p) d = true := by
  simp only [SMap.wf, Bool.and_eq_true, SMap.rising_iff, List.all_eq_true] at *
  exact ⟨h.1.sublist List.filter_sublist, fun c hc => h.2 c (List.mem_filter.1 hc).1⟩

/-- A write keeps the canonical form. -/
theorem SMap.wf_put [DecidableEq V] {m : SMap V} {d : V} (k : Nat) (v : V) (h : m.wf d = true) :
    (m.put k v d).wf d = true := by
  have he : SMap.wf (m.erase k) d = true := by
    rw [SMap.erase_eq_filter]
    exact SMap.wf_filter _ h
  unfold SMap.put
  split
  · exact he
  · rename_i hv
    simp only [SMap.wf, Bool.and_eq_true, SMap.rising_iff, List.all_eq_true] at he ⊢
    refine ⟨SMap.rising_insert v he.1 ?_, ?_⟩
    · intro c hc
      rw [SMap.erase_eq_filter] at hc
      simpa using (List.mem_filter.1 hc).2
    · intro c hc
      rcases SMap.mem_insert.1 hc with rfl | hc
      · simp [hv]
      · exact he.2 c hc

/-- Several writes keep the canonical form. -/
theorem SMap.wf_foldl_put [DecidableEq V] {d : V} (l : List (Nat × V)) {m : SMap V} (h : m.wf d = true) :
    SMap.wf (l.foldl (fun m c => SMap.put m c.1 c.2 d) m) d = true := by
  induction l generalizing m with
  | nil => exact h
  | cons c l ih => exact ih (SMap.wf_put c.1 c.2 h)

end Sys2Proof.Machine
end

