-- ==== Sys2Proof/Laws/State.lean ====
section
/-! SUPPORT. What each update of State leaves alone, field by field: each conjunct is a rule of the simplifier, so no
proof unfolds a record update. -/

namespace Sys2Proof.Machine

@[simp] theorem State.wr_frame (s : State) (r : Reg) (v : BitVec 32) :
    (s.wr r v).pending = s.pending ∧ (s.wr r v).mem = s.mem ∧ (s.wr r v).chk = s.chk ∧ (s.wr r v).threads =
    s.threads ∧ (s.wr r v).engines = s.engines ∧ (s.wr r v).outlet = s.outlet ∧ (s.wr r v).integ = s.integ ∧
    (s.wr r v).locks = s.locks ∧ (s.wr r v).channels = s.channels ∧ (s.wr r v).lanes = s.lanes ∧ (s.wr r
    v).cores = s.cores ∧ (s.wr r v).shore = s.shore ∧ (s.wr r v).weirs = s.weirs ∧ (s.wr r v).groups = s.groups
    ∧ (s.wr r v).domains = s.domains ∧ (s.wr r v).cont = s.cont ∧ (s.wr r v).threadDom = s.threadDom ∧ (s.wr r
    v).startPc = s.startPc ∧ (s.wr r v).counters = s.counters ∧ (s.wr r v).posUnits = s.posUnits ∧ (s.wr r
    v).inlets = s.inlets ∧ (s.wr r v).conduits = s.conduits ∧ (s.wr r v).power = s.power ∧ (s.wr r v).boot =
    s.boot ∧ (s.wr r v).security = s.security ∧ (s.wr r v).tap = s.tap ∧ (s.wr r v).mbx = s.mbx ∧ (s.wr r
    v).copies = s.copies ∧ (s.wr r v).ports = s.ports ∧ (s.wr r v).time = s.time ∧ (s.wr r v).ticks = s.ticks ∧
    (s.wr r v).soon = s.soon ∧ (s.wr r v).shoreRuns = s.shoreRuns ∧ (s.wr r v).inReset = s.inReset ∧ (s.wr r
    v).test = s.test ∧ (s.wr r v).rdata = s.rdata := by
  and_intros <;> rfl

@[simp] theorem State.setFld_frame (s : State) (r : Reg) (f : Fld) (v : Nat) :
    (s.setFld r f v).pending = s.pending ∧ (s.setFld r f v).mem = s.mem ∧ (s.setFld r f v).chk = s.chk ∧
    (s.setFld r f v).threads = s.threads ∧ (s.setFld r f v).engines = s.engines ∧ (s.setFld r f v).outlet =
    s.outlet ∧ (s.setFld r f v).integ = s.integ ∧ (s.setFld r f v).locks = s.locks ∧ (s.setFld r f v).channels =
    s.channels ∧ (s.setFld r f v).lanes = s.lanes ∧ (s.setFld r f v).cores = s.cores ∧ (s.setFld r f v).shore =
    s.shore ∧ (s.setFld r f v).weirs = s.weirs ∧ (s.setFld r f v).groups = s.groups ∧ (s.setFld r f v).domains =
    s.domains ∧ (s.setFld r f v).cont = s.cont ∧ (s.setFld r f v).threadDom = s.threadDom ∧ (s.setFld r f
    v).startPc = s.startPc ∧ (s.setFld r f v).counters = s.counters ∧ (s.setFld r f v).posUnits = s.posUnits ∧
    (s.setFld r f v).inlets = s.inlets ∧ (s.setFld r f v).conduits = s.conduits ∧ (s.setFld r f v).power =
    s.power ∧ (s.setFld r f v).boot = s.boot ∧ (s.setFld r f v).security = s.security ∧ (s.setFld r f v).tap =
    s.tap ∧ (s.setFld r f v).mbx = s.mbx ∧ (s.setFld r f v).copies = s.copies ∧ (s.setFld r f v).ports = s.ports
    ∧ (s.setFld r f v).time = s.time ∧ (s.setFld r f v).ticks = s.ticks ∧ (s.setFld r f v).soon = s.soon ∧
    (s.setFld r f v).shoreRuns = s.shoreRuns ∧ (s.setFld r f v).inReset = s.inReset ∧ (s.setFld r f v).test =
    s.test ∧ (s.setFld r f v).rdata = s.rdata := by
  and_intros <;> rfl

@[simp] theorem State.incSat_frame (s : State) (r : Reg) (f : Fld) :
    (s.incSat r f).pending = s.pending ∧ (s.incSat r f).mem = s.mem ∧ (s.incSat r f).chk = s.chk ∧ (s.incSat r
    f).threads = s.threads ∧ (s.incSat r f).engines = s.engines ∧ (s.incSat r f).outlet = s.outlet ∧ (s.incSat r
    f).integ = s.integ ∧ (s.incSat r f).locks = s.locks ∧ (s.incSat r f).channels = s.channels ∧ (s.incSat r
    f).lanes = s.lanes ∧ (s.incSat r f).cores = s.cores ∧ (s.incSat r f).shore = s.shore ∧ (s.incSat r f).weirs
    = s.weirs ∧ (s.incSat r f).groups = s.groups ∧ (s.incSat r f).domains = s.domains ∧ (s.incSat r f).cont =
    s.cont ∧ (s.incSat r f).threadDom = s.threadDom ∧ (s.incSat r f).startPc = s.startPc ∧ (s.incSat r
    f).counters = s.counters ∧ (s.incSat r f).posUnits = s.posUnits ∧ (s.incSat r f).inlets = s.inlets ∧
    (s.incSat r f).conduits = s.conduits ∧ (s.incSat r f).power = s.power ∧ (s.incSat r f).boot = s.boot ∧
    (s.incSat r f).security = s.security ∧ (s.incSat r f).tap = s.tap ∧ (s.incSat r f).mbx = s.mbx ∧ (s.incSat r
    f).copies = s.copies ∧ (s.incSat r f).ports = s.ports ∧ (s.incSat r f).time = s.time ∧ (s.incSat r f).ticks
    = s.ticks ∧ (s.incSat r f).soon = s.soon ∧ (s.incSat r f).shoreRuns = s.shoreRuns ∧ (s.incSat r f).inReset =
    s.inReset ∧ (s.incSat r f).test = s.test ∧ (s.incSat r f).rdata = s.rdata := by
  and_intros <;> rfl

@[simp] theorem State.incWrap_frame (s : State) (r : Reg) (f : Fld) :
    (s.incWrap r f).pending = s.pending ∧ (s.incWrap r f).mem = s.mem ∧ (s.incWrap r f).chk = s.chk ∧ (s.incWrap
    r f).threads = s.threads ∧ (s.incWrap r f).engines = s.engines ∧ (s.incWrap r f).outlet = s.outlet ∧
    (s.incWrap r f).integ = s.integ ∧ (s.incWrap r f).locks = s.locks ∧ (s.incWrap r f).channels = s.channels ∧
    (s.incWrap r f).lanes = s.lanes ∧ (s.incWrap r f).cores = s.cores ∧ (s.incWrap r f).shore = s.shore ∧
    (s.incWrap r f).weirs = s.weirs ∧ (s.incWrap r f).groups = s.groups ∧ (s.incWrap r f).domains = s.domains ∧
    (s.incWrap r f).cont = s.cont ∧ (s.incWrap r f).threadDom = s.threadDom ∧ (s.incWrap r f).startPc =
    s.startPc ∧ (s.incWrap r f).counters = s.counters ∧ (s.incWrap r f).posUnits = s.posUnits ∧ (s.incWrap r
    f).inlets = s.inlets ∧ (s.incWrap r f).conduits = s.conduits ∧ (s.incWrap r f).power = s.power ∧ (s.incWrap
    r f).boot = s.boot ∧ (s.incWrap r f).security = s.security ∧ (s.incWrap r f).tap = s.tap ∧ (s.incWrap r
    f).mbx = s.mbx ∧ (s.incWrap r f).copies = s.copies ∧ (s.incWrap r f).ports = s.ports ∧ (s.incWrap r f).time
    = s.time ∧ (s.incWrap r f).ticks = s.ticks ∧ (s.incWrap r f).soon = s.soon ∧ (s.incWrap r f).shoreRuns =
    s.shoreRuns ∧ (s.incWrap r f).inReset = s.inReset ∧ (s.incWrap r f).test = s.test ∧ (s.incWrap r f).rdata =
    s.rdata := by
  and_intros <;> rfl

@[simp] theorem State.setThread_frame (s : State) (e t : Nat) (x : Thread) :
    (s.setThread e t x).pending = s.pending ∧ (s.setThread e t x).regs = s.regs ∧ (s.setThread e t x).mem =
    s.mem ∧ (s.setThread e t x).chk = s.chk ∧ (s.setThread e t x).engines = s.engines ∧ (s.setThread e t
    x).outlet = s.outlet ∧ (s.setThread e t x).integ = s.integ ∧ (s.setThread e t x).locks = s.locks ∧
    (s.setThread e t x).channels = s.channels ∧ (s.setThread e t x).lanes = s.lanes ∧ (s.setThread e t x).cores
    = s.cores ∧ (s.setThread e t x).shore = s.shore ∧ (s.setThread e t x).weirs = s.weirs ∧ (s.setThread e t
    x).groups = s.groups ∧ (s.setThread e t x).domains = s.domains ∧ (s.setThread e t x).cont = s.cont ∧
    (s.setThread e t x).threadDom = s.threadDom ∧ (s.setThread e t x).startPc = s.startPc ∧ (s.setThread e t
    x).counters = s.counters ∧ (s.setThread e t x).posUnits = s.posUnits ∧ (s.setThread e t x).inlets = s.inlets
    ∧ (s.setThread e t x).conduits = s.conduits ∧ (s.setThread e t x).power = s.power ∧ (s.setThread e t x).boot
    = s.boot ∧ (s.setThread e t x).security = s.security ∧ (s.setThread e t x).tap = s.tap ∧ (s.setThread e t
    x).mbx = s.mbx ∧ (s.setThread e t x).copies = s.copies ∧ (s.setThread e t x).ports = s.ports ∧ (s.setThread
    e t x).time = s.time ∧ (s.setThread e t x).ticks = s.ticks ∧ (s.setThread e t x).soon = s.soon ∧
    (s.setThread e t x).shoreRuns = s.shoreRuns ∧ (s.setThread e t x).inReset = s.inReset ∧ (s.setThread e t
    x).test = s.test ∧ (s.setThread e t x).rdata = s.rdata := by
  and_intros <;> rfl

@[simp] theorem State.modThread_frame (s : State) (e t : Nat) (f : Thread → Thread) :
    (s.modThread e t f).pending = s.pending ∧ (s.modThread e t f).regs = s.regs ∧ (s.modThread e t f).mem =
    s.mem ∧ (s.modThread e t f).chk = s.chk ∧ (s.modThread e t f).engines = s.engines ∧ (s.modThread e t
    f).outlet = s.outlet ∧ (s.modThread e t f).integ = s.integ ∧ (s.modThread e t f).locks = s.locks ∧
    (s.modThread e t f).channels = s.channels ∧ (s.modThread e t f).lanes = s.lanes ∧ (s.modThread e t f).cores
    = s.cores ∧ (s.modThread e t f).shore = s.shore ∧ (s.modThread e t f).weirs = s.weirs ∧ (s.modThread e t
    f).groups = s.groups ∧ (s.modThread e t f).domains = s.domains ∧ (s.modThread e t f).cont = s.cont ∧
    (s.modThread e t f).threadDom = s.threadDom ∧ (s.modThread e t f).startPc = s.startPc ∧ (s.modThread e t
    f).counters = s.counters ∧ (s.modThread e t f).posUnits = s.posUnits ∧ (s.modThread e t f).inlets = s.inlets
    ∧ (s.modThread e t f).conduits = s.conduits ∧ (s.modThread e t f).power = s.power ∧ (s.modThread e t f).boot
    = s.boot ∧ (s.modThread e t f).security = s.security ∧ (s.modThread e t f).tap = s.tap ∧ (s.modThread e t
    f).mbx = s.mbx ∧ (s.modThread e t f).copies = s.copies ∧ (s.modThread e t f).ports = s.ports ∧ (s.modThread
    e t f).time = s.time ∧ (s.modThread e t f).ticks = s.ticks ∧ (s.modThread e t f).soon = s.soon ∧
    (s.modThread e t f).shoreRuns = s.shoreRuns ∧ (s.modThread e t f).inReset = s.inReset ∧ (s.modThread e t
    f).test = s.test ∧ (s.modThread e t f).rdata = s.rdata := by
  and_intros <;> rfl

@[simp] theorem State.setEvt_frame (s : State) (e t : Nat) (b : Word) :
    (s.setEvt e t b).pending = s.pending ∧ (s.setEvt e t b).regs = s.regs ∧ (s.setEvt e t b).mem = s.mem ∧
    (s.setEvt e t b).chk = s.chk ∧ (s.setEvt e t b).engines = s.engines ∧ (s.setEvt e t b).outlet = s.outlet ∧
    (s.setEvt e t b).integ = s.integ ∧ (s.setEvt e t b).locks = s.locks ∧ (s.setEvt e t b).channels = s.channels
    ∧ (s.setEvt e t b).lanes = s.lanes ∧ (s.setEvt e t b).cores = s.cores ∧ (s.setEvt e t b).shore = s.shore ∧
    (s.setEvt e t b).weirs = s.weirs ∧ (s.setEvt e t b).groups = s.groups ∧ (s.setEvt e t b).domains = s.domains
    ∧ (s.setEvt e t b).cont = s.cont ∧ (s.setEvt e t b).threadDom = s.threadDom ∧ (s.setEvt e t b).startPc =
    s.startPc ∧ (s.setEvt e t b).counters = s.counters ∧ (s.setEvt e t b).posUnits = s.posUnits ∧ (s.setEvt e t
    b).inlets = s.inlets ∧ (s.setEvt e t b).conduits = s.conduits ∧ (s.setEvt e t b).power = s.power ∧ (s.setEvt
    e t b).boot = s.boot ∧ (s.setEvt e t b).security = s.security ∧ (s.setEvt e t b).tap = s.tap ∧ (s.setEvt e t
    b).mbx = s.mbx ∧ (s.setEvt e t b).copies = s.copies ∧ (s.setEvt e t b).ports = s.ports ∧ (s.setEvt e t
    b).time = s.time ∧ (s.setEvt e t b).ticks = s.ticks ∧ (s.setEvt e t b).soon = s.soon ∧ (s.setEvt e t
    b).shoreRuns = s.shoreRuns ∧ (s.setEvt e t b).inReset = s.inReset ∧ (s.setEvt e t b).test = s.test ∧
    (s.setEvt e t b).rdata = s.rdata := by
  and_intros <;> rfl

@[simp] theorem State.setEngine_frame (s : State) (e : Nat) (x : Engine) :
    (s.setEngine e x).pending = s.pending ∧ (s.setEngine e x).regs = s.regs ∧ (s.setEngine e x).mem = s.mem ∧
    (s.setEngine e x).chk = s.chk ∧ (s.setEngine e x).threads = s.threads ∧ (s.setEngine e x).outlet = s.outlet
    ∧ (s.setEngine e x).integ = s.integ ∧ (s.setEngine e x).locks = s.locks ∧ (s.setEngine e x).channels =
    s.channels ∧ (s.setEngine e x).lanes = s.lanes ∧ (s.setEngine e x).cores = s.cores ∧ (s.setEngine e x).shore
    = s.shore ∧ (s.setEngine e x).weirs = s.weirs ∧ (s.setEngine e x).groups = s.groups ∧ (s.setEngine e
    x).domains = s.domains ∧ (s.setEngine e x).cont = s.cont ∧ (s.setEngine e x).threadDom = s.threadDom ∧
    (s.setEngine e x).startPc = s.startPc ∧ (s.setEngine e x).counters = s.counters ∧ (s.setEngine e x).posUnits
    = s.posUnits ∧ (s.setEngine e x).inlets = s.inlets ∧ (s.setEngine e x).conduits = s.conduits ∧ (s.setEngine
    e x).power = s.power ∧ (s.setEngine e x).boot = s.boot ∧ (s.setEngine e x).security = s.security ∧
    (s.setEngine e x).tap = s.tap ∧ (s.setEngine e x).mbx = s.mbx ∧ (s.setEngine e x).copies = s.copies ∧
    (s.setEngine e x).ports = s.ports ∧ (s.setEngine e x).time = s.time ∧ (s.setEngine e x).ticks = s.ticks ∧
    (s.setEngine e x).soon = s.soon ∧ (s.setEngine e x).shoreRuns = s.shoreRuns ∧ (s.setEngine e x).inReset =
    s.inReset ∧ (s.setEngine e x).test = s.test ∧ (s.setEngine e x).rdata = s.rdata := by
  and_intros <;> rfl

@[simp] theorem State.modEngine_frame (s : State) (e : Nat) (f : Engine → Engine) :
    (s.modEngine e f).pending = s.pending ∧ (s.modEngine e f).regs = s.regs ∧ (s.modEngine e f).mem = s.mem ∧
    (s.modEngine e f).chk = s.chk ∧ (s.modEngine e f).threads = s.threads ∧ (s.modEngine e f).outlet = s.outlet
    ∧ (s.modEngine e f).integ = s.integ ∧ (s.modEngine e f).locks = s.locks ∧ (s.modEngine e f).channels =
    s.channels ∧ (s.modEngine e f).lanes = s.lanes ∧ (s.modEngine e f).cores = s.cores ∧ (s.modEngine e f).shore
    = s.shore ∧ (s.modEngine e f).weirs = s.weirs ∧ (s.modEngine e f).groups = s.groups ∧ (s.modEngine e
    f).domains = s.domains ∧ (s.modEngine e f).cont = s.cont ∧ (s.modEngine e f).threadDom = s.threadDom ∧
    (s.modEngine e f).startPc = s.startPc ∧ (s.modEngine e f).counters = s.counters ∧ (s.modEngine e f).posUnits
    = s.posUnits ∧ (s.modEngine e f).inlets = s.inlets ∧ (s.modEngine e f).conduits = s.conduits ∧ (s.modEngine
    e f).power = s.power ∧ (s.modEngine e f).boot = s.boot ∧ (s.modEngine e f).security = s.security ∧
    (s.modEngine e f).tap = s.tap ∧ (s.modEngine e f).mbx = s.mbx ∧ (s.modEngine e f).copies = s.copies ∧
    (s.modEngine e f).ports = s.ports ∧ (s.modEngine e f).time = s.time ∧ (s.modEngine e f).ticks = s.ticks ∧
    (s.modEngine e f).soon = s.soon ∧ (s.modEngine e f).shoreRuns = s.shoreRuns ∧ (s.modEngine e f).inReset =
    s.inReset ∧ (s.modEngine e f).test = s.test ∧ (s.modEngine e f).rdata = s.rdata := by
  and_intros <;> rfl

@[simp] theorem State.setOutlet_frame (s : State) (x : Outlet) :
    (s.setOutlet x).pending = s.pending ∧ (s.setOutlet x).regs = s.regs ∧ (s.setOutlet x).mem = s.mem ∧
    (s.setOutlet x).chk = s.chk ∧ (s.setOutlet x).threads = s.threads ∧ (s.setOutlet x).engines = s.engines ∧
    (s.setOutlet x).integ = s.integ ∧ (s.setOutlet x).locks = s.locks ∧ (s.setOutlet x).channels = s.channels ∧
    (s.setOutlet x).lanes = s.lanes ∧ (s.setOutlet x).cores = s.cores ∧ (s.setOutlet x).shore = s.shore ∧
    (s.setOutlet x).weirs = s.weirs ∧ (s.setOutlet x).groups = s.groups ∧ (s.setOutlet x).domains = s.domains ∧
    (s.setOutlet x).cont = s.cont ∧ (s.setOutlet x).threadDom = s.threadDom ∧ (s.setOutlet x).startPc =
    s.startPc ∧ (s.setOutlet x).counters = s.counters ∧ (s.setOutlet x).posUnits = s.posUnits ∧ (s.setOutlet
    x).inlets = s.inlets ∧ (s.setOutlet x).conduits = s.conduits ∧ (s.setOutlet x).power = s.power ∧
    (s.setOutlet x).boot = s.boot ∧ (s.setOutlet x).security = s.security ∧ (s.setOutlet x).tap = s.tap ∧
    (s.setOutlet x).mbx = s.mbx ∧ (s.setOutlet x).copies = s.copies ∧ (s.setOutlet x).ports = s.ports ∧
    (s.setOutlet x).time = s.time ∧ (s.setOutlet x).ticks = s.ticks ∧ (s.setOutlet x).soon = s.soon ∧
    (s.setOutlet x).shoreRuns = s.shoreRuns ∧ (s.setOutlet x).inReset = s.inReset ∧ (s.setOutlet x).test =
    s.test ∧ (s.setOutlet x).rdata = s.rdata ∧ (s.setOutlet x).outlet = x := by
  and_intros <;> rfl

@[simp] theorem State.setInteg_frame (s : State) (x : Integrity) :
    (s.setInteg x).pending = s.pending ∧ (s.setInteg x).regs = s.regs ∧ (s.setInteg x).mem = s.mem ∧ (s.setInteg
    x).chk = s.chk ∧ (s.setInteg x).threads = s.threads ∧ (s.setInteg x).engines = s.engines ∧ (s.setInteg
    x).outlet = s.outlet ∧ (s.setInteg x).locks = s.locks ∧ (s.setInteg x).channels = s.channels ∧ (s.setInteg
    x).lanes = s.lanes ∧ (s.setInteg x).cores = s.cores ∧ (s.setInteg x).shore = s.shore ∧ (s.setInteg x).weirs
    = s.weirs ∧ (s.setInteg x).groups = s.groups ∧ (s.setInteg x).domains = s.domains ∧ (s.setInteg x).cont =
    s.cont ∧ (s.setInteg x).threadDom = s.threadDom ∧ (s.setInteg x).startPc = s.startPc ∧ (s.setInteg
    x).counters = s.counters ∧ (s.setInteg x).posUnits = s.posUnits ∧ (s.setInteg x).inlets = s.inlets ∧
    (s.setInteg x).conduits = s.conduits ∧ (s.setInteg x).power = s.power ∧ (s.setInteg x).boot = s.boot ∧
    (s.setInteg x).security = s.security ∧ (s.setInteg x).tap = s.tap ∧ (s.setInteg x).mbx = s.mbx ∧ (s.setInteg
    x).copies = s.copies ∧ (s.setInteg x).ports = s.ports ∧ (s.setInteg x).time = s.time ∧ (s.setInteg x).ticks
    = s.ticks ∧ (s.setInteg x).soon = s.soon ∧ (s.setInteg x).shoreRuns = s.shoreRuns ∧ (s.setInteg x).inReset =
    s.inReset ∧ (s.setInteg x).test = s.test ∧ (s.setInteg x).rdata = s.rdata ∧ (s.setInteg x).integ = x := by
  and_intros <;> rfl

@[simp] theorem State.setByte_frame (s : State) (a : Nat) (v : BitVec 8) :
    (s.setByte a v).pending = s.pending ∧ (s.setByte a v).regs = s.regs ∧ (s.setByte a v).chk = s.chk ∧
    (s.setByte a v).threads = s.threads ∧ (s.setByte a v).engines = s.engines ∧ (s.setByte a v).outlet =
    s.outlet ∧ (s.setByte a v).integ = s.integ ∧ (s.setByte a v).locks = s.locks ∧ (s.setByte a v).channels =
    s.channels ∧ (s.setByte a v).lanes = s.lanes ∧ (s.setByte a v).cores = s.cores ∧ (s.setByte a v).shore =
    s.shore ∧ (s.setByte a v).weirs = s.weirs ∧ (s.setByte a v).groups = s.groups ∧ (s.setByte a v).domains =
    s.domains ∧ (s.setByte a v).cont = s.cont ∧ (s.setByte a v).threadDom = s.threadDom ∧ (s.setByte a
    v).startPc = s.startPc ∧ (s.setByte a v).counters = s.counters ∧ (s.setByte a v).posUnits = s.posUnits ∧
    (s.setByte a v).inlets = s.inlets ∧ (s.setByte a v).conduits = s.conduits ∧ (s.setByte a v).power = s.power
    ∧ (s.setByte a v).boot = s.boot ∧ (s.setByte a v).security = s.security ∧ (s.setByte a v).tap = s.tap ∧
    (s.setByte a v).mbx = s.mbx ∧ (s.setByte a v).copies = s.copies ∧ (s.setByte a v).ports = s.ports ∧
    (s.setByte a v).time = s.time ∧ (s.setByte a v).ticks = s.ticks ∧ (s.setByte a v).soon = s.soon ∧ (s.setByte
    a v).shoreRuns = s.shoreRuns ∧ (s.setByte a v).inReset = s.inReset ∧ (s.setByte a v).test = s.test ∧
    (s.setByte a v).rdata = s.rdata := by
  and_intros <;> rfl

@[simp] theorem State.setSyn_frame (s : State) (k : Nat) (v : BitVec 16) :
    (s.setSyn k v).pending = s.pending ∧ (s.setSyn k v).regs = s.regs ∧ (s.setSyn k v).mem = s.mem ∧ (s.setSyn k
    v).threads = s.threads ∧ (s.setSyn k v).engines = s.engines ∧ (s.setSyn k v).outlet = s.outlet ∧ (s.setSyn k
    v).integ = s.integ ∧ (s.setSyn k v).locks = s.locks ∧ (s.setSyn k v).channels = s.channels ∧ (s.setSyn k
    v).lanes = s.lanes ∧ (s.setSyn k v).cores = s.cores ∧ (s.setSyn k v).shore = s.shore ∧ (s.setSyn k v).weirs
    = s.weirs ∧ (s.setSyn k v).groups = s.groups ∧ (s.setSyn k v).domains = s.domains ∧ (s.setSyn k v).cont =
    s.cont ∧ (s.setSyn k v).threadDom = s.threadDom ∧ (s.setSyn k v).startPc = s.startPc ∧ (s.setSyn k
    v).counters = s.counters ∧ (s.setSyn k v).posUnits = s.posUnits ∧ (s.setSyn k v).inlets = s.inlets ∧
    (s.setSyn k v).conduits = s.conduits ∧ (s.setSyn k v).power = s.power ∧ (s.setSyn k v).boot = s.boot ∧
    (s.setSyn k v).security = s.security ∧ (s.setSyn k v).tap = s.tap ∧ (s.setSyn k v).mbx = s.mbx ∧ (s.setSyn k
    v).copies = s.copies ∧ (s.setSyn k v).ports = s.ports ∧ (s.setSyn k v).time = s.time ∧ (s.setSyn k v).ticks
    = s.ticks ∧ (s.setSyn k v).soon = s.soon ∧ (s.setSyn k v).shoreRuns = s.shoreRuns ∧ (s.setSyn k v).inReset =
    s.inReset ∧ (s.setSyn k v).test = s.test ∧ (s.setSyn k v).rdata = s.rdata := by
  and_intros <;> rfl

@[simp] theorem State.setLock_frame (s : State) (k : Nat) (x : Lock) :
    (s.setLock k x).pending = s.pending ∧ (s.setLock k x).regs = s.regs ∧ (s.setLock k x).mem = s.mem ∧
    (s.setLock k x).chk = s.chk ∧ (s.setLock k x).threads = s.threads ∧ (s.setLock k x).engines = s.engines ∧
    (s.setLock k x).outlet = s.outlet ∧ (s.setLock k x).integ = s.integ ∧ (s.setLock k x).channels = s.channels
    ∧ (s.setLock k x).lanes = s.lanes ∧ (s.setLock k x).cores = s.cores ∧ (s.setLock k x).shore = s.shore ∧
    (s.setLock k x).weirs = s.weirs ∧ (s.setLock k x).groups = s.groups ∧ (s.setLock k x).domains = s.domains ∧
    (s.setLock k x).cont = s.cont ∧ (s.setLock k x).threadDom = s.threadDom ∧ (s.setLock k x).startPc =
    s.startPc ∧ (s.setLock k x).counters = s.counters ∧ (s.setLock k x).posUnits = s.posUnits ∧ (s.setLock k
    x).inlets = s.inlets ∧ (s.setLock k x).conduits = s.conduits ∧ (s.setLock k x).power = s.power ∧ (s.setLock
    k x).boot = s.boot ∧ (s.setLock k x).security = s.security ∧ (s.setLock k x).tap = s.tap ∧ (s.setLock k
    x).mbx = s.mbx ∧ (s.setLock k x).copies = s.copies ∧ (s.setLock k x).ports = s.ports ∧ (s.setLock k x).time
    = s.time ∧ (s.setLock k x).ticks = s.ticks ∧ (s.setLock k x).soon = s.soon ∧ (s.setLock k x).shoreRuns =
    s.shoreRuns ∧ (s.setLock k x).inReset = s.inReset ∧ (s.setLock k x).test = s.test ∧ (s.setLock k x).rdata =
    s.rdata := by
  and_intros <;> rfl

@[simp] theorem State.setChannel_frame (s : State) (c : Nat) (x : Channel) :
    (s.setChannel c x).pending = s.pending ∧ (s.setChannel c x).regs = s.regs ∧ (s.setChannel c x).mem = s.mem ∧
    (s.setChannel c x).chk = s.chk ∧ (s.setChannel c x).threads = s.threads ∧ (s.setChannel c x).engines =
    s.engines ∧ (s.setChannel c x).outlet = s.outlet ∧ (s.setChannel c x).integ = s.integ ∧ (s.setChannel c
    x).locks = s.locks ∧ (s.setChannel c x).lanes = s.lanes ∧ (s.setChannel c x).cores = s.cores ∧ (s.setChannel
    c x).shore = s.shore ∧ (s.setChannel c x).weirs = s.weirs ∧ (s.setChannel c x).groups = s.groups ∧
    (s.setChannel c x).domains = s.domains ∧ (s.setChannel c x).cont = s.cont ∧ (s.setChannel c x).threadDom =
    s.threadDom ∧ (s.setChannel c x).startPc = s.startPc ∧ (s.setChannel c x).counters = s.counters ∧
    (s.setChannel c x).posUnits = s.posUnits ∧ (s.setChannel c x).inlets = s.inlets ∧ (s.setChannel c
    x).conduits = s.conduits ∧ (s.setChannel c x).power = s.power ∧ (s.setChannel c x).boot = s.boot ∧
    (s.setChannel c x).security = s.security ∧ (s.setChannel c x).tap = s.tap ∧ (s.setChannel c x).mbx = s.mbx ∧
    (s.setChannel c x).copies = s.copies ∧ (s.setChannel c x).ports = s.ports ∧ (s.setChannel c x).time = s.time
    ∧ (s.setChannel c x).ticks = s.ticks ∧ (s.setChannel c x).soon = s.soon ∧ (s.setChannel c x).shoreRuns =
    s.shoreRuns ∧ (s.setChannel c x).inReset = s.inReset ∧ (s.setChannel c x).test = s.test ∧ (s.setChannel c
    x).rdata = s.rdata := by
  and_intros <;> rfl

@[simp] theorem State.setLane_frame (s : State) (p : Nat) (x : Lane) :
    (s.setLane p x).pending = s.pending ∧ (s.setLane p x).regs = s.regs ∧ (s.setLane p x).mem = s.mem ∧
    (s.setLane p x).chk = s.chk ∧ (s.setLane p x).threads = s.threads ∧ (s.setLane p x).engines = s.engines ∧
    (s.setLane p x).outlet = s.outlet ∧ (s.setLane p x).integ = s.integ ∧ (s.setLane p x).locks = s.locks ∧
    (s.setLane p x).channels = s.channels ∧ (s.setLane p x).cores = s.cores ∧ (s.setLane p x).shore = s.shore ∧
    (s.setLane p x).weirs = s.weirs ∧ (s.setLane p x).groups = s.groups ∧ (s.setLane p x).domains = s.domains ∧
    (s.setLane p x).cont = s.cont ∧ (s.setLane p x).threadDom = s.threadDom ∧ (s.setLane p x).startPc =
    s.startPc ∧ (s.setLane p x).counters = s.counters ∧ (s.setLane p x).posUnits = s.posUnits ∧ (s.setLane p
    x).inlets = s.inlets ∧ (s.setLane p x).conduits = s.conduits ∧ (s.setLane p x).power = s.power ∧ (s.setLane
    p x).boot = s.boot ∧ (s.setLane p x).security = s.security ∧ (s.setLane p x).tap = s.tap ∧ (s.setLane p
    x).mbx = s.mbx ∧ (s.setLane p x).copies = s.copies ∧ (s.setLane p x).ports = s.ports ∧ (s.setLane p x).time
    = s.time ∧ (s.setLane p x).ticks = s.ticks ∧ (s.setLane p x).soon = s.soon ∧ (s.setLane p x).shoreRuns =
    s.shoreRuns ∧ (s.setLane p x).inReset = s.inReset ∧ (s.setLane p x).test = s.test ∧ (s.setLane p x).rdata =
    s.rdata := by
  and_intros <;> rfl

@[simp] theorem State.modLane_frame (s : State) (p : Nat) (f : Lane → Lane) :
    (s.modLane p f).pending = s.pending ∧ (s.modLane p f).regs = s.regs ∧ (s.modLane p f).mem = s.mem ∧
    (s.modLane p f).chk = s.chk ∧ (s.modLane p f).threads = s.threads ∧ (s.modLane p f).engines = s.engines ∧
    (s.modLane p f).outlet = s.outlet ∧ (s.modLane p f).integ = s.integ ∧ (s.modLane p f).locks = s.locks ∧
    (s.modLane p f).channels = s.channels ∧ (s.modLane p f).cores = s.cores ∧ (s.modLane p f).shore = s.shore ∧
    (s.modLane p f).weirs = s.weirs ∧ (s.modLane p f).groups = s.groups ∧ (s.modLane p f).domains = s.domains ∧
    (s.modLane p f).cont = s.cont ∧ (s.modLane p f).threadDom = s.threadDom ∧ (s.modLane p f).startPc =
    s.startPc ∧ (s.modLane p f).counters = s.counters ∧ (s.modLane p f).posUnits = s.posUnits ∧ (s.modLane p
    f).inlets = s.inlets ∧ (s.modLane p f).conduits = s.conduits ∧ (s.modLane p f).power = s.power ∧ (s.modLane
    p f).boot = s.boot ∧ (s.modLane p f).security = s.security ∧ (s.modLane p f).tap = s.tap ∧ (s.modLane p
    f).mbx = s.mbx ∧ (s.modLane p f).copies = s.copies ∧ (s.modLane p f).ports = s.ports ∧ (s.modLane p f).time
    = s.time ∧ (s.modLane p f).ticks = s.ticks ∧ (s.modLane p f).soon = s.soon ∧ (s.modLane p f).shoreRuns =
    s.shoreRuns ∧ (s.modLane p f).inReset = s.inReset ∧ (s.modLane p f).test = s.test ∧ (s.modLane p f).rdata =
    s.rdata := by
  and_intros <;> rfl

@[simp] theorem State.setCore_frame (s : State) (c : Nat) (x : Core) :
    (s.setCore c x).pending = s.pending ∧ (s.setCore c x).regs = s.regs ∧ (s.setCore c x).mem = s.mem ∧
    (s.setCore c x).chk = s.chk ∧ (s.setCore c x).threads = s.threads ∧ (s.setCore c x).engines = s.engines ∧
    (s.setCore c x).outlet = s.outlet ∧ (s.setCore c x).integ = s.integ ∧ (s.setCore c x).locks = s.locks ∧
    (s.setCore c x).channels = s.channels ∧ (s.setCore c x).lanes = s.lanes ∧ (s.setCore c x).shore = s.shore ∧
    (s.setCore c x).weirs = s.weirs ∧ (s.setCore c x).groups = s.groups ∧ (s.setCore c x).domains = s.domains ∧
    (s.setCore c x).cont = s.cont ∧ (s.setCore c x).threadDom = s.threadDom ∧ (s.setCore c x).startPc =
    s.startPc ∧ (s.setCore c x).counters = s.counters ∧ (s.setCore c x).posUnits = s.posUnits ∧ (s.setCore c
    x).inlets = s.inlets ∧ (s.setCore c x).conduits = s.conduits ∧ (s.setCore c x).power = s.power ∧ (s.setCore
    c x).boot = s.boot ∧ (s.setCore c x).security = s.security ∧ (s.setCore c x).tap = s.tap ∧ (s.setCore c
    x).mbx = s.mbx ∧ (s.setCore c x).copies = s.copies ∧ (s.setCore c x).ports = s.ports ∧ (s.setCore c x).time
    = s.time ∧ (s.setCore c x).ticks = s.ticks ∧ (s.setCore c x).soon = s.soon ∧ (s.setCore c x).shoreRuns =
    s.shoreRuns ∧ (s.setCore c x).inReset = s.inReset ∧ (s.setCore c x).test = s.test ∧ (s.setCore c x).rdata =
    s.rdata := by
  and_intros <;> rfl

@[simp] theorem State.setShore_frame (s : State) (x : Shore) :
    (s.setShore x).pending = s.pending ∧ (s.setShore x).regs = s.regs ∧ (s.setShore x).mem = s.mem ∧ (s.setShore
    x).chk = s.chk ∧ (s.setShore x).threads = s.threads ∧ (s.setShore x).engines = s.engines ∧ (s.setShore
    x).outlet = s.outlet ∧ (s.setShore x).integ = s.integ ∧ (s.setShore x).locks = s.locks ∧ (s.setShore
    x).channels = s.channels ∧ (s.setShore x).lanes = s.lanes ∧ (s.setShore x).cores = s.cores ∧ (s.setShore
    x).weirs = s.weirs ∧ (s.setShore x).groups = s.groups ∧ (s.setShore x).domains = s.domains ∧ (s.setShore
    x).cont = s.cont ∧ (s.setShore x).threadDom = s.threadDom ∧ (s.setShore x).startPc = s.startPc ∧ (s.setShore
    x).counters = s.counters ∧ (s.setShore x).posUnits = s.posUnits ∧ (s.setShore x).inlets = s.inlets ∧
    (s.setShore x).conduits = s.conduits ∧ (s.setShore x).power = s.power ∧ (s.setShore x).boot = s.boot ∧
    (s.setShore x).security = s.security ∧ (s.setShore x).tap = s.tap ∧ (s.setShore x).mbx = s.mbx ∧ (s.setShore
    x).copies = s.copies ∧ (s.setShore x).ports = s.ports ∧ (s.setShore x).time = s.time ∧ (s.setShore x).ticks
    = s.ticks ∧ (s.setShore x).soon = s.soon ∧ (s.setShore x).shoreRuns = s.shoreRuns ∧ (s.setShore x).inReset =
    s.inReset ∧ (s.setShore x).test = s.test ∧ (s.setShore x).rdata = s.rdata ∧ (s.setShore x).shore = x := by
  and_intros <;> rfl

@[simp] theorem State.setWeir_frame (s : State) (p : Nat) (x : Weir) :
    (s.setWeir p x).pending = s.pending ∧ (s.setWeir p x).regs = s.regs ∧ (s.setWeir p x).mem = s.mem ∧
    (s.setWeir p x).chk = s.chk ∧ (s.setWeir p x).threads = s.threads ∧ (s.setWeir p x).engines = s.engines ∧
    (s.setWeir p x).outlet = s.outlet ∧ (s.setWeir p x).integ = s.integ ∧ (s.setWeir p x).locks = s.locks ∧
    (s.setWeir p x).channels = s.channels ∧ (s.setWeir p x).lanes = s.lanes ∧ (s.setWeir p x).cores = s.cores ∧
    (s.setWeir p x).shore = s.shore ∧ (s.setWeir p x).groups = s.groups ∧ (s.setWeir p x).domains = s.domains ∧
    (s.setWeir p x).cont = s.cont ∧ (s.setWeir p x).threadDom = s.threadDom ∧ (s.setWeir p x).startPc =
    s.startPc ∧ (s.setWeir p x).counters = s.counters ∧ (s.setWeir p x).posUnits = s.posUnits ∧ (s.setWeir p
    x).inlets = s.inlets ∧ (s.setWeir p x).conduits = s.conduits ∧ (s.setWeir p x).power = s.power ∧ (s.setWeir
    p x).boot = s.boot ∧ (s.setWeir p x).security = s.security ∧ (s.setWeir p x).tap = s.tap ∧ (s.setWeir p
    x).mbx = s.mbx ∧ (s.setWeir p x).copies = s.copies ∧ (s.setWeir p x).ports = s.ports ∧ (s.setWeir p x).time
    = s.time ∧ (s.setWeir p x).ticks = s.ticks ∧ (s.setWeir p x).soon = s.soon ∧ (s.setWeir p x).shoreRuns =
    s.shoreRuns ∧ (s.setWeir p x).inReset = s.inReset ∧ (s.setWeir p x).test = s.test ∧ (s.setWeir p x).rdata =
    s.rdata := by
  and_intros <;> rfl

@[simp] theorem State.setGroup_frame (s : State) (g : Nat) (x : Group) :
    (s.setGroup g x).pending = s.pending ∧ (s.setGroup g x).regs = s.regs ∧ (s.setGroup g x).mem = s.mem ∧
    (s.setGroup g x).chk = s.chk ∧ (s.setGroup g x).threads = s.threads ∧ (s.setGroup g x).engines = s.engines ∧
    (s.setGroup g x).outlet = s.outlet ∧ (s.setGroup g x).integ = s.integ ∧ (s.setGroup g x).locks = s.locks ∧
    (s.setGroup g x).channels = s.channels ∧ (s.setGroup g x).lanes = s.lanes ∧ (s.setGroup g x).cores = s.cores
    ∧ (s.setGroup g x).shore = s.shore ∧ (s.setGroup g x).weirs = s.weirs ∧ (s.setGroup g x).domains = s.domains
    ∧ (s.setGroup g x).cont = s.cont ∧ (s.setGroup g x).threadDom = s.threadDom ∧ (s.setGroup g x).startPc =
    s.startPc ∧ (s.setGroup g x).counters = s.counters ∧ (s.setGroup g x).posUnits = s.posUnits ∧ (s.setGroup g
    x).inlets = s.inlets ∧ (s.setGroup g x).conduits = s.conduits ∧ (s.setGroup g x).power = s.power ∧
    (s.setGroup g x).boot = s.boot ∧ (s.setGroup g x).security = s.security ∧ (s.setGroup g x).tap = s.tap ∧
    (s.setGroup g x).mbx = s.mbx ∧ (s.setGroup g x).copies = s.copies ∧ (s.setGroup g x).ports = s.ports ∧
    (s.setGroup g x).time = s.time ∧ (s.setGroup g x).ticks = s.ticks ∧ (s.setGroup g x).soon = s.soon ∧
    (s.setGroup g x).shoreRuns = s.shoreRuns ∧ (s.setGroup g x).inReset = s.inReset ∧ (s.setGroup g x).test =
    s.test ∧ (s.setGroup g x).rdata = s.rdata := by
  and_intros <;> rfl

@[simp] theorem State.setDomain_frame (s : State) (d : Nat) (x : Domain) :
    (s.setDomain d x).pending = s.pending ∧ (s.setDomain d x).regs = s.regs ∧ (s.setDomain d x).mem = s.mem ∧
    (s.setDomain d x).chk = s.chk ∧ (s.setDomain d x).threads = s.threads ∧ (s.setDomain d x).engines =
    s.engines ∧ (s.setDomain d x).outlet = s.outlet ∧ (s.setDomain d x).integ = s.integ ∧ (s.setDomain d
    x).locks = s.locks ∧ (s.setDomain d x).channels = s.channels ∧ (s.setDomain d x).lanes = s.lanes ∧
    (s.setDomain d x).cores = s.cores ∧ (s.setDomain d x).shore = s.shore ∧ (s.setDomain d x).weirs = s.weirs ∧
    (s.setDomain d x).groups = s.groups ∧ (s.setDomain d x).cont = s.cont ∧ (s.setDomain d x).threadDom =
    s.threadDom ∧ (s.setDomain d x).startPc = s.startPc ∧ (s.setDomain d x).counters = s.counters ∧ (s.setDomain
    d x).posUnits = s.posUnits ∧ (s.setDomain d x).inlets = s.inlets ∧ (s.setDomain d x).conduits = s.conduits ∧
    (s.setDomain d x).power = s.power ∧ (s.setDomain d x).boot = s.boot ∧ (s.setDomain d x).security =
    s.security ∧ (s.setDomain d x).tap = s.tap ∧ (s.setDomain d x).mbx = s.mbx ∧ (s.setDomain d x).copies =
    s.copies ∧ (s.setDomain d x).ports = s.ports ∧ (s.setDomain d x).time = s.time ∧ (s.setDomain d x).ticks =
    s.ticks ∧ (s.setDomain d x).soon = s.soon ∧ (s.setDomain d x).shoreRuns = s.shoreRuns ∧ (s.setDomain d
    x).inReset = s.inReset ∧ (s.setDomain d x).test = s.test ∧ (s.setDomain d x).rdata = s.rdata := by
  and_intros <;> rfl

@[simp] theorem State.setCont_frame (s : State) (x : Continuity) :
    (s.setCont x).pending = s.pending ∧ (s.setCont x).regs = s.regs ∧ (s.setCont x).mem = s.mem ∧ (s.setCont
    x).chk = s.chk ∧ (s.setCont x).threads = s.threads ∧ (s.setCont x).engines = s.engines ∧ (s.setCont
    x).outlet = s.outlet ∧ (s.setCont x).integ = s.integ ∧ (s.setCont x).locks = s.locks ∧ (s.setCont
    x).channels = s.channels ∧ (s.setCont x).lanes = s.lanes ∧ (s.setCont x).cores = s.cores ∧ (s.setCont
    x).shore = s.shore ∧ (s.setCont x).weirs = s.weirs ∧ (s.setCont x).groups = s.groups ∧ (s.setCont x).domains
    = s.domains ∧ (s.setCont x).threadDom = s.threadDom ∧ (s.setCont x).startPc = s.startPc ∧ (s.setCont
    x).counters = s.counters ∧ (s.setCont x).posUnits = s.posUnits ∧ (s.setCont x).inlets = s.inlets ∧
    (s.setCont x).conduits = s.conduits ∧ (s.setCont x).power = s.power ∧ (s.setCont x).boot = s.boot ∧
    (s.setCont x).security = s.security ∧ (s.setCont x).tap = s.tap ∧ (s.setCont x).mbx = s.mbx ∧ (s.setCont
    x).copies = s.copies ∧ (s.setCont x).ports = s.ports ∧ (s.setCont x).time = s.time ∧ (s.setCont x).ticks =
    s.ticks ∧ (s.setCont x).soon = s.soon ∧ (s.setCont x).shoreRuns = s.shoreRuns ∧ (s.setCont x).inReset =
    s.inReset ∧ (s.setCont x).test = s.test ∧ (s.setCont x).rdata = s.rdata ∧ (s.setCont x).cont = x := by
  and_intros <;> rfl

@[simp] theorem State.setCounter_frame (s : State) (n : Nat) (x : Counter) :
    (s.setCounter n x).pending = s.pending ∧ (s.setCounter n x).regs = s.regs ∧ (s.setCounter n x).mem = s.mem ∧
    (s.setCounter n x).chk = s.chk ∧ (s.setCounter n x).threads = s.threads ∧ (s.setCounter n x).engines =
    s.engines ∧ (s.setCounter n x).outlet = s.outlet ∧ (s.setCounter n x).integ = s.integ ∧ (s.setCounter n
    x).locks = s.locks ∧ (s.setCounter n x).channels = s.channels ∧ (s.setCounter n x).lanes = s.lanes ∧
    (s.setCounter n x).cores = s.cores ∧ (s.setCounter n x).shore = s.shore ∧ (s.setCounter n x).weirs = s.weirs
    ∧ (s.setCounter n x).groups = s.groups ∧ (s.setCounter n x).domains = s.domains ∧ (s.setCounter n x).cont =
    s.cont ∧ (s.setCounter n x).threadDom = s.threadDom ∧ (s.setCounter n x).startPc = s.startPc ∧ (s.setCounter
    n x).posUnits = s.posUnits ∧ (s.setCounter n x).inlets = s.inlets ∧ (s.setCounter n x).conduits = s.conduits
    ∧ (s.setCounter n x).power = s.power ∧ (s.setCounter n x).boot = s.boot ∧ (s.setCounter n x).security =
    s.security ∧ (s.setCounter n x).tap = s.tap ∧ (s.setCounter n x).mbx = s.mbx ∧ (s.setCounter n x).copies =
    s.copies ∧ (s.setCounter n x).ports = s.ports ∧ (s.setCounter n x).time = s.time ∧ (s.setCounter n x).ticks
    = s.ticks ∧ (s.setCounter n x).soon = s.soon ∧ (s.setCounter n x).shoreRuns = s.shoreRuns ∧ (s.setCounter n
    x).inReset = s.inReset ∧ (s.setCounter n x).test = s.test ∧ (s.setCounter n x).rdata = s.rdata := by
  and_intros <;> rfl

@[simp] theorem State.setPosUnit_frame (s : State) (u : Nat) (x : PosUnit) :
    (s.setPosUnit u x).pending = s.pending ∧ (s.setPosUnit u x).regs = s.regs ∧ (s.setPosUnit u x).mem = s.mem ∧
    (s.setPosUnit u x).chk = s.chk ∧ (s.setPosUnit u x).threads = s.threads ∧ (s.setPosUnit u x).engines =
    s.engines ∧ (s.setPosUnit u x).outlet = s.outlet ∧ (s.setPosUnit u x).integ = s.integ ∧ (s.setPosUnit u
    x).locks = s.locks ∧ (s.setPosUnit u x).channels = s.channels ∧ (s.setPosUnit u x).lanes = s.lanes ∧
    (s.setPosUnit u x).cores = s.cores ∧ (s.setPosUnit u x).shore = s.shore ∧ (s.setPosUnit u x).weirs = s.weirs
    ∧ (s.setPosUnit u x).groups = s.groups ∧ (s.setPosUnit u x).domains = s.domains ∧ (s.setPosUnit u x).cont =
    s.cont ∧ (s.setPosUnit u x).threadDom = s.threadDom ∧ (s.setPosUnit u x).startPc = s.startPc ∧ (s.setPosUnit
    u x).counters = s.counters ∧ (s.setPosUnit u x).inlets = s.inlets ∧ (s.setPosUnit u x).conduits = s.conduits
    ∧ (s.setPosUnit u x).power = s.power ∧ (s.setPosUnit u x).boot = s.boot ∧ (s.setPosUnit u x).security =
    s.security ∧ (s.setPosUnit u x).tap = s.tap ∧ (s.setPosUnit u x).mbx = s.mbx ∧ (s.setPosUnit u x).copies =
    s.copies ∧ (s.setPosUnit u x).ports = s.ports ∧ (s.setPosUnit u x).time = s.time ∧ (s.setPosUnit u x).ticks
    = s.ticks ∧ (s.setPosUnit u x).soon = s.soon ∧ (s.setPosUnit u x).shoreRuns = s.shoreRuns ∧ (s.setPosUnit u
    x).inReset = s.inReset ∧ (s.setPosUnit u x).test = s.test ∧ (s.setPosUnit u x).rdata = s.rdata := by
  and_intros <;> rfl

@[simp] theorem State.setInlet_frame (s : State) (n : Nat) (x : Inlet) :
    (s.setInlet n x).pending = s.pending ∧ (s.setInlet n x).regs = s.regs ∧ (s.setInlet n x).mem = s.mem ∧
    (s.setInlet n x).chk = s.chk ∧ (s.setInlet n x).threads = s.threads ∧ (s.setInlet n x).engines = s.engines ∧
    (s.setInlet n x).outlet = s.outlet ∧ (s.setInlet n x).integ = s.integ ∧ (s.setInlet n x).locks = s.locks ∧
    (s.setInlet n x).channels = s.channels ∧ (s.setInlet n x).lanes = s.lanes ∧ (s.setInlet n x).cores = s.cores
    ∧ (s.setInlet n x).shore = s.shore ∧ (s.setInlet n x).weirs = s.weirs ∧ (s.setInlet n x).groups = s.groups ∧
    (s.setInlet n x).domains = s.domains ∧ (s.setInlet n x).cont = s.cont ∧ (s.setInlet n x).threadDom =
    s.threadDom ∧ (s.setInlet n x).startPc = s.startPc ∧ (s.setInlet n x).counters = s.counters ∧ (s.setInlet n
    x).posUnits = s.posUnits ∧ (s.setInlet n x).conduits = s.conduits ∧ (s.setInlet n x).power = s.power ∧
    (s.setInlet n x).boot = s.boot ∧ (s.setInlet n x).security = s.security ∧ (s.setInlet n x).tap = s.tap ∧
    (s.setInlet n x).mbx = s.mbx ∧ (s.setInlet n x).copies = s.copies ∧ (s.setInlet n x).ports = s.ports ∧
    (s.setInlet n x).time = s.time ∧ (s.setInlet n x).ticks = s.ticks ∧ (s.setInlet n x).soon = s.soon ∧
    (s.setInlet n x).shoreRuns = s.shoreRuns ∧ (s.setInlet n x).inReset = s.inReset ∧ (s.setInlet n x).test =
    s.test ∧ (s.setInlet n x).rdata = s.rdata := by
  and_intros <;> rfl

@[simp] theorem State.setConduit_frame (s : State) (c : Nat) (x : Conduit) :
    (s.setConduit c x).pending = s.pending ∧ (s.setConduit c x).regs = s.regs ∧ (s.setConduit c x).mem = s.mem ∧
    (s.setConduit c x).chk = s.chk ∧ (s.setConduit c x).threads = s.threads ∧ (s.setConduit c x).engines =
    s.engines ∧ (s.setConduit c x).outlet = s.outlet ∧ (s.setConduit c x).integ = s.integ ∧ (s.setConduit c
    x).locks = s.locks ∧ (s.setConduit c x).channels = s.channels ∧ (s.setConduit c x).lanes = s.lanes ∧
    (s.setConduit c x).cores = s.cores ∧ (s.setConduit c x).shore = s.shore ∧ (s.setConduit c x).weirs = s.weirs
    ∧ (s.setConduit c x).groups = s.groups ∧ (s.setConduit c x).domains = s.domains ∧ (s.setConduit c x).cont =
    s.cont ∧ (s.setConduit c x).threadDom = s.threadDom ∧ (s.setConduit c x).startPc = s.startPc ∧ (s.setConduit
    c x).counters = s.counters ∧ (s.setConduit c x).posUnits = s.posUnits ∧ (s.setConduit c x).inlets = s.inlets
    ∧ (s.setConduit c x).power = s.power ∧ (s.setConduit c x).boot = s.boot ∧ (s.setConduit c x).security =
    s.security ∧ (s.setConduit c x).tap = s.tap ∧ (s.setConduit c x).mbx = s.mbx ∧ (s.setConduit c x).copies =
    s.copies ∧ (s.setConduit c x).ports = s.ports ∧ (s.setConduit c x).time = s.time ∧ (s.setConduit c x).ticks
    = s.ticks ∧ (s.setConduit c x).soon = s.soon ∧ (s.setConduit c x).shoreRuns = s.shoreRuns ∧ (s.setConduit c
    x).inReset = s.inReset ∧ (s.setConduit c x).test = s.test ∧ (s.setConduit c x).rdata = s.rdata := by
  and_intros <;> rfl

@[simp] theorem State.setPower_frame (s : State) (x : Power) :
    (s.setPower x).pending = s.pending ∧ (s.setPower x).regs = s.regs ∧ (s.setPower x).mem = s.mem ∧ (s.setPower
    x).chk = s.chk ∧ (s.setPower x).threads = s.threads ∧ (s.setPower x).engines = s.engines ∧ (s.setPower
    x).outlet = s.outlet ∧ (s.setPower x).integ = s.integ ∧ (s.setPower x).locks = s.locks ∧ (s.setPower
    x).channels = s.channels ∧ (s.setPower x).lanes = s.lanes ∧ (s.setPower x).cores = s.cores ∧ (s.setPower
    x).shore = s.shore ∧ (s.setPower x).weirs = s.weirs ∧ (s.setPower x).groups = s.groups ∧ (s.setPower
    x).domains = s.domains ∧ (s.setPower x).cont = s.cont ∧ (s.setPower x).threadDom = s.threadDom ∧ (s.setPower
    x).startPc = s.startPc ∧ (s.setPower x).counters = s.counters ∧ (s.setPower x).posUnits = s.posUnits ∧
    (s.setPower x).inlets = s.inlets ∧ (s.setPower x).conduits = s.conduits ∧ (s.setPower x).boot = s.boot ∧
    (s.setPower x).security = s.security ∧ (s.setPower x).tap = s.tap ∧ (s.setPower x).mbx = s.mbx ∧ (s.setPower
    x).copies = s.copies ∧ (s.setPower x).ports = s.ports ∧ (s.setPower x).time = s.time ∧ (s.setPower x).ticks
    = s.ticks ∧ (s.setPower x).soon = s.soon ∧ (s.setPower x).shoreRuns = s.shoreRuns ∧ (s.setPower x).inReset =
    s.inReset ∧ (s.setPower x).test = s.test ∧ (s.setPower x).rdata = s.rdata ∧ (s.setPower x).power = x := by
  and_intros <;> rfl

@[simp] theorem State.setBoot_frame (s : State) (x : Boot) :
    (s.setBoot x).pending = s.pending ∧ (s.setBoot x).regs = s.regs ∧ (s.setBoot x).mem = s.mem ∧ (s.setBoot
    x).chk = s.chk ∧ (s.setBoot x).threads = s.threads ∧ (s.setBoot x).engines = s.engines ∧ (s.setBoot
    x).outlet = s.outlet ∧ (s.setBoot x).integ = s.integ ∧ (s.setBoot x).locks = s.locks ∧ (s.setBoot
    x).channels = s.channels ∧ (s.setBoot x).lanes = s.lanes ∧ (s.setBoot x).cores = s.cores ∧ (s.setBoot
    x).shore = s.shore ∧ (s.setBoot x).weirs = s.weirs ∧ (s.setBoot x).groups = s.groups ∧ (s.setBoot x).domains
    = s.domains ∧ (s.setBoot x).cont = s.cont ∧ (s.setBoot x).threadDom = s.threadDom ∧ (s.setBoot x).startPc =
    s.startPc ∧ (s.setBoot x).counters = s.counters ∧ (s.setBoot x).posUnits = s.posUnits ∧ (s.setBoot x).inlets
    = s.inlets ∧ (s.setBoot x).conduits = s.conduits ∧ (s.setBoot x).power = s.power ∧ (s.setBoot x).security =
    s.security ∧ (s.setBoot x).tap = s.tap ∧ (s.setBoot x).mbx = s.mbx ∧ (s.setBoot x).copies = s.copies ∧
    (s.setBoot x).ports = s.ports ∧ (s.setBoot x).time = s.time ∧ (s.setBoot x).ticks = s.ticks ∧ (s.setBoot
    x).soon = s.soon ∧ (s.setBoot x).shoreRuns = s.shoreRuns ∧ (s.setBoot x).inReset = s.inReset ∧ (s.setBoot
    x).test = s.test ∧ (s.setBoot x).rdata = s.rdata ∧ (s.setBoot x).boot = x := by
  and_intros <;> rfl

@[simp] theorem State.setSecurity_frame (s : State) (x : Security) :
    (s.setSecurity x).pending = s.pending ∧ (s.setSecurity x).regs = s.regs ∧ (s.setSecurity x).mem = s.mem ∧
    (s.setSecurity x).chk = s.chk ∧ (s.setSecurity x).threads = s.threads ∧ (s.setSecurity x).engines =
    s.engines ∧ (s.setSecurity x).outlet = s.outlet ∧ (s.setSecurity x).integ = s.integ ∧ (s.setSecurity
    x).locks = s.locks ∧ (s.setSecurity x).channels = s.channels ∧ (s.setSecurity x).lanes = s.lanes ∧
    (s.setSecurity x).cores = s.cores ∧ (s.setSecurity x).shore = s.shore ∧ (s.setSecurity x).weirs = s.weirs ∧
    (s.setSecurity x).groups = s.groups ∧ (s.setSecurity x).domains = s.domains ∧ (s.setSecurity x).cont =
    s.cont ∧ (s.setSecurity x).threadDom = s.threadDom ∧ (s.setSecurity x).startPc = s.startPc ∧ (s.setSecurity
    x).counters = s.counters ∧ (s.setSecurity x).posUnits = s.posUnits ∧ (s.setSecurity x).inlets = s.inlets ∧
    (s.setSecurity x).conduits = s.conduits ∧ (s.setSecurity x).power = s.power ∧ (s.setSecurity x).boot =
    s.boot ∧ (s.setSecurity x).tap = s.tap ∧ (s.setSecurity x).mbx = s.mbx ∧ (s.setSecurity x).copies = s.copies
    ∧ (s.setSecurity x).ports = s.ports ∧ (s.setSecurity x).time = s.time ∧ (s.setSecurity x).ticks = s.ticks ∧
    (s.setSecurity x).soon = s.soon ∧ (s.setSecurity x).shoreRuns = s.shoreRuns ∧ (s.setSecurity x).inReset =
    s.inReset ∧ (s.setSecurity x).test = s.test ∧ (s.setSecurity x).rdata = s.rdata ∧ (s.setSecurity x).security
    = x := by
  and_intros <;> rfl

@[simp] theorem State.setTap_frame (s : State) (x : Tap) :
    (s.setTap x).pending = s.pending ∧ (s.setTap x).regs = s.regs ∧ (s.setTap x).mem = s.mem ∧ (s.setTap x).chk
    = s.chk ∧ (s.setTap x).threads = s.threads ∧ (s.setTap x).engines = s.engines ∧ (s.setTap x).outlet =
    s.outlet ∧ (s.setTap x).integ = s.integ ∧ (s.setTap x).locks = s.locks ∧ (s.setTap x).channels = s.channels
    ∧ (s.setTap x).lanes = s.lanes ∧ (s.setTap x).cores = s.cores ∧ (s.setTap x).shore = s.shore ∧ (s.setTap
    x).weirs = s.weirs ∧ (s.setTap x).groups = s.groups ∧ (s.setTap x).domains = s.domains ∧ (s.setTap x).cont =
    s.cont ∧ (s.setTap x).threadDom = s.threadDom ∧ (s.setTap x).startPc = s.startPc ∧ (s.setTap x).counters =
    s.counters ∧ (s.setTap x).posUnits = s.posUnits ∧ (s.setTap x).inlets = s.inlets ∧ (s.setTap x).conduits =
    s.conduits ∧ (s.setTap x).power = s.power ∧ (s.setTap x).boot = s.boot ∧ (s.setTap x).security = s.security
    ∧ (s.setTap x).mbx = s.mbx ∧ (s.setTap x).copies = s.copies ∧ (s.setTap x).ports = s.ports ∧ (s.setTap
    x).time = s.time ∧ (s.setTap x).ticks = s.ticks ∧ (s.setTap x).soon = s.soon ∧ (s.setTap x).shoreRuns =
    s.shoreRuns ∧ (s.setTap x).inReset = s.inReset ∧ (s.setTap x).test = s.test ∧ (s.setTap x).rdata = s.rdata ∧
    (s.setTap x).tap = x := by
  and_intros <;> rfl

@[simp] theorem State.setPorts_frame (s : State) (x : Ports) :
    (s.setPorts x).pending = s.pending ∧ (s.setPorts x).regs = s.regs ∧ (s.setPorts x).mem = s.mem ∧ (s.setPorts
    x).chk = s.chk ∧ (s.setPorts x).threads = s.threads ∧ (s.setPorts x).engines = s.engines ∧ (s.setPorts
    x).outlet = s.outlet ∧ (s.setPorts x).integ = s.integ ∧ (s.setPorts x).locks = s.locks ∧ (s.setPorts
    x).channels = s.channels ∧ (s.setPorts x).lanes = s.lanes ∧ (s.setPorts x).cores = s.cores ∧ (s.setPorts
    x).shore = s.shore ∧ (s.setPorts x).weirs = s.weirs ∧ (s.setPorts x).groups = s.groups ∧ (s.setPorts
    x).domains = s.domains ∧ (s.setPorts x).cont = s.cont ∧ (s.setPorts x).threadDom = s.threadDom ∧ (s.setPorts
    x).startPc = s.startPc ∧ (s.setPorts x).counters = s.counters ∧ (s.setPorts x).posUnits = s.posUnits ∧
    (s.setPorts x).inlets = s.inlets ∧ (s.setPorts x).conduits = s.conduits ∧ (s.setPorts x).power = s.power ∧
    (s.setPorts x).boot = s.boot ∧ (s.setPorts x).security = s.security ∧ (s.setPorts x).tap = s.tap ∧
    (s.setPorts x).mbx = s.mbx ∧ (s.setPorts x).copies = s.copies ∧ (s.setPorts x).time = s.time ∧ (s.setPorts
    x).ticks = s.ticks ∧ (s.setPorts x).soon = s.soon ∧ (s.setPorts x).shoreRuns = s.shoreRuns ∧ (s.setPorts
    x).inReset = s.inReset ∧ (s.setPorts x).test = s.test ∧ (s.setPorts x).rdata = s.rdata ∧ (s.setPorts
    x).ports = x := by
  and_intros <;> rfl

end Sys2Proof.Machine
end

