-- ==== Sys2Proof/Laws/Memory.lean ====
section
/-! SUPPORT. Every operation on memory keeps its canonical form, and reads after writes of bytes. -/

namespace Sys2Proof.Machine

/-! ### Bytes -/

theorem State.byte_setByte_self (s : State) (a : Nat) (v : BitVec 8) : (s.setByte a v).byte a = v :=
  SMap.get_put_self s.mem a v 0

theorem State.byte_setByte_ne (s : State) {a b : Nat} (v : BitVec 8) (h : b ≠ a) : (s.setByte a v).byte b = s.byte b :=
  SMap.get_put_ne v 0 0 h

/-! ### The canonical form -/

theorem reset_mem_wf : Memory.wf State.reset.mem = true := rfl

theorem State.setByte_wf {s : State} (a : Nat) (v : BitVec 8) (h : Memory.wf s.mem = true) :
    Memory.wf (s.setByte a v).mem = true := SMap.wf_put a v h

theorem State.foldl_wf {α : Type} {f : State → α → State} (hf : ∀ s x, Memory.wf s.mem = true → Memory.wf (f s x).mem = true)
    (l : List α) {s : State} (h : Memory.wf s.mem = true) : Memory.wf (l.foldl f s).mem = true := by
  induction l generalizing s with
  | nil => exact h
  | cons x l ih => exact ih (hf s x h)

theorem State.setBytes_wf {s : State} (k : Nat) (mask : BitVec 8) (d : BitVec 64) (h : Memory.wf s.mem = true) :
    Memory.wf (s.setBytes k mask d).mem = true := by
  refine State.foldl_wf (fun s i hs => ?_) _ h
  split
  · exact State.setByte_wf _ _ hs
  · exact hs

theorem State.poisonWord_wf {s : State} (k : Nat) (h : Memory.wf s.mem = true) :
    Memory.wf (s.poisonWord k).mem = true := by
  simpa [State.poisonWord] using State.setBytes_wf k 0xFF 0 h

theorem State.stormTest_mem (s : State) : s.stormTest.mem = s.mem := by
  unfold State.stormTest State.dropTraces State.queueAlarm
  dsimp only
  repeat' split
  all_goals simp

theorem State.endWindow_mem (s : State) : s.endWindow.mem = s.mem := by
  unfold State.endWindow State.queueAlarm
  dsimp only
  split <;> simp

theorem State.alarm_mem (s : State) (code : Nat) (d : BitVec 32) : (s.alarm code d).mem = s.mem := by
  have h : (if s.windowEnds then s.endWindow else s).mem = s.mem := by
    split
    · exact s.endWindow_mem
    · rfl
  simp [State.alarm, State.stormTest_mem, State.queueAlarm, h]

theorem State.countCorrected_mem (s : State) (k : Nat) : (s.countCorrected k).mem = s.mem := by
  unfold State.countCorrected State.logCorrection State.setLogEntry State.bucketAdd
  dsimp only
  repeat' split
  all_goals simp [State.alarm_mem]

theorem State.countUncorrectable_mem (s : State) (k : Nat) : (s.countUncorrectable k).mem = s.mem := by
  simp [State.countUncorrectable, State.alarm_mem]

/-- A read of a word leaves memory alone. -/
theorem State.readWord_mem (s : State) (k : Nat) : (s.readWord k).2.2.mem = s.mem := by
  unfold State.readWord
  dsimp only
  split <;> simp [State.countCorrected_mem, State.countUncorrectable_mem]

theorem State.writeWord_wf {s : State} (k : Nat) (mask : BitVec 8) (d : BitVec 64) (h : Memory.wf s.mem = true) :
    Memory.wf (s.writeWord k mask d).mem = true := by
  unfold State.writeWord
  dsimp only
  split
  · exact h
  split
  · simpa using State.setBytes_wf _ _ _ h
  split
  · exact State.setBytes_wf _ _ _ h
  · simpa using State.setBytes_wf _ _ _ (State.setBytes_wf _ _ _ (by simpa [State.countCorrected_mem] using h))
  · exact h
  · exact State.poisonWord_wf _ h

theorem State.copyWord_wf {s : State} (src dst : Nat) (h : Memory.wf s.mem = true) :
    Memory.wf (s.copyWord src dst).mem = true := by
  have hr := State.readWord_mem s src
  unfold State.copyWord
  split
  · rename_i hx
    rw [hx] at hr
    exact State.writeWord_wf _ _ _ (by rw [hr]; exact h)
  · rename_i hx
    rw [hx] at hr
    exact State.poisonWord_wf _ (by rw [hr]; exact h)

theorem State.copyWords_wf {s : State} (src dst n : Nat) (h : Memory.wf s.mem = true) :
    Memory.wf (s.copyWords src dst n).mem = true := by
  induction n with
  | zero => exact h
  | succ n ih =>
    rw [State.copyWords]
    exact State.copyWord_wf (src + n) (dst + n) ih

theorem State.storeWords_wf {s : State} (k : Nat) (l : List (BitVec 64)) (h : Memory.wf s.mem = true) :
    Memory.wf (s.storeWords k l).mem = true := State.foldl_wf (fun _ _ hs => State.writeWord_wf _ _ _ hs) _ h

theorem copyCells_wf {m : List Host.Cell} (src dst len : Nat) (top : Bool) (h : Memory.wf m = true) :
    Memory.wf (copyCells m src dst len top) = true :=
  SMap.wf_foldl_put _ (SMap.wf_filter _ h)

theorem State.moveWords_wf {s : State} (src dst len : Nat) (h : Memory.wf s.mem = true) :
    Memory.wf (s.moveWords src dst len).mem = true := copyCells_wf src dst len true h

theorem State.zeroWords_wf {s : State} (dst len : Nat) (h : Memory.wf s.mem = true) :
    Memory.wf (s.zeroWords dst len).mem = true := SMap.wf_filter _ h

theorem State.restorePages_wf {s : State} (n g pages dst : Nat) (ps : Bool) (h : Memory.wf s.mem = true) :
    Memory.wf (s.restorePages n g pages dst ps).mem = true := by
  refine State.foldl_wf (fun s i hs => ?_) _ h
  split
  · split
    · exact copyCells_wf _ _ _ _ hs
    · exact State.moveWords_wf _ _ _ hs
  · exact hs

end Sys2Proof.Machine
end

