-- ==== Sys2Proof/Laws/PerInstr.lean ====
section
/-! SUPPORT. Statements about every command as syntax, one lemma per constructor: a well-formed command that a sender
issues names a sender that exists. -/

namespace Sys2Proof.Laws


/-- The sender that a command names: who writes or reads a register. -/
def sender : Instr → Option Who
  | .registerWrite w _ _ _ => some w
  | .rcRead w _ _ => some w
  | .laneSpareSwap w _ _ _ => some w
  | .laneEnWrite w _ _ _ => some w
  | .streamFifoWrite w _ _ _ => some w
  | .streamFifoRead w _ _ => some w
  | .captureRead w _ _ => some w
  | .stageWrite w _ _ _ _ => some w
  | .cntEnWrite w _ _ _ => some w
  | .cntGo w _ _ => some w
  | .cntSnap w _ _ => some w
  | .posCompareArm w _ _ _ => some w
  | .inletDataRead w _ _ => some w
  | .inlEnWrite w _ _ _ => some w
  | .fabFire w _ _ => some w
  | .tripRelease w _ _ _ => some w
  | .fabChWrite w _ _ _ => some w
  | .spareStandIn w _ _ _ => some w
  | .ownerHandover w _ _ _ => some w
  | .bankEnWrite w _ _ _ => some w
  | .cdEnWrite w _ _ _ => some w
  | .kick w _ _ _ => some w
  | .logEntryFree w _ _ => some w
  | .pageRemap w _ _ _ => some w
  | .pageRemove w _ _ _ => some w
  | .migrationStart w _ _ => some w
  | .clearWord w _ _ => some w
  | .hostLockRequest w _ => some w
  | .hostLockRelease w _ => some w
  | .forcedRelease w _ _ => some w
  | .hostMasterAbandon w _ _ => some w
  | .swap w _ _ _ => some w
  | .icinv w _ _ _ => some w
  | .engEnWrite w _ _ _ => some w
  | .threadCmdPark w _ _ _ _ => some w
  | .threadCmdResume w _ _ _ _ => some w
  | .threadCmdQuiesce w _ _ _ _ => some w
  | .threadCmdRelease w _ _ _ _ => some w
  | .threadCmdClrviol w _ _ _ _ => some w
  | .threadCmdDeclare w _ _ _ _ => some w
  | .poke w _ _ _ _ => some w
  | .decodeTableWrite w _ _ _ _ => some w
  | .domainArm w _ _ _ => some w
  | .domainReset w _ _ _ => some w
  | .cmdResume w _ _ _ => some w
  | .cmdSafe w _ _ _ => some w
  | .cmdHold w _ _ _ => some w
  | .fdeclEngine w _ _ => some w
  | .fdeclLane w _ _ => some w
  | .outRaise w _ _ => some w
  | .rdptrWrite w _ _ => some w
  | .mbxTime w => some w
  | .mbxPps w => some w
  | .mbxBoot w => some w
  | .mbxChain w _ => some w
  | .mbxPoscap w _ => some w
  | .mbxLoga w _ => some w
  | .mbxLogb w _ => some w
  | .mbxFrec w _ => some w
  | .mbxQalm w _ => some w
  | .mbxOutcnt w => some w
  | .mbxReservedSelector w _ => some w
  | .mailboxData3Read w _ => some w
  | .threadDoorbell w _ _ => some w
  | .hostDoorbellSet w _ _ => some w
  | .hostDoorbellClear w _ _ => some w
  | .sleepRequest w _ _ => some w
  | .wake w _ _ => some w
  | .threadReset w _ _ => some w
  | .engineReset w _ _ => some w
  | .laneReset w _ _ => some w
  | .dbgHalt w _ _ _ => some w
  | .dbgStep w _ _ _ => some w
  | .dbgRun w _ _ _ => some w
  | .dbgHaltall w _ _ _ => some w
  | .dbgRunall w _ _ _ => some w
  | .hostMemoryAccess w _ _ _ _ => some w
  | _ => none

namespace Sender

/-- A well-formed command names a sender that exists (spec/17 R456, spec/02 R23). -/
def Statement (i : Instr) : Prop := i.wf = true → ∀ w, sender i = some w → w.wf = true

theorem of_none {i : Instr} (h : sender i = none) : Statement i := fun _ _ e => nomatch h.symm.trans e

theorem of_whole {i : Instr} {w : Who} (h : sender i = some w) (k : i.wf = w.wf) : Statement i :=
  fun hi _ e => Option.some.inj (h.symm.trans e) ▸ k ▸ hi

theorem of_first {i : Instr} {w : Who} {b : Bool} (h : sender i = some w) (k : i.wf = (w.wf && b)) : Statement i :=
  fun hi _ e => Option.some.inj (h.symm.trans e) ▸ (Bool.and_eq_true_iff.mp (k.symm.trans hi)).1

theorem of_first2 {i : Instr} {w : Who} {b c : Bool} (h : sender i = some w) (k : i.wf = (w.wf && b && c)) :
    Statement i := of_first (b := b && c) h (k.trans (Bool.and_assoc ..))

theorem of_first3 {i : Instr} {w : Who} {b c d : Bool} (h : sender i = some w) (k : i.wf = (w.wf && b && c && d)) :
    Statement i := of_first2 (b := b) (c := c && d) h (k.trans (Bool.and_assoc ..))

theorem registerWrite (w : Who) (addr : Nat) (d : BitVec 32) (strb : BitVec 4) : Statement (.registerWrite w addr d strb) := of_first rfl rfl
theorem rcRead (w : Who) (addr : Nat) (strb : BitVec 4) : Statement (.rcRead w addr strb) := of_first rfl rfl
theorem powerOnReset : Statement (.powerOnReset) := of_none rfl
theorem warmReset : Statement (.warmReset) := of_none rfl
theorem resetRelease (env : BootEnv) : Statement (.resetRelease env) := of_none rfl
theorem shoreRecord (chk : RecChk) (muli : Nat) (mulf : Nat) : Statement (.shoreRecord chk muli mulf) := of_none rfl
theorem pstoreRecord (chk : RecChk) (role : Nat) (waddr : Nat) (lines : List (BitVec 64)) : Statement (.pstoreRecord chk role waddr lines) := of_none rfl
theorem decodeRecord (chk : RecChk) (role : Nat) (words : List (BitVec 32)) : Statement (.decodeRecord chk role words) := of_none rfl
theorem roleRecord (chk : RecChk) (role : Nat) (active : Nat) (farbase : BitVec 32) (maps : List (BitVec 64)) : Statement (.roleRecord chk role active farbase maps) := of_none rfl
theorem threadRecord (chk : RecChk) (role : Nat) (thr : Nat) (rec : ThreadRec) : Statement (.threadRecord chk role thr rec) := of_none rfl
theorem poolRecord (chk : RecChk) (addr : Nat) (data : List (BitVec 64)) : Statement (.poolRecord chk addr data) := of_none rfl
theorem lramRecord (chk : RecChk) (role : Nat) (off : Nat) (data : List (BitVec 64)) : Statement (.lramRecord chk role off data) := of_none rfl
theorem tarnRecord (chk : RecChk) (off : Nat) (data : List (BitVec 64)) : Statement (.tarnRecord chk off data) := of_none rfl
theorem regRecord (chk : RecChk) (pairs : List (Nat × BitVec 32)) : Statement (.regRecord chk pairs) := of_none rfl
theorem keyWordTransfer (word : BitVec 32) : Statement (.keyWordTransfer word) := of_none rfl
theorem lcsChange (lcs : Nat) : Statement (.lcsChange lcs) := of_none rfl
theorem tamper : Statement (.tamper) := of_none rfl
theorem tarnWipeComplete : Statement (.tarnWipeComplete) := of_none rfl
theorem multiplierLock : Statement (.multiplierLock) := of_none rfl
theorem holdoverEntry : Statement (.holdoverEntry) := of_none rfl
theorem multiplierRelock : Statement (.multiplierRelock) := of_none rfl
theorem delayLineCalibration (core : Nat) (line : Nat) (taps : Nat) : Statement (.delayLineCalibration core line taps) := of_none rfl
theorem calibrationExchange (core : Nat) (line : Nat) : Statement (.calibrationExchange core line) := of_none rfl
theorem ppsEdge (step : Nat) (load : Bool) : Statement (.ppsEdge step load) := of_none rfl
theorem syncLoadApply : Statement (.syncLoadApply) := of_none rfl
theorem laneSpareSwap (w : Who) (p : Nat) (d : BitVec 32) (strb : BitVec 4) : Statement (.laneSpareSwap w p d strb) := of_first rfl rfl
theorem spareSwapComplete : Statement (.spareSwapComplete) := of_none rfl
theorem laneEnWrite (w : Who) (p : Nat) (d : BitVec 32) (strb : BitVec 4) : Statement (.laneEnWrite w p d strb) := of_first rfl rfl
theorem laneStartDone (p : Nat) : Statement (.laneStartDone p) := of_none rfl
theorem laneStopDone (p : Nat) : Statement (.laneStopDone p) := of_none rfl
theorem entryDispatch : Statement (.entryDispatch) := of_none rfl
theorem setEntry (p : Nat) : Statement (.setEntry p) := of_none rfl
theorem clearEntry (p : Nat) : Statement (.clearEntry p) := of_none rfl
theorem toggleEntry (p : Nat) : Statement (.toggleEntry p) := of_none rfl
theorem levelEntry (p : Nat) : Statement (.levelEntry p) := of_none rfl
theorem oeEntry (p : Nat) : Statement (.oeEntry p) := of_none rfl
theorem markEntry (p : Nat) : Statement (.markEntry p) := of_none rfl
theorem loopbackCompare (p : Nat) (lin : Bool) : Statement (.loopbackCompare p lin) := of_none rfl
theorem streamStart (p : Nat) : Statement (.streamStart p) := of_none rfl
theorem streamTxWordBoundary (p : Nat) : Statement (.streamTxWordBoundary p) := of_none rfl
theorem streamRxWord (p : Nat) (wave : Wave) : Statement (.streamRxWord p wave) := of_none rfl
theorem streamFifoWrite (w : Who) (p : Nat) (d : BitVec 32) (strb : BitVec 4) : Statement (.streamFifoWrite w p d strb) := of_first rfl rfl
theorem streamFifoRead (w : Who) (p : Nat) (strb : BitVec 4) : Statement (.streamFifoRead w p strb) := of_first rfl rfl
theorem captureEdge (p : Nat) (lvl : Bool) (step : Nat) : Statement (.captureEdge p lvl step) := of_none rfl
theorem captureRead (w : Who) (p : Nat) (strb : BitVec 4) : Statement (.captureRead w p strb) := of_first rfl rfl
theorem decimateBit (p : Nat) (bit : Bool) (clock : InputEdge) : Statement (.decimateBit p bit clock) := of_none rfl
theorem decimateClockLoss (p : Nat) : Statement (.decimateClockLoss p) := of_none rfl
theorem mirrorEdge (p : Nat) (edge : InputEdge) : Statement (.mirrorEdge p edge) := of_none rfl
theorem stageWrite (w : Who) (p : Nat) (d : BitVec 32) (strb : BitVec 4) (poison : Bool) : Statement (.stageWrite w p d strb poison) := of_first rfl rfl
theorem weirDeadline (g : Nat) : Statement (.weirDeadline g) := of_none rfl
theorem strobeMissingDeadline (g : Nat) : Statement (.strobeMissingDeadline g) := of_none rfl
theorem stageStaleDiscard (g : Nat) : Statement (.stageStaleDiscard g) := of_none rfl
theorem minpwExpiry (p : Nat) : Statement (.minpwExpiry p) := of_none rfl
theorem maxonExpiry (p : Nat) : Statement (.maxonExpiry p) := of_none rfl
theorem deadTimeExpiry (p : Nat) : Statement (.deadTimeExpiry p) := of_none rfl
theorem countEvent (n : Nat) : Statement (.countEvent n) := of_none rfl
theorem cntEnWrite (w : Who) (n : Nat) (d : BitVec 32) (strb : BitVec 4) : Statement (.cntEnWrite w n d strb) := of_first rfl rfl
theorem counterOn (n : Nat) : Statement (.counterOn n) := of_none rfl
theorem counterOff (n : Nat) : Statement (.counterOff n) := of_none rfl
theorem cntGo (w : Who) (d : BitVec 32) (strb : BitVec 4) : Statement (.cntGo w d strb) := of_whole rfl rfl
theorem cntSnap (w : Who) (d : BitVec 32) (strb : BitVec 4) : Statement (.cntSnap w d strb) := of_whole rfl rfl
theorem fabFnGo (j : Nat) : Statement (.fabFnGo j) := of_none rfl
theorem fabFnStart (j : Nat) : Statement (.fabFnStart j) := of_none rfl
theorem fabFnCount (j : Nat) : Statement (.fabFnCount j) := of_none rfl
theorem fabFnReset (j : Nat) : Statement (.fabFnReset j) := of_none rfl
theorem fabFnSnap (j : Nat) : Statement (.fabFnSnap j) := of_none rfl
theorem quadCount (u : Nat) (a : Bool) (b : Bool) (time : Time) : Statement (.quadCount u a b time) := of_none rfl
theorem indexEdge (u : Nat) (rising : Bool) : Statement (.indexEdge u rising) := of_none rfl
theorem posCompareArm (w : Who) (u : Nat) (d : BitVec 32) (strb : BitVec 4) : Statement (.posCompareArm w u d strb) := of_first rfl rfl
theorem speedTimeout (u : Nat) : Statement (.speedTimeout u) := of_none rfl
theorem inletStrobe (n : Nat) (data : BitVec 16) (tag : Nat) (step : Nat) : Statement (.inletStrobe n data tag step) := of_none rfl
theorem sampleEntry (n : Nat) : Statement (.sampleEntry n) := of_none rfl
theorem inletDataRead (w : Who) (n : Nat) (strb : BitVec 4) : Statement (.inletDataRead w n strb) := of_first rfl rfl
theorem inlEnWrite (w : Who) (n : Nat) (d : BitVec 32) (strb : BitVec 4) : Statement (.inlEnWrite w n d strb) := of_first rfl rfl
theorem inletStartDone (n : Nat) : Statement (.inletStartDone n) := of_none rfl
theorem inletStopDone (n : Nat) : Statement (.inletStopDone n) := of_none rfl
theorem channelEvent (c : Nat) (tap : Nat) (pulse : Pulse) : Statement (.channelEvent c tap pulse) := of_none rfl
theorem wakeDelivery (c : Nat) : Statement (.wakeDelivery c) := of_none rfl
theorem evoutPulseEnd (m : Nat) : Statement (.evoutPulseEnd m) := of_none rfl
theorem refractoryEnd (c : Nat) : Statement (.refractoryEnd c) := of_none rfl
theorem loopWindowEnd (c : Nat) : Statement (.loopWindowEnd c) := of_none rfl
theorem fabFire (w : Who) (d : BitVec 32) (strb : BitVec 4) : Statement (.fabFire w d strb) := of_whole rfl rfl
theorem tripRelease (w : Who) (k : Nat) (d : BitVec 32) (strb : BitVec 4) : Statement (.tripRelease w k d strb) := of_first rfl rfl
theorem fabChWrite (w : Who) (c : Nat) (d : BitVec 32) (strb : BitVec 4) : Statement (.fabChWrite w c d strb) := of_first rfl rfl
theorem spareStandIn (w : Who) (n : Nat) (d : BitVec 32) (strb : BitVec 4) : Statement (.spareStandIn w n d strb) := of_first rfl rfl
theorem standInComplete (n : Nat) : Statement (.standInComplete n) := of_none rfl
theorem ownerHandover (w : Who) (n : Nat) (d : BitVec 32) (strb : BitVec 4) : Statement (.ownerHandover w n d strb) := of_first rfl rfl
theorem handoverDrainComplete (n : Nat) : Statement (.handoverDrainComplete n) := of_none rfl
theorem bankEnWrite (w : Who) (n : Nat) (d : BitVec 32) (strb : BitVec 4) : Statement (.bankEnWrite w n d strb) := of_first rfl rfl
theorem autoWake (n : Nat) : Statement (.autoWake n) := of_none rfl
theorem retAckRise (b : Nat) : Statement (.retAckRise b) := of_none rfl
theorem retAckFall (b : Nat) : Statement (.retAckFall b) := of_none rfl
theorem cdEnWrite (w : Who) (c : Nat) (d : BitVec 32) (strb : BitVec 4) : Statement (.cdEnWrite w c d strb) := of_first rfl rfl
theorem conduitStartDone (c : Nat) : Statement (.conduitStartDone c) := of_none rfl
theorem conduitStopDone (c : Nat) : Statement (.conduitStopDone c) := of_none rfl
theorem conduitStreamTxWord (c : Nat) (k : Nat) : Statement (.conduitStreamTxWord c k) := of_none rfl
theorem conduitStreamRxWord (c : Nat) (k : Nat) : Statement (.conduitStreamRxWord c k) := of_none rfl
theorem kick (w : Who) (c : Nat) (d : BitVec 32) (strb : BitVec 4) : Statement (.kick w c d strb) := of_first rfl rfl
theorem conduitTransferDone (c : Nat) : Statement (.conduitTransferDone c) := of_none rfl
theorem correctedWriteback (word : Nat) : Statement (.correctedWriteback word) := of_none rfl
theorem poisonRewrite (word : Nat) : Statement (.poisonRewrite word) := of_none rfl
theorem bucketLeak (b : Nat) : Statement (.bucketLeak b) := of_none rfl
theorem logEntryFree (w : Who) (d : BitVec 32) (strb : BitVec 4) : Statement (.logEntryFree w d strb) := of_whole rfl rfl
theorem pageRemap (w : Who) (i : Nat) (d : BitVec 32) (strb : BitVec 4) : Statement (.pageRemap w i d strb) := of_first rfl rfl
theorem pageRemove (w : Who) (i : Nat) (d : BitVec 32) (strb : BitVec 4) : Statement (.pageRemove w i d strb) := of_first rfl rfl
theorem pageCopyDone : Statement (.pageCopyDone) := of_none rfl
theorem migrationStart (w : Who) (d : BitVec 32) (strb : BitVec 4) : Statement (.migrationStart w d strb) := of_whole rfl rfl
theorem migrationDone : Statement (.migrationDone) := of_none rfl
theorem clearWord (w : Who) (d : BitVec 32) (strb : BitVec 4) : Statement (.clearWord w d strb) := of_whole rfl rfl
theorem bgtRegionStart : Statement (.bgtRegionStart) := of_none rfl
theorem bgtSaveDone : Statement (.bgtSaveDone) := of_none rfl
theorem bgtMarchDone (fails : List Nat) : Statement (.bgtMarchDone fails) := of_none rfl
theorem bgtRestoreDone : Statement (.bgtRestoreDone) := of_none rfl
theorem hostLockRequest (w : Who) (k : Nat) : Statement (.hostLockRequest w k) := of_first rfl rfl
theorem hostLockRelease (w : Who) (k : Nat) : Statement (.hostLockRelease w k) := of_first rfl rfl
theorem forcedRelease (w : Who) (d : BitVec 32) (strb : BitVec 4) : Statement (.forcedRelease w d strb) := of_whole rfl rfl
theorem hostMasterAbandon (w : Who) (d : BitVec 32) (strb : BitVec 4) : Statement (.hostMasterAbandon w d strb) := of_whole rfl rfl
theorem rotationBoundary (e : Nat) : Statement (.rotationBoundary e) := of_none rfl
theorem swap (w : Who) (e : Nat) (d : BitVec 32) (strb : BitVec 4) : Statement (.swap w e d strb) := of_first rfl rfl
theorem icinv (w : Who) (e : Nat) (d : BitVec 32) (strb : BitVec 4) : Statement (.icinv w e d strb) := of_first rfl rfl
theorem icacheInvalidateDone (e : Nat) : Statement (.icacheInvalidateDone e) := of_none rfl
theorem farFetchLineDelivered (e : Nat) (t : Nat) : Statement (.farFetchLineDelivered e t) := of_none rfl
theorem loadComplete (e : Nat) (t : Nat) : Statement (.loadComplete e t) := of_none rfl
theorem longOpComplete (e : Nat) (t : Nat) (pipe : Nat) : Statement (.longOpComplete e t pipe) := of_none rfl
theorem storeDrain (e : Nat) : Statement (.storeDrain e) := of_none rfl
theorem poisonedStoreFault (e : Nat) (t : Nat) : Statement (.poisonedStoreFault e t) := of_none rfl
theorem engEnWrite (w : Who) (e : Nat) (d : BitVec 32) (strb : BitVec 4) : Statement (.engEnWrite w e d strb) := of_first rfl rfl
theorem engineStopDone (e : Nat) : Statement (.engineStopDone e) := of_none rfl
theorem engineStartDone (e : Nat) : Statement (.engineStartDone e) := of_none rfl
theorem urgentDiversion (e : Nat) (t : Nat) : Statement (.urgentDiversion e t) := of_none rfl
theorem threadCmdPark (w : Who) (e : Nat) (t : Nat) (d : BitVec 32) (strb : BitVec 4) : Statement (.threadCmdPark w e t d strb) := of_first rfl rfl
theorem threadCmdResume (w : Who) (e : Nat) (t : Nat) (d : BitVec 32) (strb : BitVec 4) : Statement (.threadCmdResume w e t d strb) := of_first rfl rfl
theorem threadCmdQuiesce (w : Who) (e : Nat) (t : Nat) (d : BitVec 32) (strb : BitVec 4) : Statement (.threadCmdQuiesce w e t d strb) := of_first rfl rfl
theorem threadCmdRelease (w : Who) (e : Nat) (t : Nat) (d : BitVec 32) (strb : BitVec 4) : Statement (.threadCmdRelease w e t d strb) := of_first rfl rfl
theorem threadCmdClrviol (w : Who) (e : Nat) (t : Nat) (d : BitVec 32) (strb : BitVec 4) : Statement (.threadCmdClrviol w e t d strb) := of_first rfl rfl
theorem threadCmdDeclare (w : Who) (e : Nat) (t : Nat) (d : BitVec 32) (strb : BitVec 4) : Statement (.threadCmdDeclare w e t d strb) := of_first rfl rfl
theorem poke (w : Who) (e : Nat) (t : Nat) (d : BitVec 32) (strb : BitVec 4) : Statement (.poke w e t d strb) := of_first rfl rfl
theorem decodeTableWrite (w : Who) (e : Nat) (off : Nat) (d : BitVec 32) (strb : BitVec 4) : Statement (.decodeTableWrite w e off d strb) := of_first rfl rfl
theorem mov (e : Nat) (t : Nat) (a : Nat) (b : Nat) : Statement (.mov e t a b) := of_none rfl
theorem add (e : Nat) (t : Nat) (a : Nat) (b : Nat) : Statement (.add e t a b) := of_none rfl
theorem sub (e : Nat) (t : Nat) (a : Nat) (b : Nat) : Statement (.sub e t a b) := of_none rfl
theorem adds (e : Nat) (t : Nat) (a : Nat) (b : Nat) : Statement (.adds e t a b) := of_none rfl
theorem subs (e : Nat) (t : Nat) (a : Nat) (b : Nat) : Statement (.subs e t a b) := of_none rfl
theorem andr (e : Nat) (t : Nat) (a : Nat) (b : Nat) : Statement (.andr e t a b) := of_none rfl
theorem orr (e : Nat) (t : Nat) (a : Nat) (b : Nat) : Statement (.orr e t a b) := of_none rfl
theorem xorr (e : Nat) (t : Nat) (a : Nat) (b : Nat) : Statement (.xorr e t a b) := of_none rfl
theorem shl (e : Nat) (t : Nat) (a : Nat) (b : Nat) : Statement (.shl e t a b) := of_none rfl
theorem shr (e : Nat) (t : Nat) (a : Nat) (b : Nat) : Statement (.shr e t a b) := of_none rfl
theorem sar (e : Nat) (t : Nat) (a : Nat) (b : Nat) : Statement (.sar e t a b) := of_none rfl
theorem ror (e : Nat) (t : Nat) (a : Nat) (b : Nat) : Statement (.ror e t a b) := of_none rfl
theorem neg (e : Nat) (t : Nat) (a : Nat) (b : Nat) : Statement (.neg e t a b) := of_none rfl
theorem negs (e : Nat) (t : Nat) (a : Nat) (b : Nat) : Statement (.negs e t a b) := of_none rfl
theorem abs (e : Nat) (t : Nat) (a : Nat) (b : Nat) : Statement (.abs e t a b) := of_none rfl
theorem abss (e : Nat) (t : Nat) (a : Nat) (b : Nat) : Statement (.abss e t a b) := of_none rfl
theorem movi (e : Nat) (t : Nat) (rd : Nat) (imm : Int) : Statement (.movi e t rd imm) := of_none rfl
theorem addi (e : Nat) (t : Nat) (rd : Nat) (imm : Int) : Statement (.addi e t rd imm) := of_none rfl
theorem shli (e : Nat) (t : Nat) (rd : Nat) (imm : Nat) : Statement (.shli e t rd imm) := of_none rfl
theorem shri (e : Nat) (t : Nat) (rd : Nat) (imm : Nat) : Statement (.shri e t rd imm) := of_none rfl
theorem sari (e : Nat) (t : Nat) (rd : Nat) (imm : Nat) : Statement (.sari e t rd imm) := of_none rfl
theorem rori (e : Nat) (t : Nat) (rd : Nat) (imm : Nat) : Statement (.rori e t rd imm) := of_none rfl
theorem seqi (e : Nat) (t : Nat) (rd : Nat) (imm : Int) : Statement (.seqi e t rd imm) := of_none rfl
theorem snei (e : Nat) (t : Nat) (rd : Nat) (imm : Int) : Statement (.snei e t rd imm) := of_none rfl
theorem slti (e : Nat) (t : Nat) (rd : Nat) (imm : Int) : Statement (.slti e t rd imm) := of_none rfl
theorem sltui (e : Nat) (t : Nat) (rd : Nat) (imm : Nat) : Statement (.sltui e t rd imm) := of_none rfl
theorem ld (e : Nat) (t : Nat) (rd : Nat) (k : Nat) (off : Nat) : Statement (.ld e t rd k off) := of_none rfl
theorem ldb (e : Nat) (t : Nat) (rd : Nat) (k : Nat) (off : Nat) : Statement (.ldb e t rd k off) := of_none rfl
theorem ldd (e : Nat) (t : Nat) (n : Nat) (k : Nat) (off : Nat) : Statement (.ldd e t n k off) := of_none rfl
theorem st (e : Nat) (t : Nat) (rd : Nat) (k : Nat) (off : Nat) : Statement (.st e t rd k off) := of_none rfl
theorem stb (e : Nat) (t : Nat) (rd : Nat) (k : Nat) (off : Nat) : Statement (.stb e t rd k off) := of_none rfl
theorem std (e : Nat) (t : Nat) (n : Nat) (k : Nat) (off : Nat) : Statement (.std e t n k off) := of_none rfl
theorem beq (e : Nat) (t : Nat) (a : Nat) (b : Nat) (off : Int) : Statement (.beq e t a b off) := of_none rfl
theorem bne (e : Nat) (t : Nat) (a : Nat) (b : Nat) (off : Int) : Statement (.bne e t a b off) := of_none rfl
theorem blt (e : Nat) (t : Nat) (a : Nat) (b : Nat) (off : Int) : Statement (.blt e t a b off) := of_none rfl
theorem bge (e : Nat) (t : Nat) (a : Nat) (b : Nat) (off : Int) : Statement (.bge e t a b off) := of_none rfl
theorem bltu (e : Nat) (t : Nat) (a : Nat) (b : Nat) (off : Int) : Statement (.bltu e t a b off) := of_none rfl
theorem bgeu (e : Nat) (t : Nat) (a : Nat) (b : Nat) (off : Int) : Statement (.bgeu e t a b off) := of_none rfl
theorem beqi (e : Nat) (t : Nat) (a : Nat) (imm : Int) (off : Int) : Statement (.beqi e t a imm off) := of_none rfl
theorem bnei (e : Nat) (t : Nat) (a : Nat) (imm : Int) (off : Int) : Statement (.bnei e t a imm off) := of_none rfl
theorem blti (e : Nat) (t : Nat) (a : Nat) (imm : Int) (off : Int) : Statement (.blti e t a imm off) := of_none rfl
theorem bgei (e : Nat) (t : Nat) (a : Nat) (imm : Int) (off : Int) : Statement (.bgei e t a imm off) := of_none rfl
theorem bltui (e : Nat) (t : Nat) (a : Nat) (imm : Nat) (off : Int) : Statement (.bltui e t a imm off) := of_none rfl
theorem bgeui (e : Nat) (t : Nat) (a : Nat) (imm : Nat) (off : Int) : Statement (.bgeui e t a imm off) := of_none rfl
theorem bz (e : Nat) (t : Nat) (a : Nat) (off : Int) : Statement (.bz e t a off) := of_none rfl
theorem bnz (e : Nat) (t : Nat) (a : Nat) (off : Int) : Statement (.bnz e t a off) := of_none rfl
theorem jmp (e : Nat) (t : Nat) (a : Nat) : Statement (.jmp e t a) := of_none rfl
theorem call (e : Nat) (t : Nat) (a : Nat) : Statement (.call e t a) := of_none rfl
theorem ret (e : Nat) (t : Nat) (a : Nat) : Statement (.ret e t a) := of_none rfl
theorem mul (e : Nat) (t : Nat) (a : Nat) (b : Nat) : Statement (.mul e t a b) := of_none rfl
theorem mulu (e : Nat) (t : Nat) (a : Nat) (b : Nat) : Statement (.mulu e t a b) := of_none rfl
theorem mulq (e : Nat) (t : Nat) (a : Nat) (b : Nat) : Statement (.mulq e t a b) := of_none rfl
theorem mac (e : Nat) (t : Nat) (n : Nat) (a : Nat) (b : Nat) : Statement (.mac e t n a b) := of_none rfl
theorem msc (e : Nat) (t : Nat) (n : Nat) (a : Nat) (b : Nat) : Statement (.msc e t n a b) := of_none rfl
theorem scl (e : Nat) (t : Nat) (n : Nat) (imm : Nat) : Statement (.scl e t n imm) := of_none rfl
theorem aclr (e : Nat) (t : Nat) (n : Nat) : Statement (.aclr e t n) := of_none rfl
theorem aset (e : Nat) (t : Nat) (n : Nat) (dn : Nat) : Statement (.aset e t n dn) := of_none rfl
theorem div (e : Nat) (t : Nat) (dn : Nat) (b : Nat) : Statement (.div e t dn b) := of_none rfl
theorem divu (e : Nat) (t : Nat) (dn : Nat) (b : Nat) : Statement (.divu e t dn b) := of_none rfl
theorem sqrt (e : Nat) (t : Nat) (dn : Nat) : Statement (.sqrt e t dn) := of_none rfl
theorem sincos (e : Nat) (t : Nat) (a : Nat) : Statement (.sincos e t a) := of_none rfl
theorem atan2 (e : Nat) (t : Nat) (a : Nat) (b : Nat) : Statement (.atan2 e t a b) := of_none rfl
theorem mag (e : Nat) (t : Nat) (a : Nat) (b : Nat) : Statement (.mag e t a b) := of_none rfl
theorem lrd (e : Nat) (t : Nat) (form : LrdForm) : Statement (.lrd e t form) := of_none rfl
theorem rep (e : Nat) (t : Nat) (cnt : RepCount) : Statement (.rep e t cnt) := of_none rfl
theorem repi (e : Nat) (t : Nat) (cnt : RepCount) : Statement (.repi e t cnt) := of_none rfl
theorem repeatIteration (e : Nat) (t : Nat) : Statement (.repeatIteration e t) := of_none rfl
theorem waitEvt (e : Nat) (t : Nat) (rd : Nat) (m : Nat) : Statement (.waitEvt e t rd m) := of_none rfl
theorem fence (e : Nat) (t : Nat) : Statement (.fence e t) := of_none rfl
theorem lock (e : Nat) (t : Nat) (rd : Nat) (k : Nat) : Statement (.lock e t rd k) := of_none rfl
theorem unlock (e : Nat) (t : Nat) (rd : Nat) (k : Nat) : Statement (.unlock e t rd k) := of_none rfl
theorem logRec (e : Nat) (t : Nat) (rc : Nat) (dn : Nat) : Statement (.logRec e t rc dn) := of_none rfl
theorem mfs (e : Nat) (t : Nat) (rd : Nat) (sr : Nat) : Statement (.mfs e t rd sr) := of_none rfl
theorem mts (e : Nat) (t : Nat) (sr : Nat) (a : Nat) : Statement (.mts e t sr a) := of_none rfl
theorem mtsUret (e : Nat) (t : Nat) (a : Nat) : Statement (.mtsUret e t a) := of_none rfl
theorem slotswap (e : Nat) (t : Nat) : Statement (.slotswap e t) := of_none rfl
theorem checkpoint (e : Nat) (t : Nat) : Statement (.checkpoint e t) := of_none rfl
theorem park (e : Nat) (t : Nat) : Statement (.park e t) := of_none rfl
theorem cust (e : Nat) (t : Nat) (n : Nat) (ra : Nat) (rb : Nat) (rc : Nat) : Statement (.cust e t n ra rb rc) := of_none rfl
theorem customMicroOp (e : Nat) (t : Nat) : Statement (.customMicroOp e t) := of_none rfl
theorem reservedEncoding (e : Nat) (t : Nat) (len : Nat) : Statement (.reservedEncoding e t len) := of_none rfl
theorem domainArm (w : Who) (dom : Nat) (d : BitVec 32) (strb : BitVec 4) : Statement (.domainArm w dom d strb) := of_first rfl rfl
theorem domainArmed (dom : Nat) : Statement (.domainArmed dom) := of_none rfl
theorem domainReset (w : Who) (dom : Nat) (d : BitVec 32) (strb : BitVec 4) : Statement (.domainReset w dom d strb) := of_first rfl rfl
theorem domainDisarmed (dom : Nat) : Statement (.domainDisarmed dom) := of_none rfl
theorem cmdResume (w : Who) (dom : Nat) (d : BitVec 32) (strb : BitVec 4) : Statement (.cmdResume w dom d strb) := of_first rfl rfl
theorem cmdSafe (w : Who) (dom : Nat) (d : BitVec 32) (strb : BitVec 4) : Statement (.cmdSafe w dom d strb) := of_first rfl rfl
theorem cmdHold (w : Who) (dom : Nat) (d : BitVec 32) (strb : BitVec 4) : Statement (.cmdHold w dom d strb) := of_first rfl rfl
theorem freezeCommitStop (dom : Nat) : Statement (.freezeCommitStop dom) := of_none rfl
theorem freezeSwitch (dom : Nat) : Statement (.freezeSwitch dom) := of_none rfl
theorem domainSubstateChange (dom : Nat) : Statement (.domainSubstateChange dom) := of_none rfl
theorem holdmaxExpiry (dom : Nat) : Statement (.holdmaxExpiry dom) := of_none rfl
theorem engineStallDetect (e : Nat) : Statement (.engineStallDetect e) := of_none rfl
theorem fdeclEngine (w : Who) (d : BitVec 32) (strb : BitVec 4) : Statement (.fdeclEngine w d strb) := of_whole rfl rfl
theorem fdeclLane (w : Who) (d : BitVec 32) (strb : BitVec 4) : Statement (.fdeclLane w d strb) := of_whole rfl rfl
theorem threadRollback (e : Nat) (t : Nat) : Statement (.threadRollback e t) := of_none rfl
theorem checkpointInterval (role : Nat) : Statement (.checkpointInterval role) := of_none rfl
theorem checkpointUsable (e : Nat) (t : Nat) : Statement (.checkpointUsable e t) := of_none rfl
theorem takeoverRoleTaken : Statement (.takeoverRoleTaken) := of_none rfl
theorem takeoverComplete : Statement (.takeoverComplete) := of_none rfl
theorem takeoverFail : Statement (.takeoverFail) := of_none rfl
theorem engineBistDone (e : Nat) (pass : Bool) : Statement (.engineBistDone e pass) := of_none rfl
theorem rollingTestStart : Statement (.rollingTestStart) := of_none rfl
theorem preloadDone : Statement (.preloadDone) := of_none rfl
theorem swapSwitchStart : Statement (.swapSwitchStart) := of_none rfl
theorem swapSwitchDone : Statement (.swapSwitchDone) := of_none rfl
theorem stormWindowEnd : Statement (.stormWindowEnd) := of_none rfl
theorem outRaise (w : Who) (d : BitVec 32) (strb : BitVec 4) : Statement (.outRaise w d strb) := of_whole rfl rfl
theorem outletRecordWrite : Statement (.outletRecordWrite) := of_none rfl
theorem rdptrWrite (w : Who) (d : BitVec 32) (strb : BitVec 4) : Statement (.rdptrWrite w d strb) := of_whole rfl rfl
theorem mbxTime (w : Who) : Statement (.mbxTime w) := of_whole rfl rfl
theorem mbxPps (w : Who) : Statement (.mbxPps w) := of_whole rfl rfl
theorem mbxBoot (w : Who) : Statement (.mbxBoot w) := of_whole rfl rfl
theorem mbxChain (w : Who) (i : Nat) : Statement (.mbxChain w i) := of_first rfl rfl
theorem mbxPoscap (w : Who) (i : Nat) : Statement (.mbxPoscap w i) := of_first rfl rfl
theorem mbxLoga (w : Who) (i : Nat) : Statement (.mbxLoga w i) := of_first rfl rfl
theorem mbxLogb (w : Who) (i : Nat) : Statement (.mbxLogb w i) := of_first rfl rfl
theorem mbxFrec (w : Who) (i : Nat) : Statement (.mbxFrec w i) := of_first rfl rfl
theorem mbxQalm (w : Who) (i : Nat) : Statement (.mbxQalm w i) := of_first rfl rfl
theorem mbxOutcnt (w : Who) : Statement (.mbxOutcnt w) := of_whole rfl rfl
theorem mbxReservedSelector (w : Who) (sel : Nat) : Statement (.mbxReservedSelector w sel) := of_first rfl rfl
theorem mailboxCaptureDone : Statement (.mailboxCaptureDone) := of_none rfl
theorem mailboxData3Read (w : Who) (strb : BitVec 4) : Statement (.mailboxData3Read w strb) := of_whole rfl rfl
theorem threadDoorbell (w : Who) (d : BitVec 32) (strb : BitVec 4) : Statement (.threadDoorbell w d strb) := of_whole rfl rfl
theorem hostDoorbellSet (w : Who) (d : BitVec 32) (strb : BitVec 4) : Statement (.hostDoorbellSet w d strb) := of_whole rfl rfl
theorem hostDoorbellClear (w : Who) (d : BitVec 32) (strb : BitVec 4) : Statement (.hostDoorbellClear w d strb) := of_whole rfl rfl
theorem sclkFallback : Statement (.sclkFallback) := of_none rfl
theorem laneSafeChange (p : Nat) (lvl : Bool) : Statement (.laneSafeChange p lvl) := of_none rfl
theorem dozeEntry : Statement (.dozeEntry) := of_none rfl
theorem dozeExit : Statement (.dozeExit) := of_none rfl
theorem sleepRequest (w : Who) (d : BitVec 32) (strb : BitVec 4) : Statement (.sleepRequest w d strb) := of_whole rfl rfl
theorem sleepEntered : Statement (.sleepEntered) := of_none rfl
theorem wake (w : Who) (d : BitVec 32) (strb : BitVec 4) : Statement (.wake w d strb) := of_whole rfl rfl
theorem wakeComplete : Statement (.wakeComplete) := of_none rfl
theorem shoreRestart : Statement (.shoreRestart) := of_none rfl
theorem pwrAckRise : Statement (.pwrAckRise) := of_none rfl
theorem pwrAckFall : Statement (.pwrAckFall) := of_none rfl
theorem threadReset (w : Who) (d : BitVec 32) (strb : BitVec 4) : Statement (.threadReset w d strb) := of_whole rfl rfl
theorem engineReset (w : Who) (d : BitVec 32) (strb : BitVec 4) : Statement (.engineReset w d strb) := of_whole rfl rfl
theorem laneReset (w : Who) (d : BitVec 32) (strb : BitVec 4) : Statement (.laneReset w d strb) := of_whole rfl rfl
theorem breakpointHit (e : Nat) (t : Nat) (i : Nat) : Statement (.breakpointHit e t i) := of_none rfl
theorem dbgHalt (w : Who) (e : Nat) (d : BitVec 32) (strb : BitVec 4) : Statement (.dbgHalt w e d strb) := of_first rfl rfl
theorem dbgStep (w : Who) (e : Nat) (d : BitVec 32) (strb : BitVec 4) : Statement (.dbgStep w e d strb) := of_first rfl rfl
theorem dbgRun (w : Who) (e : Nat) (d : BitVec 32) (strb : BitVec 4) : Statement (.dbgRun w e d strb) := of_first rfl rfl
theorem dbgHaltall (w : Who) (e : Nat) (d : BitVec 32) (strb : BitVec 4) : Statement (.dbgHaltall w e d strb) := of_first rfl rfl
theorem dbgRunall (w : Who) (e : Nat) (d : BitVec 32) (strb : BitVec 4) : Statement (.dbgRunall w e d strb) := of_first rfl rfl
theorem tapReset : Statement (.tapReset) := of_none rfl
theorem tapIdcode : Statement (.tapIdcode) := of_none rfl
theorem tapStatus : Statement (.tapStatus) := of_none rfl
theorem tapDbgacc (write : Bool) (addr : Nat) (d : BitVec 32) (strb : BitVec 4) : Statement (.tapDbgacc write addr d strb) := of_none rfl
theorem tapWrapsel : Statement (.tapWrapsel) := of_none rfl
theorem tapScanmode : Statement (.tapScanmode) := of_none rfl
theorem tapMbist : Statement (.tapMbist) := of_none rfl
theorem tapLbist : Statement (.tapLbist) := of_none rfl
theorem tapBypass : Statement (.tapBypass) := of_none rfl
theorem statusCopyRefresh (sclk : Bool) : Statement (.statusCopyRefresh sclk) := of_none rfl
theorem hostMemoryAccess (w : Who) (write : Bool) (addr : Nat) (d : BitVec 32) (strb : BitVec 4) : Statement (.hostMemoryAccess w write addr d strb) := of_first rfl rfl
theorem tamperDeassert : Statement (.tamperDeassert) := of_none rfl
theorem channelLevelFall (tap : ChannelTap) : Statement (.channelLevelFall tap) := of_none rfl
theorem speedLimitDecay (u : Nat) : Statement (.speedLimitDecay u) := of_none rfl

end Sender

end Sys2Proof.Laws
end

