-- ==== Sys2Proof/Laws/Registers.lean ====
section
/-! SUPPORT. Reads after writes of registers, of their fields, and of the units' maps. -/

namespace Sys2Proof.Machine

/-! ### Fields of a word -/

/-- A field lies within a register. -/
def Fld.ok (f : Fld) : Bool := decide (f.lo ≤ f.hi ∧ f.hi < 32)

/-- Two fields share no bit. -/
def Fld.apart (f g : Fld) : Bool := decide (f.hi < g.lo ∨ g.hi < f.lo)

theorem Fld.get_eq (f : Fld) (x : BitVec 32) : f.get x = (x.extractLsb' f.lo f.width).toNat := by
  simp [Fld.get, BitVec.extractLsb'_toNat, Nat.shiftRight_eq_div_pow]

theorem Fld.mask_getLsbD {f : Fld} (h : f.ok = true) (i : Nat) :
    f.mask.getLsbD i = decide (f.lo ≤ i ∧ i ≤ f.hi) := by
  simp only [Fld.ok, decide_eq_true_eq] at h
  simp only [Fld.mask, Fld.width, BitVec.getLsbD_ofNat]
  rw [Nat.mul_comm, Nat.testBit_two_pow_mul, Nat.testBit_two_pow_sub_one]
  by_cases h1 : f.lo ≤ i <;> by_cases h2 : i ≤ f.hi <;> simp [h1, h2] <;> omega

theorem Fld.put_getLsbD {f : Fld} (h : f.ok = true) (x : BitVec 32) (v i : Nat) :
    (f.put x v).getLsbD i = if f.lo ≤ i ∧ i ≤ f.hi then v.testBit (i - f.lo) else x.getLsbD i := by
  have hm := Fld.mask_getLsbD h i
  simp only [Fld.ok, decide_eq_true_eq] at h
  by_cases hi : i < 32
  · simp only [Fld.put, BitVec.getLsbD_or, BitVec.getLsbD_and, BitVec.getLsbD_not, hm, BitVec.getLsbD_shiftLeft,
      BitVec.getLsbD_ofNat, Nat.testBit_mod_two_pow, Fld.width, hi]
    by_cases h1 : f.lo ≤ i <;> by_cases h2 : i ≤ f.hi
    · have h3 : i - f.lo < 32 := by omega
      have h4 : i - f.lo < f.hi - f.lo + 1 := by omega
      have h5 : ¬ i < f.lo := by omega
      simp [h1, h2, h3, h4, h5]
    · have h4 : ¬ i - f.lo < f.hi - f.lo + 1 := by omega
      simp [h2, h4]
    · have h5 : i < f.lo := by omega
      simp [h1, h5]
    · omega
  · have h1 : ¬ (f.lo ≤ i ∧ i ≤ f.hi) := by omega
    rw [if_neg h1, BitVec.getLsbD_of_ge _ _ (by omega), BitVec.getLsbD_of_ge _ _ (by omega)]

theorem Fld.get_testBit {f : Fld} (x : BitVec 32) (i : Nat) :
    (f.get x).testBit i = (decide (i < f.width) && x.getLsbD (f.lo + i)) := by
  rw [Fld.get_eq]
  simp [BitVec.testBit_toNat]

/-- The field just written. -/
theorem Fld.get_put_self {f : Fld} (h : f.ok = true) (x : BitVec 32) (v : Nat) : f.get (f.put x v) = v % 2 ^ f.width := by
  apply Nat.eq_of_testBit_eq
  intro i
  have h' := h
  simp only [Fld.ok, decide_eq_true_eq] at h'
  rw [Fld.get_testBit, Fld.put_getLsbD h, Nat.testBit_mod_two_pow]
  by_cases hi : i < f.width
  · have : f.lo ≤ f.lo + i ∧ f.lo + i ≤ f.hi := by simp only [Fld.width] at hi; omega
    simp [hi, this]
  · simp [hi]

/-- A field beside the one written. -/
theorem Fld.get_put_apart {f g : Fld} (hf : f.ok = true) (hg : g.ok = true) (h : f.apart g = true) (x : BitVec 32) (v : Nat) :
    g.get (f.put x v) = g.get x := by
  apply Nat.eq_of_testBit_eq
  intro i
  simp only [Fld.apart, Fld.ok, decide_eq_true_eq] at h hg
  rw [Fld.get_testBit, Fld.get_testBit, Fld.put_getLsbD hf]
  by_cases hi : i < g.width
  · have : ¬ (f.lo ≤ g.lo + i ∧ g.lo + i ≤ f.hi) := by simp only [Fld.width] at hi; omega
    simp [this]
  · simp [hi]

/-! ### Registers -/

@[simp] theorem State.rd_wr_self (s : State) (r : Reg) (v : BitVec 32) : (s.wr r v).rd r = v :=
  SMap.get_put_self s.regs r.key v r.reset

theorem State.rd_wr_ne (s : State) {r q : Reg} (v : BitVec 32) (h : q.key ≠ r.key) : (s.wr r v).rd q = s.rd q :=
  SMap.get_put_ne v r.reset q.reset h

theorem State.rd_setFld_ne (s : State) {r q : Reg} (f : Fld) (v : Nat) (h : q.key ≠ r.key) :
    (s.setFld r f v).rd q = s.rd q := State.rd_wr_ne s _ h

theorem State.fld_setFld_self (s : State) (r : Reg) {f : Fld} (hf : f.ok = true) (v : Nat) :
    (s.setFld r f v).fld r f = v % 2 ^ f.width := by
  simp [State.fld, State.setFld, Fld.get_put_self hf]

theorem State.fld_setFld_apart (s : State) (r : Reg) {f g : Fld} (hf : f.ok = true) (hg : g.ok = true)
    (h : f.apart g = true) (v : Nat) : (s.setFld r f v).fld r g = s.fld r g := by
  simp [State.fld, State.setFld, Fld.get_put_apart hf hg h]

theorem State.fld_setFld_ne (s : State) {r q : Reg} (f g : Fld) (v : Nat) (h : q.key ≠ r.key) :
    (s.setFld r f v).fld q g = s.fld q g := by
  simp [State.fld, State.rd_setFld_ne s f v h]

/-- A state with the same registers. -/
theorem State.rd_congr {s t : State} (h : t.regs = s.regs) (r : Reg) : t.rd r = s.rd r := by
  simp [State.rd, h]

theorem State.fld_congr {s t : State} (h : t.regs = s.regs) (r : Reg) (f : Fld) : t.fld r f = s.fld r f := by
  simp [State.fld, State.rd_congr h]

/-! ### Units -/

@[simp] theorem State.thread_setThread_self (s : State) (e t : Nat) (x : Thread) : (s.setThread e t x).thread e t = x :=
  SMap.get_put_self s.threads _ x _

theorem State.thread_setThread_ne (s : State) {e t e' t' : Nat} (x : Thread) (h : 32 * e' + t' ≠ 32 * e + t) :
    (s.setThread e t x).thread e' t' = s.thread e' t' := SMap.get_put_ne x _ _ h

@[simp] theorem State.thread_modThread_self (s : State) (e t : Nat) (f : Thread → Thread) :
    (s.modThread e t f).thread e t = f (s.thread e t) := State.thread_setThread_self s e t _

theorem State.thread_modThread_ne (s : State) {e t e' t' : Nat} (f : Thread → Thread) (h : 32 * e' + t' ≠ 32 * e + t) :
    (s.modThread e t f).thread e' t' = s.thread e' t' := State.thread_setThread_ne s _ h

@[simp] theorem State.engine_setEngine_self (s : State) (e : Nat) (x : Engine) : (s.setEngine e x).engine e = x :=
  SMap.get_put_self s.engines e x _

theorem State.engine_setEngine_ne (s : State) {e e' : Nat} (x : Engine) (h : e' ≠ e) :
    (s.setEngine e x).engine e' = s.engine e' := SMap.get_put_ne x _ _ h

@[simp] theorem State.lane_setLane_self (s : State) (p : Nat) (x : Lane) : (s.setLane p x).lane p = x :=
  SMap.get_put_self s.lanes p x _

theorem State.lane_setLane_ne (s : State) {p q : Nat} (x : Lane) (h : q ≠ p) : (s.setLane p x).lane q = s.lane q :=
  SMap.get_put_ne x _ _ h

@[simp] theorem State.channel_setChannel_self (s : State) (c : Nat) (x : Channel) : (s.setChannel c x).channel c = x :=
  SMap.get_put_self s.channels c x _

@[simp] theorem State.domain_setDomain_self (s : State) (d : Nat) (x : Domain) : (s.setDomain d x).domain d = x :=
  SMap.get_put_self s.domains d x _

@[simp] theorem State.counter_setCounter_self (s : State) (n : Nat) (x : Counter) : (s.setCounter n x).counter n = x :=
  SMap.get_put_self s.counters n x _

@[simp] theorem State.core_setCore_self (s : State) (c : Nat) (x : Core) : (s.setCore c x).core c = x :=
  SMap.get_put_self s.cores c x _

@[simp] theorem State.inlet_setInlet_self (s : State) (n : Nat) (x : Inlet) : (s.setInlet n x).inlet n = x :=
  SMap.get_put_self s.inlets n x _

@[simp] theorem State.conduit_setConduit_self (s : State) (c : Nat) (x : Conduit) : (s.setConduit c x).conduit c = x :=
  SMap.get_put_self s.conduits c x _

@[simp] theorem State.posUnit_setPosUnit_self (s : State) (u : Nat) (x : PosUnit) : (s.setPosUnit u x).posUnit u = x :=
  SMap.get_put_self s.posUnits u x _

/-! ### The registers of a thread -/

theorem Regs.get_zero (r : Regs) : r.get 0 = 0 := rfl

theorem Regs.set_zero (r : Regs) (v : Word) (p : Bool) : r.set 0 v p = r := rfl

theorem Regs.get_set_self (r : Regs) {k : Nat} (h : k ≠ 0) (v : Word) (p : Bool) : (r.set k v p).get k = v := by
  simp [Regs.get, Regs.set, h]

theorem Regs.get_set_ne (r : Regs) {k j : Nat} (h : j ≠ k) (v : Word) (p : Bool) : (r.set k v p).get j = r.get j := by
  by_cases hk : k = 0
  · simp [Regs.set, hk]
  · simp only [Regs.get, Regs.set, hk, if_false]
    rw [SMap.get_put_ne v (0 : Word) 0 h]

/-! ### Outcomes -/

/-- A command whose guard holds outside reset and the test modes. -/
theorem State.run_next {s : State} {g : Bool} (f : State → State) (ht : s.test = none) (hr : s.inReset = false)
    (hg : g = true) : s.run g f = .next (f s) := by
  simp [State.run, ht, hr, hg]

/-- A command always answers a next state outside the test modes. -/
theorem State.run_total {s : State} (g : Bool) (f : State → State) (ht : s.test = none) : ∃ t, s.run g f = .next t := by
  unfold State.run
  simp only [ht]
  split
  · exact ⟨_, rfl⟩
  · split <;> exact ⟨_, rfl⟩

/-- No command with a guard acts in a test mode. -/
theorem State.run_test {s : State} {m : TestMode} (g : Bool) (f : State → State) (ht : s.test = some m) :
    s.run g f = .fault .functionalStateUndefined := by
  simp [State.run, ht]

end Sys2Proof.Machine
end

