-- ==== Sys2Proof/Tests/Slice0.lean ====
section
/-! SUPPORT. The model's own tests: for each statement of Obligations.lean a state and operands that meet its hypotheses
(each clause at a boundary of its range), the spec's worked examples as single steps, words of the encoding chapter
decoded, and an ill-formed term for every check of `Instr.wf`. -/

namespace Sys2Proof.Tests

set_option Elab.async false

open Sys2Proof.Machine

/-! ### States to test on -/

/-- The live block after its boot, shore time at the start of tick 6400. -/
def live : State :=
  { (State.reset.setFld .wellStat F.wellStat.step 8) with inReset := false, shoreRuns := true, time := 204800, ticks := 6400 }

/-- A secure host master. -/
def host : Who := .host 1 true true

/-- Several fields set. -/
def sets (s : State) (l : List (Reg × Fld × Nat)) : State := l.foldl (fun s x => s.setFld x.1 x.2.1 x.2.2) s

/-- Engine 0 ON in role 0 with threads 0 to 2 in its map, thread 0 as given. -/
def on (x : Thread) : State :=
  ((sets live [(.engStat 0, F.engStat.state, 2), (.engStat 0, F.engStat.role, 0)]).wr (.engSmapA 0 0) 0x20020100).setThread 0 0 x

/-- A READY supervisor thread with w1 = 7FFF, w2 = 8000, w3 = 3, w8 = 7FFC, w9 = 2. -/
def ready : Thread :=
  { Thread.init 0 with st := .ready, regs := { Regs.zero with w := [(1, 0x7FFF), (2, 0x8000), (3, 3), (8, 0x7FFC), (9, 2)] } }

/-- What `State.Clear` asks, as one decision. -/
def clearB (s : State) (e t : Nat) (o : Op) : Bool :=
  decide (((s.test = none ∧ s.inReset = false) ∧ s.canIssue e t = true ∧ o.wf = true ∧ o.normal = o) ∧
    ((s.thread e t).rep = none ∧ (s.thread e t).cust = none ∧ (s.thread e t).drain = none ∧ (s.thread e t).loads = []) ∧
    (s.thread e t).cmdQueue = [] ∧ ((s.thread e t).haltReq = false ∧ (s.thread e t).stepping = false) ∧
    (s.useSlot e t).fetchInstr e t o (s.thread e t).pc (s.wordsOf e t o (s.thread e t).pc) = (.ok, s.useSlot e t) ∧
    (s.thread e t).hazard o = false ∧ (s.thread e t).parityError o = false ∧ (s.thread e t).bites o = false)

theorem clear_of {s : State} {e t : Nat} {o : Op} (h : clearB s e t o = true) : s.Clear e t o :=
  let ⟨⟨a, b, c, d⟩, ⟨f, g, i, j⟩, k, l, m, n, p, q⟩ := of_decide_eq_true h
  ⟨a, b, c, d, f, g, i, j, k, l, m, n, p, q⟩

theorem clear_all {s : State} {e t : Nat} {l : List Op} (h : l.all (clearB s e t) = true) : ∀ o ∈ l, s.Clear e t o :=
  fun o m => clear_of (List.all_eq_true.mp h o m)

/-! ### Each statement's hypotheses are met together -/

theorem witness_EveryCommandCompletesOutsideTestModes : live.test = none := rfl

theorem witness_TestModesAndResetHoldOtherCommands : ({ live with test := some .lbist } : State).test ≠ none ∧ State.reset.test = none ∧ State.reset.inReset = true ∧
    (∀ env, Instr.warmReset ≠ .resetRelease env) ∧ (∀ l, Instr.warmReset ≠ .lcsChange l) ∧
    (∀ w a d b, Instr.warmReset ≠ .tapDbgacc w a d b) ∧
    Instr.warmReset ∉ [.powerOnReset, .tamper, .tamperDeassert, .tapReset, .tapIdcode, .tapStatus, .tapBypass, .tapWrapsel,
      .tapScanmode, .tapMbist, .tapLbist] := by
  refine ⟨by decide, rfl, rfl, ?_, ?_, ?_, by decide⟩ <;> intros <;> exact nofun

/-- Scan mode with a command queued. -/
def scan : State := { live with test := some .scan, pending := [.tapIdcode] }

theorem scan_inTest : scan.InTest := ⟨by decide, by decide, fun _ => rfl, fun _ _ _ => rfl⟩

theorem witness_TestModeStaysInertAndWiped : scan.InTest ∧ ∃ t, step scan = .next t := ⟨scan_inTest, _, rfl⟩

/-- Debug is open: unprovisioned, sampled. -/
def opened : State := { (sets live [(.wellStat, F.wellStat.lcs, 1)]) with boot := { Boot.init with sampled := true } }

theorem witness_TapInstructionsAndTestModes : opened.testPermitted = true ∧ live.testPermitted = false ∧ live.test = none ∧
    live.debugOpen = false := by decide +kernel

theorem witness_DebugAccessIsAHostAccess : opened.Live ∧ opened.debugOpen = true ∧ 0xFFFFFC < 2 ^ 24 ∧ 0xFFFFFC % 4 = 0 := by
  unfold State.Live; decide +kernel

theorem witness_ResetsGiveResetValues : live.Live ∧ live.integ.bgtSaved = none ∧ live.bit .memTarn F.memTarn.wiping = false ∧
    Reg.topHviol.key ≠ Reg.wellTamp.key := by
  unfold State.Live; decide +kernel

/-- Instructions of every form, with operands at the ends of their ranges. -/
def forms : List Op :=
  [.alu .mov 15 1, .alu .add 1 2, .alu .sub 15 0, .alu .and 1 1, .alu .or 0 15, .alu .xor 2 1, .alu .shl 1 2, .alu .shr 1 2,
   .alu .sar 2 1, .alu .ror 1 3, .alu .neg 1 2, .alu .abs 1 2, .alu .adds 1 1, .alu .subs 2 1, .alu .negs 1 2, .alu .abss 1 2,
   .movi 15 (-32), .addi 1 31, .shift .shl 1 15, .shift .shr 1 0, .shift .sar 2 15, .shift .ror 1 15, .cmpi .seq 1 (-8),
   .cmpi .sne 1 7, .cmpi .slt 1 (-8), .cmpi .sltu 1 15, .branch .eq 1 2 8191, .branch .ne 0 15 (-8192), .branch .lt 1 2 0,
   .branch .ge 1 2 1, .branch .ltu 1 2 2, .branch .geu 2 1 2, .branchI .eq 1 7 8191, .branchI .ne 1 (-8) 0,
   .branchI .lt 1 0 0, .branchI .ge 1 0 0, .branchI .ltu 1 15 0, .branchI .geu 1 0 (-8192), .bz false 0 (-16), .bz true 15 15]

theorem witness_OperationsThatWrap : ∀ o ∈ forms, (on ready).Clear 0 0 o := clear_all (by decide +kernel)

theorem witness_BranchesJumpsAndLink : (∀ o ∈ ([.mts 30 1, .mts 31 15, .mts 29 0] : List Op), (on ready).Clear 0 0 o) ∧
    (on ready).Clear 0 0 (.branch .lt 2 1 8191) ∧ ((0x8000 : Word).toInt < (0x7FFF : Word).toInt) ∧
    ¬(0x7FFF : Word).toInt < (0x8000 : Word).toInt :=
  ⟨clear_all (by decide +kernel), clear_of (by decide +kernel), by decide, by decide⟩

theorem witness_DecodingReadsBackEveryEncoding : (0x3FFF < 2 ^ 14 ∧ 0 < 2 ^ 14) ∧ (Op.branch .lt 0 15 8191).wf = true ∧ (Op.branch .lt 0 15 8191).canonical = true ∧
    (Op.store .pair 7 7 14).canonical = true := by decide

theorem witness_RegisterFileOfAThread : (15 : Nat) ≠ 0 ∧ (0 : Nat) ≠ 15 := by decide

/-- Segment 0 of thread 0: local RAM, its limit the end of the RAM. -/
def seg (s : State) : State :=
  sets s [(.engTsegb 0 0 0, F.engTsegb.read, 1), (.engTsegb 0 0 0, F.engTsegb.write, 1), (.engTsegl 0 0 0, F.engTsegl.limit, 0x8000)]

theorem witness_LoadsDeliverBehindTheNextInstruction :
    (∀ o ∈ ([.load .word 15 0 2, .load .byte 0 0 3, .load .pair 7 0 0, .load .word 1 7 14] : List Op),
      (seg (on ready)).Clear 0 0 o) ∧
    (∀ l ∈ ([halves .word 0x7FFE, halves .byte 0x7FFF, halves .pair 0x7FFC] : List (List Half)),
      (seg (on ready)).accessOk 0 0 0 false l = true ∧ (seg (on ready)).accessWaits 0 0 0 false l = false ∧
      ((seg (on ready)).loadHalves 0 0 0 l).2.2 = seg (on ready)) ∧
    (seg (on ready)).accessOk 0 0 0 false (halves .word 0x7FFF) = false ∧
    (seg (on ready)).accessOk 0 0 7 false (halves .word 0) = false ∧
    (let s := seg (on ready)
     s.segAddr 0 0 0 0x7FFC = 0x7FFC ∧ 0x7FFC % 4 + 4 ≤ 4 ∧ (s.engine 0).sb = [] ∧ s.integ.bgtSaved = none ∧
     s.syn (lramWord 0 (0x7FFC / 8)) = 0) :=
  ⟨clear_all (by decide +kernel), by decide +kernel, by decide +kernel, by decide +kernel, by decide +kernel⟩

/-- A store waiting in the buffer. -/
def entry : StoreEntry := ⟨0, 0, 0xF, 0x11223344, false⟩

/-- Seven stores wait. -/
def seven : State := (seg (on ready)).setEngine 0 { Engine.init with sb := List.replicate 7 entry }

theorem witness_StoresEnterTheBuffer :
    (∀ o ∈ ([.store .word 15 0 2, .store .byte 0 0 3, .store .pair 0 0 0] : List Op), seven.Clear 0 0 o) ∧
    (∀ l ∈ ([halves .word 0x7FFE, halves .byte 0x7FFF] : List (List Half)), seven.accessOk 0 0 0 true l = true ∧
      (seven.engine 0).sb.length + l.length ≤ 8 ∧ ∀ h ∈ l, seven.slotStall 0 0 0 true h = none) ∧
    seven.accessOk 0 0 0 true (halves .pair 0x7FFD) = false :=
  ⟨clear_all (by decide +kernel), by decide +kernel, by decide +kernel⟩

theorem witness_MultipliesStart : ∀ o ∈ ([.mul .mul 1 2, .mul .mulu 2 2, .mul .mulq 2 2, .scl 1 15, .aclr 0, .aset 1 7, .mac false 1 15 2,
    .mac true 0 2 2] : List Op), (on ready).Clear 0 0 o := clear_all (by decide +kernel)

/-- An iterator's operation in flight. -/
def iterating : Thread := { ready with iter := some ⟨.ir, 5, 0, false⟩ }

/-- Four threads hold the four iterators of engine 0; thread 4 is READY. -/
def busy : State :=
  (((((on iterating).setThread 0 1 iterating).setThread 0 2 iterating).setThread 0 3 iterating).setThread 0 4 ready).wr (.engSmapA 0 0) 0x04

theorem witness_IteratorStartsWithItsResult :
    (∀ o ∈ ([.div true 7 15, .div false 0 1, .sqrt 0, .cordic .sincos 1 0, .cordic .atan2 1 2, .cordic .mag 15 0] : List Op),
      (on ready).Clear 0 0 o) ∧ (on ready).iterGrant 0 0 = true ∧ busy.Clear 0 4 (.sqrt 7) ∧ busy.iterGrant 0 4 = false ∧
    ((1 : Word) ≠ 0 ∧ -32768 ≤ ((0xFFFF8000 : BitVec 32).toInt.tdiv (1 : Word).toInt) ∧
      ((0xFFFF8000 : BitVec 32).toInt.tdiv (1 : Word).toInt) ≤ 32767) ∧
    ((0xFFFF : Word) ≠ 0 ∧ 32767 < ((0xFFFF8000 : BitVec 32).toInt.tdiv (0xFFFF : Word).toInt)) ∧
    (0xFFFEFFFF : BitVec 32).toNat / (0xFFFF : Word).toNat < 2 ^ 16 :=
  ⟨clear_all (by decide +kernel), by decide +kernel, clear_of (by decide +kernel), by decide +kernel, by decide, by decide, by decide⟩

/-- A thread with a multiply, an iteration and a load in flight. -/
def flying (fresh : Bool) : Thread :=
  { ready with mul := [⟨.acc1, 7, 0x0100, true⟩], iter := some ⟨.ir, 5, 0x0400, false⟩,
               loads := [⟨[(15, 9)], true, fresh, false⟩] }

theorem witness_ResultsInFlightComplete : (on (flying true)).Live ∧ ((on (flying true)).thread 0 0).mul = [⟨.acc1, 7, 0x0100, true⟩] ∧
    ((on (flying true)).thread 0 0).ck = [] ∧ ((on (flying true)).thread 0 0).iter = some ⟨.ir, 5, 0x0400, false⟩ ∧
    (∀ b ∈ [true, false], ((on (flying b)).thread 0 0).loads = [⟨[(15, 9)], true, b, false⟩]) ∧
    (∀ o ∈ ([.lrd (.half 0 15), .lrd (.half 9 0), .lrd (.pair 3 7), .lrd (.pair 0 1)] : List Op), (on ready).Clear 0 0 o) :=
  ⟨by unfold State.Live; decide +kernel, by decide +kernel, by decide +kernel, by decide +kernel, by decide +kernel,
   clear_all (by decide +kernel)⟩

/-- The program store holds ADD w1, w3 at address 0, the target of a sequence of `n`. -/
def repeating (n : Nat) : State := (on { ready with rep := some ⟨false, 0, n, false⟩ }).setBytes (pstoreWord 0 0) 0xFF
  (BitVec.ofNat 64 (encode14 (.alu .add 1 3)).1)

theorem witness_RepetitionsRun :
    (∀ o ∈ ([.rep false (.imm 64), .rep true (.imm 1), .rep false (.reg 2), .rep true (.reg 0)] : List Op), (on ready).Clear 0 0 o) ∧
    (∀ n ∈ [1, 2], (repeating n).canIssue 0 0 = true ∧ ((repeating n).thread 0 0).rep = some ⟨false, 0, n, false⟩ ∧
      ((repeating n).useSlot 0 0).fetchWords 0 0 [0] = (.ok, (repeating n).useSlot 0 0) ∧ (repeating n).codeOp 0 0 0 = .alu .add 1 3 ∧
      (repeating n).fetchRefused 0 0 0 = none ∧ ((repeating n).thread 0 0).midPair = false ∧
      ((repeating n).thread 0 0).parityError (.alu .add 1 3) = false ∧
      ((repeating n).thread 0 0).hazard (.alu .add 1 3) = false ∧ ((repeating n).thread 0 0).bites (.alu .add 1 3) = false) :=
  ⟨clear_all (by decide +kernel), by decide +kernel⟩

theorem witness_WaitDeliversOrWaits : (on ready).Clear 0 0 (.wait 15 0) ∧ (on ready).Clear 0 0 (.wait 0 2) ∧
    (on { ready with evt := 0x8001 }).Clear 0 0 (.wait 1 2) ∧ (0x8001 : Word) &&& 0x8000 ≠ 0 ∧ (0x8000 : Word) &&& 0x8000 ≠ 0 ∧
    ready.inhdl = false :=
  ⟨clear_of (by decide +kernel), clear_of (by decide +kernel), clear_of (by decide +kernel), by decide, by decide, rfl⟩

theorem witness_SpecialRegistersAreReadAndWritten :
    (∀ o ∈ ([.mfs 1 0, .mfs 15 3, .mfs 1 4, .mfs 0 9, .mfs 1 10, .mfs 1 11, .mfs 2 28] : List Op), (on ready).Clear 0 0 o) ∧
    (∀ o ∈ ([.mts 0 1, .mts 2 15, .mts 5 1, .mts 6 1, .mts 7 2, .mts 3 1, .mts 28 1, .mts 8 1] : List Op), (on ready).Clear 0 0 o) ∧
    (on { ready with priv := 0 }).Clear 0 0 (.mts 6 1) ∧ (on { ready with st := .diverted, uret := 0x7FFF }).Clear 0 0 (.mts 8 1) ∧
    ready.st ≠ .diverted :=
  ⟨clear_all (by decide +kernel), clear_all (by decide +kernel), clear_of (by decide +kernel), clear_of (by decide +kernel), by decide⟩

/-- Lock 3 as given. -/
def locked (s : State) (x : Lock) : State := { s with locks := [(3, x)] }

theorem witness_DrainingInstructions :
    (∀ o ∈ ([.fence, .slotswap, .unlock 1 3] : List Op), seven.Clear 0 0 o) ∧ 0 < (seven.engine 0).sb.length ∧ ready.priv ≠ 0 ∧
    (∀ o ∈ ([.fence, .slotswap, .unlock 15 3] : List Op), (locked (on ready) { Lock.init with holder := some 0 }).Clear 0 0 o) ∧
    (on { ready with priv := 0 }).Clear 0 0 .slotswap ∧
    (let s := locked (on ready) { Lock.init with holder := some 0 }
     (s.lock 3).holder = some (s.roleIndex 0 0) ∧ (s.lock 3).queue = [] ∧ (s.engine 0).sb.length = 0) :=
  ⟨clear_all (by decide +kernel), by decide +kernel, by decide, clear_all (by decide +kernel), clear_of (by decide +kernel),
   by decide +kernel⟩

/-- Every requester may use the locks of group 0. -/
def granted (x : Lock) : State := locked ((on ready).wr (.lckGrights 0) 0xFFFFFFFF) x

theorem witness_LocksAreGranted :
    (∀ x ∈ ([.init, { Lock.init with abandoned := true }, { Lock.init with holder := some 543 }] : List Lock),
      clearB (granted x) 0 0 (.lock 1 3) = true ∧ (granted x).lockRights (.thread 0 0) 3 = true ∧
      ((granted x).lock 3).holder = x.holder ∧ 543 ≠ (granted x).roleIndex 0 0) ∧
    (∀ j, (granted .init).roleIndex 0 0 ∉ ((granted .init).lock j).queue) ∧
    clearB (on ready) 0 0 (.lock 1 3) = true ∧ ((on ready).wr (.lckGrights 0) 0).lockRights (.thread 0 0) 3 = false :=
  ⟨by decide +kernel, fun j => by
    have h : (granted .init).lock j = .init := by
      show SMap.get [(3, Lock.init)] j Lock.init = Lock.init
      unfold SMap.get; split <;> rfl
    rw [h]; decide, by decide +kernel, by decide +kernel⟩

/-- The outlet and its logs enabled. -/
def logging : State := sets (on ready) [(.outCtrl, F.outCtrl.en, 1), (.outCtrl, F.outCtrl.logen, 1)]

theorem witness_LogsReachTheOutlet : logging.Clear 0 0 (.log 15 7) ∧ (on ready).Clear 0 0 (.log 0 0) ∧
    logging.bit .outCtrl F.outCtrl.en = true ∧ logging.bit .outCtrl F.outCtrl.logen = true ∧
    logging.bit .outStat F.outStat.ringerr = false ∧ logging.outlet.logs.length < 32 ∧ (on ready).bit .outCtrl F.outCtrl.en = false :=
  ⟨clear_of (by decide +kernel), clear_of (by decide +kernel), by decide +kernel, by decide +kernel, by decide +kernel,
   by decide +kernel, by decide +kernel⟩

theorem witness_ParkAndReservedEncodings :
    (∀ o ∈ ([.park, .reserved 1, .reserved 2, .checkpoint] : List Op), (on ready).Clear 0 0 o) ∧ (on ready).custLen 0 15 = 0 ∧
    (Op.cust 15 15 15 0).wf = true ∧ (on ready).threadDomain ((on ready).roleOf 0) 0 = none :=
  ⟨clear_all (by decide +kernel), by decide +kernel, by decide, by decide +kernel⟩

/-- Entry 15 of engine 0: two micro-ops that add w3 to w1. -/
def custom (x : Thread) : State :=
  let u := F.engUop.op.put (F.engUop.d.put (F.engUop.s.put 0 3) 1) 1
  ((sets (on x) [(.engCusthdr 0 15, F.engCusthdr.len, 2)]).wr (.engUop 0 15 0) u).wr (.engUop 0 15 1) u

theorem witness_CustomInstructions :
    (∀ x ∈ ([(ready, 0), ({ ready with cust := some ⟨15, 0, 0, 0, 1⟩ }, 1)] : List (Thread × Nat)),
      (custom x.1).canIssue 0 0 = true ∧ x.2 < (custom x.1).custLen 0 15 ∧
      (custom x.1).micro 0 ⟨15, 0, 0, 0, x.2⟩ = .op (.alu .add 1 3) ∧ x.1.hazard (.alu .add 1 3) = false ∧
      x.1.parityError (.alu .add 1 3) = false ∧ x.1.bites (.alu .add 1 3) = false) ∧ (Op.cust 15 0 0 0).wf = true ∧
    ((custom ready).useSlot 0 0).fetchInstr 0 0 (.reserved 2) 0 ((custom ready).wordsOf 0 0 (.reserved 2) 0) =
      (.ok, (custom ready).useSlot 0 0) := by decide +kernel

/-- Engine 0 in role 0, its thread 0 in domain 7 with the CONTINUITY policy. -/
def continuity (x : Thread) : State :=
  { (sets (on x) [(.engDctl 7, F.engDctl.policy, 1)]) with threadDom := [(0, some 7)] }

/-- A checkpoint's record of thread 0, the second of its two. -/
def record (usable : Bool) : CkRecord := ⟨.zero, 5, .ready, .ready, false, 0, 0, 0, none, none, 0, 0, 0, 0, usable, 1⟩

theorem witness_CheckpointRecordsTheContext :
    (∀ l ∈ ([[], [record true]] : List (List CkRecord)), clearB (continuity { ready with ck := l }) 0 0 .checkpoint = true ∧
      ∀ c ∈ l, c.usable = true) ∧
    clearB (continuity { ready with ck := [record false, record true] }) 0 0 .checkpoint = true ∧
    (continuity ready).threadDomain ((continuity ready).roleOf 0) 0 = some 7 ∧ (continuity ready).roleOf 0 < 8 ∧
    (continuity ready).bit (.engDctl 7) F.engDctl.policy = true ∧ ready.mul = [] ∧ ready.iter = none := by decide +kernel

/-- Engine 0 in a life-cycle state, with nothing pending. -/
def engine0 (st : Nat) (x : Thread) : State := sets (on x) [(.engStat 0, F.engStat.state, st)]

theorem witness_EnginesAtTheirBoundaries :
    (on ready).Live ∧ (on ready).fld (.engStat 0) F.engStat.state = 2 ∧ (on ready).asleep = false ∧ (on ready).resting 0 = false ∧
    (sets (on ready) [(.engCtrl 0, F.engCtrl.icinv, 1)]).fld (.engCtrl 0) F.engCtrl.icinv = 1 ∧
    (let s := engine0 1 { ready with st := .quiesced, byStop := true }
     s.fld (.engStat 0) F.engStat.state = 1 ∧ s.fld (.engStat 0) F.engStat.pend = 0 ∧ s.cont.takeover = none ∧ s.asleep = false ∧
     s.power.waking = false) ∧
    (let s := engine0 3 { ready with st := .quiesced, byStop := true }
     s.fld (.engStat 0) F.engStat.state = 3 ∧ s.fld (.engStat 0) F.engStat.pend = 0 ∧ s.engineQuiet 0 = true) ∧
    ({ ready with evt := 0x8000, urgmask := 0x8000 } : Thread).canDivert = true ∧
    (let x := { ready with bite := true }
     x.bite = true ∧ x.atBoundary = true ∧ x.issues = true ∧ (on x).threadDomain ((on x).roleOf 0) 0 = none) := by
  refine ⟨by unfold State.Live; decide +kernel, ?_⟩
  decide +kernel

/-- ENG_TSTATE with a command for a thread of PRIO 0 and PRIV 1. -/
def tcmd (n : Nat) : BitVec 32 := F.engTstate.cmd.put (F.engTstate.priv.put 0 1) n

theorem witness_CommandsOfEnginesAndThreads :
    (on ready).Writer host ∧ (on ready).asleep = false ∧ (on ready).fld (.engStat 8) F.engStat.state = 0 ∧
    (on ready).fld (.engStat 0) F.engStat.state = 2 ∧ F.engCtrl.en.get 1 = 1 ∧ F.engCtrl.icinv.get (F.engCtrl.icinv.put 1 1) = 1 ∧
    ready.atBoundary = true ∧ ready.cmdQueue = [] ∧ ready.issues = true ∧
    (∀ n ∈ [1, 2, 3, 4, 5, 6], F.engTstate.prio.get (tcmd n) = ready.prio ∧ F.engTstate.priv.get (tcmd n) = ready.priv ∧
      F.engTstate.cmd.get (tcmd n) = n) ∧
    (on ready).threadDomain ((on ready).roleOf 0) 0 = none ∧ (on ready).tableIdle 0 = false ∧
    (on { ready with st := .parked }).tableIdle 0 = true ∧
    ((on ready).rd (.engUop 0 15 7)).extractLsb' 0 24 ≠ (0x00FFFFFF : BitVec 32).extractLsb' 0 24 := by
  refine ⟨by unfold State.Writer State.Live; decide +kernel, ?_⟩
  decide +kernel

/-- One store at the front of the buffer of engine 0, and slot 0 ON. -/
def stored (unit : Nat) : State :=
  (sets (on ready) [(.memBstat 0, F.memBstat.state, 2)]).setEngine 0 { Engine.init with sb := [{ entry with unit := unit }] }

/-- Engine 0 waits for a far line. -/
def missing (line : Nat) (stale : Bool) : State :=
  sets (on { ready with miss := some line, missStale := stale }) [(.memBstat 0, F.memBstat.state, 2),
    (.engFarbase 0, F.engFarbase.farbase, 0x4000)]

theorem witness_StoresDrainAndFarLinesArrive :
    (stored 0).Live ∧
    (let s := stored 0x1FFF
     region (4 * 0x1FFF) = .lram ∧ s.mirrorAddr 0 (0x1FFF / 2) = none ∧ s.asleep = false ∧
     (∀ u, u < 32 → (s.thread 0 u).drain = none) ∧ s.integ.bgtSaved = none ∧ entry.mask = 0xF ∧
     (s.decodeWord (lramWord 0 (0x1FFF / 2))).1 = .clean) ∧
    (let s := stored 0x40000
     region (4 * 0x40000) = .pool ∧ s.slotPhys (poolSlot (4 * 0x40000)) (slotWord (4 * 0x40000)) = some 0 ∧
     s.fld (.memBstat 0) F.memBstat.state = 2 ∧ s.bit (.memBstat 0) F.memBstat.handover = false) ∧
    (let s := stored 0x180FFF
     region (4 * 0x180FFF) = .tarn ∧ s.tarnShut = false ∧ tarnWord ((4 * 0x180FFF - 0x600000) / 8) = tarnWord 2047) ∧
    region (4 * 0x1C0000) = .control ∧ region 0x800000 = .sched ∧ entry.poison = false ∧ entry.thr < 32 ∧
    ((missing 3 true).thread 0 0).missStale = true ∧
    (let s := missing 3 false
     (s.thread 0 0).miss = some 3 ∧ inPool (s.farAddr 0 3) = true ∧
     s.slotPhys (poolSlot (s.farAddr 0 3)) (slotWord (s.farAddr 0 3)) = some 3 ∧
     s.fld (.memBstat (poolSlot (s.farAddr 0 3))) F.memBstat.state = 2 ∧ (s.decodeWord 3).1 = .clean) := by
  refine ⟨by unfold State.Live; decide +kernel, ?_⟩
  decide +kernel

/-- A slot that passes its header checks, with one record; and surroundings that hold it. -/
def slot : SlotImg := ⟨true, true, 1, true, true, 232, false, true, 0, 1, 1, true, true, true, true⟩
/-- A device that keeps the 8D-8D-8D mode. -/
def dev : FlashDev := ⟨0x50444653, true, 16, 24, true, true, 4, true, false, true, 0x50444653, 0x50444653, 0x50444653⟩
def env : BootEnv := ⟨1, 1, 0, 0, true, true, 33333, [], some dev, none, slot, slot, [(0, 7)]⟩
def chk (ok : Bool) : RecChk := ⟨64, ok, false, true⟩

/-- The boot of slot A, before its first record. -/
def booting (step : Nat) : State :=
  { (sets (on ready) [(.wellStat, F.wellStat.step, step)]) with boot := { Boot.init with env := some env } }

theorem reads_booting : (booting 5).Reads env (chk true) :=
  ⟨by unfold State.Live; decide +kernel, rfl, by decide +kernel, by decide +kernel, rfl, by decide, rfl⟩

theorem witness_BootStartsAndReadsRecords :
    (State.reset.test = none ∧ State.reset.inReset = true ∧ (∀ m, env.fails m = false) ∧ env.tref = true) ∧
    ((booting 1).fld .laneShstat F.laneShstat.lock = 0 ∧ (booting 1).fld .laneShstat F.laneShstat.holdover = 0 ∧
      (booting 1).bootStep = 1 ∧ (booting 1).asleep = false ∧ (booting 1).ports.retReq = 0 ∧ (booting 1).ports.retAck = 0) ∧
    ((booting 5).bootStep = 5 ∧ (booting 5).boot.count < ((booting 5).slotImg env).nrec ∧ (chk false).crcOk = false) ∧
    (booting 5).Reads env (chk true) ∧ (booting 5).engineOf 0 = some 0 ∧ (booting 5).tarnShut = false ∧
    (booting 5).fld .wellStat F.wellStat.lcs ≠ 2 ∧ tableOk (List.replicate 144 0) = true ∧
    ([((Reg.engRoll).key, 5)] : List (Nat × BitVec 32)).all pairOk = true :=
  ⟨⟨rfl, rfl, fun _ => rfl, rfl⟩, by decide +kernel, by decide +kernel, reads_booting, by decide +kernel, by decide +kernel, by decide +kernel,
   by decide +kernel, by decide +kernel⟩

/-- The tamper input deasserted. -/
def untampered (s : State) : State := sets s [(.wellTamp, F.wellTamp.level, 1)]

theorem witness_SecurityEvents :
    (let s := untampered State.reset
     s.test = none ∧ s.fld .wellTamp F.wellTamp.level = 1 ∧ s.inReset = true) ∧
    (let s := untampered live
     s.fld .wellTamp F.wellTamp.level = 1 ∧ s.inReset = false ∧ s.fld .wellCfg F.wellCfg.tampact = 0 ∧
     s.fld .engPwrstat F.engPwrstat.state = 0 ∧ s.power.stage = 0) ∧
    (sets live [(.wellTamp, F.wellTamp.level, 0)]).fld .wellTamp F.wellTamp.level = 0 ∧
    live.boot.sampled = false ∧ (opened.boot.sampled = true ∧ 3 ≠ opened.security.lcs ∧ lcsCode 3 ≠ 4) ∧
    (sets live [(.memTarn, F.memTarn.wiping, 1)]).fld .memTarn F.memTarn.wiping = 1 ∧
    (∀ n ∈ [0, 7], ({ booting 4 with security := { Security.init with key := List.replicate n 1 } } : State).security.key.length = n) ∧
    (booting 4).bootStep < 5 := by decide +kernel

/-- Reference lost; a span to exchange; a load to apply. -/
def shore (x : Shore) (c : Core) (l : List (Reg × Fld × Nat)) : State := { (sets live l) with shore := x, cores := [(263, c)] }

theorem witness_ShoreEvents :
    live.Live ∧ (sets live [(.laneShstat, F.laneShstat.lock, 1)]).fld .laneShstat F.laneShstat.lock = 1 ∧
    (sets live [(.laneShstat, F.laneShstat.holdover, 1)]).fld .laneShstat F.laneShstat.holdover = 1 ∧
    (let s := { live with shoreRuns := false }
     s.shoreRuns = false ∧ s.booted = true ∧ s.powerState = 0) ∧
    (live.shoreRuns = true ∧ 36 ≤ 36 ∧ 120 ≤ 120 ∧ 120 < 121 ∧ live.shore.load = none) ∧
    (let s := shore .init { Core.init with spans := [(3, 36)], fails := [(2, 2)] } []
     SMap.get (s.core 263).spans 3 0 ≠ 0 ∧ SMap.get (s.core 263).fails 2 0 = 2) ∧
    (let s := shore { Shore.init with load := some ⟨0x1000, 16, 6396⟩ } .init []
     s.shore.load = some ⟨0x1000, 16, 6396⟩ ∧ s.tick = 6396 + 4 ∧ s.allDisarmed = true) ∧
    (sets live [(.engDstat 0, F.engDstat.state, 2)]).allDisarmed = false := by
  refine ⟨by unfold State.Live; decide +kernel, ?_⟩
  decide +kernel

/-- Lane 255 as given, in a mode and a life-cycle state. -/
def lane (x : Lane) (mode st : Nat) : State :=
  { (sets live [(.laneCtrl 255, F.laneCtrl.mode, mode), (.laneCtrl 255, F.laneCtrl.en, st % 3 % 2), (.laneStat 255, F.laneStat.state, st),
      (.laneXbar 255, F.laneXbar.core, 255)]) with lanes := [(255, x)] }

/-- LANE_CTRL with EN, MODE and QUOTA. -/
def ctrl (en mode quota : Nat) : BitVec 32 := F.laneCtrl.quota.put (F.laneCtrl.mode.put (F.laneCtrl.en.put 0 en) mode) quota

/-- A spare swap of lane 255, in progress since tick 4800. -/
def swapping (st : Nat) : State := { lane .init modeEdge 1 with shore := { Shore.init with swap := some ⟨255, 255, st, 4800⟩ } }

/-- Core 263 serves a pin. -/
def served (s : State) : State := { s with cores := [(263, { Core.init with used := true })] }

theorem witness_LanesInTheirLifeCycle :
    (lane .init modeEdge 0).Writer host ∧
    (let s := lane .init modeEdge 0
     let d := ctrl 1 modeTimer 312
     s.shore.swap = none ∧ F.laneCtrl.domv.get d = s.fld (.laneCtrl 255) F.laneCtrl.domv ∧
     F.laneCtrl.dom.get d = s.fld (.laneCtrl 255) F.laneCtrl.dom ∧ s.fld (.laneStat 255) F.laneStat.state = 0 ∧
     s.fld .laneSchquota F.laneSchquota.total + F.laneCtrl.quota.get d - s.fld (.laneCtrl 255) F.laneCtrl.quota ≤ 65536) ∧
    (let s := lane .init modeEdge 2
     let d := ctrl 0 modeEdge 248
     s.fld (.laneStat 255) F.laneStat.state = 2 ∧ F.laneCtrl.en.get d = 0 ∧ F.laneCtrl.mode.get d = s.mode 255 ∧
     F.laneCtrl.quota.get d = s.fld (.laneCtrl 255) F.laneCtrl.quota ∧ F.laneXbar.core.get 263 ≠ s.coreOf 255 ∧
     s.isSpare (F.laneXbar.core.get 263) = true ∧ s.isSpare (F.laneXbar.core.get 254) = false) ∧
    (let s := lane .init modeEdge 0
     let d := ctrl 1 modeTimer 248
     s.laneWindow 263 = true ∧ s.fld (.laneStat 263) F.laneStat.state = 0 ∧
     F.laneCtrl.domv.get d = s.fld (.laneCtrl 263) F.laneCtrl.domv ∧ F.laneCtrl.dom.get d = s.fld (.laneCtrl 263) F.laneCtrl.dom ∧
     F.laneCtrl.quota.get d = s.fld (.laneCtrl 263) F.laneCtrl.quota ∧ s.fld .laneSchquota F.laneSchquota.total ≤ 65536 ∧
     (served s).laneWindow 263 = false) ∧
    (∀ st ∈ [1, 3], ∀ m ∈ [modeEdge, modeTimer, modeMirror, modeQuad], let s := lane { Lane.init with since := 6396 } m st
      s.fld (.laneStat 255) F.laneStat.state = st ∧ s.fld (.laneStat 255) F.laneStat.pend = 0 ∧ s.mode 255 = m ∧
      (s.lane 255).since + 4 ≤ s.ticks ∧ s.primed 255 = true) ∧
    (∀ st ∈ [0, 2, 3], (swapping st).shore.swap = some ⟨255, 255, st, 4800⟩ ∧ (swapping st).swapDue ⟨255, 255, st, 4800⟩ = true ∧
      ((swapping st).laneLife 255).st = 1 ∧ ((swapping st).laneLife 255).pend = 0 ∧ (swapping st).mode 255 ≠ modeQuad) ∧
    F.engRst.kind.get (F.engRst.kind.put 255 3) = 3 ∧ F.engRst.target.get (F.engRst.kind.put 255 3) = 255 := by
  refine ⟨by unfold State.Writer State.Live; decide +kernel, ?_⟩
  decide +kernel

/-- An entry due `late` ticks ago; and lane 255 with it in its core, there since an earlier tick. -/
def due (act late : Nat) : Entry := ⟨0, BitVec.ofNat 64 (32 * (6400 - late)), 32 * (6400 - late), act, 0, 1, 6000, 0⟩
def holding (act late : Nat) : State := sets (lane { Lane.init with core := [(due act late, 6390)] } modeEdge 2)
  [(.engStat 0, F.engStat.role, 0)]

theorem witness_ScheduledEntriesTakeEffect :
    live.Live ∧ live.shoreRuns = true ∧ live.dispatchNext = none ∧
    (let s := lane { Lane.init with queue := [due 0 0] } modeEdge 2
     0 < s.dispatchesLeft ∧ s.dispatchNext = some (255, due 0 0) ∧ s.dispatchOne.dispatchNext = none ∧ (due 0 0).syn = 0) ∧
    (∀ a ∈ [0, 1, 2, 3, 4, 5], ∀ n ∈ [0, 1, 2], (holding a n).executable 255 = [due a n] ∧ (holding a n).ticks = 6400 ∧
      (due a n).act = a ∧ (due a n).tick = 6400 - n) ∧
    (let role := (holding 5 0).fld (.weirWin 255) F.weirWin.role
     (holding 5 0).engineOf role = some 0 ∧ (holding 5 0).takingOver role = false ∧
     (sets (holding 5 0) [(.engStat 0, F.engStat.role, 15)]).engineOf role = none) := by
  refine ⟨by unfold State.Live; decide +kernel, ?_⟩
  decide +kernel

/-- Lane 255 ON in STREAM mode in a direction. -/
def stream (x : Lane) (dir : Nat) : State := sets (lane x modeStream 2) [(.streamM0 255, F.streamM0.dir, dir)]

theorem witness_StreamLanesSendAndReceive :
    (stream .init 0).Writer host ∧
    (∀ dir ∈ [0, 1], (stream { Lane.init with onAt := 6399 } dir).streamDue 255 = true ∧
      (stream .init dir).fld (.streamM0 255) F.streamM0.dir = dir) ∧
    (∀ x ∈ ([([], none), ([7], none), ([], some 5), ([7], some 5)] : List (List Word × Option Word)),
      let s := stream { Lane.init with started := true, txStart := 204544, txWord := x.2, fifo := x.1 } 0
      s.wordDue 255 = true ∧ (s.lane 255).fifo = x.1 ∧ (s.lane 255).txWord = x.2) ∧
    (let s := stream { Lane.init with started := true, txStart := 204544 } 0
     s.exporting 255 = false ∧ s.fld (.streamM3 255) F.streamM3.replast = 0 ∧
     (sets s [(.streamM3 255, F.streamM3.replast, 1)]).fld (.streamM3 255) F.streamM3.replast = 1) ∧
    (let s := sets (stream { Lane.init with started := true } 0) [(.outCtrl, F.outCtrl.xen, 1), (.outCtrl, F.outCtrl.xlane0, 255),
       (.streamM0 255, F.streamM0.cden, 0)]
     s.wordDue 255 = true ∧ s.exporting 255 = true ∧ s.asleep = false) ∧
    (∀ n ∈ [15, 16], let s := stream { Lane.init with started := true, fifo := List.replicate n 5 } 1
      s.wordDue 255 = true ∧ (s.lane 255).fifo.length = n) ∧
    (∀ n ∈ [0, 1, 15, 16], let s := sets (stream { Lane.init with fifo := List.replicate n 5 } 0) [(.streamM0 255, F.streamM0.cden, 0)]
      s.laneWindow 255 = true ∧ s.mode 255 = modeStream ∧ s.fld (.streamM0 255) F.streamM0.cden = 0 ∧
      (s.lane 255).fifo = List.replicate n 5) ∧
    (served live).laneWindow 263 = false := by
  refine ⟨by unfold State.Writer State.Live; decide +kernel, ?_, ?_, ?_, ?_, ?_, ?_, ?_⟩ <;> decide +kernel

/-- Lane 255 ON in a mode with FILT and a change at its input since an instant. -/
def input (mode filt : Nat) (cand : Option (Nat × Time)) (n : Nat) : State :=
  sets (lane { Lane.init with cand := cand, capture := List.replicate n (true, 3) } mode 2)
    [(.laneIo 255, F.laneIo.filt, filt), (.captureM0 255, F.captureM0.edges, 3)]

theorem witness_InputLanesTakeEdges :
    (input modeCapture 0 none 0).Live ∧ (input modeCapture 0 none 0).FabricStill ∧
    (lane .init modeCapture 0).laneOn 255 = false ∧ ({ live with shoreRuns := false } : State).shoreRuns = false ∧
    (∀ m ∈ [modeCapture, modeQuad, modeMirror, modeDecimate], ∀ n ∈ [0, 7, 8], let s := input m 0 none n
      s.laneOn 255 = true ∧ s.shoreRuns = true ∧ s.swapStop 255 = false ∧ s.mode 255 = m ∧
      32 * s.fld (.laneIo 255) F.laneIo.filt = 0 ∧ (s.lane 255).cand = none ∧ (s.lane 255).capture.length = n ∧
      xor true (s.bit (.laneIo 255) F.laneIo.invIn) ≠ (s.lane 255).filt ∧
      xor false (s.bit (.laneIo 255) F.laneIo.invIn) = (s.lane 255).filt) ∧
    (∀ e ∈ [0, 3], let s := sets (input modeCapture 0 none 0) [(.captureM0 255, F.captureM0.edges, e)]
      (s.fld (.captureM0 255) F.captureM0.edges).testBit 0 = decide (e = 3)) ∧
    (let s := input modeCapture 2 (some (204790, 204790)) 7
     0 < 32 * s.fld (.laneIo 255) F.laneIo.filt ∧ (s.lane 255).cand = some (204790, 204790) ∧ s.stepAt 31 < 204790 + 64 ∧
     204790 + 32 * s.fld (.laneIo 255) F.laneIo.filt ≤ 204854 ∧ (s.lane 255).capture.length < 8 ∧
     (s.fld (.captureM0 255) F.captureM0.edges).testBit (if !(s.lane 255).filt then 0 else 1) = true) ∧
    (∀ n ∈ [0, 5], let s := sets (input modeDecimate 0 none 0) [(.decimateM0 255, F.decimateM0.mclkTmo, n)]
      s.decConflict 255 = false ∧ (sets s [(.laneStat 0, F.laneStat.state, 2), (.laneCtrl 0, F.laneCtrl.mode, modeDecimate)]).decConflict 255 = true ∧
      s.inlOn 32 = false ∧ (sets s [(.inlStat 32, F.inlStat.state, 2)]).inlOn 32 = true ∧
      (s.lane 255).clkLost = false ∧ (s.lane 255).clkAt + 8 * n ≤ s.ticks ∧
      true ≠ s.bit (.decimateM0 255) F.decimateM0.clkedge ∧ false = s.bit (.decimateM0 255) F.decimateM0.clkedge) ∧
    (let s := sets (lane { Lane.init with compares := [(true, 6398)], lvl := true, oe := true, passed := true, grant := true } modeEdge 2)
       [(.laneIo 255, F.laneIo.loopen, 1)]
     let seen := (s.settleTo (s.now + 31)).setLaneIn 255 false (s.now + 31)
     let u := seen.setLane 255 { seen.lane 255 with compares := (seen.lane 255).compares.tail }
     (s.lane 255).compares = [(true, 6398)] ∧ 6398 + max 1 (s.fld (.laneIo 255) F.laneIo.loopdly) ≤ s.ticks ∧
     (u.comparable 255 && (u.pin 255).2) = true ∧ s.laneDomain 255 = none ∧
     ((sets u [(.laneIo 255, F.laneIo.loopen, 0)]).comparable 255) = false ∧
     (sets s [(.laneCtrl 255, F.laneCtrl.domv, 1), (.laneCtrl 255, F.laneCtrl.dom, 7), (.engDctl 7, F.engDctl.loopflt, 1)]).laneDomain 255 =
       some 7) := by
  refine ⟨by unfold State.Live; decide +kernel, ⟨by decide +kernel, fun _ => rfl⟩, ?_⟩
  decide +kernel

/-- A LEVEL weir on lane 255 and group 31 of the ON domain 7, whose deadline falls in this tick. -/
def weir (l : List (Reg × Fld × Nat)) : State :=
  { (sets (lane .init modeEdge 2) ([(.laneCtrl 255, F.laneCtrl.domv, 1), (.laneCtrl 255, F.laneCtrl.dom, 7),
      (.engDstat 7, F.engDstat.state, 2), (.engDstat 7, F.engDstat.sub, 1), (.weirCfg 255, F.weirCfg.cg, 31),
      (.weirCfg 255, F.weirCfg.kind, 3), (.weirCgctl 31, F.weirCgctl.domv, 1), (.weirCgctl 31, F.weirCgctl.dom, 7),
      (.weirCgper 31, F.weirCgper.per, 64)] ++ l)) with
    groups := [(31, { armed := 6000, deadlines := [6336], strobe := none })], weirs := [(255, { acc := 6350, periods := [] })] }

/-- The group takes its deadlines from strobes; its pending deadline as given. -/
def strobed (n : Option Nat) : State :=
  { weir [(.weirCgctl 31, F.weirCgctl.src, 1), (.weirCgld 31, F.weirCgld.stboff, 0)] with groups := [(31, { armed := 6000, deadlines := [6336], strobe := n })] }

theorem witness_WeirsTakeStagesAndDeadlines :
    (weir []).Writer host ∧
    ((weir []).laneDomain 255 = some 7 ∧ (weir []).domainOn 7 = true ∧ (weir []).takesStages 255 = true ∧ (weir []).laneOn 255 = true ∧
      (weir []).mode 255 = modeEdge ∧ (weir [(.engDstat 7, F.engDstat.state, 0)]).domainOn 7 = false ∧
      (weir [(.weirCfg 255, F.weirCfg.kind, 0)]).takesStages 255 = false ∧ (weir []).shore.swap = none) ∧
    ((weir []).deadlineDue 31 = true ∧ (weir []).bit .outCtrl F.outCtrl.trcen = false ∧
      (weir []).bit (.weirCgctl 31) F.weirCgctl.coh = false ∧ (weir []).deciding 31 = [255] ∧ (weir []).kind 255 = kindLevel ∧
      (weir []).complemented 255 = false ∧ (weir [(.weirCfg 255, F.weirCfg.kind, 0)]).deciding 31 = []) ∧
    ((weir [(.weirStat 255, F.weirStat.valid, 1)]).ownCause 255 31 false = 0 ∧ (weir []).ownCause 255 31 false ≠ 0 ∧
      (weir []).fld (.weirStat 255) F.weirStat.valid = 0 ∧ (weir []).policy 255 = 0 ∧ (weir []).sub 7 = subArmed) ∧
    ((strobed none).missingDue 31 = true ∧ (strobed (some 6400)).deadlineDue 31 = true) ∧
    (((strobed (some 6399)).group 31).strobe = some 6399 ∧ (strobed (some 6399)).groupLive 31 = true ∧
      (strobed (some 6399)).byStrobe 31 = true ∧
      (strobed (some 6399)).ticks = 6399 - (strobed (some 6399)).fld (.weirCgld 31) F.weirCgld.stboff + 1) ∧
    (let s := { weir [(.weirLimp 255, F.weirLimp.minpw, 64)] with
        lanes := [(255, { Lane.init with lvl := true, oe := true, passedAt := 204767 })] }
     let end_ := (s.lane 255).passedAt + s.fld (.weirLimp 255) F.weirLimp.minpw
     s.shoreRuns = true ∧ s.limited 255 = true ∧ s.here < end_ ∧ s.dueBy end_ = true) ∧
    (let s := { weir [(.weirLimt 255, F.weirLimt.maxon, 1)] with lanes := [(255, { Lane.init with passed := true, passedAt := 204799 })] }
     let end_ := (s.lane 255).passedAt + 32 * s.fld (.weirLimt 255) F.weirLimt.maxon
     s.limited 255 = true ∧ s.fld (.weirLimt 255) F.weirLimt.maxon ≠ 0 ∧ (s.lane 255).limited = true ∧ s.here ≤ end_ ∧
     s.dueBy end_ = true) ∧
    (let s := { weir [(.weirCfg 254, F.weirCfg.pair, 1)] with
        lanes := [(254, { Lane.init with offAt := some 204831 }), (255, { Lane.init with lvl := true, oe := true, passed := true })] }
     let end_ := 204831 + s.fld (.weirLimp (255 / 2 * 2)) F.weirLimp.deadt
     (s.lane (partner 255)).offAt = some 204831 ∧ s.here ≤ end_ ∧ s.dueBy end_ = true ∧ s.wantsOn 255 end_ = true ∧
     s.deadTimeOk 255 end_ = true ∧ s.overlapOk 255 end_ = true) := by
  refine ⟨by unfold State.Writer State.Live; decide +kernel, ?_⟩
  decide +kernel

/-- Counter 63 ON, clocked by the edges of lane 0, one of which falls in this tick, in a mode at a count with its TOP in force. -/
def counting (mode v top : Nat) (l : List (Reg × Fld × Nat)) : State :=
  { (sets live ([(.cntStat 63, F.cntStat.state, 2), (.cntCtrl 63, F.cntCtrl.clksrc, 1), (.cntCtrl 63, F.cntCtrl.ledge, 1),
      (.cntCtrl 63, F.cntCtrl.mode, mode), (.cntCount 63, F.cntCount.count, v), (.cntTop 63, F.cntTop.top, top)] ++ l)) with
    counters := [(63, { Counter.init with top := top })], shore := { Shore.init with sampled := 1 } }

/-- The counter function of channel 111 waits for its tick. -/
def held (func tgt : Nat) : State :=
  { sets (counting 0 3 9 []) [(.cntFabfn 15, F.cntFabfn.func, func), (.cntFabfn 15, F.cntFabfn.tgt, tgt)] with
    channels := [(111, { Channel.init with fnHeld := [6399] })] }

theorem witness_CountersCount :
    live.Writer host ∧
    ([0, 1, 2, 3].all fun mode => [0, 1, 0xFFFE, 0xFFFF].all fun v =>
      let s := counting mode v 0xFFFF []
      s.countDue 63 && !s.resetComing 63 && s.fld (.cntCtrl 63) F.cntCtrl.mode == mode && s.count 63 == v &&
      (s.counter 63).top == 0xFFFF) = true ∧ 63 % 4 = 3 ∧
    (sets live [(.cntCtrl 63, F.cntCtrl.chain, 1)]).chained 63 = true ∧
    (let s := held 4 63
     s.countDue 63 = true ∧ s.resetComing 63 = true) ∧
    (let s := { sets live [(.cntStat 62, F.cntStat.state, 2), (.cntCtrl 62, F.cntCtrl.clksrc, 1), (.cntCtrl 62, F.cntCtrl.ledge, 1),
       (.cntCount 62, F.cntCount.count, 0xFFFF), (.cntCtrl 63, F.cntCtrl.chain, 1)] with shore := { Shore.init with sampled := 1 } }
     s.countDue 62 = true ∧ s.resetComing 62 = false ∧ s.fld (.cntCtrl 62) F.cntCtrl.mode = 0 ∧ 62 % 4 ≠ 3 ∧
     s.fld (.cntCtrl 63) F.cntCtrl.chain = 1 ∧ (s.counter 63).cntAt ≠ some s.ticks ∧ s.count 63 ≠ (s.counter 63).top) ∧
    ([3, 4, 5].all fun f => let s := held f 63
      s.bankHolder 15 == some 111 && s.shoreRuns && s.fld (.cntFabfn 15) F.cntFabfn.func == f && !s.chained 63 && s.cntState 63 == 2 &&
      s.fld (.cntFabfn 15) F.cntFabfn.tgt == 63) = true ∧
    (let s := sets (held 3 0) [(.cntCtrl 63, F.cntCtrl.clksrc, 2), (.cntCtrl 63, F.cntCtrl.clkch, 15)]
     ((List.range 64).filter fun m => s.fld (.cntCtrl m) F.cntCtrl.clksrc == 2 && s.fld (.cntCtrl m) F.cntCtrl.clkch == 15) = [63] ∧
     (s.counter 63).cntAt ≠ some s.ticks ∧ s.resetComing 63 = false) ∧
    (live.counter (4 * 15)).snapAt ≠ some live.ticks ∧
    (let s := { live with counters := [(60, { Counter.init with snapAt := some 6400 })] }
     (s.counter (4 * 15)).snapAt = some s.ticks) := by
  refine ⟨by unfold State.Writer State.Live; decide +kernel, ?_⟩
  decide +kernel

theorem witness_CountersStartAndStop :
    live.Writer host ∧ (sets live [(.cntCtrl 63, F.cntCtrl.chain, 1)]).chained 63 = true ∧
    (let s := { sets live [(.cntStat 63, F.cntStat.state, 1), (.cntCtrl 63, F.cntCtrl.en, 1)] with
       counters := [(63, { Counter.init with since := 6399, onDue := some 6400 })] }
     s.chained 63 = false ∧ (s.cntLife 63).st = 1 ∧ (s.counter 63).onDue = some 6400 ∧ 6400 ≤ s.ticks) ∧
    ([0, 1].all fun pend => let s := { sets live [(.cntStat 63, F.cntStat.state, 3), (.cntStat 63, F.cntStat.pend, pend)] with
        counters := [(63, { Counter.init with since := 6399 })] }
      !s.chained 63 && (s.cntLife 63).st == 3 && decide ((s.counter 63).since < s.ticks) && (s.cntLife 63).pend == pend) = true ∧
    ([0, 1].all fun arm => let d := F.cntCtrl.arm.put (F.cntCtrl.en.put 0 1) arm
      (live.cntLife 63).st == 0 && F.cntCtrl.domv.get d == live.fld (.cntCtrl 63) F.cntCtrl.domv &&
      F.cntCtrl.dom.get d == live.fld (.cntCtrl 63) F.cntCtrl.dom && F.cntCtrl.chain.get d == live.fld (.cntCtrl 63) F.cntCtrl.chain &&
      F.cntCtrl.en.get d == 1) = true ∧
    (let s := sets live [(.cntStat 63, F.cntStat.state, 2), (.cntCtrl 63, F.cntCtrl.en, 1)]
     let d := F.cntCtrl.en.put (s.rd (.cntCtrl 63)) 0
     (s.cntLife 63).st = 2 ∧ F.cntCtrl.en.get d = 0 ∧
     ∀ f ∈ [F.cntCtrl.ledge, F.cntCtrl.presc, F.cntCtrl.clklane, F.cntCtrl.clkch, F.cntCtrl.clksrc, F.cntCtrl.mode],
       f.get d = s.fld (.cntCtrl 63) f) ∧
    F.cntGo.go.get 1 = 1 ∧ F.cntGo.go.get 0 = 0 ∧
    ([1, 2].all fun f => let s := held f 15
      s.bankHolder 15 == some 111 && s.shoreRuns && s.fld (.cntFabfn 15) F.cntFabfn.func == f) = true := by
  refine ⟨by unfold State.Writer State.Live; decide +kernel, ?_⟩
  decide +kernel

/-- Unit 15 on lanes 252 and 253 with its index on lane 255, all ON, at a raw count one above POS, with a change and an index edge
to act on. -/
def quad (step : Option QuadStep) (edges : List Nat) (indexed : Bool) (l : List (Reg × Fld × Nat)) : State :=
  { (sets live ([(.laneStat 252, F.laneStat.state, 2), (.laneCtrl 252, F.laneCtrl.mode, modeQuad), (.laneStat 253, F.laneStat.state, 2),
      (.laneCtrl 253, F.laneCtrl.mode, modeQuad), (.laneStat 255, F.laneStat.state, 2), (.laneCtrl 255, F.laneCtrl.mode, modeQuad),
      (.quadM0 252, F.quadM0.posu, 15), (.quadM0 252, F.quadM0.role, 0), (.quadM0 253, F.quadM0.posu, 15),
      (.quadM0 253, F.quadM0.role, 1), (.quadM0 255, F.quadM0.posu, 15), (.quadM0 255, F.quadM0.role, 2)] ++ l)) with
    posUnits := [(15, { PosUnit.init with raw := 1, pos := some 0, step := step, index := true, edges := edges, indexed := indexed })] }

theorem witness_PositionUnitsCount :
    live.Writer host ∧ (live.posUnit 15).step = none ∧
    ([false, true].all fun a => [false, true].all fun b => let s := quad (some ⟨a, b, 204770, 204770⟩) [] false []
      s.unitLane 15 == some 252 && s.shoreRuns && (s.posUnit 15).step == some ⟨a, b, 204770, 204770⟩ && !(s.posUnit 15).a &&
      !(s.posUnit 15).b) = true ∧
    (let s := quad none [] false []
     0 < ((s.posUnit 15).raw + 1 - s.position 15).toInt ∧ ((s.posUnit 15).raw - 1 - s.position 15).toInt = 0) ∧
    (let s := { quad none [] false [] with posUnits := [(15, { PosUnit.init with raw := 0xFFFFFFFF, pos := some 0 })] }
     ((s.posUnit 15).raw - 1 - s.position 15).toInt < -1) ∧
    (let s := quad none [] false [(.posStat 15, F.posStat.armed, 1), (.posCmpv 15, F.posCmpv.cmpv, 2), (.posCmpc 15, F.posCmpc.upen, 1)]
     s.fld (.posStat 15) F.posStat.armed = 1 ∧ (s.posUnit 15).raw + 1 = s.rd (.posCmpv 15) ∧
     s.fld (.posCmpc 15) F.posCmpc.upen = 1) ∧
    ([1, 2, 3].all fun m => [false, true].all fun i => let s := quad none [] i [(.posCtrl 15, F.posCtrl.idxmode, m)]
      s.indexDue 15 && s.fld (.posCtrl 15) F.posCtrl.idxmode == m && (s.posUnit 15).indexed == i) = true ∧
    (let s := quad none [204800 - 8192] false [(.posTmo 15, F.posTmo.speedTimeout, 1), (.posStat 15, F.posStat.still, 0)]
     s.sinceEdge 15 = some 8192 ∧ s.fld (.posTmo 15) F.posTmo.speedTimeout = 1 ∧ 1 * 8192 ≤ 8192 ∧
     s.bit (.posStat 15) F.posStat.still = false ∧ (s.unitLane 15).isSome = true) := by
  refine ⟨by unfold State.Writer State.Live; decide +kernel, ?_⟩
  decide +kernel

/-- Inlet n ON, with samples waiting and the instant of the last strobe as given. -/
def inlet (n : Nat) (l : List Sample) (last : Option Nat) : State :=
  { sets live [(.inlStat n, F.inlStat.state, 2)] with inlets := [(n, { Inlet.init with waiting := l, lastEdge := last })] }

theorem witness_InletsTakeSamples :
    live.Writer host ∧ live.inlOn 31 = false ∧
    (∀ l ∈ [none, some (204831 - 128)], let s := inlet 31 [] l
      s.inlOn 31 = true ∧ s.shoreRuns = true ∧ (∀ k, (s.inlet 31).lastEdge = some k → k + 128 ≤ s.stepAt 31) ∧
      (∀ g < 32, s.fld (.weirCgctl g) F.weirCgctl.inl ≠ 31) ∧ s.fld (.inlCtrl 31) F.inlCtrl.winen = 0) ∧
    (let s := sets (inlet 31 [] none) [(.inlCtrl 31, F.inlCtrl.winen, 1), (.inlCtrl 31, F.inlCtrl.signed, 0), (.inlWin 31, F.inlWin.hi, 0xFFFE)]
     s.fld (.inlCtrl 31) F.inlCtrl.winen = 1 ∧ s.fld (.inlCtrl 31) F.inlCtrl.tagen = 0 ∧ s.fld (.inlCtrl 31) F.inlCtrl.signed = 0 ∧
     s.fld (.inlWin 31) F.inlWin.hi < (0xFFFF : BitVec 16).toNat) ∧
    (((inlet 31 [] (some 204704)).inlet 31).lastEdge = some 204704 ∧ (inlet 31 [] (some 204704)).stepAt 31 < 204704 + 128) ∧
    ({ inlet 31 [] none with shoreRuns := false } : State).shoreRuns = false ∧
    (∀ r ∈ [0, 1], let z : Sample := ⟨0x8000, 63, 204736, 6400⟩
     let s := sets (on ready) [(.inlStat 63, F.inlStat.state, 2), (.inlData 63, F.inlData.ready, r), (.inlCtrl 63, F.inlCtrl.even, r)]
     let s := { s with inlets := [(63, { Inlet.init with waiting := [z] })] }
     (s.inlet 63).waiting = [z] ∧ z.due ≤ s.ticks ∧ s.shoreRuns = true ∧ s.bit .outCtrl F.outCtrl.trcen = false ∧
     s.fld (.inlData 63) F.inlData.ready = r ∧ s.fld (.inlCtrl 63) F.inlCtrl.even = r ∧
     s.takingOver (s.fld (.inlCtrl 63) F.inlCtrl.role) = false ∧ s.engineOf (s.fld (.inlCtrl 63) F.inlCtrl.role) = some 0) ∧
    live.enteredNow 63 = none ∧
    (let e : Entered := ⟨6400, 5, 6, 0, ⟨0, 0⟩⟩
     ({ live with inlets := [(63, { Inlet.init with entered := some e })] } : State).enteredNow 63 = some e) ∧
    ((live.inlLife 63).st = 0 ∧ live.inlLocked 63 = false ∧ F.inlCtrl.domv.get 1 = live.fld (.inlCtrl 63) F.inlCtrl.domv ∧
      F.inlCtrl.dom.get 1 = live.fld (.inlCtrl 63) F.inlCtrl.dom) ∧
    (let s := inlet 63 [] none
     let d := F.inlCtrl.en.put (s.rd (.inlCtrl 63)) 0
     (s.inlLife 63).st = 2 ∧ F.inlCtrl.en.get d = 0 ∧
     ∀ f ∈ [F.inlCtrl.even, F.inlCtrl.role, F.inlCtrl.thread, F.inlCtrl.ebit, F.inlCtrl.tmask, F.inlCtrl.tval, F.inlCtrl.tagen,
       F.inlCtrl.signed, F.inlCtrl.winen], f.get d = s.fld (.inlCtrl 63) f) ∧
    ([1, 3].all fun st => let s := { sets live [(.inlStat 63, F.inlStat.state, st)] with inlets := [(63, { Inlet.init with since := 6396 })] }
      (s.inlLife 63).st == st && (s.inlLife 63).pend == 0 && decide ((s.inlet 63).since + 4 ≤ s.ticks)) = true := by
  refine ⟨by unfold State.Writer State.Live; decide +kernel, ?_⟩
  decide +kernel

/-- Channel c as given, its gate open, all four taps enabled, or of a spare the one of its event input. -/
def channel (c : Nat) (x : Channel) (l : List (Reg × Fld × Nat)) : State :=
  { (sets (on ready) ([(.fabCh c, F.fabCh.tapen, if c < 128 then 15 else 4), (.fabCh c, F.fabCh.gsel, 0), (.fabCh c, F.fabCh.gpol, 0)] ++ l)) with
    channels := [(c, x)] }

theorem channel_alone (c : Nat) (x : Channel) (l : List (Reg × Fld × Nat)) (h : (channel c x l).hears c (.echo c) = false)
    (k : ((List.range 136).all fun i => decide (i = c) || (decide ((channel c x l).fld (.fabCh i) F.fabCh.tapen = 0) &&
      !((channel c x l).channel i).high && decide ((channel c x l).levelOut i = none))) = true) : (channel c x l).Alone c := by
  have other (i : Nat) (n : i ≠ c) : (channel c x l).channel i = .init := by
    show SMap.get [(c, x)] i Channel.init = .init
    simp only [SMap.get]
    rw [if_neg n.symm]
  refine ⟨h, fun i m n => ?_, fun i n => by rw [other i n]; rfl⟩
  have := List.all_eq_true.mp k i (List.mem_range.mpr m)
  simp only [n, decide_false, Bool.false_or, Bool.and_eq_true, decide_eq_true_eq, Bool.not_eq_true'] at this
  exact ⟨this.1.1, this.1.2, this.2⟩

theorem witness_FabricPassesEvents :
    (channel 135 .init []).Writer host ∧ (∀ c ∈ [0, 63, 64, 95, 96, 111, 112, 127, 135], (channel c .init []).Alone c) ∧
    ([0, 63, 64, 95, 96, 111, 112, 127, 135].all fun c => [false, true].all fun refr =>
      let s := channel c { Channel.init with refr := refr } []
      s.connected c && (decide (112 ≤ c ∧ c < 128) || (List.range 4).any fun t =>
        (tapEvin (s.rowOf c) t).isSome && (s.fld (.fabCh c) F.fabCh.tapen).testBit t) &&
      s.gateOpen c && !s.combined c && !(s.channel c).high && F.fabFire.ch.get (BitVec.ofNat 32 c) == c && s.chanOf c == c &&
      (s.channel c).refr == refr && s.fld (.fabCh c) F.fabCh.lsus == 0 && s.fld (.fabCh c) F.fabCh.wakeEn == 0 &&
      !s.bit .outCtrl F.outCtrl.trcen && (s.coincides c 204831).isNone && !s.tripped 0 && !s.stopped c) = true ∧
    (∃ tap ∈ List.range 4, ∃ j, tapEvin ((channel 135 .init []).rowOf 135) tap = some j ∧
      let s := { channel 135 { Channel.init with high := true } [] with ports := { Ports.init with evin := BitVec.ofNat 64 (2 ^ j) } }
      s.evinLevel j = true ∧ (s.channel 135).high = s.combined 135) ∧
    (let s := channel 135 { Channel.init with window := 64, winNo := 8 } [(.fabCh 135, F.fabCh.lsus, 1), (.fabCh 135, F.fabCh.ringStop, 1)]
     s.fld (.fabCh 135) F.fabCh.lsus = 1 ∧ s.fld (.fabCh 135) F.fabCh.ringStop = 1 ∧ s.fld (.fabCst 135) F.fabCst.ring = 0 ∧
     (s.channel 135).winNo = s.windowNo ∧ (s.channel 135).window + 1 = 65) := by
  refine ⟨by unfold State.Writer State.Live; decide +kernel, fun c m => channel_alone c _ _ ?_ ?_, ?_, ?_, ?_⟩
  · revert c; decide +kernel
  · revert c; decide +kernel
  · decide +kernel
  · decide +kernel
  · decide +kernel

theorem witness_FabricTimesEnd :
    live.Writer host ∧
    (let s := channel 67 { Channel.init with wpend := true } []
     (s.channel 67).wpend = true ∧ 64 ≤ s.rowOf 67 ∧ s.rowOf 67 < 96 ∧ s.engineOn ((s.rowOf 67 - 64) / 4) = some 0 ∧
     s.takingOver ((s.rowOf 67 - 64) / 4) = false ∧ s.asleep = false ∧ s.fld .engFstat F.engFstat.swap = 0 ∧
     (sets s [(.engStat 0, F.engStat.role, 15)]).wakeAccepts ((s.rowOf 67 - 64) / 4) = none) ∧
    (let s := { channel 127 { Channel.init with pulseEnd := 6400 } [(.fabCh 127, F.fabCh.omode, 0)] with ports := { Ports.init with evout := 0x8000 } }
     s.chanOf (112 + 15) = 127 ∧ s.fld (.fabCh (s.chanOf (112 + 15))) F.fabCh.omode = 0 ∧ s.ports.evout.getLsbD 15 = true ∧
     (s.channel 127).pulseEnd ≤ s.ticks) ∧
    (∀ b ∈ [false, true], let s := channel 63 { Channel.init with refr := true, edge := b, passAt := some (204831 - 64) } []
     (s.channel 63).refr = true ∧ s.refrOver 63 (s.now + 31) = true ∧ (s.channel 63).edge = b ∧ s.connected 63 = true ∧
     s.stopped 63 = false ∧ s.fld (.fabCh 63) F.fabCh.lsus = 0 ∧ s.fld (.fabCh 63) F.fabCh.wakeEn = 0 ∧
     s.bit .outCtrl F.outCtrl.trcen = false) ∧
    (channel 63 { Channel.init with refr := true, edge := true, passAt := some (204831 - 64) } []).Alone 63 ∧
    (let s := channel 135 { Channel.init with window := 9, winNo := 7 } []
     (s.channel 135).winNo ≠ s.windowNo) ∧
    (let s := sets (channel 63 .init []) [(.fabTrip 1, F.fabTrip.trip, 0x80000000)]
     s.tripped 63 = true ∧ s.combined (s.chanOf 63) = false ∧ s.shoreRuns = true ∧ (0x80000000 : BitVec 32) = BitVec.ofNat 32 (2 ^ 31)) ∧
    (∃ j, tapEvin 63 0 = some j ∧
      let s := { sets (channel 63 .init []) [(.fabTrip 1, F.fabTrip.trip, 0x80000000)] with
        ports := { Ports.init with evin := BitVec.ofNat 64 (2 ^ j) } }
      s.tripped 63 = true ∧ s.combined (s.chanOf 63) = true) ∧
    (live.fld (.fabSpmap 7) F.fabSpmap.en = 0 ∧
      F.fabSpmap.en.get (F.fabSpmap.tgt.put (F.fabSpmap.en.put 0 1) 127) = 1 ∧ live.spareFor 127 = none ∧
      ((sets live [(.fabSpmap 6, F.fabSpmap.en, 1), (.fabSpmap 6, F.fabSpmap.tgt, 127)]).spareFor 127).isSome = true) ∧
    (let s := { sets live [(.fabSpmap 7, F.fabSpmap.en, 1), (.fabSpmap 7, F.fabSpmap.tgt, 127)] with
       channels := [(135, { Channel.init with standAt := 6383 })] }
     s.fld (.fabSpmap 7) F.fabSpmap.en = 1 ∧ s.fld (.fabSpmap 7) F.fabSpmap.active = 0 ∧ (s.channel 135).standAt + 17 ≤ s.ticks) := by
  refine ⟨by unfold State.Writer State.Live; decide +kernel, by decide +kernel, by decide +kernel, by decide +kernel,
    channel_alone 63 _ _ (by decide +kernel) (by decide +kernel), by decide +kernel, by decide +kernel, by decide +kernel,
    by decide +kernel, by decide +kernel⟩

/-- Slot 31 in a life-cycle state with its handshake. -/
def bank (st pend : Nat) (req ack : BitVec 35) (l : List (Reg × Fld × Nat)) : State :=
  { (sets live ([(.memBstat 31, F.memBstat.state, st), (.memBstat 31, F.memBstat.pend, pend)] ++ l)) with
    ports := { Ports.init with retReq := req, retAck := ack } }

theorem witness_SlotsChangeHandsAndRest :
    live.Writer host ∧ live.bit (.memBstat 31) F.memBstat.handover = false ∧
    (let s := bank 2 0 0 0 [(.memBstat 31, F.memBstat.handover, 1)]
     s.bit (.memBstat 31) F.memBstat.handover = true ∧ s.oldBusy 31 = false ∧
     F.memBctl.owner.get 0 = (sets s [(.memBctl 31, F.memBctl.owner, 0)]).fld (.memBctl 31) F.memBctl.owner) ∧
    ([0, 3].all fun st => let s := bank st 0 0 0 [(.memBctl 31, F.memBctl.autoWake, 1)]
      s.bit (.memBctl 31) F.memBctl.autoWake && (s.bankLife 31).st == st) = true ∧
    ([0, 1].all fun pend => let s := bank 3 pend 0x80000000 0 []
      let s' := bank 1 pend 0 0x80000000 []
      s.slotOfBank 31 == some 31 && s.ports.retReq.getLsbD 31 && !s.ports.retAck.getLsbD 31 && (s.bankLife 31).st == 3 &&
      s'.slotOfBank 31 == some 31 && !s'.ports.retReq.getLsbD 31 && s'.ports.retAck.getLsbD 31 && (s'.bankLife 31).st == 1) = true ∧
    ((bank 2 0 0x400000000 0 []).ports.retReq.getLsbD 34 = true ∧ (bank 2 0 0x400000000 0 []).ports.retAck.getLsbD 34 = false) := by
  refine ⟨by unfold State.Writer State.Live; decide +kernel, ?_⟩
  decide +kernel

/-- The background test in a state on the last region of the last bank. -/
def bgt (st : Nat) (saved : Option (Nat × Nat)) : State :=
  { (sets live [(.memBgtstat, F.memBgtstat.state, st), (.memBgtstat, F.memBgtstat.bank, 33), (.memBgtstat, F.memBgtstat.region, 511),
      (.memBgtctl, F.memBgtctl.en, 1)]) with integ := { Integrity.init with bgtSaved := saved } }

/-- An entry of the log with one error in a tick, and the log with it as its last entry. -/
def logEntryAt (tick : Nat) : LogEntry :=
  { bank := 31, word := 16383, sr := 3, sc := 5, multi := false, count := 9, first := 0, last := 0, tick := tick, now := [(3, 5)] }
def logged (tick : Nat) : State :=
  (live.wr .memLogv 0x80000000).setInteg { Integrity.init with log := [(31, some (logEntryAt tick))] }

/-- A retirement with a page in the second spare bank. -/
def retirement : BitVec 32 :=
  F.memRetire.page.put (F.memRetire.slot.put (F.memRetire.sb.put (F.memRetire.remap.put (F.memRetire.valid.put 0 1) 1) 1) 31) 31

theorem witness_WordsAreRepairedRetiredAndTested :
    live.Writer host ∧ ((live.setSyn 3 0x0080).decodeWord 3).1 = .corrected ∧ ((live.setSyn 3 0x0303).decodeWord 3).1 = .uncorrectable ∧
    (let s := sets live [(.memLb 53, F.memLb.k, 3)]
     s.leakDue 53 = true ∧ (s.setInteg { Integrity.init with leaks := [(53, 6401)] }).leakDue 53 = false) ∧
    (let s := logged 6399
     s.logEntry 31 = some (logEntryAt 6399) ∧ s.logNow (logEntryAt 6399) = []) ∧
    (let s := logged 6400
     s.shoreRuns = true ∧ s.rd .memLogv = 1#32 <<< 31 ∧ s.logEntry 31 = some (logEntryAt 6400) ∧
     s.logNow (logEntryAt 6400) = [(3, 5)]) ∧
    (live.bit (.memRetire 255) F.memRetire.valid = false ∧ F.memRetire.valid.get retirement = 1 ∧ F.memRetire.remap.get retirement = 1 ∧
      F.memRetire.slot.get retirement = 31 ∧ F.memRetire.page.get retirement = 31 ∧ live.spare (F.memRetire.sb.get retirement) < 2 ∧
      live.copierBusy = false ∧ ((List.range 256).all fun j => !live.bit (.memRetire j) F.memRetire.valid) = true) ∧
    (let s := { (live.wr (.memRetire 255) retirement) with integ := { Integrity.init with copying := some 255 } }
     s.integ.copying = some 255 ∧ s.integ.bgtSaved = none) ∧
    (let d := F.memMigctl.dst.put (F.memMigctl.src.put (F.memMigctl.go.put 0 1) 31) 1
     let s := sets live [(.memBstat 31, F.memBstat.state, 2)]
     F.memMigctl.go.get d = 1 ∧ s.copierBusy = false ∧ s.fld (.memBstat (F.memMigctl.src.get d)) F.memBstat.state = 2 ∧
     s.spare (F.memMigctl.dst.get d) = 0) ∧
    (let s := sets live [(.memMigstat, F.memMigstat.state, 2), (.memMigctl, F.memMigctl.src, 31), (.memMigctl, F.memMigctl.dst, 1)]
     s.fld .memMigstat F.memMigstat.state = 2 ∧ s.integ.bgtSaved = none ∧
     s.fld (.memBstat (s.fld .memMigctl F.memMigctl.src)) F.memBstat.phys = 31 ∧ 31 ≠ 32 + s.fld .memMigctl F.memMigctl.dst ∧
     s.retireOf 31 (16383 / 512) = none) ∧
    live.clearTarget (8 * F.memClrw.addr.get (F.memClrw.addr.put 0 0x20000)) = some 0 ∧
    (let s := sets (bgt 0 none) [(.memBstat 0, F.memBstat.state, 2), (.memSpstat, F.memSpstat.b33, 2)]
     (bgt 0 none).bgtNext = some (33, 511, false) ∧ s.bgtNext = some (0, 0, true) ∧ s.bit .memBgtctl F.memBgtctl.en = true ∧ s.fld .memBgtstat F.memBgtstat.state = 0) ∧
    (let s := sets (bgt 0 none) [(.memBgtint, F.memBgtint.interval, 8)]
     s.integ.bgtAt + 800 * max 2 (s.fld .memBgtint F.memBgtint.interval) ≤ s.ticks ∧ s.shoreRuns = true) ∧
    ((bgt 1 none).fld .memBgtstat F.memBgtstat.state = 1 ∧ (bgt 1 none).integ.bgtSaved = none) ∧
    (bgt 2 (some (33, 511))).fld .memBgtstat F.memBgtstat.state = 2 ∧
    ((bgt 3 (some (33, 511))).fld .memBgtstat F.memBgtstat.state = 3 ∧ (bgt 3 (some (33, 511))).integ.bgtSaved = some (33, 511)) := by
  refine ⟨by unfold State.Writer State.Live; decide +kernel, ?_⟩
  decide +kernel

/-- Conduit 31 ON in a KIND on lane 255, with a ring of LEN doublewords in slot 0, owned by the conduits and ON. -/
def conduit (kind len : Nat) (x : Conduit) (fifo : List Word) (l : List (Reg × Fld × Nat)) : State :=
  { (sets (on ready) ([(.cdStat 31, F.cdStat.state, 2), (.cdCtrl 31, F.cdCtrl.en, 1), (.cdCfg 31, F.cdCfg.kind, kind),
      (.cdCfg 31, F.cdCfg.lane0, 255), (.cdPbase 31, F.cdPbase.base, 0x20000), (.cdPlen 31, F.cdPlen.len, len),
      (.cdXlen 31, F.cdXlen.len, 1), (.memBstat 0, F.memBstat.state, 2), (.memBctl 0, F.memBctl.owner, 0xA),
      (.laneStat 255, F.laneStat.state, 2), (.laneCtrl 255, F.laneCtrl.mode, modeStream), (.streamM0 255, F.streamM0.cden, 1),
      (.streamM0 255, F.streamM0.conduit, 31), (.streamM0 255, F.streamM0.dir, (kind + 1) % 2)] ++ l)) with
    conduits := [(31, x)], lanes := [(255, { Lane.init with fifo := fifo })] }

theorem witness_ConduitsMoveWords :
    live.Writer host ∧ F.cdCtrl.kick.get 1 = 0 ∧ F.cdCtrl.en.get 1 = 1 ∧ (live.cdLife 31).st = 0 ∧
    ([1, 3].all fun st => let s := conduit 1 0 .init [] [(.cdStat 31, F.cdStat.state, st)]
      (s.cdLife 31).st == st && (s.cdLife 31).pend == 0 && s.cdInconsistent 31 && !(conduit 1 2 .init [] []).cdInconsistent 31) = true ∧
    (let d := F.cdCtrl.kick.put (F.cdCtrl.en.put 0 1) 1
     let s := conduit 3 1 ⟨true, false, 0⟩ [] [(.cdStat 31, F.cdStat.trigpend, 1)]
     F.cdCtrl.kick.get d = 1 ∧ s.fld (.cdCfg 31) F.cdCfg.trig ≠ 2 ∧ F.cdCtrl.en.get d = (s.cdLife 31).en ∧ (s.cdLife 31).en = 1 ∧
     s.cdLive 31 = true ∧ s.cdKind 31 = 3) ∧
    ([0, 8, 12].all fun n =>
      let s := conduit 1 1 .init (List.replicate n 7) []
      s.cdLive 31 && !s.paused && s.cdKind 31 == 1 && s.cdLanes 31 == 1 && s.cdServes 31 0 && s.cdTurn 31 == some 0 &&
      (s.lane 255).fifo.length == n && s.cdAnswer (s.cdRingAddr 31 0) false == .go) = true ∧
    ([4, 16].all fun n =>
      let s := conduit 2 1 .init (List.replicate n 7) []
      s.cdLive 31 && !s.paused && s.cdKind 31 == 2 && s.cdTurn 31 == some 0 && (s.lane 255).fifo.length == n &&
      s.cdAnswer (s.cdRingAddr 31 0) true == .go) = true ∧
    (let s := conduit 1 1 .init [] [(.streamM0 255, F.streamM0.cden, 0)]
     s.cdServes 31 0 = false ∧ s.cdKind 31 = 1 ∧ s.cdLive 31 = true ∧ 0 < s.cdLanes 31 ∧ (s.conduit 31).ptr = 0) ∧
    (let s := conduit 1 1 .init (List.replicate 13 7) []
     s.cdServes 31 0 = true ∧ s.cdTurn 31 ≠ some 0) ∧
    ([1, 2].all fun kind => let s := conduit kind 1 .init [1, 2, 3, 4] [(.memBctl 0, F.memBctl.owner, 0)]
      s.cdTurn 31 == some 0 && s.cdAnswer (s.cdRingAddr 31 0) (kind == 2) == .refuse) = true ∧
    ([3, 4].all fun kind => let s := conduit kind 1 ⟨true, false, 0⟩ [] [(.cdLaddr 31, F.cdLaddr.offset, 4095)]
      s.cdLive 31 && (s.conduit 31).busy && s.cdKind 31 == kind && s.engineOn (s.fld (.cdLaddr 31) F.cdLaddr.role) == some 0 &&
      s.cdLen 31 == 8 && s.cdXlen 31 == 8 && s.cdAnswer (s.cdCopyAddr 31 0) (kind == 4) == .go && s.cdLocalWord 31 0 == 4095 &&
      s.mirrorAddr 0 4095 == none && !(s.engine 0).lramNear true 4095 s.ticks && s.integ.bgtSaved == none && (s.decodeWord (s.served (s.poolPhys (s.cdCopyAddr 31 0)))).1 == .clean &&
      (s.decodeWord (lramWord 0 4095)).1 == .clean) = true := by
  refine ⟨by unfold State.Writer State.Live; decide +kernel, ?_⟩
  decide +kernel

/-- Domain 7 in a life-cycle state and a substate, with lane 255, weir 255 and group 31 in it. -/
def domain (st sub : Nat) (x : Domain) (l : List (Reg × Fld × Nat)) : State :=
  { (weir ([(.engDstat 7, F.engDstat.state, st), (.engDstat 7, F.engDstat.sub, sub), (.engDctl 7, F.engDctl.refcg, 31)] ++ l)) with
    domains := [(7, x)] }

/-- ENG_DCTL of domain 7 with EN, DRST and CMD. -/
def dctl (en drst cmd : Nat) : BitVec 32 :=
  F.engDctl.cmd.put (F.engDctl.drst.put (F.engDctl.en.put ((domain 2 1 .init []).rd (.engDctl 7)) en) drst) cmd

theorem witness_DomainsChangeState :
    (domain 0 0 .init []).Writer host ∧
    ([0, 1, 2, 3].all fun st => ((domain st 0 .init []).domLife 7).st == st) = true ∧
    ([true, false].all fun b => ({ domain 2 1 .init [] with shoreRuns := b } : State).shoreRuns == b) = true ∧
    (let s := domain 1 0 .init [(.engDstat 7, F.engDstat.pend, 1)]
     (s.domLife 7).st = 1 ∧ s.countersArmed 7 = true ∧ (s.domLife 7).pend = 1) ∧
    (F.engDctl.en.get (dctl 1 0 0) = 1 ∧ F.engDctl.drst.get (dctl 1 0 0) = 0 ∧ F.engDctl.cmd.get (dctl 1 0 0) = 0 ∧
      F.engDctl.en.get (dctl 0 1 0) = 0 ∧ F.engDctl.drst.get (dctl 0 1 0) = 1 ∧ F.engDctl.cmd.get (dctl 0 1 0) = 0) ∧
    (∀ f ∈ [F.engDctl.holdmax, F.engDctl.refcg, F.engDctl.loopflt, F.engDctl.dfa, F.engDctl.policy],
      f.get (dctl 0 1 0) = (domain 2 1 .init []).fld (.engDctl 7) f) ∧
    ((domain 1 0 .init []).countersArmed 7 = true ∧ ((domain 1 0 .init []).domLife 7).pend = 0) ∧
    ((domain 2 1 .init []).domainOn 7 = true ∧ (domain 3 1 .init []).shoreRuns = true) ∧
    ([1, 2, 3, 4, 5].all fun sub => (domain 2 sub .init []).sub 7 == sub && F.engDctl.cmd.get (dctl 0 0 (sub % 4)) == sub % 4) = true ∧
    (((domain 2 4 .init []).domain 7).stopped = false ∧ (domain 2 4 .init []).laneDomain 255 = some 7) ∧
    ([0, 1].all fun dfa => let s := domain 2 4 { Domain.init with stopped := true } [(.engDctl 7, F.engDctl.dfa, dfa),
        (.weirCgctl 31, F.weirCgctl.domv, 0)]
      (s.domain 7).stopped && !(s.domain 7).switched && s.atPeriodStart 7) = true ∧
    (let s := domain 2 2 { Domain.init with next := some 5, asked := 6399 } [(.weirCgctl 31, F.weirCgctl.domv, 0)]
     (s.domain 7).asked < s.tick ∧ s.atPeriodStart 7 = true ∧ (s.domain 7).next = some 5) ∧
    (let s := domain 2 4 { Domain.init with next := some 5, asked := 6399, stopped := true } [(.weirCgctl 31, F.weirCgctl.domv, 0)]
     (s.domain 7).asked < s.tick ∧ s.atPeriodStart 7 = true ∧ s.sub 7 = 4 ∧ (s.domain 7).stopped = true ∧
     (s.domain 7).switched = false) ∧
    (let s := domain 2 4 { Domain.init with stopped := true, switched := true } [(.engDctl 7, F.engDctl.holdmax, 3), (.engDstat 7, F.engDstat.holdcnt, 3)]
     (s.domain 7).switched = true ∧ s.fld (.engDctl 7) F.engDctl.holdmax ≠ 0 ∧
     s.fld (.engDctl 7) F.engDctl.holdmax ≤ s.fld (.engDstat 7) F.engDstat.holdcnt) := by
  refine ⟨by unfold State.Writer State.Live; decide +kernel, ?_⟩
  decide +kernel

/-- Engine 0 in role 0 whose thread 0 is in domain 7, ON and running with the CONTINUITY policy; the reserve is engine 8. -/
def running (x : Continuity) (l : List (Reg × Fld × Nat)) : State :=
  { (sets (domain 2 2 .init []) ([(.engStat 0, F.engStat.state, 2), (.engStat 0, F.engStat.role, 0), (.engStat 8, F.engStat.role, 8),
      (.engDctl 7, F.engDctl.policy, 1), (.engCont 0, F.engCont.cen, 1)] ++ l)).setThread 0 0 ready with
    threadDom := [(0, some 7)], cont := x }

theorem witness_FaultsFreezeOrAreMasked :
    (running .init []).Writer host ∧
    (let s := running .init []
     s.fld (.engStat 0) F.engStat.state = 2 ∧ s.asleep = false ∧ (s.thread 0 0).st = .ready ∧ (s.thread 0 0).halted = false ∧
     s.cont.takeover = none ∧ s.bit (.engCont 0) F.engCont.cen = true ∧ s.engineOf 8 = some 8 ∧
     s.fld .engRollstat F.engRollstat.phase ≠ 4 ∧ 7 ∈ s.roleDomains 0 ∧ s.running 7 = true ∧
     s.bit (.engDctl 7) F.engDctl.policy = true ∧ s.sub 7 ≠ 3) ∧
    (let s := (sets (running .init []) [(.engSmapA 0 0, F.engSmapA.slot0, 0)]).modEngine 0 fun x => { x with stall := some 4800, slotAt := 4800 }
     s.fld (.engStat 0) F.engStat.state = 2 ∧ (s.thread 0 0).st = .ready ∧ s.couldIssue 0 0 = true ∧ s.shoreRuns = true ∧
     (s.engine 0).stall = some 4800 ∧ 4800 + 1600 ≤ s.ticks ∧ (s.engine 0).slotAt + 1600 ≤ s.ticks ∧ s.outOfService 0 = false) ∧
    (sets (running .init []) [(.engCont 0, F.engCont.cen, 0)]).bit (.engCont 0) F.engCont.cen = false ∧
    (let d := F.engFdecl.target.put (F.engFdecl.kind.put 0 1) 8
     F.engFdecl.kind.get d = 1 ∧ F.engFdecl.target.get d = 8 ∧ (running .init []).roleOf 8 = 8) ∧
    (let d := F.engFdecl.target.put (F.engFdecl.kind.put 0 2) 255
     F.engFdecl.kind.get d = 2 ∧ F.engFdecl.target.get d = 255) ∧
    (let s := running .init []
     live.laneDomain 255 = none ∧ s.laneDomain 255 = some 7 ∧ (sets s [(.engDstat 7, F.engDstat.state, 0)]).running 7 = false ∧
     s.freeSpare = some 256 ∧ s.shore.swap = none ∧ s.coreOf 255 < 256 ∧
     (sets s [(.engDctl 7, F.engDctl.policy, 0)]).bit (.engDctl 7) F.engDctl.policy = false) ∧
    (running { Continuity.init with takeover := some ⟨7, 0, some 8⟩ } []).cont.takeover = some ⟨7, 0, some 8⟩ := by
  refine ⟨by unfold State.Writer State.Live; decide +kernel, ?_⟩
  decide +kernel

/-- Engine 8 is in role 7 with an interval of a checkpoint, and its thread 31, in domain 7, as given. -/
def eighth (x : Thread) (c : Continuity) (l : List (Reg × Fld × Nat)) : State :=
  { (sets live ([(.engStat 8, F.engStat.role, 7), (.engStat 8, F.engStat.state, 2), (.engDctl 7, F.engDctl.policy, 1),
      (.engCont 7, F.engCont.ckint, 1), (.engDstat 7, F.engDstat.state, 2), (.engDstat 7, F.engDstat.sub, 3)] ++ l)).setThread 8 31 x with
    threadDom := [(32 * 7 + 31, some 7)], cont := c }

/-- Slot 31 is the continuity area of role 7, ON and owned by it, and the local words 0 to 4095 are mirrored. -/
def area : List (Reg × Fld × Nat) :=
  [(.engCont 7, F.engCont.cen, 1), (.engCont 7, F.engCont.cslot, 31), (.memBstat 31, F.memBstat.state, 2), (.memBctl 31, F.memBctl.owner, 7),
    (.engMirror 7, F.engMirror.men, 1), (.engMirror 7, F.engMirror.mlo, 0), (.engMirror 7, F.engMirror.mhi, 4095)]

/-- The last word of the second record of thread 31 is uncorrectable. -/
def damaged (s : State) : State := { s with chk := [(bankWord 31 (0x27E0 + 31), 0x0300)] }

theorem witness_ContinuityRestoresWork :
    live.Live ∧
    (let x := { ready with ck := [record true], rollback := true, st := .faulted }
     let s := eighth x { Continuity.init with takeover := some ⟨7, 0, some 8⟩ } area
     s.hasContexts (s.roleOf 8) = true ∧ s.contextAt 7 31 1 = some (bankWord 31 0x27E0) ∧ s.canRestore 7 = true ∧
     s.integ.bgtSaved = none ∧ s.chk = [] ∧ (s.domLife 7).st = 2 ∧ s.threadDomain 7 31 = some 7 ∧
     ((damaged s).decodeWord ((damaged s).served (bankWord 31 0x27E0 + 31))).1 = .uncorrectable) ∧
    (∀ x ∈ [{ ready with ck := [record true] }, { ready with ck := [record false] }, { ready with cmdQueue := [1] }],
      let s := eighth x .init []
      s.engineOf 7 = some 8 ∧ s.fld (.engCont 7) F.engCont.ckint ≠ 0 ∧ s.tick % (s.fld (.engCont 7) F.engCont.ckint * 800) = 0 ∧
      s.shoreRuns = true ∧ s.asleep = false ∧ SMap.get s.cont.ckTick 7 0 ≠ s.ticks + 1 ∧ s.isContinuity 7 31 = true ∧ s.isContinuity 7 0 = false ∧ (s.thread 8 31).atBoundary = true) ∧
    ((eighth { ready with ck := [record false] } .init []).thread 8 31).ck = [record false] ∧ (record false).stores = 0 ∧
    (let x := { ready with ck := [record true], rollback := true, st := .faulted }
     let s := eighth x .init []
     x.usable = some (record true) ∧ (record true).st ≠ .waiting ∧ s.quiescing 8 = false ∧ s.switching 7 = false ∧ s.hasContexts (s.roleOf 8) = false ∧ s.threadDomain (s.roleOf 8) 31 = some 7) ∧
    (let s := sets (eighth { ready with ck := [record true], rollback := true, st := .faulted } .init area)
       [(.memBstat 31, F.memBstat.state, 0), (.memBctl 31, F.memBctl.autoWake, 1)]
     (s.thread 8 31).usable = some (record true) ∧ s.switching (s.roleOf 8) = false ∧ s.hasContexts (s.roleOf 8) = true ∧
     s.admitsRole (s.roleOf 8) = true ∧ s.fld (.engCont (s.roleOf 8)) F.engCont.cslot = 31 ∧
     s.bit (.memBctl 31) F.memBctl.autoWake = true ∧ (s.bankLife 31).st = 0) ∧
    (let s := eighth (Thread.init 31) { Continuity.init with takeover := some ⟨7, 0, none⟩ } [(.engStat 8, F.engStat.role, 8)]
     s.cont.takeover = some ⟨7, 0, none⟩ ∧ s.engineOf 8 = some 8 ∧ 8 ∉ s.cont.waiting ∧ SMap.rising s.regs = true) ∧
    (let s := eighth { ready with ck := [record true] } { Continuity.init with takeover := some ⟨7, 0, some 8⟩ } area
     s.canRestore 7 = true ∧ s.MemOk ∧ SMap.wf s.chk 0 = true ∧ s.slotPhys 31 4095 = some (bankWord 31 4095) ∧
     s.bit (.engMirror 7) F.engMirror.men = true ∧ (s.thread 8 31).usable = some (record true) ∧ s.isContinuity 7 31 = true ∧
     (s.domLife 7).st = 2 ∧ 7 ∈ s.roleDomains 7 ∧ s.domainOn 7 = true ∧ s.sub 7 = 3) ∧
    (let s := eighth (Thread.init 31) { Continuity.init with bist := [0, 8] } [(.engStat 8, F.engStat.role, 15)]
     8 ∈ s.cont.bist ∧ s.fld .engRollstat F.engRollstat.phase = 0 ∧ s.cont.waiting = [] ∧ s.engineOf 8 = none ∧
     (sets s [(.engStat 0, F.engStat.role, 8)]).engineOf 8 ≠ none) ∧
    (let s := sets (eighth (Thread.init 31) .init []) [(.engRollstat, F.engRollstat.phase, 1), (.engRollstat, F.engRollstat.rollptr, 6),
       (.engStat 0, F.engStat.role, 8)]
     s.fld .engRollstat F.engRollstat.phase = 1 ∧ s.roleOf 0 = 8 ∧ 0 ∉ s.cont.waiting ∧
     (((List.range 8).map fun i => (s.fld .engRollstat F.engRollstat.rollptr + 1 + i) % 8).find? fun r => (s.engineOn r).isSome) = some 7) ∧
    (let s := { sets (eighth (Thread.init 31) .init []) [(.engRoll, F.engRoll.en, 1), (.engRoll, F.engRoll.rollint, 1), (.engStat 0, F.engStat.role, 8)] with
       ticks := 800000000 }
     s.bit .engRoll F.engRoll.en = true ∧ s.fld .engRollstat F.engRollstat.phase = 0 ∧ s.engineOf 8 ≠ none ∧ s.cont.takeover = none ∧
     s.cont.bist = [] ∧ s.asleep = false ∧ s.booted = true ∧
     s.cont.rollAt + max 1 (s.fld .engRoll F.engRoll.rollint) * 800000000 ≤ s.ticks) ∧
    (sets live [(.engRollstat, F.engRollstat.phase, 2)]).fld .engRollstat F.engRollstat.phase = 2 ∧
    (let s := eighth ready { Continuity.init with rollRole := 7 } [(.engRollstat, F.engRollstat.phase, 3)]
     s.fld .engRollstat F.engRollstat.phase = 3 ∧ s.engineOn s.cont.rollRole = some 8 ∧ s.switchAllowed s.cont.rollRole 8 = true) ∧
    (let s := eighth { ready with st := .quiesced, byStop := true } { Continuity.init with rollRole := 7 }
       [(.engRollstat, F.engRollstat.phase, 4), (.engStat 0, F.engStat.role, 8)]
     s.cont.rollRole < 8 ∧ s.engineOf s.cont.rollRole = some 8 ∧ s.engineOf 8 = some 0 ∧ s.fld .engRollstat F.engRollstat.phase = 4 ∧
     s.engineQuiet 8 = true ∧ s.MemOk ∧ SMap.wf s.chk 0 = true) := by
  refine ⟨by unfold State.Live; decide +kernel, ?_⟩
  unfold State.MemOk
  repeat' apply And.intro
  all_goals decide +kernel

/-- The power unit, its handshake and its registers as given. -/
def power (x : Power) (p : Ports) (l : List (Reg × Fld × Nat)) : State := { (sets live l) with power := x, ports := p }

theorem witness_PowerFollowsItsHandshake :
    live.Writer host ∧
    (let s := (power { Power.init with restAt := some 4800 } .init
       [(.engPwr, F.engPwr.dozeEn, 1), (.engPwr, F.engPwr.dozedly, 2)]).modEngine 8 fun x => { x with slotAt := 4800 }
     s.booted = true ∧ s.bit .engPwr F.engPwr.dozeEn = true ∧ s.powerState = 0 ∧ s.allRest = true ∧ s.power.stage = 0 ∧
     s.power.restAt = some 4800 ∧ 4800 + 800 * max 1 (s.fld .engPwr F.engPwr.dozedly) ≤ s.ticks ∧
     (∀ k, k < 9 → (s.engine k).slotAt = 0 ∨ (s.engine k).slotAt + 800 * max 1 (s.fld .engPwr F.engPwr.dozedly) ≤ s.ticks) ∧
     s.power.waking = false ∧ s.powerIdle = true) ∧
    (let s := { on ready with regs := (sets (on ready) [(.engPwrstat, F.engPwrstat.state, 1)]).regs }
     s.powerState = 1 ∧ s.allRest = false ∧ s.runAsked = false) ∧
    ([0, 1, 2].all fun k => let s := power { Power.init with stage := 2 * k } { Ports.init with pwrReq := true, pwrTgt := k } []
      s.ports.pwrReq && !s.ports.pwrAck && s.ports.pwrTgt == k && (k != 2 || s.power.stage == 4)) = true ∧
    ([none, some 0, some 2].all fun k => let s := power { Power.init with next := k } { Ports.init with pwrAck := true } []
      s.ports.pwrAck && !s.ports.pwrReq && s.power.next == k) = true ∧
    (let d := F.engPwr.sleepreq.put 0 1
     F.engPwr.sleepreq.get d = 1 ∧ F.engPwr.wake.get d = 0 ∧ live.booted = true ∧ live.powerState ≠ 2 ∧ live.power.stage = 0 ∧
     live.power.waking = false ∧ live.cont.takeover = none ∧ live.fld .engRollstat F.engRollstat.phase ≠ 4 ∧
     (sets live [(.engRollstat, F.engRollstat.phase, 4)]).fld .engRollstat F.engRollstat.phase = 4) ∧
    (let s := power { Power.init with stage := 2 } .init []
     s.power.stage = 2 ∧ ((List.range 9).all s.engineQuiet) = true ∧ ((List.range 32).all fun k => (s.bankLife k).st != 1) = true) ∧
    (let s := power { Power.init with stage := 3 } { Ports.init with retAck := 0x400000000 }
       ((List.range 32).map fun k => (.memBstat k, F.memBstat.state, 0))
     s.power.stage = 3 ∧ ((List.range 32).all fun k => (s.bankLife k).st == 0) = true ∧ s.ports.retAck.getLsbD 34 = true) ∧
    ([0, 1].all fun k => let s := power { Power.init with stage := 5 } .init [(.engPwr, F.engPwr.sleepKeepTime, k)]
      s.power.stage == 5 && s.bit .engPwr F.engPwr.sleepKeepTime == (k == 1)) = true ∧
    (let d := F.engPwr.wake.put 0 1
     F.engPwr.wake.get d = 1 ∧ F.engPwr.sleepreq.get d = 0 ∧
     ((List.range 3).all fun k => (power .init .init [(.engPwrstat, F.engPwrstat.state, k)]).powerState == k) = true) ∧
    (let s := sets (power { Power.init with waking := true } .init []) [(.engStat 8, F.engStat.state, 1)]
     s.power.waking = true ∧ s.powerState = 0 ∧ s.runAsked = false ∧ s.arraysAwake = true ∧ (s.engLife 8).st = 1 ∧
     (s.engLife 8).pend = 0 ∧ (s.engLife 0).st = 0) := by
  refine ⟨by unfold State.Writer State.Live; decide +kernel, ?_⟩
  decide +kernel

theorem witness_ResetsAndDebugStopThreads :
    live.Writer host ∧
    (let d := F.engRst.target.put (F.engRst.kind.put 0 1) (32 * 8 + 31)
     F.engRst.kind.get d = 1 ∧ F.engRst.target.get d = 32 * 8 + 31) ∧
    (let d := F.engRst.target.put (F.engRst.kind.put 0 2) 8
     F.engRst.kind.get d = 2 ∧ F.engRst.target.get d = 8) ∧
    ({ ready with st := .waiting } : Thread).issues = false ∧ ready.issues = true ∧ ({ ready with cmdQueue := [1] } : Thread).cmdQueue ≠ [] ∧
    (locked (on ready) { Lock.init with holder := some ((on ready).roleIndex 0 31) }).roleOf 0 ≤ 8 ∧
    live.cont.takeover = none ∧
    (let s := { live with cont := { Continuity.init with takeover := some ⟨7, 0, some 8⟩ } }
     s.cont.takeover = some ⟨7, 0, some 8⟩) ∧
    (let s := sets (on ready) [(.engBp 0 7, F.engBp.en, 1), (.engBp 0 7, F.engBp.thread, 0), (.engBp 0 7, F.engBp.addr, 0)]
     let x := s.thread 0 0
     s.fld (.engStat 0) F.engStat.state = 2 ∧ s.asleep = false ∧ x.issues = true ∧ x.halted = false ∧ x.drain = none ∧
     s.couldIssue 0 0 = true ∧ s.breaks 0 0 = true ∧ s.breakAt 0 0 x.pc 7 = true) ∧
    isHost host = true ∧ opened.debugOpen = true ∧
    ([1, 2, 3, 4, 5].all fun c => let d := F.engDbgctl.thread.put (F.engDbgctl.cmd.put 0 c) 31
      F.engDbgctl.cmd.get d == c && F.engDbgctl.thread.get d == 31) = true := by
  refine ⟨by unfold State.Writer State.Live; decide +kernel, ?_⟩
  decide +kernel

/-- The first master may ask for locks 224 to 255. -/
def righted (x : Lock) : State := { (live.wr (.lckGrights 7) 0xFFFFFFFF).wr (.lckGrights 15) 0xFFFFFFFF with locks := [(255, x)] }

theorem witness_HostsLockAndAreHeard :
    live.Writer host ∧ live.lockRights (.host 255 false false) 255 = false ∧
    (∀ x ∈ [Lock.init, { Lock.init with abandoned := true }, { Lock.init with holder := some 289, told := false },
        { Lock.init with holder := some 0, queue := [543] }],
      (righted x).lockRights (.host 1 true true) 255 = true ∧ (righted x).lock 255 = x) ∧
    (let d := F.lckFrel.abandon.put (F.lckFrel.lock.put (F.lckFrel.holder.put 0 543) 255) 1
     F.lckFrel.lock.get d = 255 ∧ F.lckFrel.holder.get d = 543 ∧ F.lckFrel.abandon.get d = 1 ∧
     ((righted { Lock.init with holder := some 543 }).lock 255).holder = some 543 ∧ (live.lock 255).holder ≠ some 543) ∧
    (on ready).engineOf (F.topTdoor.role.get 0) = some 0 ∧ live.engineOf (F.topTdoor.role.get 0) ≠ some 0 := by
  refine ⟨by unfold State.Writer State.Live; decide +kernel, ?_⟩
  decide +kernel

theorem witness_TheMailboxAnswersItsSelectors :
    live.Live ∧ live.shoreRuns = true ∧ ({ live with shoreRuns := false } : State).shoreRuns = false ∧ (15 < 16 ∧ 31 < 32 ∧ 63 < 64) ∧
    live.mailboxWords 0x103 = none ∧ live.mailboxWords 0xFFFF = none ∧
    ({ live with mbx := some [1, 2, 3, 4] } : State).mbx = some [1, 2, 3, 4] ∧ (1 : BitVec 4) ≠ 0 ∧
    (sets live [(.topCopyseq, F.topCopyseq.sclksrc, 1)]).bit .topCopyseq F.topCopyseq.sclksrc = true := by
  refine ⟨by unfold State.Live; decide +kernel, ?_⟩
  decide +kernel

/-- The outlet ON with a ring of 4 records in slot 0, ON and owned as given, the writer at its last place. -/
def ring (o : Outlet) (rdptr owner : Nat) : State :=
  { (sets live [(.outCtrl, F.outCtrl.en, 1), (.outCtrl, F.outCtrl.xen, 0), (.outRbase, F.outRbase.base, 0x10000), (.outRlen, F.outRlen.len, 4),
      (.outWrptr, F.outWrptr.ptr, 3), (.outRdptr, F.outRdptr.ptr, rdptr), (.outRes, F.outRes.almres, 0), (.outRes, F.outRes.trcres, 1),
      (.memBstat 0, F.memBstat.state, 2), (.memBctl 0, F.memBctl.owner, owner)]) with outlet := o }

theorem witness_TheOutletWritesItsRing :
    live.Writer host ∧
    (F.outRaise.code.get (F.outRaise.code.put 0 0x30) = 0x30 ∧ F.outRaise.code.get (F.outRaise.code.put 0 0x3F) = 0x3F ∧
      (sets live [(.outStorm, F.outStorm.thresh, 0)]).fld .outStorm F.outStorm.thresh = 0) ∧
    ((0x30 : BitVec 32).toNat % 16 = 0 ∧ (0x30 : BitVec 32).toNat / 16 < (ring .init 2 0xB).fld .outRlen F.outRlen.len ∧
      ((0x30 : BitVec 32).toNat / 16 + 4 - (ring .init 2 0xB).fld .outRdptr F.outRdptr.ptr) % 4 ≤ 1) ∧
    (∀ o ∈ [{ Outlet.init with alarms := [⟨0x30, 1, 5, 0⟩] }, { Outlet.init with gap := 3 }, { Outlet.init with logs := [⟨1, 2⟩] },
        { Outlet.init with traces := [⟨1, 2⟩] }],
      let s := ring o 3 0xB
      let place := 16 * (s.fld .outRbase F.outRbase.base + s.fld .outWrptr F.outWrptr.ptr)
      s.bit .outCtrl F.outCtrl.en = true ∧ s.bit .outStat F.outStat.ringerr = false ∧ s.paused = false ∧
      s.bit .outCtrl F.outCtrl.xen = false ∧ s.fld .outRes F.outRes.almres ≤ s.fld .outRes F.outRes.trcres ∧
      s.fld .outRes F.outRes.trcres < 3 ∧ s.poolAnswer place .outlet true = .go ∧
      s.served (s.poolPhys place) ≠ s.served (s.poolPhys (place + 8)) ∧ s.outlet = o ∧
      (ring o 3 0).poolAnswer place .outlet true = .refuse) ∧
    (live.tick % (800 * max 1 ((sets live [(.outStorm, F.outStorm.window, 8)]).fld .outStorm F.outStorm.window)) = 0 ∧
      (sets live [(.outStat, F.outStat.storm, 1)]).bit .outStat F.outStat.storm = true ∧
      live.outlet.window ≤ live.fld .outStorm F.outStorm.low ∧ live.outlet.windowAt ≠ live.ticks + 1 ∧ live.shoreRuns = true) := by
  refine ⟨by unfold State.Writer State.Live; decide +kernel, ?_⟩
  decide +kernel

theorem witness_AccessesReachTheirRegistersAndMemory :
    live.Writer host ∧
    (∀ r ∈ [Reg.lckGrights 7, .memBgtint, .topHroute 7, .engRoll, .outTsel 7], r.key % 2 ^ 24 / 4 * 4 = r.key ∧
      ∃ f ∈ r.fields, f.mask &&& byteMask whole ≠ 0) ∧
    (∀ r ∈ [Reg.topHviol, .lckStats, .outCnt, .memUecnt], r.key % 2 ^ 24 / 4 * 4 = r.key) ∧
    (∀ r ∈ copyRegs, r.key % 2 ^ 24 / 4 * 4 = r.key) ∧
    (live.rights (.host 2 false false)).supervisor = false ∧ live.accepting = true ∧ isHost (.host 2 false false) = true ∧
    (let s := on { ready with priv := 0 }
     (s.rights (.thread 0 0)).supervisor = false ∧ isHost (.thread 0 0) = false) ∧ regAt 0x7FFFFC = none ∧
    (region 0x700000 = .control ∧ (live.rights host).isSecure = true ∧ live.tarnShut = false ∧ live.asleep = false ∧
      live.power.waking = false ∧ live.power.stage < 3) ∧
    ([false, true].all fun write => live.reach host 0x600000 write == .go (tarnWord 0) && live.reach host 0x603FF8 write == .go (tarnWord 2047)) = true ∧
    (let k := tarnWord 2047
     (live.decodeWord (live.served k)).1 = .clean ∧ live.served k = k ∧ 0x110000 ≤ k ∧ region 0x603FF8 ≠ .control ∧
     region 0x603FF8 ≠ .sched ∧ whole ≠ 0) ∧
    ([false, true].all fun write => match live.reach host 0x604000 write with
      | .bad _ => true
      | _ => false) = true ∧
    (let s := sets live [(.memBstat 0, F.memBstat.state, 1), (.memBctl 0, F.memBctl.owner, 9)]
     s.reach host 0x100000 false = .wait ∧ s.reach host 0x100000 true = .wait ∧ s.power.stage = 0) ∧
    (let s := (on ready).setEngine 0 { Engine.init with lramLast := some ⟨false, 0, 6400, 0xF⟩ }
     s.reach host 0x10000 true = .go (lramWord 0 0) ∧ (s.engine 0).lramNear true 0 s.ticks = true ∧ s.mirrorAddr 0 0 = none ∧
     s.served (lramWord 0 0) = lramWord 0 0) := by
  refine ⟨by unfold State.Writer State.Live; decide +kernel, ?_⟩
  decide +kernel

theorem witness_ShortGroupsDecode : (0x1FFF < 2 ^ 14 ∧ 0x1FFF / 4096 = 1) ∧ (0x1000 / 4096 = 1) ∧ (0x37FF < 2 ^ 14 ∧ 0x37FF / 1024 = 13) := by decide

theorem witness_BranchGroupsDecode :
    (0x33FF / 1024 = 12 ∧ 0x3BFF / 1024 = 14 ∧ 0x3DFF / 512 = 30 ∧ 0x3EFF / 256 = 62 ∧ 0x3EFF < 2 ^ 14) ∧
    clearB (on ready) 0 0 (.branch .ne 15 15 8191) = true ∧ clearB (on ready) 0 0 (.branch .lt 0 0 (-8192)) = true := by decide +kernel

theorem step_idles {s : State} (h : s.pending = []) : step s = .next s.idle := by
  simp only [step, h]

theorem witness_WhatWaitsForTheTickActsAtItsStart :
    (let l : List Soon := [.capture 0x100, .inject 0, .write ⟨host, 0x741000, 1, whole⟩ false, .inject 135]
     ({ live with soon := l } : State).soon = l ∧ (0x741000 : Nat) / 4 * 4 = 0x741000 ∧ (Soon.inject 135).isGo = false ∧
     (Soon.inject 135).isCapture = false) ∧
    ({ live with soon := [.release 63] } : State).soon = [.release 63] ∧
    (State.reset.pending = [] ∧ State.reset.test = none ∧ State.reset.inReset = true) ∧
    (({ scan with pending := [] } : State).pending = [] ∧ ({ scan with pending := [] } : State).test ≠ none) := by decide +kernel

theorem witness_TheSelfTestAndTheFlashAreTried :
    (79 ∈ testBits false ∧ 79 ∈ testBits true ∧ (14 : Nat) < 16) ∧ (State.reset.test = none ∧ State.reset.inReset = true) ∧
    (let s := booting 1
     s.boot.env = some env ∧ env.tref = true ∧ s.fld .laneShstat F.laneShstat.lock = 0 ∧
     s.fld .laneShstat F.laneShstat.holdover = 0 ∧ s.bootStep = 1 ∧ s.asleep = false ∧ s.ports.retReq = 0 ∧ s.ports.retAck = 0 ∧
     lcsCode s.security.lcs ≠ 4) ∧
    env.device 0 = some dev ∧ dev.offers 3 = true ∧ dev.readsBack 3 = true := by decide +kernel

theorem witness_EveryStepKeepsMemoryCanonical : (on ready).MemOk ∧ step (on ready) = .next (on ready).idle :=
  ⟨by unfold State.MemOk; decide +kernel, step_idles (by decide +kernel)⟩

/-! ### The worked examples of the spec -/

/-- The state that a command leaves. -/
def after (i : Instr) (s : State) : State :=
  match exec i s with
  | .next t => t
  | _ => s

/-- The thread of engine 0 that a command leaves. -/
def ran (i : Instr) (x : Thread) : Thread := (after i (on x)).thread 0 0

/-- A thread with these registers. -/
def regs (w : SMap Word) : Thread := { ready with regs := { Regs.zero with w := w } }

/-- spec/04, the example of the encoding: the words of the PI step. -/
theorem test_decode_pi_step :
    decode14 0x2013 0 = .load .word 3 1 0 ∧ decode14 0x1414 0 = .addi 4 1 ∧ decode14 0x3F23 0x0135 = .mac false 1 3 5 ∧
    decode14 0x3F25 0x010F = .scl 1 15 ∧ decode14 0x3F18 0x0006 = .lrd (.half 0 6) ∧ decode14 0x3D69 0x0006 = .branchI .geu 6 9 6 ∧
    decode14 0x392D 0x3FF6 = .branchI .ne 2 (-3) (-10) ∧ decode14 0x35E4 0 = .bz false 4 (-2) := by decide

/-- spec/04: CUST2 w3, w4, w5 and the word of zeros, which parks (R100). -/
theorem test_decode_cust_and_park : decode14 0x3F32 0x0345 = .cust 2 3 4 5 ∧ decode14 0 0 = .park := by decide

/-- spec/03, the example of the arithmetic: ABS and ABSS of the most negative number. -/
theorem test_abs_wraps : ((ran (.abs 0 0 5 3) (regs [(3, 0x8000)])).regs.get 5, (ran (.abs 0 0 5 3) (regs [(3, 0x8000)])).regs.astat) =
    (0x8000, 0) := by decide +kernel

theorem test_abss_saturates : ((ran (.abss 0 0 5 3) (regs [(3, 0x8000)])).regs.get 5,
    (ran (.abss 0 0 5 3) (regs [(3, 0x8000)])).regs.astat) = (0x7FFF, 0x0100) := by decide +kernel

/-- spec/03, the same example: a count of 33 is 1 for SAR and ROR, a count of 16 empties the word in SHL. -/
theorem test_sar_counts_modulo_32 : (ran (.sar 0 0 3 4) (regs [(3, 0x8000), (4, 33)])).regs.get 3 = 0xC000 := by decide +kernel

theorem test_ror_counts_modulo_16 : (ran (.ror 0 0 3 4) (regs [(3, 0x8000), (4, 33)])).regs.get 3 = 0x4000 := by decide +kernel

theorem test_shl_by_16_is_zero : (ran (.shl 0 0 6 7) (regs [(6, 1), (7, 16)])).regs.get 6 = 0 := by decide +kernel

/-- spec/03, the PI example: the product of MAC enters acc1 behind it; SCL of acc1 clamps and sets SAT. -/
theorem test_mac_accumulates :
    let x := regs [(3, 8192), (5, 24576)]
    ((ran (.mac 0 0 1 3 5) { x with regs := { x.regs with acc1 := 0x70000000 } }).mul.map fun y => (y.reg, y.val)) =
      [(.acc1, 0x7C000000)] := by decide +kernel

theorem test_scl_clamps :
    let x := regs []
    ((ran (.scl 0 0 1 15) { x with regs := { x.regs with acc1 := 0x7C000000 } }).mul.map fun y => (y.reg, y.val, y.sticky)) =
      [(.mr, 32767, 0x0100)] := by decide +kernel

/-- spec/03, the division example: −100 000 ÷ 7, ÷ 0, and a quotient beyond the word. -/
theorem test_div_quotient_and_remainder :
    ((ran (.div 0 0 2 6) (regs [(4, 0x7960), (5, 0xFFFE), (6, 7)])).iter.map fun y => (y.val.setWidth 32, y.sticky)) =
      some ((0xFFFBC833 : BitVec 32), 0) := by decide +kernel

theorem test_div_by_zero :
    ((ran (.div 0 0 2 6) (regs [(4, 0x7960), (5, 0xFFFE), (6, 0)])).iter.map fun y => (y.val.setWidth 32, y.sticky)) =
      some ((0x79608000 : BitVec 32), 0x0400) := by decide +kernel

theorem test_div_overflows :
    ((ran (.div 0 0 2 6) (regs [(4, 0x86A0), (5, 1), (6, 3)])).iter.map fun y => (y.val.setWidth 32, y.sticky)) =
      some ((0x00007FFF : BitVec 32), 0x0200) := by decide +kernel

/-- spec/02, the store-buffer example: the youngest entry of the own thread covers each byte of LDD d2. -/
theorem test_loads_see_own_stores :
    let x := regs [(8, 0x0100)]
    let s := ((seg (on x)).setBytes (lramWord 0 (0x0100 / 8)) 0xFF 0x44332211).setEngine 0
      { Engine.init with sb := [⟨0, 0x0100 / 4, 0xC, 0x12340000, false⟩, ⟨0, 0x0100 / 4, 0x8, 0x56000000, false⟩] }
    ((after (.ldd 0 0 2 0 0) s).thread 0 0).loads.map (·.dests) = [[(4, 0x2211), (5, 0x5634)]] := by decide +kernel

/-- A USER thread whose segment 2 has LIMIT 0x0100 without WRITE, in local RAM. -/
def user (w : SMap Word) : State :=
  sets (on { regs w with priv := 0 }) [(.engTsegb 0 0 2, F.engTsegb.read, 1), (.engTsegl 0 0 2, F.engTsegl.limit, 0x0100)]

/-- spec/05, the example of the segments: a half beyond LIMIT, or a store without WRITE, is counted in VIOL. -/
theorem test_second_half_beyond_limit :
    let y := (after (.ldd 0 0 2 2 4) (user [(4, 7), (10, 0x00FA)])).thread 0 0
    (y.viol, y.loads.map (·.dests)) = (1, [[(4, 0), (5, 0)]]) := by decide +kernel

theorem test_store_without_write :
    let t := after (.st 0 0 4 2 0) (user [(4, 7), (10, 0x0010)])
    ((t.thread 0 0).viol, (t.engine 0).sb) = (1, []) := by decide +kernel

/-- spec/05, the repetition example: an urgent event saves the pc and the count, and clears REPCNT. -/
theorem test_urgent_diversion_saves_the_sequence :
    let y := ran (.urgentDiversion 0 0) { ready with pc := 0x0211, evt := 4, urgmask := 4, uvec := 0x0300, rep := some ⟨true, 0x0211, 6, true⟩ }
    (y.pc, y.uret, y.st, y.rep, y.savedRep.map (·.count)) = (0x0300, 0x0211, .diverted, none, some 6) := by decide +kernel

/-- spec/01, the life-cycle example: an enable during STOPPING is latched in PEND. -/
theorem test_enable_during_stopping :
    (after (.laneEnWrite host 255 (ctrl 1 modeEdge 248) whole) { lane .init modeEdge 3 with shoreRuns := false }).laneLife 255 = ⟨3, 1, 1⟩ := by decide +kernel

/-- spec/06, the example of the load: the edge at step 7, and the load at the fourth tick. -/
theorem test_load_edge_is_captured :
    let t := after (.ppsEdge 7 true) { sets live [(.laneNextlo, F.laneNextlo.nextLo, 0x40000000 / 32)] with time := 0x01234560 }
    (t.rd .lanePpscap, t.shore.load) = (0x01234567, some ⟨0x40000000, 7, 6400⟩) := by decide +kernel

theorem test_load_applies :
    let t := after .syncLoadApply { live with time := 0x012345E0, shore := { Shore.init with load := some ⟨0x40000000, 7, 6396⟩ } }
    (t.time, t.rd .lanePpscap, t.fld .laneSync F.laneSync.res) = (0x40000080, 0x40000007, 7) := by decide +kernel

/-- spec/06, the example of the entry: its 64 bits. -/
theorem test_entry_word :
    (sets live [(.laneXbar 12, F.laneXbar.core, 12)]).entryWord 12 ⟨0, 16777283, 16777283, 0, 0x5A, 0, 0, 0⟩ = 0x00010000430605A0 := by decide +kernel

/-- spec/07, the example of the limits: SLEW moves ON to 28 000 and START by half of the change, with LASTCAUSE 1. -/
theorem test_slew_limits_a_duty :
    let s := { weir [(.weirCgper 31, F.weirCgper.per, 20000), (.weirCfg 255, F.weirCfg.kind, kindDuty), (.weirCfg 255, F.weirCfg.res, 4),
        (.weirLimd 255, F.weirLimd.dmax, 38000), (.weirLimd 255, F.weirLimd.dmin, 0), (.weirLims 255, F.weirLims.slew, 4000),
        (.weirLast 255, F.weirLast.last, 24000 * 65536 + 8000), (.weirStage 255, F.weirStage.value, 30000 * 65536 + 5000),
        (.weirStat 255, F.weirStat.valid, 1)] with
      groups := [(31, { armed := 6000, deadlines := [20000], strobe := none })], ticks := 40000, time := 32 * 40000, weirs := [(255, { acc := 39999, periods := [] })] }
    let t := after (.weirDeadline 31) s
    (t.rd (.weirLast 255), t.fld (.weirStat 255) F.weirStat.lastcause) = (28000 * 65536 + 6000, 1) := by decide +kernel

/-- spec/08, the example of the speed: 256 000 steps a count up, 102 400 down. -/
theorem test_speed_of_an_edge : (speedOf [512000, 256000] 1 false).toInt = 100000 ∧ (speedOf [512000, 409600] 1 true).toInt = -250000 := by
  decide

/-- spec/09, the example of the inlet: the second sample enters over an unread one. -/
theorem test_sample_overruns :
    let s := sets (inlet 2 [⟨0x0A22, 0, 204736, 6400⟩] none) [(.inlData 2, F.inlData.ready, 1), (.inlData 2, F.inlData.data, 0x0A10)]
    let t := after (.sampleEntry 2) s
    (t.fld (.inlData 2) F.inlData.data, t.fld (.inlData 2) F.inlData.ready, t.fld (.inlData 2) F.inlData.ovr,
      t.fld (.inlCnt 2) F.inlCnt.ovrcnt) = (0x0A22, 1, 1, 1) := by decide +kernel

/-- spec/12, the example of the code: its check bits, and the three kinds of damage as their syndromes. -/
theorem test_check_bits : (rowParity 0x1122334455667788, colParity 0x1122334455667788) = (0x00, 0x88) := by decide +kernel

theorem test_code_corrects :
    eccDecode 0x1122334455467788 0x04 0x20 0xFF = (.corrected, 0x1122334455667788) ∧
    (eccDecode 0x1122134455467788 0x24 0x00 0xFF).1 = .uncorrectable ∧
    eccDecode 0x1122334455467788 0x00 0x20 0xFF = (.corrected, 0x1122334455467788) := by decide +kernel

/-- spec/13, the example of the locks, step 4: of two waiters of one priority the first at or after the pointer wins. -/
theorem test_unlock_passes_the_lock :
    let s := { sets (on ready) [(.engStat 3, F.engStat.role, 3), (.engStat 5, F.engStat.role, 5), (.engStat 3, F.engStat.state, 2)] with
      locks := [(40, { Lock.init with holder := some 0, queue := [105, 162] })] }
    let x := (after (.unlock 0 0 1 2) (s.setThread 0 0 { ready with regs := { Regs.zero with w := [(2, 40)] } })).lock 40
    (x.holder, x.queue, x.ptr) = (some 105, [162], 106) := by decide +kernel

/-- spec/17, the example of the mailbox: TIME is captured at the next tick boundary. -/
theorem test_mailbox_captures_time :
    ({ after (.mbxTime host) live with time := 0x0000000180000020 } : State).actAll.mbx = some [0x80000020, 1, 0, 0] := by decide +kernel

/-- spec/11, the example of the ring: lane 67's part of an 8 KiB ring of eight lanes starts at 0x300C00. -/
theorem test_ring_address :
    (sets live [(.cdCfg 4, F.cdCfg.nlm1, 7), (.cdPbase 4, F.cdPbase.base, 0x300000 / 8), (.cdPlen 4, F.cdPlen.len, 0x2000 / 8)]).cdRingAddr 4 3 =
      0x300C00 := by decide +kernel

/-- spec/19, R501 and its example: the 41st occurrence of a window passes THRESH 40 and begins a storm. -/
theorem test_storm_begins :
    let s := { sets live [(.outCtrl, F.outCtrl.en, 1), (.outStorm, F.outStorm.thresh, 40)] with outlet := { Outlet.init with window := 40 } }
    let t := after (.outRaise host 0x30 whole) s
    (t.fld .outStat F.outStat.storm, t.outlet.alarms.map (·.code)) = (1, [0x30, 1]) := by decide +kernel

/-! ### Ill-formed commands are refused

Each list holds a term for every check of `Instr.wf`: one operand just outside its range, the others inside. -/

/-- Records, slots and surroundings within their ranges; a sender that exists and one that does not. -/
def chk0 : RecChk := ⟨64, true, false, true⟩
def rec0 : ThreadRec := ⟨0, 0, 0, 0, 0, 0, 0, []⟩
def slot0 : SlotImg := ⟨true, true, 1, true, true, 0, false, true, 0, 0, 0, true, true, true, true⟩
def env0 : BootEnv := env
def hs : Who := .host 0 false false
def ns : Who := .thread 9 0

/-- Every term is ill-formed. -/
abbrev Refuses (l : List Instr) : Prop := l.all (fun i => !i.wf) = true

theorem test_wf_refuses_1 : Refuses
    [.registerWrite hs 16777216 0 15, .rcRead hs 16777216 15, .shoreRecord chk0 256 0, .shoreRecord chk0 0 65536,
     .pstoreRecord chk0 256 0 [], .pstoreRecord chk0 0 65536 [], .decodeRecord chk0 256 [], .roleRecord chk0 256 0 0 [],
     .roleRecord chk0 0 256 0 [], .threadRecord chk0 256 0 rec0, .threadRecord chk0 0 256 rec0, .poolRecord chk0 4294967296 [],
     .lramRecord chk0 256 0 [], .lramRecord chk0 0 4294967296 [], .tarnRecord chk0 4294967296 [], .lcsChange 16,
     .delayLineCalibration 264 0 0, .delayLineCalibration 0 4 0, .delayLineCalibration 0 0 65536, .calibrationExchange 264 0,
     .calibrationExchange 0 4, .ppsEdge 32 false, .laneSpareSwap hs 256 0 15, .laneEnWrite hs 264 0 15, .laneStartDone 256,
     .laneStopDone 256, .setEntry 256, .clearEntry 256, .toggleEntry 256, .levelEntry 256, .oeEntry 256, .markEntry 256,
     .loopbackCompare 256 false, .streamStart 256, .streamTxWordBoundary 256, .streamRxWord 256 ⟨false, []⟩, .streamFifoWrite hs 264 0 15,
     .streamFifoRead hs 264 15, .captureEdge 256 false 0, .captureEdge 0 false 32, .captureRead hs 264 15] := by
  decide +kernel

theorem test_wf_refuses_2 : Refuses
    [.decimateBit 256 false ⟨false, 0⟩, .decimateBit 0 false ⟨false, 32⟩, .decimateClockLoss 256, .mirrorEdge 256 ⟨false, 0⟩, .mirrorEdge 0 ⟨false, 32⟩, .stageWrite hs 256 0 15 false, .weirDeadline 32,
     .strobeMissingDeadline 32, .stageStaleDiscard 32, .minpwExpiry 256, .maxonExpiry 256, .deadTimeExpiry 256, .countEvent 64,
     .cntEnWrite hs 64 0 15, .counterOn 64, .counterOff 64, .fabFnGo 16, .fabFnStart 16, .fabFnCount 16, .fabFnReset 16, .fabFnSnap 16,
     .quadCount 16 false false 0, .indexEdge 16 false, .posCompareArm hs 16 0 15, .speedTimeout 16, .inletStrobe 32 0 0 0,
     .inletStrobe 0 0 64 0, .inletStrobe 0 0 0 32, .sampleEntry 64, .inletDataRead hs 64 15, .inlEnWrite hs 64 0 15,
     .inletStartDone 64, .inletStopDone 64, .channelEvent 136 0 ⟨false, 0⟩, .channelEvent 0 4 ⟨false, 0⟩, .channelEvent 0 0 ⟨false, 32⟩, .wakeDelivery 136, .evoutPulseEnd 16,
     .refractoryEnd 136, .loopWindowEnd 136, .tripRelease hs 2 0 15, .fabChWrite hs 136 0 15, .spareStandIn hs 8 0 15] := by
  decide +kernel

theorem test_wf_refuses_3 : Refuses
    [.standInComplete 8, .ownerHandover hs 32 0 15, .handoverDrainComplete 32, .bankEnWrite hs 32 0 15, .autoWake 32, .retAckRise 35,
     .retAckFall 35, .cdEnWrite hs 32 0 15, .conduitStartDone 32, .conduitStopDone 32, .conduitStreamTxWord 32 0,
     .conduitStreamTxWord 0 16, .conduitStreamRxWord 32 0, .conduitStreamRxWord 0 16, .kick hs 32 0 15, .conduitTransferDone 32,
     .correctedWriteback 2097152, .poisonRewrite 2097152, .bucketLeak 54, .pageRemap hs 256 0 15, .pageRemove hs 256 0 15,
     .hostLockRequest hs 256, .hostLockRelease hs 256, .rotationBoundary 9, .swap hs 9 0 15, .icinv hs 9 0 15, .icacheInvalidateDone 9,
     .farFetchLineDelivered 9 0, .farFetchLineDelivered 0 32, .loadComplete 9 0, .loadComplete 0 32, .longOpComplete 9 0 0,
     .longOpComplete 0 32 0, .longOpComplete 0 0 2, .storeDrain 9, .poisonedStoreFault 9 0, .poisonedStoreFault 0 32,
     .engEnWrite hs 9 0 15, .engineStopDone 9, .engineStartDone 9] := by
  decide +kernel

theorem test_wf_refuses_4 : Refuses
    [.urgentDiversion 9 0, .urgentDiversion 0 32, .threadCmdPark hs 9 0 0 15, .threadCmdPark hs 0 32 0 15,
     .threadCmdResume hs 9 0 0 15, .threadCmdResume hs 0 32 0 15, .threadCmdQuiesce hs 9 0 0 15, .threadCmdQuiesce hs 0 32 0 15,
     .threadCmdRelease hs 9 0 0 15, .threadCmdRelease hs 0 32 0 15, .threadCmdClrviol hs 9 0 0 15, .threadCmdClrviol hs 0 32 0 15,
     .threadCmdDeclare hs 9 0 0 15, .threadCmdDeclare hs 0 32 0 15, .poke hs 9 0 0 15, .poke hs 0 32 0 15,
     .decodeTableWrite hs 9 0 0 15, .decodeTableWrite hs 0 4096 0 15, .mov 9 0 0 0, .mov 0 32 0 0, .mov 0 0 16 0, .mov 0 0 0 16,
     .add 9 0 0 0, .add 0 32 0 0, .add 0 0 16 0, .add 0 0 0 16, .sub 9 0 0 0, .sub 0 32 0 0, .sub 0 0 16 0, .sub 0 0 0 16,
     .adds 9 0 0 0, .adds 0 32 0 0, .adds 0 0 16 0, .adds 0 0 0 16, .subs 9 0 0 0, .subs 0 32 0 0, .subs 0 0 16 0, .subs 0 0 0 16,
     .andr 9 0 0 0, .andr 0 32 0 0] := by
  decide +kernel

theorem test_wf_refuses_5 : Refuses
    [.andr 0 0 16 0, .andr 0 0 0 16, .orr 9 0 0 0, .orr 0 32 0 0, .orr 0 0 16 0, .orr 0 0 0 16, .xorr 9 0 0 0, .xorr 0 32 0 0,
     .xorr 0 0 16 0, .xorr 0 0 0 16, .shl 9 0 0 0, .shl 0 32 0 0, .shl 0 0 16 0, .shl 0 0 0 16, .shr 9 0 0 0, .shr 0 32 0 0,
     .shr 0 0 16 0, .shr 0 0 0 16, .sar 9 0 0 0, .sar 0 32 0 0, .sar 0 0 16 0, .sar 0 0 0 16, .ror 9 0 0 0, .ror 0 32 0 0,
     .ror 0 0 16 0, .ror 0 0 0 16, .neg 9 0 0 0, .neg 0 32 0 0, .neg 0 0 16 0, .neg 0 0 0 16, .negs 9 0 0 0, .negs 0 32 0 0,
     .negs 0 0 16 0, .negs 0 0 0 16, .abs 9 0 0 0, .abs 0 32 0 0, .abs 0 0 16 0, .abs 0 0 0 16, .abss 9 0 0 0, .abss 0 32 0 0] := by
  decide +kernel

theorem test_wf_refuses_6 : Refuses
    [.abss 0 0 16 0, .abss 0 0 0 16, .movi 9 0 0 0, .movi 0 32 0 0, .movi 0 0 16 0, .movi 0 0 0 32, .addi 9 0 0 0, .addi 0 32 0 0,
     .addi 0 0 16 0, .addi 0 0 0 32, .shli 9 0 0 0, .shli 0 32 0 0, .shli 0 0 16 0, .shli 0 0 0 16, .shri 9 0 0 0, .shri 0 32 0 0,
     .shri 0 0 16 0, .shri 0 0 0 16, .sari 9 0 0 0, .sari 0 32 0 0, .sari 0 0 16 0, .sari 0 0 0 16, .rori 9 0 0 0, .rori 0 32 0 0,
     .rori 0 0 16 0, .rori 0 0 0 16, .seqi 9 0 0 0, .seqi 0 32 0 0, .seqi 0 0 16 0, .seqi 0 0 0 8, .snei 9 0 0 0, .snei 0 32 0 0,
     .snei 0 0 16 0, .snei 0 0 0 8, .slti 9 0 0 0, .slti 0 32 0 0, .slti 0 0 16 0, .slti 0 0 0 8, .sltui 9 0 0 0, .sltui 0 32 0 0] := by
  decide +kernel

theorem test_wf_refuses_7 : Refuses
    [.sltui 0 0 16 0, .sltui 0 0 0 16, .ld 9 0 0 0 0, .ld 0 32 0 0 0, .ld 0 0 16 0 0, .ld 0 0 0 8 0, .ld 0 0 0 0 1, .ldb 9 0 0 0 0,
     .ldb 0 32 0 0 0, .ldb 0 0 16 0 0, .ldb 0 0 0 8 0, .ldb 0 0 0 0 8, .ldd 9 0 0 0 0, .ldd 0 32 0 0 0, .ldd 0 0 8 0 0, .ldd 0 0 0 8 0,
     .ldd 0 0 0 0 1, .st 9 0 0 0 0, .st 0 32 0 0 0, .st 0 0 16 0 0, .st 0 0 0 8 0, .st 0 0 0 0 1, .stb 9 0 0 0 0, .stb 0 32 0 0 0,
     .stb 0 0 16 0 0, .stb 0 0 0 8 0, .stb 0 0 0 0 8, .std 9 0 0 0 0, .std 0 32 0 0 0, .std 0 0 8 0 0, .std 0 0 0 8 0, .std 0 0 0 0 1,
     .beq 9 0 0 0 0, .beq 0 32 0 0 0, .beq 0 0 16 0 0, .beq 0 0 0 16 0, .beq 0 0 0 0 8192, .bne 9 0 0 0 0, .bne 0 32 0 0 0,
     .bne 0 0 16 0 0] := by
  decide +kernel

theorem test_wf_refuses_8 : Refuses
    [.bne 0 0 0 16 0, .bne 0 0 0 0 8192, .blt 9 0 0 0 0, .blt 0 32 0 0 0, .blt 0 0 16 0 0, .blt 0 0 0 16 0, .blt 0 0 0 0 8192,
     .bge 9 0 0 0 0, .bge 0 32 0 0 0, .bge 0 0 16 0 0, .bge 0 0 0 16 0, .bge 0 0 0 0 8192, .bltu 9 0 0 0 0, .bltu 0 32 0 0 0,
     .bltu 0 0 16 0 0, .bltu 0 0 0 16 0, .bltu 0 0 0 0 8192, .bgeu 9 0 0 0 0, .bgeu 0 32 0 0 0, .bgeu 0 0 16 0 0, .bgeu 0 0 0 16 0,
     .bgeu 0 0 0 0 8192, .beqi 9 0 0 0 0, .beqi 0 32 0 0 0, .beqi 0 0 16 0 0, .beqi 0 0 0 8 0, .beqi 0 0 0 0 8192, .bnei 9 0 0 0 0,
     .bnei 0 32 0 0 0, .bnei 0 0 16 0 0, .bnei 0 0 0 8 0, .bnei 0 0 0 0 8192, .blti 9 0 0 0 0, .blti 0 32 0 0 0, .blti 0 0 16 0 0,
     .blti 0 0 0 8 0, .blti 0 0 0 0 8192, .bgei 9 0 0 0 0, .bgei 0 32 0 0 0, .bgei 0 0 16 0 0] := by
  decide +kernel

theorem test_wf_refuses_9 : Refuses
    [.bgei 0 0 0 8 0, .bgei 0 0 0 0 8192, .bltui 9 0 0 0 0, .bltui 0 32 0 0 0, .bltui 0 0 16 0 0, .bltui 0 0 0 16 0,
     .bltui 0 0 0 0 8192, .bgeui 9 0 0 0 0, .bgeui 0 32 0 0 0, .bgeui 0 0 16 0 0, .bgeui 0 0 0 16 0, .bgeui 0 0 0 0 8192, .bz 9 0 0 0,
     .bz 0 32 0 0, .bz 0 0 16 0, .bz 0 0 0 16, .bnz 9 0 0 0, .bnz 0 32 0 0, .bnz 0 0 16 0, .bnz 0 0 0 16, .jmp 9 0 0, .jmp 0 32 0,
     .jmp 0 0 16, .call 9 0 0, .call 0 32 0, .call 0 0 16, .ret 9 0 0, .ret 0 32 0, .ret 0 0 16, .mul 9 0 0 0, .mul 0 32 0 0,
     .mul 0 0 16 0, .mul 0 0 0 16, .mulu 9 0 0 0, .mulu 0 32 0 0, .mulu 0 0 16 0, .mulu 0 0 0 16, .mulq 9 0 0 0, .mulq 0 32 0 0,
     .mulq 0 0 16 0] := by
  decide +kernel

theorem test_wf_refuses_10 : Refuses
    [.mulq 0 0 0 16, .mac 9 0 0 0 0, .mac 0 32 0 0 0, .mac 0 0 2 0 0, .mac 0 0 0 16 0, .mac 0 0 0 0 16, .msc 9 0 0 0 0,
     .msc 0 32 0 0 0, .msc 0 0 2 0 0, .msc 0 0 0 16 0, .msc 0 0 0 0 16, .scl 9 0 0 0, .scl 0 32 0 0, .scl 0 0 2 0, .scl 0 0 0 16,
     .aclr 9 0 0, .aclr 0 32 0, .aclr 0 0 2, .aset 9 0 0 0, .aset 0 32 0 0, .aset 0 0 2 0, .aset 0 0 0 8, .div 9 0 0 0, .div 0 32 0 0,
     .div 0 0 8 0, .div 0 0 0 16, .divu 9 0 0 0, .divu 0 32 0 0, .divu 0 0 8 0, .divu 0 0 0 16, .sqrt 9 0 0, .sqrt 0 32 0, .sqrt 0 0 8,
     .sincos 9 0 0, .sincos 0 32 0, .sincos 0 0 16, .atan2 9 0 0 0, .atan2 0 32 0 0, .atan2 0 0 16 0, .atan2 0 0 0 16] := by
  decide +kernel

theorem test_wf_refuses_11 : Refuses
    [.mag 9 0 0 0, .mag 0 32 0 0, .mag 0 0 16 0, .mag 0 0 0 16, .lrd 9 0 (.half 0 0), .lrd 0 32 (.half 0 0), .rep 9 0 (.imm 1),
     .rep 0 32 (.imm 1), .repi 9 0 (.imm 1), .repi 0 32 (.imm 1), .repeatIteration 9 0, .repeatIteration 0 32, .waitEvt 9 0 0 0,
     .waitEvt 0 32 0 0, .waitEvt 0 0 16 0, .waitEvt 0 0 0 16, .fence 9 0, .fence 0 32, .lock 9 0 0 0, .lock 0 32 0 0, .lock 0 0 16 0,
     .lock 0 0 0 16, .unlock 9 0 0 0, .unlock 0 32 0 0, .unlock 0 0 16 0, .unlock 0 0 0 16, .logRec 9 0 0 0, .logRec 0 32 0 0,
     .logRec 0 0 16 0, .logRec 0 0 0 8, .mfs 9 0 0 0, .mfs 0 32 0 0, .mfs 0 0 16 0, .mfs 0 0 0 32, .mts 9 0 0 0, .mts 0 32 0 0,
     .mts 0 0 32 0, .mts 0 0 0 16, .mtsUret 9 0 0, .mtsUret 0 32 0] := by
  decide +kernel

theorem test_wf_refuses_12 : Refuses
    [.mtsUret 0 0 16, .slotswap 9 0, .slotswap 0 32, .checkpoint 9 0, .checkpoint 0 32, .park 9 0, .park 0 32, .cust 9 0 0 0 0 0,
     .cust 0 32 0 0 0 0, .cust 0 0 16 0 0 0, .cust 0 0 0 16 0 0, .cust 0 0 0 0 16 0, .cust 0 0 0 0 0 16, .customMicroOp 9 0,
     .customMicroOp 0 32, .reservedEncoding 9 0 1, .reservedEncoding 0 32 1, .reservedEncoding 0 0 3, .domainArm hs 8 0 15,
     .domainArmed 8, .domainReset hs 8 0 15, .domainDisarmed 8, .cmdResume hs 8 0 15, .cmdSafe hs 8 0 15, .cmdHold hs 8 0 15,
     .freezeCommitStop 8, .freezeSwitch 8, .domainSubstateChange 8, .holdmaxExpiry 8, .engineStallDetect 9, .threadRollback 9 0,
     .threadRollback 0 32, .checkpointInterval 8, .checkpointUsable 9 0, .checkpointUsable 0 32, .engineBistDone 9 false,
     .mbxChain hs 16, .mbxPoscap hs 16, .mbxLoga hs 32, .mbxLogb hs 32] := by
  decide +kernel

theorem test_wf_refuses_13 : Refuses
    [.mbxFrec hs 16, .mbxQalm hs 64, .mbxReservedSelector hs 65536, .laneSafeChange 256 false, .breakpointHit 9 0 0,
     .breakpointHit 0 32 0, .breakpointHit 0 0 8, .dbgHalt hs 9 0 15, .dbgStep hs 9 0 15, .dbgRun hs 9 0 15, .dbgHaltall hs 9 0 15,
     .dbgRunall hs 9 0 15, .tapDbgacc false 16777216 0 15, .hostMemoryAccess hs false 16777216 0 15, .channelLevelFall ⟨136, 0⟩, .channelLevelFall ⟨0, 4⟩,
     .speedLimitDecay 16, .registerWrite ns 0 0 15, .rcRead ns 0 15, .shoreRecord ⟨56, true, false, true⟩ 0 0,
     .pstoreRecord ⟨56, true, false, true⟩ 0 0 [], .decodeRecord ⟨56, true, false, true⟩ 0 [],
     .roleRecord ⟨56, true, false, true⟩ 0 0 0 [], .threadRecord ⟨56, true, false, true⟩ 0 0 rec0,
     .poolRecord ⟨56, true, false, true⟩ 0 [], .lramRecord ⟨56, true, false, true⟩ 0 0 [], .tarnRecord ⟨56, true, false, true⟩ 0 [],
     .regRecord ⟨56, true, false, true⟩ [], .laneSpareSwap ns 0 0 15, .laneEnWrite ns 0 0 15, .streamFifoWrite ns 0 0 15,
     .streamFifoRead ns 0 15, .captureRead ns 0 15, .stageWrite ns 0 0 15 false, .cntEnWrite ns 0 0 15, .cntGo ns 0 15,
     .cntSnap ns 0 15, .posCompareArm ns 0 0 15, .inletDataRead ns 0 15, .inlEnWrite ns 0 0 15, .fabFire ns 0 15] := by
  decide +kernel

theorem test_wf_refuses_14 : Refuses
    [.tripRelease ns 0 0 15, .fabChWrite ns 0 0 15, .spareStandIn ns 0 0 15, .ownerHandover ns 0 0 15, .bankEnWrite ns 0 0 15,
     .cdEnWrite ns 0 0 15, .kick ns 0 0 15, .logEntryFree ns 0 15, .pageRemap ns 0 0 15, .pageRemove ns 0 0 15,
     .migrationStart ns 0 15, .clearWord ns 0 15, .hostLockRequest ns 0, .hostLockRelease ns 0, .forcedRelease ns 0 15,
     .hostMasterAbandon ns 0 15, .swap ns 0 0 15, .icinv ns 0 0 15, .engEnWrite ns 0 0 15, .threadCmdPark ns 0 0 0 15,
     .threadCmdResume ns 0 0 0 15, .threadCmdQuiesce ns 0 0 0 15, .threadCmdRelease ns 0 0 0 15, .threadCmdClrviol ns 0 0 0 15,
     .threadCmdDeclare ns 0 0 0 15, .poke ns 0 0 0 15, .decodeTableWrite ns 0 0 0 15, .domainArm ns 0 0 15, .domainReset ns 0 0 15,
     .cmdResume ns 0 0 15, .cmdSafe ns 0 0 15, .cmdHold ns 0 0 15, .fdeclEngine ns 0 15, .fdeclLane ns 0 15, .outRaise ns 0 15,
     .rdptrWrite ns 0 15, .mbxTime ns, .mbxPps ns, .mbxBoot ns, .mbxChain ns 0] := by
  decide +kernel

theorem test_wf_refuses_15 : Refuses
    [.mbxPoscap ns 0, .mbxLoga ns 0, .mbxLogb ns 0, .mbxFrec ns 0, .mbxQalm ns 0, .mbxOutcnt ns, .mbxReservedSelector ns 0,
     .mailboxData3Read ns 15, .threadDoorbell ns 0 15, .hostDoorbellSet ns 0 15, .hostDoorbellClear ns 0 15, .sleepRequest ns 0 15,
     .wake ns 0 15, .threadReset ns 0 15, .engineReset ns 0 15, .laneReset ns 0 15, .dbgHalt ns 0 0 15, .dbgStep ns 0 0 15,
     .dbgRun ns 0 0 15, .dbgHaltall ns 0 0 15, .dbgRunall ns 0 0 15, .hostMemoryAccess ns false 0 0 15,
     .shoreRecord ⟨68, true, false, true⟩ 0 0, .shoreRecord ⟨0x400000, true, false, true⟩ 0 0, .regRecord chk0 [(4294967296, 0)],
     .bgtMarchDone [63, 64], .resetRelease { env0 with lcs := 16 }, .resetRelease { env0 with trefKhz := 24999 },
     .resetRelease { env0 with trefKhz := 200001 }, .resetRelease { env0 with defects := [(55, ⟨[], []⟩)] },
     .resetRelease { env0 with defects := [(0, ⟨[(80, true)], []⟩)] }, .resetRelease { env0 with defects := [(0, ⟨[], [(16, true)]⟩)] },
     .resetRelease { env0 with flash0 := some { dev with density := 64 } },
     .resetRelease { env0 with flash1 := some { dev with dwords := 256 } },
     .resetRelease { env0 with flash1 := some { dev with quad := 8 } }, .resetRelease { env0 with members := [(256, 7)] },
     .resetRelease { env0 with members := [(255, 8)] }, .resetRelease { env0 with slotA := { slot0 with fmt := 0x10000 } },
     .resetRelease { env0 with slotA := { slot0 with length := 0x100000000 } },
     .resetRelease { env0 with slotB := { slot0 with keyslot := 256 } },
     .resetRelease { env0 with slotB := { slot0 with nrec := 0x10000 } }, .ld 0 0 0 0 16, .ldd 0 0 1 0 2] := by
  decide +kernel

theorem test_wf_refuses_16 : Refuses
    [.ldd 0 0 1 0 16, .st 0 0 0 0 16, .std 0 0 0 0 16, .lrd 0 0 (.half 16 0), .lrd 0 0 (.half 0 16), .lrd 0 0 (.pair 4 0),
     .lrd 0 0 (.pair 0 8), .rep 0 0 (.imm 0), .rep 0 0 (.imm 65), .rep 0 0 (.reg 16), .repi 0 0 (.imm 0), .repi 0 0 (.imm 65),
     .repi 0 0 (.reg 16), .reservedEncoding 0 0 0] := by
  decide +kernel

/-- With every operand inside, the check accepts. -/
theorem test_wf_accepts : Instr.wf (.hostMemoryAccess (.thread 8 31) true 0xFFFFFF 0 0) = true ∧ Instr.wf (.resetRelease env0) = true ∧
    Instr.wf (.ldd 8 31 7 7 12) = true ∧ Instr.wf (.bnei 0 0 15 (-8) (-8192)) = true ∧ Instr.wf (.rep 0 0 (.imm 64)) = true ∧
    Instr.wf (.threadRecord chk0 255 255 rec0) = true := by decide +kernel

end Sys2Proof.Tests
end

section
/-! PROOFS. A step and the queue (O1), and every command's outcome outside the test modes (O3). -/

namespace Sys2Proof.Machine

open Sys2Proof

/-- The outcome is that of one guarded effect on `s` (assumption log 7). -/
def State.Guards (s : State) (o : Host.Outcome State Fault Refusal) : Prop := ∃ g f, o = s.run g f

theorem State.guards_run (s : State) (g : Bool) (f : State → State) : s.Guards (s.run g f) := ⟨g, f, rfl⟩

/-- Outside the test modes a guarded effect answers a next state. -/
theorem State.Guards.next {s : State} {o : Host.Outcome State Fault Refusal} (h : s.Guards o) (ht : s.test = none) :
    ∃ t, o = .next t := by
  obtain ⟨g, f, rfl⟩ := h
  exact s.run_total g f ht

theorem State.guards_record (s : State) (chk : RecChk) (ok : Bool) (regs pool : List Nat) (f : State → State) :
    s.Guards (s.record chk ok regs pool f) := by
  unfold State.record
  split <;> exact s.guards_run _ _

theorem State.guards_runEntry (s : State) (p act : Nat) : s.Guards (s.runEntry p act) := by
  unfold State.runEntry
  split <;> exact s.guards_run _ _

theorem State.guards_fabFn (s : State) (j fn : Nat) : s.Guards (s.fabFn j fn) := by
  unfold State.fabFn
  split <;> exact s.guards_run _ _

theorem execMaxonExpiry_guards (p : Nat) (s : State) : s.Guards (execMaxonExpiry p s) := by
  unfold execMaxonExpiry
  exact s.guards_run _ _

/-- The commands with an outcome of their own: those of the resets, of the life-cycle and tamper ports, and of the TAP
(spec/18 R490, R492). -/
def unguarded : Instr → Bool
  | .powerOnReset | .resetRelease _ | .lcsChange _ | .tamper | .tamperDeassert | .tapReset | .tapIdcode | .tapStatus
  | .tapDbgacc .. | .tapWrapsel | .tapScanmode | .tapMbist | .tapLbist | .tapBypass => true
  | _ => false

/-- Every other command is one guarded effect: a unit that waits for something is asked for it first. -/
theorem exec_guards {c : Instr} (hc : unguarded c = false) (s : State) : s.Guards (exec c s) := by
  cases c
  case powerOnReset | resetRelease | lcsChange | tamper | tamperDeassert | tapReset | tapIdcode | tapStatus | tapDbgacc |
      tapWrapsel | tapScanmode | tapMbist | tapLbist | tapBypass => nomatch hc
  all_goals unfold exec
  case shoreRecord | pstoreRecord | decodeRecord | roleRecord | threadRecord | poolRecord | lramRecord | tarnRecord |
      regRecord => apply State.guards_record
  case setEntry | clearEntry | toggleEntry | levelEntry | oeEntry | markEntry => apply State.guards_runEntry
  case fabFnGo | fabFnStart | fabFnCount | fabFnReset => apply State.guards_fabFn
  case maxonExpiry => exact execMaxonExpiry_guards _ s
  case multiplierLock | syncLoadApply | spareSwapComplete | deadTimeExpiry | fabFnSnap | channelEvent | channelLevelFall |
      wakeDelivery | pageCopyDone | bgtRegionStart | farFetchLineDelivered | storeDrain | decodeTableWrite |
      repeatIteration | customMicroOp | domainSubstateChange | threadRollback | checkpointInterval | checkpointUsable |
      takeoverRoleTaken | takeoverComplete | takeoverFail | swapSwitchStart | swapSwitchDone | mailboxCaptureDone |
      speedLimitDecay =>
    dsimp only [execMultiplierLock, execSyncLoadApply, execSpareSwapComplete, execDeadTimeExpiry, execFabFnSnap,
      execChannelEvent, execChannelLevelFall, execWakeDelivery, execPageCopyDone, execBgtRegionStart,
      execFarFetchLineDelivered, execStoreDrain, execDecodeTableWrite, execRepeatIteration, execCustomMicroOp,
      execDomainSubstateChange, execThreadRollback, execCheckpointInterval, execCheckpointUsable, execTakeoverRoleTaken,
      execTakeoverComplete, execTakeoverFail, execSwapSwitchStart, execSwapSwitchDone, execMailboxCaptureDone,
      execSpeedLimitDecay]
    split <;> exact s.guards_run _ _
  all_goals apply State.guards_run

/-- The commands with an outcome of their own answer a next state too, the TAP's in every state. -/
theorem exec_next_of_unguarded {c : Instr} (hc : unguarded c = true) {s : State} (ht : s.test = none) :
    ∃ t, exec c s = .next t := by
  cases c
  case powerOnReset | tamperDeassert | tapReset | tapIdcode | tapStatus | tapWrapsel | tapScanmode | tapMbist | tapLbist |
      tapBypass =>
    unfold exec
    simp [execPowerOnReset, execTamperDeassert, execTapReset, execTapIdcode, execTapStatus, execTapWrapsel,
      execTapScanmode, execTapMbist, execTapLbist, execTapBypass, ht]
  case resetRelease | lcsChange | tamper | tapDbgacc =>
    unfold exec
    simp only [execResetRelease, execLcsChange, execTamper, execTapDbgacc, ht]
    split <;> exact ⟨_, rfl⟩
  all_goals nomatch hc

/-- Settles O1: by the definition of a step, in the two cases of the queue. -/
theorem stepRunsTheFrontCommand : Obligations.StepRunsTheFrontCommand := by
  unfold Obligations.StepRunsTheFrontCommand
  refine ⟨fun _ _ _ => rfl, fun s h => ?_⟩
  rw [step, h]

/-- Settles O3: every command is one guarded effect, or one of those with an outcome of their own. -/
theorem everyCommandCompletesOutsideTestModes : Obligations.EveryCommandCompletesOutsideTestModes := by
  unfold Obligations.EveryCommandCompletesOutsideTestModes
  intro c s ht
  cases hc : unguarded c with
  | false => exact (exec_guards hc s).next ht
  | true => exact exec_next_of_unguarded hc ht

end Sys2Proof.Machine
end

section
/-! PROOFS. Folds over lists of unit numbers: what every step keeps, and what the one step at a number does. -/

namespace Sys2Proof.Machine

section
variable {σ α β γ : Type}

/-- A relation that every step of a fold keeps holds from its start to its end. -/
theorem foldl_related {R : σ → σ → Prop} (refl : ∀ s, R s s) (trans : ∀ {s t u}, R s t → R t u → R s u)
    {f : σ → α → σ} {l : List α} (h : ∀ s, ∀ a ∈ l, R s (f s a)) (s : σ) : R s (l.foldl f s) := by
  induction l generalizing s with
  | nil => exact refl s
  | cons a l ih => exact trans (h s a (by simp)) (ih (fun s b hb => h s b (by simp [hb])) _)

/-- What no step of a fold changes. -/
theorem foldl_keeps {f : σ → α → σ} {l : List α} (v : σ → β) (h : ∀ s, ∀ a ∈ l, v (f s a) = v s) (s : σ) :
    v (l.foldl f s) = v s :=
  (foldl_related (R := fun s t => v t = v s) (fun _ => rfl) (fun h h' => h'.trans h) h s)

/-- Where a fold visits each number at most once, and the steps at other numbers neither change `k` nor, through `view`,
what the step at `p` makes of it, `k` is at the end as that one step leaves it, or unchanged without one. -/
theorem foldl_at {f : σ → Nat → σ} {l : List Nat} {p : Nat} (k : σ → β) (view : σ → γ) (hn : l.Nodup)
    (hk : ∀ s q, q ≠ p → k (f s q) = k s) (hv : ∀ s q, q ≠ p → view (f s q) = view s)
    (hf : ∀ s t, view s = view t → k (f s p) = k (f t p)) (s : σ) :
    k (l.foldl f s) = if p ∈ l then k (f s p) else k s := by
  induction l generalizing s with
  | nil => rfl
  | cons a l ih =>
    obtain ⟨ha, hl⟩ := List.nodup_cons.1 hn
    rw [List.foldl_cons, ih hl]
    by_cases hap : a = p
    · subst hap
      simp [ha]
    · simp only [List.mem_cons, Ne.symm hap, false_or]
      split
      · exact hf _ _ (hv s a hap)
      · exact hk s a hap

end

end Sys2Proof.Machine
end

section
/-! PROOFS. Life-cycles as registers hold them (spec/01 R19 to R21): a unit's STATE and PEND lie in one register, its EN in
another. -/

namespace Sys2Proof.Machine

/-- The fields STATE and PEND, which every status register with a life-cycle has at the same bits. -/
def stateFld : Fld := ⟨1, 0, .ro⟩
def pendFld : Fld := ⟨2, 2, .ro⟩

/-- STATE and PEND of a status register with EN of a control register. -/
def State.life (s : State) (stat ctrl : Reg) (en : Fld) : Life := ⟨s.fld stat stateFld, s.fld stat pendFld, s.fld ctrl en⟩

/-- A life-cycle written to its two registers. -/
def State.setLife (s : State) (stat ctrl : Reg) (en : Fld) (l : Life) : State :=
  ((s.setFld stat stateFld l.st).setFld stat pendFld l.pend).setFld ctrl en l.en

theorem State.domLife_eq (s : State) (d : Nat) : s.domLife d = s.life (.engDstat d) (.engDctl d) F.engDctl.en := rfl

theorem State.cntLife_eq (s : State) (n : Nat) : s.cntLife n = s.life (.cntStat n) (.cntCtrl n) F.cntCtrl.en := rfl

theorem State.inlLife_eq (s : State) (n : Nat) : s.inlLife n = s.life (.inlStat n) (.inlCtrl n) F.inlCtrl.en := rfl

/-- A life-cycle that fits its fields. -/
structure Life.Fits (l : Life) : Prop where
  st   : l.st < 4
  pend : l.pend < 2
  en   : l.en < 2

theorem Fld.get_lt (f : Fld) (x : BitVec 32) : f.get x < 2 ^ f.width := Nat.mod_lt _ (Nat.two_pow_pos _)

theorem State.fld_lt (s : State) (r : Reg) (f : Fld) : s.fld r f < 2 ^ f.width := f.get_lt _

theorem State.bit_eq_true (s : State) (r : Reg) {f : Fld} (h : f.width = 1) : s.bit r f = true ↔ s.fld r f = 1 := by
  have hl := s.fld_lt r f
  rw [h] at hl
  simp only [State.bit, bne_iff_ne]
  omega

theorem State.life_fits (s : State) (stat ctrl : Reg) {en : Fld} (h : en.width = 1) : (s.life stat ctrl en).Fits where
  st := s.fld_lt stat stateFld
  pend := s.fld_lt stat pendFld
  en := by
    have hl := s.fld_lt ctrl en
    rw [h] at hl
    exact hl

theorem Life.Fits.request {l : Life} (h : l.Fits) {n : Nat} (hn : n < 2) : (l.request n).Fits := by
  obtain ⟨h1, h2, h3⟩ := h
  unfold Life.request
  split <;> constructor <;> simp <;> omega

theorem Life.Fits.arrive {l : Life} (h : l.Fits) : l.arrive.Fits := by
  unfold Life.arrive
  split
  · exact ⟨by simp, h.pend, h.en⟩
  · exact ⟨by simp, h.pend, h.en⟩
  · exact h

theorem Life.Fits.onward {l : Life} (h : l.Fits) : l.onward.Fits := by
  unfold Life.onward
  split
  · exact ⟨by simp, by simp, h.en⟩
  · exact ⟨by simp, by simp, h.en⟩
  · exact h

/-- A request does not read EN. -/
theorem Life.request_en (l : Life) (e n : Nat) : ({ l with en := e } : Life).request n = l.request n := by
  unfold Life.request
  split <;> simp_all

theorem Life.Fits.request_zero_st {l : Life} (h : l.Fits) : (l.request 0).st = if l.st = 2 then 3 else l.st := by
  obtain ⟨hst, -, -⟩ := h
  unfold Life.request
  split <;> simp_all

theorem Life.Fits.request_one_st {l : Life} (h : l.Fits) : (l.request 1).st = if l.st = 0 then 1 else l.st := by
  obtain ⟨hst, -, -⟩ := h
  unfold Life.request
  split <;> simp_all

/-- The life-cycle written is the one read. -/
theorem State.life_setLife (s : State) {stat ctrl : Reg} {en : Fld} {l : Life} (hk : stat.key ≠ ctrl.key)
    (he : en.ok = true) (hw : en.width = 1) (hl : l.Fits) : (s.setLife stat ctrl en l).life stat ctrl en = l := by
  obtain ⟨h1, h2, h3⟩ := hl
  have hst : stateFld.ok = true := rfl
  have hpe : pendFld.ok = true := rfl
  simp only [State.life, State.setLife]
  rw [State.fld_setFld_ne _ _ _ _ hk, State.fld_setFld_ne _ _ _ _ hk, State.fld_setFld_self _ _ he,
    State.fld_setFld_self _ _ hpe, State.fld_setFld_apart _ _ hpe hst rfl, State.fld_setFld_self _ _ hst, hw]
  obtain ⟨a, b, c⟩ := l
  simp only [Life.mk.injEq]
  exact ⟨Nat.mod_eq_of_lt h1, Nat.mod_eq_of_lt h2, Nat.mod_eq_of_lt h3⟩

theorem State.rd_setLife (s : State) {stat ctrl q : Reg} (en : Fld) (l : Life) (hs : q.key ≠ stat.key)
    (hc : q.key ≠ ctrl.key) : (s.setLife stat ctrl en l).rd q = s.rd q := by
  simp only [State.setLife]
  rw [State.rd_setFld_ne _ _ _ hc, State.rd_setFld_ne _ _ _ hs, State.rd_setFld_ne _ _ _ hs]

theorem State.setLife_eq (s : State) (stat ctrl : Reg) (en : Fld) (l : Life) :
    s.setLife stat ctrl en l = { s with regs := (s.setLife stat ctrl en l).regs } := rfl

/-- The other fields of the status register. -/
theorem State.fld_setLife_stat (s : State) {stat ctrl : Reg} (en : Fld) (l : Life) (hk : stat.key ≠ ctrl.key) {f : Fld}
    (hf : f.ok = true) (hp : 2 < f.lo) : (s.setLife stat ctrl en l).fld stat f = s.fld stat f := by
  have ha : stateFld.apart f = true := by simp [Fld.apart, stateFld]; omega
  have hb : pendFld.apart f = true := by simp [Fld.apart, pendFld]; omega
  simp only [State.setLife]
  rw [State.fld_setFld_ne _ _ _ _ hk, State.fld_setFld_apart _ _ rfl hf hb, State.fld_setFld_apart _ _ rfl hf ha]

/-- The other fields of the control register. -/
theorem State.fld_setLife_ctrl (s : State) {stat ctrl : Reg} {en : Fld} (l : Life) (hk : stat.key ≠ ctrl.key) {f : Fld}
    (he : en.ok = true) (hf : f.ok = true) (ha : en.apart f = true) :
    (s.setLife stat ctrl en l).fld ctrl f = s.fld ctrl f := by
  simp only [State.setLife]
  rw [State.fld_setFld_apart _ _ he hf ha, State.fld_setFld_ne _ _ _ _ hk.symm, State.fld_setFld_ne _ _ _ _ hk.symm]

end Sys2Proof.Machine
end

section
/-! PROOFS. The pins follow (spec/07 R203): settling them changes of the lanes only what the limits and the pins hold. -/

namespace Sys2Proof.Machine

/-- `y` is lane `x` but for what its pin-level limits and its pin hold. -/
def Lane.Follows (x y : Lane) : Prop :=
  y = { x with passed := y.passed, passedAt := y.passedAt, cut := y.cut, grant := y.grant, pinOut := y.pinOut,
               pinOe := y.pinOe, edgeAt := y.edgeAt, offAt := y.offAt, compares := y.compares }

theorem Lane.Follows.refl (x : Lane) : x.Follows x := rfl

theorem Lane.Follows.trans {x y z : Lane} (h : x.Follows y) (h' : y.Follows z) : x.Follows z := by
  unfold Lane.Follows at *
  rw [h] at h'
  exact h'

/-- Nothing but lanes has changed, and these only in what follows the pins. -/
structure State.Follows (s t : State) : Prop where
  frame : t = { s with lanes := t.lanes }
  lane  : ∀ p, (s.lane p).Follows (t.lane p)

theorem State.Follows.refl (s : State) : s.Follows s := ⟨rfl, fun _ => .refl _⟩

theorem State.Follows.trans {s t u : State} (h : s.Follows t) (h' : t.Follows u) : s.Follows u where
  frame := by
    obtain ⟨ht, -⟩ := h
    obtain ⟨hu, -⟩ := h'
    rw [hu, ht]
  lane := fun p => (h.lane p).trans (h'.lane p)

theorem State.Follows.setLane {s : State} {p : Nat} {x : Lane} (h : (s.lane p).Follows x) : s.Follows (s.setLane p x) where
  frame := rfl
  lane := fun q => by
    by_cases e : q = p
    · rw [e, State.lane_setLane_self]
      exact h
    · rw [State.lane_setLane_ne _ _ e]
      exact .refl _

theorem Lane.follows_pass (x : Lane) (lvl : Bool) (minpw t : Nat) : x.Follows (x.pass lvl minpw t) := by
  unfold Lane.pass
  split <;> rfl

theorem Lane.follows_limit (x : Lane) (maxon t : Nat) : x.Follows (x.limit maxon t) := by
  unfold Lane.limit
  split <;> rfl

theorem State.follows_passLevel (s : State) (p t : Nat) : s.Follows (s.passLevel p t) :=
  .setLane ((Lane.follows_pass _ _ _ _).trans (Lane.follows_limit _ _ _))

theorem State.follows_recordPin (s : State) (p t : Nat) : s.Follows (s.recordPin p t) := .setLane rfl

theorem State.follows_releaseGrant (s : State) (p t : Nat) : s.Follows (s.releaseGrant p t) := by
  unfold State.releaseGrant
  split
  · exact .setLane rfl
  · exact .refl s

theorem State.follows_takeGrant (s : State) (p t : Nat) : s.Follows (s.takeGrant p t) := by
  unfold State.takeGrant
  split
  · exact .setLane rfl
  · exact .refl s

theorem State.follows_settleAt (s : State) (t : Nat) : s.Follows (s.settleAt t) := by
  have pass : ∀ (s : State) p, s.Follows (if s.limited p then s.passLevel p t else s) := fun s p => by
    split
    · exact s.follows_passLevel p t
    · exact .refl s
  exact ((foldl_related .refl .trans (fun s p _ => pass s p) s).trans
    (foldl_related .refl .trans (fun s p _ => (s.follows_releaseGrant p t).trans (State.follows_recordPin _ p t)) _)).trans
    (foldl_related .refl .trans (fun s p _ => (s.follows_takeGrant p t).trans (State.follows_recordPin _ p t)) _)

theorem State.follows_settle (s : State) : s.Follows s.settle := s.follows_settleAt s.here

theorem State.Follows.onlyPins {s t : State} (h : s.Follows t) : s.OnlyPins t := by
  refine ⟨?_, h.lane⟩
  have hsh : t.shore = s.shore := by rw [h.frame]
  rw [hsh]
  exact h.frame

/-- Settling the pins leaves the whole state but the lanes. -/
@[simp] theorem State.settle_frame (s : State) :
    s.settle.pending = s.pending ∧ s.settle.regs = s.regs ∧ s.settle.mem = s.mem ∧ s.settle.chk = s.chk ∧
    s.settle.threads = s.threads ∧ s.settle.engines = s.engines ∧ s.settle.outlet = s.outlet ∧
    s.settle.integ = s.integ ∧ s.settle.locks = s.locks ∧ s.settle.channels = s.channels ∧ s.settle.cores = s.cores ∧
    s.settle.shore = s.shore ∧ s.settle.weirs = s.weirs ∧ s.settle.groups = s.groups ∧ s.settle.domains = s.domains ∧
    s.settle.cont = s.cont ∧ s.settle.threadDom = s.threadDom ∧ s.settle.startPc = s.startPc ∧
    s.settle.counters = s.counters ∧ s.settle.posUnits = s.posUnits ∧ s.settle.inlets = s.inlets ∧
    s.settle.conduits = s.conduits ∧ s.settle.power = s.power ∧ s.settle.boot = s.boot ∧
    s.settle.security = s.security ∧ s.settle.tap = s.tap ∧ s.settle.mbx = s.mbx ∧ s.settle.copies = s.copies ∧
    s.settle.ports = s.ports ∧ s.settle.time = s.time ∧ s.settle.ticks = s.ticks ∧ s.settle.soon = s.soon ∧
    s.settle.shoreRuns = s.shoreRuns ∧ s.settle.inReset = s.inReset ∧ s.settle.test = s.test ∧
    s.settle.rdata = s.rdata := by
  rw [s.follows_settle.frame]
  and_intros <;> rfl

@[simp] theorem State.rd_settle (s : State) (r : Reg) : s.settle.rd r = s.rd r := State.rd_congr (by simp) r

@[simp] theorem State.fld_settle (s : State) (r : Reg) (f : Fld) : s.settle.fld r f = s.fld r f :=
  State.fld_congr (by simp) r f

/-- What settling the pins leaves of each lane, where statements read it. -/
@[simp] theorem State.lane_settle (s : State) (p : Nat) :
    (s.settle.lane p).lvl = (s.lane p).lvl ∧ (s.settle.lane p).oe = (s.lane p).oe ∧
    (s.settle.lane p).queue = (s.lane p).queue ∧ (s.settle.lane p).core = (s.lane p).core ∧
    (s.settle.lane p).held = (s.lane p).held := by
  rw [s.follows_settle.lane p]
  and_intros <;> rfl

end Sys2Proof.Machine
end

section
/-! PROOFS. Threads that are reset and abandoned (spec/05 R125, spec/13 R349): what stays, and that a thread parked stays
parked while others are reset. -/

namespace Sys2Proof.Machine

/-- A thread that is parked and not halted. -/
def Thread.Rests (x : Thread) : Prop := x.st = .parked ∧ x.halted = false

theorem Thread.rests_reset (x : Thread) : x.reset.Rests := ⟨rfl, rfl⟩

theorem Thread.Rests.setEvt {x : Thread} (h : x.Rests) (bits : Word) :
    (Thread.waitTest { x with evt := x.evt ||| bits }).Rests := by
  have hw : Thread.waitTest { x with evt := x.evt ||| bits } = { x with evt := x.evt ||| bits } := by
    simp [Thread.waitTest, h.1]
  rw [hw]
  exact h

/-- Only threads, locks and registers have changed, of the registers only ENG_PARKCNT and LCK_STATS, and a thread at rest
is at rest still. -/
structure State.Resets (s t : State) : Prop where
  frame : t = { s with regs := t.regs, threads := t.threads, locks := t.locks }
  rd    : ∀ q : Reg, (∀ e, e < 9 → q.key ≠ (Reg.engParkcnt e).key) → q.key ≠ Reg.lckStats.key → t.rd q = s.rd q
  rests : ∀ e i, i < 32 → (s.thread e i).Rests → (t.thread e i).Rests

theorem State.Resets.refl (s : State) : s.Resets s := ⟨rfl, fun _ _ _ => rfl, fun _ _ _ h => h⟩

theorem State.Resets.trans {s t u : State} (h : s.Resets t) (h' : t.Resets u) : s.Resets u where
  frame := by
    rw [h'.frame, h.frame]
  rd := fun q he hl => (h'.rd q he hl).trans (h.rd q he hl)
  rests := fun e i hi hr => h'.rests e i hi (h.rests e i hi hr)

/-- A change of one thread that keeps it at rest. -/
theorem State.resets_modThread (s : State) {e i : Nat} (hi : i < 32) {f : Thread → Thread}
    (hf : ∀ x : Thread, x.Rests → (f x).Rests) : s.Resets (s.modThread e i f) where
  frame := rfl
  rd := fun _ _ _ => rfl
  rests := fun e' i' hi' hr => by
    by_cases hk : 32 * e' + i' = 32 * e + i
    · obtain ⟨rfl, rfl⟩ : e' = e ∧ i' = i := by omega
      rw [State.thread_modThread_self]
      exact hf _ hr
    · rw [State.thread_modThread_ne _ _ hk]
      exact hr

theorem State.resets_setLock (s : State) (k : Nat) (x : Lock) : s.Resets (s.setLock k x) :=
  ⟨rfl, fun _ _ _ => rfl, fun _ _ _ h => h⟩

theorem State.resets_incSat_lckStats (s : State) (f : Fld) : s.Resets (s.incSat .lckStats f) :=
  ⟨rfl, fun _ _ hl => State.rd_wr_ne _ _ hl, fun _ _ _ h => h⟩

theorem State.resets_incSat_engParkcnt (s : State) {e : Nat} (he : e < 9) (f : Fld) :
    s.Resets (s.incSat (.engParkcnt e) f) :=
  ⟨rfl, fun _ hq _ => State.rd_wr_ne _ _ (hq e he), fun _ _ _ h => h⟩

theorem State.resets_roleEvt (s : State) (r n : Nat) {i : Nat} (hi : i < 32) : s.Resets (s.roleEvt r i n) := by
  unfold State.roleEvt
  split
  · exact .refl s
  · split
    · exact s.resets_modThread hi fun x hx => hx.setEvt _
    · exact .refl s

theorem State.resets_handOver (s : State) (k : Nat) : s.Resets (s.handOver k) := by
  unfold State.handOver
  dsimp only
  split
  · exact s.resets_setLock _ _
  · split
    · exact (s.resets_setLock _ _).trans (State.resets_roleEvt _ _ _ (Nat.mod_lt _ (by decide)))
    · exact s.resets_setLock _ _

theorem State.resets_withdraw (s : State) (i k : Nat) : s.Resets (s.withdraw i k) := by
  unfold State.withdraw
  refine foldl_related .refl .trans (fun s x _ => ?_) s
  split
  · exact .refl s
  · split
    · exact s.resets_setLock _ _
    · exact .refl s

theorem State.resets_abandon (s : State) (i : Nat) : s.Resets (s.abandon i) := by
  refine (s.resets_withdraw i 256).trans (foldl_related .refl .trans (fun s x _ => ?_) _)
  split
  · exact ((s.resets_setLock _ _).trans (State.resets_handOver _ _)).trans (State.resets_incSat_lckStats _ _)
  · exact .refl s

theorem State.resets_clearThread (s : State) {e i : Nat} (he : e < 9) (hi : i < 32) : s.Resets (s.clearThread e i) :=
  (s.resets_modThread hi fun x _ => x.rests_reset).trans (State.resets_incSat_engParkcnt _ he _)

theorem State.resets_resetThread (s : State) {e i : Nat} (he : e < 9) (hi : i < 32) : s.Resets (s.resetThread e i) := by
  unfold State.resetThread
  split
  · exact (s.resets_clearThread he hi).trans (State.resets_abandon _ _)
  · exact s.resets_clearThread he hi

/-- A reset leaves the thread at rest. -/
theorem State.rests_resetThread (s : State) {e i : Nat} (hi : i < 32) :
    ((s.resetThread e i).thread e i).Rests := by
  have hc : ((s.clearThread e i).thread e i).Rests := by
    have ht : (s.clearThread e i).thread e i = (s.thread e i).reset := State.thread_modThread_self s e i _
    rw [ht]
    exact Thread.rests_reset _
  unfold State.resetThread
  split
  · exact (State.resets_abandon _ _).rests e i hi hc
  · exact hc

theorem State.engineOf_lt {s : State} {r e : Nat} (h : s.engineOf r = some e) : e < 9 :=
  List.mem_range.1 (List.mem_of_find?_eq_some h)

theorem State.engineOf_congr {s t : State} (h : ∀ e, e < 9 → t.rd (.engStat e) = s.rd (.engStat e)) (r : Nat) :
    t.engineOf r = s.engineOf r := by
  refine List.find?_congr fun e he => ?_
  simp [State.roleOf, State.fld, h e (List.mem_range.1 he)]

theorem State.Resets.engineOf {s t : State} (h : s.Resets t) (r : Nat) : t.engineOf r = s.engineOf r :=
  State.engineOf_congr (fun e he => h.rd _ (fun e' he' => by simp only [Reg.key]; omega) (by simp only [Reg.key]; omega)) r

/-- The records of a thread that a takeover moves are dropped before the thread stops (spec/14 R387). -/
def State.dropRecords (s : State) (i : Nat) : State :=
  match s.cont.takeover with
  | some x => if x.role = i / 32 then s.modThread (x.engine.getD x.failed) (i % 32) fun y => { y with ck := [] } else s
  | none => s

theorem State.stopThread_eq (s : State) (i : Nat) : s.stopThread i =
    match (s.dropRecords i).engineOf (i / 32) with
    | some e => (s.dropRecords i).resetThread e (i % 32)
    | none => (s.dropRecords i).abandon i := rfl

theorem State.resets_dropRecords (s : State) (i : Nat) : s.Resets (s.dropRecords i) := by
  unfold State.dropRecords
  split
  · split
    · exact s.resets_modThread (Nat.mod_lt _ (by decide)) fun _ hx => hx
    · exact .refl s
  · exact .refl s

theorem State.resets_stopThread (s : State) (i : Nat) : s.Resets (s.stopThread i) := by
  rw [State.stopThread_eq]
  refine (s.resets_dropRecords i).trans ?_
  split
  · exact State.resets_resetThread _ (State.engineOf_lt ‹_›) (Nat.mod_lt _ (by decide))
  · exact State.resets_abandon _ _

/-- The thread stopped is at rest where an engine holds its role. -/
theorem State.rests_stopThread {s : State} {i e : Nat} (h : s.engineOf (i / 32) = some e) :
    ((s.stopThread i).thread e (i % 32)).Rests := by
  rw [State.stopThread_eq, (s.resets_dropRecords i).engineOf, h]
  exact State.rests_resetThread _ (Nat.mod_lt _ (by decide))

theorem State.resets_stopThreads (s : State) (l : List Nat) : s.Resets (l.foldl State.stopThread s) :=
  foldl_related .refl .trans (fun s i _ => s.resets_stopThread i) s

/-- Of several threads stopped each is at rest at the end. -/
theorem State.rests_stopThreads {l : List Nat} {i e : Nat} (hi : i ∈ l) {s : State} (h : s.engineOf (i / 32) = some e) :
    ((l.foldl State.stopThread s).thread e (i % 32)).Rests := by
  induction l generalizing s with
  | nil => simp at hi
  | cons j l ih =>
    rw [List.foldl_cons]
    rcases List.mem_cons.1 hi with rfl | hi
    · exact (State.resets_stopThreads _ l).rests _ _ (Nat.mod_lt _ (by decide)) (State.rests_stopThread h)
    · exact ih hi (by rw [(s.resets_stopThread j).engineOf, h])

end Sys2Proof.Machine
end

section
/-! PROOFS. The units that stop and start with a domain: its weirs and groups (spec/07 R189, R200), its lanes (spec/01 R17),
its counters (spec/08 R220) and its inlets (spec/09 R251). -/

namespace Sys2Proof.Machine

/-! ### Registers only -/

theorem State.OnlyRegs.refl (s : State) (l : List Reg) : s.OnlyRegs l s := ⟨rfl, fun _ _ => rfl⟩

theorem State.OnlyRegs.trans {s t u : State} {l : List Reg} (h : s.OnlyRegs l t) (h' : t.OnlyRegs l u) : s.OnlyRegs l u := by
  obtain ⟨ht, hr⟩ := h
  obtain ⟨hu, hr'⟩ := h'
  exact ⟨by rw [hu, ht], fun q hq => (hr' q hq).trans (hr q hq)⟩

theorem State.OnlyRegs.mono {s t : State} {l l' : List Reg} (h : s.OnlyRegs l t) (hl : l ⊆ l') : s.OnlyRegs l' t :=
  ⟨h.1, fun q hq => h.2 q fun r hr => hq r (hl hr)⟩

theorem State.onlyRegs_wr (s : State) {l : List Reg} {r : Reg} (h : r ∈ l) (v : BitVec 32) : s.OnlyRegs l (s.wr r v) :=
  ⟨rfl, fun _ hq => State.rd_wr_ne _ _ (hq r h)⟩

theorem State.onlyRegs_setFld (s : State) {l : List Reg} {r : Reg} (h : r ∈ l) (f : Fld) (v : Nat) :
    s.OnlyRegs l (s.setFld r f v) := s.onlyRegs_wr h _

theorem State.onlyRegs_setLife (s : State) {l : List Reg} {stat ctrl : Reg} (hs : stat ∈ l) (hc : ctrl ∈ l) (en : Fld)
    (x : Life) : s.OnlyRegs l (s.setLife stat ctrl en x) :=
  ((s.onlyRegs_setFld hs _ _).trans (State.onlyRegs_setFld _ hs _ _)).trans (State.onlyRegs_setFld _ hc _ _)

theorem State.fld_of_rd {s t : State} {r : Reg} (h : t.rd r = s.rd r) (f : Fld) : t.fld r f = s.fld r f := by
  simp [State.fld, h]

theorem State.laneDomain_of_rd {s t : State} {p : Nat} (h : t.rd (.laneCtrl p) = s.rd (.laneCtrl p)) :
    t.laneDomain p = s.laneDomain p := by
  simp [State.laneDomain, State.bit, State.fld, h]

theorem State.mem_domainLanes {s : State} {d p : Nat} : p ∈ s.domainLanes d ↔ p < 256 ∧ s.laneDomain p = some d := by
  simp [State.domainLanes]

theorem State.domainLanes_nodup (s : State) (d : Nat) : (s.domainLanes d).Nodup := List.nodup_range.filter _

theorem State.domainLanes_congr {s t : State} (h : ∀ p, t.rd (.laneCtrl p) = s.rd (.laneCtrl p)) (d : Nat) :
    t.domainLanes d = s.domainLanes d := by
  simp [State.domainLanes, fun p => State.laneDomain_of_rd (h p)]

/-! ### Weirs and groups that start -/

theorem State.group_setGroup (s : State) (g g' : Nat) (x : Group) :
    (s.setGroup g x).group g' = if g' = g then x else s.group g' := by
  split
  · rename_i h
    rw [h]
    exact SMap.get_put_self s.groups g x _
  · exact SMap.get_put_ne x _ _ ‹_›

theorem State.weir_setWeir (s : State) (p q : Nat) (x : Weir) :
    (s.setWeir p x).weir q = if q = p then x else s.weir q := by
  split
  · rename_i h
    rw [h]
    exact SMap.get_put_self s.weirs p x _
  · exact SMap.get_put_ne x _ _ ‹_›

/-- Group `g` starts with its domain (spec/07 R189). -/
def State.startGroup (s : State) (g : Nat) : State :=
  (s.wr (.weirCgpnum g) 0).setGroup g { armed := s.ticks, deadlines := [], strobe := none }

/-- Weir `p` starts with its domain (spec/07 R200). -/
def State.startWeir (s : State) (p : Nat) : State :=
  ((s.wr (.weirLast p) (s.rd (.weirInit p))).wr (.weirHist p) (s.rd (.weirInit p))).setWeir p { s.weir p with periods := [] }

/-- The commit groups of domain `d`. -/
def State.domainGroups (s : State) (d : Nat) : List Nat :=
  (List.range 32).filter fun g => s.bit (.weirCgctl g) F.weirCgctl.domv && s.fld (.weirCgctl g) F.weirCgctl.dom == d

theorem State.mem_domainGroups {s : State} {d g : Nat} : g ∈ s.domainGroups d ↔
    g < 32 ∧ s.bit (.weirCgctl g) F.weirCgctl.domv = true ∧ s.fld (.weirCgctl g) F.weirCgctl.dom = d := by
  simp [State.domainGroups]

theorem State.armWeirs_eq (s : State) (d : Nat) : s.armWeirs d =
    (((s.domainGroups d).foldl State.startGroup s).domainLanes d).foldl State.startWeir
      ((s.domainGroups d).foldl State.startGroup s) := rfl

theorem State.frame_startGroups (s : State) (l : List Nat) : l.foldl State.startGroup s =
    { s with regs := (l.foldl State.startGroup s).regs, groups := (l.foldl State.startGroup s).groups } :=
  foldl_related (R := fun s t => t = { s with regs := t.regs, groups := t.groups }) (fun _ => rfl)
    (fun h h' => by rw [h', h]) (fun _ _ _ => rfl) s

theorem State.frame_startWeirs (s : State) (l : List Nat) : l.foldl State.startWeir s =
    { s with regs := (l.foldl State.startWeir s).regs, weirs := (l.foldl State.startWeir s).weirs } :=
  foldl_related (R := fun s t => t = { s with regs := t.regs, weirs := t.weirs }) (fun _ => rfl)
    (fun h h' => by rw [h', h]) (fun _ _ _ => rfl) s

theorem State.rd_startGroup (s : State) {g : Nat} {q : Reg} (hq : q.key ≠ (Reg.weirCgpnum g).key) :
    (s.startGroup g).rd q = s.rd q := s.rd_wr_ne (r := .weirCgpnum g) 0 hq

theorem State.rd_startGroups (s : State) {l : List Nat} {q : Reg} (hq : ∀ g ∈ l, q.key ≠ (Reg.weirCgpnum g).key) :
    (l.foldl State.startGroup s).rd q = s.rd q :=
  foldl_keeps (fun s => s.rd q) (fun s g hg => s.rd_startGroup (hq g hg)) s

theorem State.rd_startWeir (s : State) {p : Nat} {q : Reg} (hl : q.key ≠ (Reg.weirLast p).key)
    (hh : q.key ≠ (Reg.weirHist p).key) : (s.startWeir p).rd q = s.rd q :=
  (State.rd_wr_ne _ _ hh).trans (State.rd_wr_ne _ _ hl)

theorem State.rd_startWeirs (s : State) {l : List Nat} {q : Reg}
    (hq : ∀ p ∈ l, q.key ≠ (Reg.weirLast p).key ∧ q.key ≠ (Reg.weirHist p).key) :
    (l.foldl State.startWeir s).rd q = s.rd q :=
  foldl_keeps (fun s => s.rd q) (fun s p hp => s.rd_startWeir (hq p hp).1 (hq p hp).2) s

theorem State.group_startGroups (s : State) {l : List Nat} (hn : l.Nodup) (g : Nat) :
    (l.foldl State.startGroup s).group g =
      if g ∈ l then { armed := s.ticks, deadlines := [], strobe := none } else s.group g := by
  have self : ∀ s : State, (s.startGroup g).group g = { armed := s.ticks, deadlines := [], strobe := none } := fun s =>
    (State.group_setGroup _ g g _).trans (if_pos rfl)
  have h := foldl_at (f := State.startGroup) (p := g) (fun s => s.group g) (fun s => s.ticks) hn
    (fun s q hq => (State.group_setGroup _ q g _).trans (if_neg hq.symm)) (fun _ _ _ => rfl)
    (fun s t e => by rw [self s, self t, e]) s
  rwa [self s] at h

theorem State.pnum_startGroups (s : State) {l : List Nat} (hn : l.Nodup) (g : Nat) :
    (l.foldl State.startGroup s).rd (.weirCgpnum g) = if g ∈ l then 0 else s.rd (.weirCgpnum g) := by
  have self : ∀ s : State, (s.startGroup g).rd (.weirCgpnum g) = 0 := fun s => s.rd_wr_self (.weirCgpnum g) 0
  have h := foldl_at (f := State.startGroup) (p := g) (fun s => s.rd (.weirCgpnum g)) (fun _ => ()) hn
    (fun s q hq => s.rd_startGroup (by simp only [Reg.key]; omega)) (fun _ _ _ => rfl)
    (fun s t _ => by rw [self s, self t]) s
  rwa [self s] at h

/-- What a weir's start writes: LAST, HIST and its periods, of its own INIT and its own record. -/
theorem State.started_startWeirs (s : State) {l : List Nat} (hn : l.Nodup) (p : Nat) :
    let t := l.foldl State.startWeir s
    (t.rd (.weirLast p), t.rd (.weirHist p), t.weir p) =
      if p ∈ l then (s.rd (.weirInit p), s.rd (.weirInit p), { s.weir p with periods := [] })
      else (s.rd (.weirLast p), s.rd (.weirHist p), s.weir p) := by
  have self : ∀ s : State, ((s.startWeir p).rd (.weirLast p), (s.startWeir p).rd (.weirHist p), (s.startWeir p).weir p) =
      (s.rd (.weirInit p), s.rd (.weirInit p), { s.weir p with periods := [] }) := fun s => by
    refine Prod.ext ?_ (Prod.ext ?_ ?_)
    · exact (State.rd_wr_ne _ _ (by simp only [Reg.key]; omega)).trans (State.rd_wr_self _ _ _)
    · exact State.rd_wr_self _ _ _
    · exact (State.weir_setWeir _ p p _).trans (if_pos rfl)
  have other : ∀ (s : State) q, q ≠ p → (s.startWeir q).weir p = s.weir p := fun s q hq =>
    (State.weir_setWeir _ q p _).trans (if_neg hq.symm)
  have h := foldl_at (f := State.startWeir) (p := p) (fun s => (s.rd (.weirLast p), s.rd (.weirHist p), s.weir p))
    (fun s => (s.rd (.weirInit p), s.weir p)) hn ?_ ?_ ?_ s
  · rwa [self s] at h
  · intro s q hq
    rw [other s q hq, s.rd_startWeir, s.rd_startWeir] <;> simp only [Reg.key] <;> omega
  · intro s q hq
    rw [other s q hq, s.rd_startWeir] <;> simp only [Reg.key] <;> omega
  · intro s t e
    obtain ⟨hi, hw⟩ := Prod.ext_iff.1 e
    dsimp only at hi hw
    rw [self s, self t, hi, hw]

end Sys2Proof.Machine
end

section
/-! PROOFS. The units that stop with a domain: its lanes (spec/01 R17), its counters (spec/08 R220) and its inlets (spec/09
R251). -/

namespace Sys2Proof.Machine

/-! ### Lanes -/

/-- Lane `p` stops with its domain: its stage and its entries are discarded, and it repeats no period (spec/01 R17). -/
def State.clearLane (s : State) (p : Nat) : State :=
  ((s.clearStage p).dropEntries p).modLane p fun x => { x with held := none }

theorem State.frame_clearLanes (s : State) (l : List Nat) : l.foldl State.clearLane s =
    { s with regs := (l.foldl State.clearLane s).regs, lanes := (l.foldl State.clearLane s).lanes } :=
  foldl_related (R := fun s t => t = { s with regs := t.regs, lanes := t.lanes }) (fun _ => rfl)
    (fun h h' => by rw [h', h]) (fun _ _ _ => rfl) s

theorem State.rd_clearLane (s : State) {p : Nat} {q : Reg} (hg : q.key ≠ (Reg.weirStage p).key)
    (ht : q.key ≠ (Reg.weirStat p).key) : (s.clearLane p).rd q = s.rd q := by
  have h : (s.clearLane p).rd q = (s.clearStage p).rd q := rfl
  rw [h, State.clearStage, State.rd_setFld_ne _ _ _ ht, State.rd_setFld_ne _ _ _ ht, State.rd_wr_ne _ _ hg]

theorem State.rd_clearLanes (s : State) {l : List Nat} {q : Reg}
    (hq : ∀ p ∈ l, q.key ≠ (Reg.weirStage p).key ∧ q.key ≠ (Reg.weirStat p).key) :
    (l.foldl State.clearLane s).rd q = s.rd q :=
  foldl_keeps (fun s => s.rd q) (fun s p hp => s.rd_clearLane (hq p hp).1 (hq p hp).2) s

theorem State.lane_clearLane (s : State) (p : Nat) :
    (s.clearLane p).lane p = { s.lane p with queue := [], core := [], held := none } := by
  simp only [State.clearLane, State.dropEntries, State.modLane, State.lane_setLane_self]
  rfl

theorem State.lane_clearLane_ne (s : State) {p q : Nat} (h : q ≠ p) : (s.clearLane p).lane q = s.lane q :=
  (State.lane_setLane_ne _ _ h).trans (State.lane_setLane_ne (s.clearStage p) _ h)

theorem State.lane_clearLanes (s : State) {l : List Nat} (hn : l.Nodup) (p : Nat) : (l.foldl State.clearLane s).lane p =
    if p ∈ l then { s.lane p with queue := [], core := [], held := none } else s.lane p := by
  have h := foldl_at (f := State.clearLane) (p := p) (fun s => s.lane p) (fun s => s.lane p) hn
    (fun s q hq => s.lane_clearLane_ne hq.symm) (fun s q hq => s.lane_clearLane_ne hq.symm)
    (fun s t e => by rw [s.lane_clearLane, t.lane_clearLane, e]) s
  rwa [s.lane_clearLane] at h

/-- The stage of a lane that has stopped. -/
theorem State.stage_clearLanes (s : State) {l : List Nat} (hn : l.Nodup) {p : Nat} (hp : p ∈ l) :
    (l.foldl State.clearLane s).rd (.weirStage p) = 0 ∧
    (l.foldl State.clearLane s).fld (.weirStat p) F.weirStat.valid = 0 := by
  have self : ∀ s : State, ((s.clearLane p).rd (.weirStage p), (s.clearLane p).fld (.weirStat p) F.weirStat.valid) =
      (0, 0) := fun s => by
    have hk : (Reg.weirStage p).key ≠ (Reg.weirStat p).key := by simp only [Reg.key]; omega
    refine Prod.ext ?_ ?_
    · have h : (s.clearLane p).rd (.weirStage p) = (s.clearStage p).rd (.weirStage p) := rfl
      rw [h, State.clearStage, State.rd_setFld_ne _ _ _ hk, State.rd_setFld_ne _ _ _ hk, State.rd_wr_self]
    · have h : (s.clearLane p).fld (.weirStat p) F.weirStat.valid = (s.clearStage p).fld (.weirStat p) F.weirStat.valid :=
        rfl
      rw [h, State.clearStage, State.fld_setFld_apart _ _ rfl rfl rfl, State.fld_setFld_self _ _ rfl]
      rfl
  have h := foldl_at (f := State.clearLane) (p := p)
    (fun s => (s.rd (.weirStage p), s.fld (.weirStat p) F.weirStat.valid)) (fun _ => ()) hn ?_ (fun _ _ _ => rfl)
    (fun s t _ => by rw [self s, self t]) s
  · rw [if_pos hp, self s] at h
    exact Prod.ext_iff.1 h
  · intro s q hq
    rw [s.rd_clearLane, State.fld_of_rd (s.rd_clearLane ?_ ?_)] <;> simp only [Reg.key] <;> omega

/-! ### Counters -/

theorem State.counterMoved_eq (s : State) (n : Nat) (l : Life) : s.moveCounter n l =
    { s.setLife (.cntStat n) (.cntCtrl n) F.cntCtrl.en l with counters := (s.moveCounter n l).counters } := by
  unfold State.moveCounter
  dsimp only
  split <;> rfl

theorem State.regs_moveCounter (s : State) (n : Nat) (l : Life) :
    (s.moveCounter n l).regs = (s.setLife (.cntStat n) (.cntCtrl n) F.cntCtrl.en l).regs := by
  rw [s.counterMoved_eq n l]

theorem cntStat_key_ne (n : Nat) : (Reg.cntStat n).key ≠ (Reg.cntCtrl n).key := by simp only [Reg.key]; omega

theorem State.frame_stopCounter (s : State) (n : Nat) :
    s.stopCounter n = { s with regs := (s.stopCounter n).regs, counters := (s.stopCounter n).counters } := by
  unfold State.stopCounter
  split
  · rfl
  · rw [s.counterMoved_eq, State.setLife_eq]

theorem State.rd_stopCounter (s : State) {n : Nat} {q : Reg} (hs : q.key ≠ (Reg.cntStat n).key)
    (hc : q.key ≠ (Reg.cntCtrl n).key) : (s.stopCounter n).rd q = s.rd q := by
  unfold State.stopCounter
  split
  · exact State.rd_setFld_ne _ _ _ hc
  · rw [State.rd_congr (s.regs_moveCounter n _), State.rd_setLife _ _ _ hs hc]

/-- Of the control register only EN changes. -/
theorem State.fld_stopCounter_ctrl (s : State) (n m : Nat) {f : Fld} (hf : f.ok = true) (ha : F.cntCtrl.en.apart f = true) :
    (s.stopCounter n).fld (.cntCtrl m) f = s.fld (.cntCtrl m) f := by
  by_cases h : m = n
  · subst h
    unfold State.stopCounter
    split
    · exact State.fld_setFld_apart _ _ rfl hf ha _
    · rw [State.fld_congr (s.regs_moveCounter m _), State.fld_setLife_ctrl _ _ (cntStat_key_ne m) rfl hf ha]
  · refine State.fld_of_rd (s.rd_stopCounter ?_ ?_) f <;> simp only [Reg.key] <;> omega

theorem State.chained_stopCounter (s : State) (n m : Nat) : (s.stopCounter n).chained m = s.chained m := by
  have h : ∀ k, (s.stopCounter n).bit (.cntCtrl k) F.cntCtrl.chain = s.bit (.cntCtrl k) F.cntCtrl.chain := fun k => by
    simp only [State.bit, s.fld_stopCounter_ctrl n k (f := F.cntCtrl.chain) rfl rfl]
  simp only [State.chained, State.chainBase, h]

theorem State.cntLife_of_rd {s t : State} {n : Nat} (hs : t.rd (.cntStat n) = s.rd (.cntStat n))
    (hc : t.rd (.cntCtrl n) = s.rd (.cntCtrl n)) : t.cntLife n = s.cntLife n := by
  simp [State.cntLife, State.fld_of_rd hs, State.fld_of_rd hc]

theorem State.cntLife_stopCounter_ne (s : State) {n m : Nat} (h : m ≠ n) : (s.stopCounter n).cntLife m = s.cntLife m := by
  refine State.cntLife_of_rd (s.rd_stopCounter ?_ ?_) (s.rd_stopCounter ?_ ?_) <;> simp only [Reg.key] <;> omega

/-- An unchained counter takes the request itself; a chained one only its EN (spec/08 R216, R220). -/
theorem State.cntLife_stopCounter (s : State) (n : Nat) : (s.stopCounter n).cntLife n =
    if s.chained n then { s.cntLife n with en := 0 } else (s.cntLife n).request 0 := by
  unfold State.stopCounter
  split
  · have hk := cntStat_key_ne n
    simp only [State.cntLife, State.fld_setFld_ne _ _ _ _ hk]
    rw [State.fld_setFld_self _ _ rfl, Nat.zero_mod]
  · have hr : (s.moveCounter n ((s.cntLife n).request 0)).cntLife n =
        (s.setLife (.cntStat n) (.cntCtrl n) F.cntCtrl.en ((s.cntLife n).request 0)).cntLife n :=
      State.cntLife_of_rd (State.rd_congr (s.regs_moveCounter n _) _) (State.rd_congr (s.regs_moveCounter n _) _)
    rw [hr, State.cntLife_eq, State.life_setLife _ (cntStat_key_ne n) rfl rfl]
    exact (s.life_fits _ _ rfl).request (by decide)

theorem State.frame_stopCounters (s : State) (l : List Nat) : l.foldl State.stopCounter s =
    { s with regs := (l.foldl State.stopCounter s).regs, counters := (l.foldl State.stopCounter s).counters } :=
  foldl_related (R := fun s t => t = { s with regs := t.regs, counters := t.counters }) (fun _ => rfl)
    (fun h h' => by rw [h', h]) (fun s n _ => s.frame_stopCounter n) s

theorem State.rd_stopCounters (s : State) {l : List Nat} {q : Reg}
    (hq : ∀ n ∈ l, q.key ≠ (Reg.cntStat n).key ∧ q.key ≠ (Reg.cntCtrl n).key) :
    (l.foldl State.stopCounter s).rd q = s.rd q :=
  foldl_keeps (fun s => s.rd q) (fun s n hn => s.rd_stopCounter (hq n hn).1 (hq n hn).2) s

theorem State.cntLife_stopCounters (s : State) {l : List Nat} (hn : l.Nodup) {n : Nat} (hc : s.chained n = false) :
    (l.foldl State.stopCounter s).cntLife n = if n ∈ l then (s.cntLife n).request 0 else s.cntLife n := by
  have h := foldl_at (f := State.stopCounter) (p := n) (fun s => s.cntLife n) (fun s => (s.chained n, s.cntLife n)) hn
    (fun s q hq => s.cntLife_stopCounter_ne hq.symm)
    (fun s q hq => by rw [s.chained_stopCounter, s.cntLife_stopCounter_ne hq.symm])
    (fun s t e => by
      obtain ⟨hch, hl⟩ := Prod.ext_iff.1 e
      dsimp only at hch hl
      rw [s.cntLife_stopCounter, t.cntLife_stopCounter, hch, hl]) s
  rwa [s.cntLife_stopCounter, hc] at h

/-! ### Inlets -/

theorem inlStat_key_ne (n : Nat) : (Reg.inlStat n).key ≠ (Reg.inlCtrl n).key := by simp only [Reg.key]; omega

/-- An inlet on its way to OFF starts nothing. -/
theorem State.stopInlet_eq (s : State) (n : Nat) : s.stopInlet n =
    { s.setLife (.inlStat n) (.inlCtrl n) F.inlCtrl.en ((s.inlLife n).request 0) with inlets := (s.stopInlet n).inlets } := by
  have hst := (s.life_fits (.inlStat n) (.inlCtrl n) (en := F.inlCtrl.en) rfl).request_zero_st
  have h1 : ¬(((s.inlLife n).request 0).st = 1 ∧ (s.inlLife n).st ≠ 1) := by
    rw [State.inlLife_eq, hst]
    split <;> omega
  unfold State.stopInlet State.moveInlet
  dsimp only
  rw [if_neg h1]
  split <;> rfl

theorem State.regs_stopInlet (s : State) (n : Nat) : (s.stopInlet n).regs =
    (s.setLife (.inlStat n) (.inlCtrl n) F.inlCtrl.en ((s.inlLife n).request 0)).regs := by
  rw [s.stopInlet_eq n]

theorem State.frame_stopInlet (s : State) (n : Nat) :
    s.stopInlet n = { s with regs := (s.stopInlet n).regs, inlets := (s.stopInlet n).inlets } := by
  rw [s.stopInlet_eq, State.setLife_eq]

theorem State.rd_stopInlet (s : State) {n : Nat} {q : Reg} (hs : q.key ≠ (Reg.inlStat n).key)
    (hc : q.key ≠ (Reg.inlCtrl n).key) : (s.stopInlet n).rd q = s.rd q := by
  rw [State.rd_congr (s.regs_stopInlet n), State.rd_setLife _ _ _ hs hc]

theorem State.inlLife_of_rd {s t : State} {n : Nat} (hs : t.rd (.inlStat n) = s.rd (.inlStat n))
    (hc : t.rd (.inlCtrl n) = s.rd (.inlCtrl n)) : t.inlLife n = s.inlLife n := by
  simp [State.inlLife, State.fld_of_rd hs, State.fld_of_rd hc]

theorem State.inlLife_stopInlet (s : State) (n : Nat) : (s.stopInlet n).inlLife n = (s.inlLife n).request 0 := by
  have hr := State.inlLife_of_rd (n := n) (State.rd_congr (s.regs_stopInlet n) _) (State.rd_congr (s.regs_stopInlet n) _)
  rw [hr, State.inlLife_eq, State.life_setLife _ (inlStat_key_ne n) rfl rfl]
  exact (s.life_fits _ _ rfl).request (by decide)

theorem State.inlLife_stopInlet_ne (s : State) {n m : Nat} (h : m ≠ n) : (s.stopInlet n).inlLife m = s.inlLife m := by
  refine State.inlLife_of_rd (s.rd_stopInlet ?_ ?_) (s.rd_stopInlet ?_ ?_) <;> simp only [Reg.key] <;> omega

theorem State.frame_stopInlets (s : State) (l : List Nat) : l.foldl State.stopInlet s =
    { s with regs := (l.foldl State.stopInlet s).regs, inlets := (l.foldl State.stopInlet s).inlets } :=
  foldl_related (R := fun s t => t = { s with regs := t.regs, inlets := t.inlets }) (fun _ => rfl)
    (fun h h' => by rw [h', h]) (fun s n _ => s.frame_stopInlet n) s

theorem State.rd_stopInlets (s : State) {l : List Nat} {q : Reg}
    (hq : ∀ n ∈ l, q.key ≠ (Reg.inlStat n).key ∧ q.key ≠ (Reg.inlCtrl n).key) :
    (l.foldl State.stopInlet s).rd q = s.rd q :=
  foldl_keeps (fun s => s.rd q) (fun s n hn => s.rd_stopInlet (hq n hn).1 (hq n hn).2) s

theorem State.inlLife_stopInlets (s : State) {l : List Nat} (hn : l.Nodup) (n : Nat) :
    (l.foldl State.stopInlet s).inlLife n = if n ∈ l then (s.inlLife n).request 0 else s.inlLife n := by
  have h := foldl_at (f := State.stopInlet) (p := n) (fun s => s.inlLife n) (fun s => s.inlLife n) hn
    (fun s q hq => s.inlLife_stopInlet_ne hq.symm) (fun s q hq => s.inlLife_stopInlet_ne hq.symm)
    (fun s t e => by rw [s.inlLife_stopInlet, t.inlLife_stopInlet, e]) s
  rwa [s.inlLife_stopInlet] at h

/-! ### The counters and inlets of a domain -/

/-- The stops wait for the next tick. -/
theorem State.stopUnits_later (s : State) (d : Nat) : s.stopUnits d false =
    { s with soon := s.soon ++ (s.domainCounters d).map Soon.stopCounter ++ (s.domainInlets d).map Soon.stopInlet } := by
  have later : ∀ (g : Nat → Soon) (l : List Nat) (s : State),
      l.foldl (fun s n => s.later (g n)) s = { s with soon := s.soon ++ l.map g } := fun g l => by
    induction l with
    | nil => intro s; simp
    | cons n l ih =>
      intro s
      rw [List.foldl_cons, ih]
      simp [State.later]
  unfold State.stopUnits
  simp only [Bool.false_eq_true, if_false, later]
  rfl

/-- The stops act now. -/
structure State.StopsUnits (s : State) (d : Nat) (t : State) : Prop where
  frame : t = { s with regs := t.regs, counters := t.counters, inlets := t.inlets }
  rd    : ∀ q : Reg, (∀ n, n < 64 → q.key ≠ (Reg.cntStat n).key ∧ q.key ≠ (Reg.cntCtrl n).key) →
    (∀ n, n < 64 → q.key ≠ (Reg.inlStat n).key ∧ q.key ≠ (Reg.inlCtrl n).key) → t.rd q = s.rd q
  cnt   : ∀ n, n < 64 → s.chained n = false →
    t.cntLife n = if n ∈ s.domainCounters d then (s.cntLife n).request 0 else s.cntLife n
  inl   : ∀ n, n < 64 → t.inlLife n = if n ∈ s.domainInlets d then (s.inlLife n).request 0 else s.inlLife n

theorem State.stopsUnits (s : State) (d : Nat) : s.StopsUnits d (s.stopUnits d true) := by
  let u := (s.domainCounters d).foldl State.stopCounter s
  have hc : ∀ n, n ∈ s.domainCounters d → n < 64 := fun n h => List.mem_range.1 (List.mem_filter.1 h).1
  have hi : ∀ n, n ∈ s.domainInlets d → n < 64 := fun n h => List.mem_range.1 (List.mem_filter.1 h).1
  have hu : ∀ {q : Reg}, (∀ n, n < 64 → q.key ≠ (Reg.cntStat n).key ∧ q.key ≠ (Reg.cntCtrl n).key) → u.rd q = s.rd q :=
    fun hq => s.rd_stopCounters fun n h => hq n (hc n h)
  have hdi : u.domainInlets d = s.domainInlets d := by
    have h : ∀ n, n < 64 → ∀ f, u.fld (.inlCtrl n) f = s.fld (.inlCtrl n) f := fun n hn f =>
      State.fld_of_rd (hu fun m hm => by simp only [Reg.key]; omega) f
    refine List.filter_congr fun n hn => ?_
    simp only [State.bit, h n (List.mem_range.1 hn)]
  have ht : s.stopUnits d true = (s.domainInlets d).foldl State.stopInlet u := by
    rw [← hdi]
    rfl
  have hnc : (s.domainCounters d).Nodup := List.nodup_range.filter _
  have hni : (s.domainInlets d).Nodup := List.nodup_range.filter _
  rw [ht]
  refine ⟨?_, fun q hq hq' => ?_, fun n hn hch => ?_, fun n hn => ?_⟩
  · have hfu : u = { s with regs := u.regs, counters := u.counters } := s.frame_stopCounters _
    rw [u.frame_stopInlets, hfu]
  · rw [u.rd_stopInlets fun n h => hq' n (hi n h), hu hq]
  · have hk : ∀ q ∈ [Reg.cntStat n, .cntCtrl n], ((s.domainInlets d).foldl State.stopInlet u).rd q = u.rd q := by
      intro q hq
      refine u.rd_stopInlets fun m hm => ?_
      have := hi m hm
      simp only [List.mem_cons, List.not_mem_nil, or_false] at hq
      rcases hq with rfl | rfl <;> simp only [Reg.key] <;> omega
    rw [State.cntLife_of_rd (hk _ (by simp)) (hk _ (by simp)), s.cntLife_stopCounters hnc hch]
  · rw [u.inlLife_stopInlets hni, State.inlLife_of_rd (hu ?_) (hu ?_)] <;> intro m hm <;> simp only [Reg.key] <;> omega

end Sys2Proof.Machine
end

section
/-! PROOFS. How a domain moves in its life-cycle (spec/01 R17, spec/14 R361). -/

namespace Sys2Proof.Machine

theorem engDstat_key_ne (d : Nat) : (Reg.engDstat d).key ≠ (Reg.engDctl d).key := by simp only [Reg.key]; omega

theorem State.domLife_fits (s : State) (d : Nat) : (s.domLife d).Fits := s.life_fits _ _ rfl

/-- The life-cycle of domain `d` is written. -/
def State.setDomLife (s : State) (d : Nat) (l : Life) : State := s.setLife (.engDstat d) (.engDctl d) F.engDctl.en l

theorem State.moveDomain_eq (s : State) (d : Nat) (l : Life) : s.moveDomain d l =
    if (s.domLife d).st = l.st then s.setDomLife d l
    else if l.st = 1 then (s.setDomLife d l).setFld (.engDstat d) F.engDstat.limitLock 1
    else if l.st = 2 then ((s.setDomLife d l).setSub d subArmed).armWeirs d
    else if l.st = 3 then (s.setDomLife d l).stopDomain d
    else (s.setDomLife d l).setFld (.engDstat d) F.engDstat.limitLock 0 := rfl

theorem State.domLife_of_rd {s t : State} {d : Nat} (hs : t.rd (.engDstat d) = s.rd (.engDstat d))
    (hc : t.rd (.engDctl d) = s.rd (.engDctl d)) : t.domLife d = s.domLife d := by
  simp [State.domLife, State.fld_of_rd hs, State.fld_of_rd hc]

theorem State.domLife_setDomLife (s : State) (d : Nat) {l : Life} (hl : l.Fits) : (s.setDomLife d l).domLife d = l :=
  State.life_setLife s (engDstat_key_ne d) rfl rfl hl

/-- A field of ENG_DSTAT above STATE and PEND is no part of the life-cycle. -/
theorem State.domLife_setFld_stat (s : State) (d : Nat) {f : Fld} (hf : f.ok = true) (hp : 2 < f.lo) (v : Nat) :
    (s.setFld (.engDstat d) f v).domLife d = s.domLife d := by
  have ha : f.apart F.engDstat.state = true := by simp [Fld.apart, F.engDstat.state]; omega
  have hb : f.apart F.engDstat.pend = true := by simp [Fld.apart, F.engDstat.pend]; omega
  simp only [State.domLife]
  rw [State.fld_setFld_apart _ _ hf rfl ha, State.fld_setFld_apart _ _ hf rfl hb,
    State.fld_setFld_ne _ _ _ _ (engDstat_key_ne d).symm]

/-- A move that neither arms nor stops a domain writes its two registers: the life-cycle, and LIMIT_LOCK with a change of
the state. -/
structure State.MovesLight (s : State) (d : Nat) (l : Life) (t : State) : Prop where
  only : s.OnlyRegs [.engDctl d, .engDstat d] t
  life : t.domLife d = l
  lock : t.fld (.engDstat d) F.engDstat.limitLock =
    if (s.domLife d).st = l.st then s.fld (.engDstat d) F.engDstat.limitLock else l.st
  stat : ∀ f : Fld, f.ok = true → 2 < f.lo → F.engDstat.limitLock.apart f = true →
    t.fld (.engDstat d) f = s.fld (.engDstat d) f
  ctrl : ∀ f : Fld, f.ok = true → F.engDctl.en.apart f = true → t.fld (.engDctl d) f = s.fld (.engDctl d) f

theorem State.moveDomain_light (s : State) (d : Nat) {l : Life} (hl : l.Fits)
    (h : (s.domLife d).st = l.st ∨ l.st = 0 ∨ l.st = 1) : s.MovesLight d l (s.moveDomain d l) := by
  have hk := engDstat_key_ne d
  have only : s.OnlyRegs [.engDctl d, .engDstat d] (s.setDomLife d l) := s.onlyRegs_setLife (by simp) (by simp) _ _
  have stat : ∀ f : Fld, f.ok = true → 2 < f.lo → (s.setDomLife d l).fld (.engDstat d) f = s.fld (.engDstat d) f :=
    fun f hf hp => s.fld_setLife_stat _ l hk hf hp
  have ctrl : ∀ f : Fld, f.ok = true → F.engDctl.en.apart f = true →
      (s.setDomLife d l).fld (.engDctl d) f = s.fld (.engDctl d) f :=
    fun f hf ha => s.fld_setLife_ctrl l hk rfl hf ha
  rw [State.moveDomain_eq]
  by_cases he : (s.domLife d).st = l.st
  · rw [if_pos he]
    refine ⟨only, s.domLife_setDomLife d hl, ?_, fun f hf hp _ => stat f hf hp, ctrl⟩
    rw [if_pos he]
    exact stat _ rfl (by decide)
  · have lockTo : ∀ v, v < 2 → l.st = v → s.MovesLight d l ((s.setDomLife d l).setFld (.engDstat d) F.engDstat.limitLock v) := by
      intro v hv hlv
      refine ⟨only.trans (State.onlyRegs_setFld _ (by simp) _ _), ?_, ?_, fun f hf hp ha => ?_, fun f hf ha => ?_⟩
      · rw [State.domLife_setFld_stat _ _ rfl (by decide), s.domLife_setDomLife d hl]
      · rw [if_neg he, State.fld_setFld_self _ _ rfl, hlv]
        exact Nat.mod_eq_of_lt hv
      · rw [State.fld_setFld_apart _ _ rfl hf ha, stat f hf hp]
      · rw [State.fld_setFld_ne _ _ _ _ hk.symm, ctrl f hf ha]
    rw [if_neg he]
    rcases h with h | h | h
    · exact absurd h he
    · simpa [h] using lockTo 0 (by decide) h
    · simpa [h] using lockTo 1 (by decide) h

/-! ### A domain that stops -/

/-- A domain has been stopped (spec/01 R17): its threads rest, its stages and its lanes' entries are gone, and it is in no
sub-state; of the registers only ENG_DSTAT.SUB, the stages, ENG_PARKCNT and LCK_STATS have changed. -/
structure State.StopsDomain (s : State) (d : Nat) (t : State) : Prop where
  frame  : t = { s with regs := t.regs, threads := t.threads, locks := t.locks, lanes := t.lanes, domains := t.domains }
  rd     : ∀ q : Reg, q.key ≠ (Reg.engDstat d).key → (∀ e, e < 9 → q.key ≠ (Reg.engParkcnt e).key) →
    q.key ≠ Reg.lckStats.key → (∀ p ∈ s.domainLanes d, q.key ≠ (Reg.weirStage p).key ∧ q.key ≠ (Reg.weirStat p).key) →
    t.rd q = s.rd q
  stat   : t.rd (.engDstat d) = F.engDstat.sub.put (s.rd (.engDstat d)) 0
  domain : t.domain d = .init
  stage  : ∀ p ∈ s.domainLanes d, t.rd (.weirStage p) = 0 ∧ t.fld (.weirStat p) F.weirStat.valid = 0
  lane   : ∀ p, t.lane p =
    if p ∈ s.domainLanes d then { s.lane p with queue := [], core := [], held := none } else s.lane p
  rests  : ∀ i e, (i, some d) ∈ s.threadDom → s.engineOf (i / 32) = some e → (t.thread e (i % 32)).Rests

theorem State.stopsDomain (s : State) {d : Nat} (hd : d < 8) : s.StopsDomain d (s.stopDomain d) := by
  let a := (s.setSub d 0).setDomain d .init
  let b := (a.domainThreads d).foldl State.stopThread a
  have ha : ∀ q : Reg, q.key ≠ (Reg.engDstat d).key → a.rd q = s.rd q := fun q hq => s.rd_setFld_ne _ _ hq
  have hab : a.Resets b := a.resets_stopThreads _
  have hsb : ∀ p, b.rd (.laneCtrl p) = s.rd (.laneCtrl p) := fun p => by
    rw [hab.rd _ (fun e he => by simp only [Reg.key]; omega) (by simp only [Reg.key]; omega),
      ha _ (by simp only [Reg.key]; omega)]
  have hl : b.domainLanes d = s.domainLanes d := State.domainLanes_congr hsb d
  have hn := s.domainLanes_nodup d
  have ht : s.stopDomain d = (s.domainLanes d).foldl State.clearLane b := by
    rw [← hl]
    rfl
  have hlt : ∀ p ∈ s.domainLanes d, p < 256 := fun p hp => (State.mem_domainLanes.1 hp).1
  rw [ht]
  refine ⟨?_, fun q h1 h2 h3 h4 => ?_, ?_, ?_, fun p hp => b.stage_clearLanes hn hp, fun p => ?_, fun i e hi he => ?_⟩
  · rw [b.frame_clearLanes, hab.frame]
    rfl
  · rw [b.rd_clearLanes h4, hab.rd q h2 h3, ha q h1]
  · have hr : a.rd (.engDstat d) = F.engDstat.sub.put (s.rd (.engDstat d)) 0 := s.rd_wr_self _ _
    rw [b.rd_clearLanes, hab.rd _ (fun e he => by simp only [Reg.key]; omega) (by simp only [Reg.key]; omega), hr]
    intro p hp
    have := hlt p hp
    constructor <;> simp only [Reg.key] <;> omega
  · rw [b.frame_clearLanes, hab.frame]
    exact (s.setSub d 0).domain_setDomain_self d .init
  · rw [b.lane_clearLanes hn, hab.frame]
    rfl
  · have hm : i ∈ a.domainThreads d := List.mem_map.2 ⟨(i, some d), List.mem_filter.2 ⟨hi, by simp⟩, rfl⟩
    have hea : a.engineOf (i / 32) = some e := by
      rw [State.engineOf_congr (fun e he => ha _ (by simp only [Reg.key]; omega)), he]
    rw [b.frame_clearLanes]
    exact State.rests_stopThreads hm hea

end Sys2Proof.Machine
end

section
/-! PROOFS. Requests to arm or reset a domain (spec/14 R361; spec/01 R17, R20), as they act: the two outcomes of every clause
about them. -/

namespace Sys2Proof.Machine

/-- Domain `m` has taken a request to arm: LIMIT_LOCK is set with STARTING, and the pins have followed. -/
def State.Arms (s : State) (m : Nat) (t : State) : Prop :=
  t.domLife m = (s.domLife m).request 1 ∧
  t.fld (.engDstat m) F.engDstat.limitLock =
    (if (s.domLife m).st = 0 then 1 else s.fld (.engDstat m) F.engDstat.limitLock) ∧
  (∀ f ∈ [F.engDstat.sub, F.engDstat.degraded, F.engDstat.holdcnt], t.fld (.engDstat m) f = s.fld (.engDstat m) f) ∧
  s.RegsBut [.engDctl m, .engDstat m] t ∧ State.OnlyPins { s with regs := t.regs } t

/-- Domain `m` has left ON for STOPPING: its threads rest, its lanes are empty, and memory is as before. -/
def State.LeavesOn (s : State) (m : Nat) (t : State) : Prop :=
  t.sub m = 0 ∧ t.domain m = .init ∧ (∀ x, x < 8 → x ≠ m → t.domLife x = s.domLife x ∧ t.sub x = s.sub x) ∧
  (∀ p, p < 256 → s.laneDomain p = some m → (t.lane p).queue = [] ∧ (t.lane p).core = [] ∧ (t.lane p).held = none ∧
    t.rd (.weirStage p) = 0 ∧ t.fld (.weirStat p) F.weirStat.valid = 0) ∧
  (∀ p, p < 256 → s.laneDomain p ≠ some m → (t.lane p).queue = (s.lane p).queue ∧ (t.lane p).core = (s.lane p).core ∧
    t.rd (.weirStage p) = s.rd (.weirStage p) ∧ t.rd (.weirStat p) = s.rd (.weirStat p)) ∧
  (∀ i e, (i, some m) ∈ s.threadDom → s.engineOf (i / 32) = some e →
    (t.thread e (i % 32)).st = .parked ∧ (t.thread e (i % 32)).halted = false) ∧
  t.mem = s.mem ∧ t.chk = s.chk

/-- Domain `m` has taken a request to disarm. -/
def State.Stops (s : State) (m : Nat) (t : State) : Prop :=
  t.domLife m = (s.domLife m).request 0 ∧
  ((s.domLife m).st ≠ 2 → s.RegsBut [.engDctl m, .engDstat m] t ∧ t.sub m = s.sub m ∧
    State.OnlyPins { s with regs := t.regs } t) ∧
  ((s.domLife m).st = 2 → s.LeavesOn m t)

/-- The pins settle after registers have changed. -/
theorem State.OnlyRegs.onlyPins_settle {s t : State} {l : List Reg} (h : s.OnlyRegs l t) :
    State.OnlyPins { s with regs := t.settle.regs } t.settle := by
  have hr : t.settle.regs = t.regs := by simp
  rw [hr, ← h.1]
  exact t.follows_settle.onlyPins

@[simp] theorem State.domLife_settle (s : State) (d : Nat) : s.settle.domLife d = s.domLife d := by
  simp [State.domLife]

@[simp] theorem State.sub_settle (s : State) (d : Nat) : s.settle.sub d = s.sub d := by simp [State.sub]

@[simp] theorem State.thread_settle (s : State) (e t : Nat) : s.settle.thread e t = s.thread e t := by
  simp [State.thread]

@[simp] theorem State.domain_settle (s : State) (d : Nat) : s.settle.domain d = s.domain d := by simp [State.domain]

/-- What a request reads of the domain's life-cycle is as before where ENG_DCTL alone has changed. -/
theorem State.OnlyRegs.request_domLife {s u : State} {m : Nat} (h : s.OnlyRegs [.engDctl m] u) (n : Nat) :
    (u.domLife m).st = (s.domLife m).st ∧ (u.domLife m).request n = (s.domLife m).request n := by
  have hk := engDstat_key_ne m
  have hrd : u.rd (.engDstat m) = s.rd (.engDstat m) := h.2 _ (by simpa using hk)
  have he : u.domLife m = { s.domLife m with en := (u.domLife m).en } := by
    simp [State.domLife, State.fld_of_rd hrd]
  rw [he]
  exact ⟨rfl, Life.request_en _ _ _⟩

/-- The domain's move with a request that does not stop it. -/
theorem State.requestDomain_light {u : State} {m en : Nat} (now : Bool)
    (h : (u.domLife m).st = 3 ∨ ((u.domLife m).request en).st ≠ 3)
    (hm : u.MovesLight m ((u.domLife m).request en) (u.moveDomain m ((u.domLife m).request en))) :
    u.requestDomain m en now = (u.moveDomain m ((u.domLife m).request en)).settle := by
  unfold State.requestDomain
  dsimp only
  rw [hm.life, if_neg (by rcases h with h | h <;> simp [h])]

theorem State.arms_requestDomain {s u : State} {m : Nat} (hu : s.OnlyRegs [.engDctl m] u) (now : Bool) :
    s.Arms m (u.requestDomain m 1 now) := by
  obtain ⟨hst, hreq⟩ := hu.request_domLife 1
  have hf := u.domLife_fits m
  have hone := hf.request_one_st
  have hm := u.moveDomain_light m (hf.request (n := 1) (by decide)) (by rw [hone]; split <;> simp_all)
  have hk := engDstat_key_ne m
  have hsu : ∀ f, u.fld (.engDstat m) f = s.fld (.engDstat m) f := State.fld_of_rd (hu.2 _ (by simpa using hk))
  have hall := (hu.mono (l' := [.engDctl m, .engDstat m]) (by simp)).trans hm.only
  rw [State.requestDomain_light now (by rw [hone]; split <;> omega) hm]
  refine ⟨?_, ?_, fun f hf => ?_, fun q hq => ?_, hall.onlyPins_settle⟩
  · rw [State.domLife_settle, hm.life, hreq]
  · rw [State.fld_settle, hm.lock, hone, hst, hsu]
    split <;> simp_all
  · rw [State.fld_settle, hm.stat f, hsu]
    all_goals
      simp only [List.mem_cons, List.not_mem_nil, or_false] at hf
      rcases hf with rfl | rfl | rfl <;> decide
  · rw [State.rd_settle, hall.2 q hq]

end Sys2Proof.Machine
end

section
/-! PROOFS. A domain that leaves ON (spec/01 R17; spec/08 R220; spec/09 R251). -/

namespace Sys2Proof.Machine

theorem State.StopsDomain.fld {s t : State} {d : Nat} (h : s.StopsDomain d t) {f : Fld} (hf : f.ok = true)
    (ha : F.engDstat.sub.apart f = true) : t.fld (.engDstat d) f = s.fld (.engDstat d) f := by
  simp only [State.fld, h.stat]
  exact Fld.get_put_apart rfl hf ha _ _

theorem State.StopsDomain.sub {s t : State} {d : Nat} (h : s.StopsDomain d t) : t.sub d = 0 := by
  simp only [State.sub, State.fld, h.stat]
  rw [Fld.get_put_self rfl, Nat.zero_mod]

/-- The registers of domains but ENG_DSTAT of the one that stops. -/
theorem State.StopsDomain.rd_domain {s t : State} {d x : Nat} (h : s.StopsDomain d t) (hx : x < 8) {q : Reg}
    (hq : q = .engDctl x ∨ q = .engDstat x ∧ x ≠ d) : t.rd q = s.rd q := by
  rcases hq with rfl | ⟨rfl, hne⟩ <;> refine h.rd _ ?_ (fun e he => ?_) ?_ fun p hp => ⟨?_, ?_⟩ <;>
    simp only [Reg.key] <;> omega

theorem State.StopsDomain.domLife {s t : State} {d : Nat} (h : s.StopsDomain d t) (hd : d < 8) :
    t.domLife d = s.domLife d := by
  simp only [State.domLife]
  rw [h.fld (f := F.engDstat.state) rfl rfl, h.fld (f := F.engDstat.pend) rfl rfl,
    State.fld_of_rd (h.rd_domain hd (.inl rfl))]

/-- The registers of counters and inlets. -/
theorem State.StopsDomain.rd_units {s t : State} {d n : Nat} (h : s.StopsDomain d t) (hd : d < 8) (hn : n < 64) {q : Reg}
    (hq : q ∈ [Reg.cntCtrl n, .cntStat n, .inlCtrl n, .inlStat n]) : t.rd q = s.rd q := by
  have hk : ∀ k, k < 0x740000 ∨ 0x760000 ≤ k → q.key ≠ k := fun k hk => by
    simp only [List.mem_cons, List.not_mem_nil, or_false] at hq
    rcases hq with rfl | rfl | rfl | rfl <;> simp only [Reg.key] <;> omega
  refine h.rd q (hk _ ?_) (fun e he => hk _ ?_) (hk _ (by decide)) fun p hp => ?_
  · simp only [Reg.key]
    omega
  · simp only [Reg.key]
    omega
  · have hp' := (State.mem_domainLanes.1 hp).1
    constructor <;> refine hk _ ?_ <;> simp only [Reg.key] <;> omega

/-- Leaving ON is told by the domains' registers, the stages, the lanes, the threads, the domains and memory. -/
theorem State.LeavesOn.congr {s t u : State} {m : Nat} (h : s.LeavesOn m t)
    (hd : ∀ x, x < 8 → u.domLife x = t.domLife x ∧ u.sub x = t.sub x) (hm : m < 8)
    (hw : ∀ p, p < 256 → u.rd (.weirStage p) = t.rd (.weirStage p) ∧ u.rd (.weirStat p) = t.rd (.weirStat p))
    (hl : ∀ p, (u.lane p).queue = (t.lane p).queue ∧ (u.lane p).core = (t.lane p).core ∧ (u.lane p).held = (t.lane p).held)
    (hth : u.threads = t.threads) (hdo : u.domains = t.domains) (hme : u.mem = t.mem) (hch : u.chk = t.chk) :
    s.LeavesOn m u := by
  obtain ⟨hsub, hdom, hother, hin, hoff, hrest, hmem, hchk⟩ := h
  refine ⟨?_, ?_, fun x hx hne => ?_, fun p hp hpd => ?_, fun p hp hpd => ?_, fun i e hi he => ?_, ?_, ?_⟩
  · rw [(hd m hm).2, hsub]
  · rw [← hdom]
    simp [State.domain, hdo]
  · rw [(hd x hx).1, (hd x hx).2]
    exact hother x hx hne
  · rw [(hl p).1, (hl p).2.1, (hl p).2.2, (hw p hp).1, State.fld_of_rd (hw p hp).2]
    exact hin p hp hpd
  · rw [(hl p).1, (hl p).2.1, (hw p hp).1, (hw p hp).2]
    exact hoff p hp hpd
  · have ht : u.thread e (i % 32) = t.thread e (i % 32) := by simp [State.thread, hth]
    rw [ht]
    exact hrest i e hi he
  · rw [hme, hmem]
  · rw [hch, hchk]

theorem State.OnlyRegs.rd_domain {s a : State} {m : Nat} (h : s.OnlyRegs [.engDctl m, .engDstat m] a) {q : Reg}
    (hc : q.key ≠ (Reg.engDctl m).key) (hs : q.key ≠ (Reg.engDstat m).key) : a.rd q = s.rd q := h.2 q (by simp [hc, hs])

/-- A domain stopped from a state whose registers differ only in those of its own life-cycle. -/
theorem State.StopsDomain.leavesOn {s a t : State} {m : Nat} (hm : m < 8) (ha : s.OnlyRegs [.engDctl m, .engDstat m] a)
    (h : a.StopsDomain m t) : s.LeavesOn m t := by
  have hdom : ∀ p, p < 256 → (p ∈ a.domainLanes m ↔ s.laneDomain p = some m) := fun p hp => by
    rw [State.mem_domainLanes, State.laneDomain_of_rd
      (ha.rd_domain (by simp only [Reg.key]; omega) (by simp only [Reg.key]; omega))]
    exact and_iff_right hp
  refine ⟨h.sub, h.domain, fun x hx hne => ?_, fun p hp hpd => ?_, fun p hp hpd => ?_, fun i e hi he => ?_, ?_, ?_⟩
  · have hs : t.rd (.engDstat x) = s.rd (.engDstat x) := (h.rd_domain hx (.inr ⟨rfl, hne⟩)).trans
      (ha.rd_domain (by simp only [Reg.key]; omega) (by simp only [Reg.key]; omega))
    have hc : t.rd (.engDctl x) = s.rd (.engDctl x) := (h.rd_domain hx (.inl rfl)).trans
      (ha.rd_domain (by simp only [Reg.key]; omega) (by simp only [Reg.key]; omega))
    exact ⟨State.domLife_of_rd hs hc, State.fld_of_rd hs _⟩
  · have hp' := (hdom p hp).2 hpd
    obtain ⟨hst, hv⟩ := h.stage p hp'
    rw [h.lane p, if_pos hp']
    exact ⟨rfl, rfl, rfl, hst, hv⟩
  · have hp' := mt (hdom p hp).1 hpd
    have hw : ∀ q : Reg, q = .weirStage p ∨ q = .weirStat p → t.rd q = s.rd q := fun q hq => by
      have hout : ∀ k, k < 0x730000 ∨ 0x734000 ≤ k → q.key ≠ k := fun k hk => by
        rcases hq with rfl | rfl <;> simp only [Reg.key] <;> omega
      have hstat : (Reg.engDstat m).key < 0x730000 := by
        simp only [Reg.key]
        omega
      have hctl : (Reg.engDctl m).key < 0x730000 := by
        simp only [Reg.key]
        omega
      refine (h.rd q (hout _ (.inl hstat)) (fun e he => hout _ ?_) (hout _ (by decide)) fun p' hp'' => ?_).trans
        (ha.rd_domain (hout _ (.inl hctl)) (hout _ (.inl hstat)))
      · simp only [Reg.key]
        omega
      · have hne : p ≠ p' := fun e => hp' (e ▸ hp'')
        rcases hq with rfl | rfl <;> constructor <;> simp only [Reg.key] <;> omega
    rw [h.lane p, if_neg hp', ha.1]
    exact ⟨rfl, rfl, hw _ (.inl rfl), hw _ (.inr rfl)⟩
  · refine h.rests i e (by rw [ha.1]; exact hi) ?_
    rw [State.engineOf_congr (fun e he => ha.rd_domain (by simp only [Reg.key]; omega) (by simp only [Reg.key]; omega)), he]
  · rw [h.frame, ha.1]
  · rw [h.frame, ha.1]

/-- The request that stops the domain: what leaves ON, before the counters and inlets are told. -/
theorem State.moveDomain_stop {u : State} {m : Nat} (hm : m < 8) (h : (u.domLife m).st = 2) :
    (u.setDomLife m ⟨3, (u.domLife m).pend, 0⟩).StopsDomain m (u.moveDomain m ((u.domLife m).request 0)) := by
  have hl : (u.domLife m).request 0 = ⟨3, (u.domLife m).pend, 0⟩ := by
    simp [Life.request, h]
  rw [hl, State.moveDomain_eq]
  simp only [h]
  exact State.stopsDomain _ hm

end Sys2Proof.Machine
end

section
/-! PROOFS. A request to disarm a domain that is ON (spec/14 R361; spec/08 R220; spec/09 R251). -/

namespace Sys2Proof.Machine

theorem State.domainCounters_congr {s t : State} (h : ∀ n, n < 64 → t.rd (.cntCtrl n) = s.rd (.cntCtrl n)) (d : Nat) :
    t.domainCounters d = s.domainCounters d := by
  refine List.filter_congr fun n hn => ?_
  simp [State.bit, State.fld, h n (List.mem_range.1 hn)]

theorem State.domainInlets_congr {s t : State} (h : ∀ n, n < 64 → t.rd (.inlCtrl n) = s.rd (.inlCtrl n)) (d : Nat) :
    t.domainInlets d = s.domainInlets d := by
  refine List.filter_congr fun n hn => ?_
  simp [State.bit, State.fld, h n (List.mem_range.1 hn)]

theorem State.chained_congr {s t : State} (h : ∀ n, n < 64 → t.rd (.cntCtrl n) = s.rd (.cntCtrl n)) {n : Nat}
    (hn : n < 64) : t.chained n = s.chained n := by
  have hb : ∀ k, k < 64 → t.bit (.cntCtrl k) F.cntCtrl.chain = s.bit (.cntCtrl k) F.cntCtrl.chain := fun k hk => by
    simp [State.bit, State.fld, h k hk]
  simp only [State.chained, State.chainBase, hb n hn, hb (n - 1) (by omega), hb (n - 2) (by omega)]

@[simp] theorem State.cntLife_settle (s : State) (n : Nat) : s.settle.cntLife n = s.cntLife n := by simp [State.cntLife]

@[simp] theorem State.inlLife_settle (s : State) (n : Nat) : s.settle.inlLife n = s.inlLife n := by simp [State.inlLife]

/-- The stops of units change no register below the counters'. -/
theorem State.StopsUnits.rd_below {s t : State} {d : Nat} (h : s.StopsUnits d t) {q : Reg} (hq : q.key < 0x740000) :
    t.rd q = s.rd q := by
  refine h.rd q (fun n _ => ?_) (fun n _ => ?_) <;> constructor <;> refine Nat.ne_of_lt (hq.trans_le ?_) <;>
    simp only [Reg.key] <;> omega

/-- A domain that left ON has left it still when its units have stopped and the pins have followed. -/
theorem State.LeavesOn.settle_of {s t u : State} {m : Nat} (hm : m < 8) (h : s.LeavesOn m t)
    (hf : u = { t with regs := u.regs, counters := u.counters, inlets := u.inlets, soon := u.soon })
    (hr : ∀ q : Reg, q.key < 0x740000 → u.rd q = t.rd q) : s.LeavesOn m u.settle := by
  refine h.congr (fun x hx => ?_) hm (fun p hp => ?_) (fun p => ?_) ?_ ?_ ?_ ?_
  · have hs := hr (.engDstat x) (by simp only [Reg.key]; omega)
    have hc := hr (.engDctl x) (by simp only [Reg.key]; omega)
    rw [State.domLife_settle, State.sub_settle]
    exact ⟨State.domLife_of_rd hs hc, State.fld_of_rd hs _⟩
  · rw [State.rd_settle, State.rd_settle]
    exact ⟨hr _ (by simp only [Reg.key]; omega), hr _ (by simp only [Reg.key]; omega)⟩
  · obtain ⟨-, -, hq, hc, hh⟩ := u.lane_settle p
    rw [hq, hc, hh, hf]
    exact ⟨rfl, rfl, rfl⟩
  all_goals
    simp only [State.settle_frame]
    rw [hf]

section
variable {s u : State} {m : Nat} (hm : m < 8) (hu : s.OnlyRegs [.engDctl m] u) (hst : (s.domLife m).st = 2)
include hm hu hst

/-- Before its units stop, a domain ON that is reset has left ON in its own registers, threads and lanes. -/
theorem State.OnlyRegs.move_stop : ∃ a, s.OnlyRegs [.engDctl m, .engDstat m] a ∧
    a.domLife m = (s.domLife m).request 0 ∧ a.StopsDomain m (u.moveDomain m ((u.domLife m).request 0)) := by
  obtain ⟨hsu, hreq⟩ := hu.request_domLife 0
  have h2 : (u.domLife m).st = 2 := hsu.trans hst
  have hl : (u.domLife m).request 0 = ⟨3, (u.domLife m).pend, 0⟩ := by simp [Life.request, h2]
  refine ⟨u.setDomLife m ((u.domLife m).request 0), ?_, ?_, ?_⟩
  · exact (hu.mono (by simp)).trans (u.onlyRegs_setLife (by simp) (by simp) _ _)
  · rw [u.domLife_setDomLife m ((u.domLife_fits m).request (by decide)), hreq]
  · rw [hl]
    have h := State.moveDomain_stop hm h2
    rwa [hl] at h

theorem State.OnlyRegs.requestDomain_stop (now : Bool) : u.requestDomain m 0 now =
    ((u.moveDomain m ((u.domLife m).request 0)).stopUnits m now).settle := by
  obtain ⟨a, -, hal, hv⟩ := hu.move_stop hm hst
  have h2 : (u.domLife m).st = 2 := (hu.request_domLife 0).1.trans hst
  have h3 : ((u.moveDomain m ((u.domLife m).request 0)).domLife m).st = 3 := by
    rw [hv.domLife hm, hal]
    simp [Life.request, hst]
  unfold State.requestDomain
  dsimp only
  rw [if_pos (by simp [h2, h3])]

/-- The counters and inlets told are those that the domain had. -/
theorem State.OnlyRegs.units_stop : let v := u.moveDomain m ((u.domLife m).request 0)
    (∀ n, n < 64 → ∀ q ∈ [Reg.cntCtrl n, .cntStat n, .inlCtrl n, .inlStat n], v.rd q = s.rd q) ∧
    v.domainCounters m = s.domainCounters m ∧ v.domainInlets m = s.domainInlets m ∧ v.soon = s.soon := by
  obtain ⟨a, ha, -, hv⟩ := hu.move_stop hm hst
  have hrd : ∀ n, n < 64 → ∀ q ∈ [Reg.cntCtrl n, .cntStat n, .inlCtrl n, .inlStat n],
      (u.moveDomain m ((u.domLife m).request 0)).rd q = s.rd q := fun n hn q hq => by
    rw [hv.rd_units hm hn hq]
    simp only [List.mem_cons, List.not_mem_nil, or_false] at hq
    rcases hq with rfl | rfl | rfl | rfl <;> refine ha.rd_domain ?_ ?_ <;> simp only [Reg.key] <;> omega
  refine ⟨hrd, State.domainCounters_congr (fun n hn => hrd n hn _ (by simp)) m,
    State.domainInlets_congr (fun n hn => hrd n hn _ (by simp)) m, ?_⟩
  rw [hv.frame, ha.1]

/-- While the shore stands still the counters and inlets stop at the next tick's start. -/
theorem State.OnlyRegs.stop_later :
    let t := u.requestDomain m 0 false
    s.LeavesOn m t ∧ t.domLife m = (s.domLife m).request 0 ∧
    (∀ n, n < 64 → t.cntLife n = s.cntLife n ∧ t.inlLife n = s.inlLife n) ∧
    t.soon = s.soon ++ (s.domainCounters m).map Soon.stopCounter ++ (s.domainInlets m).map Soon.stopInlet := by
  obtain ⟨a, ha, hal, hv⟩ := hu.move_stop hm hst
  obtain ⟨hrd, hcnt, hinl, hsoon⟩ := hu.units_stop hm hst
  dsimp only
  rw [hu.requestDomain_stop hm hst, State.stopUnits_later, hcnt, hinl, hsoon]
  refine ⟨(hv.leavesOn hm ha).settle_of hm rfl fun _ _ => rfl, ?_, fun n hn => ?_, ?_⟩
  · rw [State.domLife_settle, ← hal, ← hv.domLife hm]
    rfl
  · rw [State.cntLife_settle, State.inlLife_settle]
    exact ⟨State.cntLife_of_rd (hrd n hn _ (by simp)) (hrd n hn _ (by simp)),
      State.inlLife_of_rd (hrd n hn _ (by simp)) (hrd n hn _ (by simp))⟩
  · simp

/-- At the start of a tick the counters and inlets stop with their domain. -/
theorem State.OnlyRegs.stop_now :
    let t := u.requestDomain m 0 true
    s.LeavesOn m t ∧ t.domLife m = (s.domLife m).request 0 ∧ t.soon = s.soon ∧ ∀ n, n < 64 →
      (s.chained n = false →
        t.cntLife n = if n ∈ s.domainCounters m then (s.cntLife n).request 0 else s.cntLife n) ∧
      t.inlLife n = if n ∈ s.domainInlets m then (s.inlLife n).request 0 else s.inlLife n := by
  obtain ⟨a, ha, hal, hv⟩ := hu.move_stop hm hst
  obtain ⟨hrd, hcnt, hinl, hsoon⟩ := hu.units_stop hm hst
  dsimp only at hrd hcnt hinl hsoon ⊢
  rw [hu.requestDomain_stop hm hst]
  have hw := (u.moveDomain m ((u.domLife m).request 0)).stopsUnits m
  refine ⟨(hv.leavesOn hm ha).settle_of hm ?_ fun q hq => hw.rd_below hq, ?_, ?_, fun n hn => ⟨fun hc => ?_, ?_⟩⟩
  · rw [hw.frame]
  · rw [State.domLife_settle, State.domLife_of_rd (hw.rd_below (by simp only [Reg.key]; omega))
      (hw.rd_below (by simp only [Reg.key]; omega)), hv.domLife hm, hal]
  · simp only [State.settle_frame]
    rw [hw.frame, ← hsoon]
  · rw [State.cntLife_settle, hw.cnt n hn, hcnt, State.cntLife_of_rd (hrd n hn _ (by simp)) (hrd n hn _ (by simp))]
    rw [State.chained_congr (fun k hk => hrd k hk _ (by simp)) hn, hc]
  · rw [State.inlLife_settle, hw.inl n hn, hinl, State.inlLife_of_rd (hrd n hn _ (by simp)) (hrd n hn _ (by simp))]

end

theorem State.stops_requestDomain {s u : State} {m : Nat} (hm : m < 8) (hu : s.OnlyRegs [.engDctl m] u) (now : Bool) :
    s.Stops m (u.requestDomain m 0 now) := by
  by_cases hst : (s.domLife m).st = 2
  · have h : s.LeavesOn m (u.requestDomain m 0 now) ∧ (u.requestDomain m 0 now).domLife m = (s.domLife m).request 0 := by
      cases now with
      | false => exact ⟨(hu.stop_later hm hst).1, (hu.stop_later hm hst).2.1⟩
      | true => exact ⟨(hu.stop_now hm hst).1, (hu.stop_now hm hst).2.1⟩
    exact ⟨h.2, fun hne => absurd hst hne, fun _ => h.1⟩
  · obtain ⟨hsu, hreq⟩ := hu.request_domLife 0
    have hf := u.domLife_fits m
    have hz : ((u.domLife m).request 0).st = (u.domLife m).st := by
      rw [hf.request_zero_st, if_neg (by rwa [hsu])]
    have hmv := u.moveDomain_light m (hf.request (n := 0) (by decide)) (.inl hz.symm)
    have hall := (hu.mono (l' := [.engDctl m, .engDstat m]) (by simp)).trans hmv.only
    have hsub : u.sub m = s.sub m := State.fld_of_rd (hu.2 _ (by simpa using engDstat_key_ne m)) _
    rw [State.requestDomain_light now (by rw [hz]; omega) hmv]
    refine ⟨?_, fun _ => ⟨fun q hq => ?_, ?_, hall.onlyPins_settle⟩, fun h => absurd h hst⟩
    · rw [State.domLife_settle, hmv.life, hreq]
    · rw [State.rd_settle, hall.2 q hq]
    · rw [State.sub_settle, ← hsub]
      exact hmv.stat _ rfl (by decide) rfl

end Sys2Proof.Machine
end

section
/-! PROOFS. A domain that reaches ARMED or DISARMED (spec/01 R17, R20, R21). -/

namespace Sys2Proof.Machine

/-- The weirs and groups of domain `d` have started (spec/07 R189, R200). -/
structure State.StartsWeirs (s : State) (d : Nat) (t : State) : Prop where
  frame   : t = { s with regs := t.regs, groups := t.groups, weirs := t.weirs }
  rd      : ∀ q : Reg, (∀ g, g < 32 → q.key ≠ (Reg.weirCgpnum g).key) →
    (∀ p, p < 256 → q.key ≠ (Reg.weirLast p).key ∧ q.key ≠ (Reg.weirHist p).key) → t.rd q = s.rd q
  group   : ∀ g, t.group g =
    if g ∈ s.domainGroups d then { armed := s.ticks, deadlines := [], strobe := none } else s.group g
  pnum    : ∀ g, g < 32 → t.rd (.weirCgpnum g) = if g ∈ s.domainGroups d then 0 else s.rd (.weirCgpnum g)
  started : ∀ p, p < 256 → (t.rd (.weirLast p), t.rd (.weirHist p), t.weir p) =
    if p ∈ s.domainLanes d then (s.rd (.weirInit p), s.rd (.weirInit p), { s.weir p with periods := [] })
    else (s.rd (.weirLast p), s.rd (.weirHist p), s.weir p)

theorem State.startsWeirs (s : State) (d : Nat) : s.StartsWeirs d (s.armWeirs d) := by
  let a := (s.domainGroups d).foldl State.startGroup s
  have hg : ∀ g ∈ s.domainGroups d, g < 32 := fun g h => (State.mem_domainGroups.1 h).1
  have hgn : (s.domainGroups d).Nodup := List.nodup_range.filter _
  have ha : ∀ {q : Reg}, (∀ g, g < 32 → q.key ≠ (Reg.weirCgpnum g).key) → a.rd q = s.rd q := fun hq =>
    s.rd_startGroups fun g h => hq g (hg g h)
  have hfa : a = { s with regs := a.regs, groups := a.groups } := s.frame_startGroups _
  have hl : a.domainLanes d = s.domainLanes d := by
    refine List.filter_congr fun p hp => ?_
    have := List.mem_range.1 hp
    rw [State.laneDomain_of_rd (ha fun g hg => by simp only [Reg.key]; omega)]
  have hlt : ∀ p ∈ s.domainLanes d, p < 256 := fun p h => (State.mem_domainLanes.1 h).1
  have ht : s.armWeirs d = (s.domainLanes d).foldl State.startWeir a := by rw [State.armWeirs_eq, ← hl]
  rw [ht]
  refine ⟨?_, fun q h1 h2 => ?_, fun g => ?_, fun g hg => ?_, fun p hp => ?_⟩
  · rw [a.frame_startWeirs, hfa]
  · rw [a.rd_startWeirs fun p hp => h2 p (hlt p hp), ha h1]
  · rw [← s.group_startGroups hgn g, a.frame_startWeirs]
    rfl
  · rw [a.rd_startWeirs, s.pnum_startGroups hgn g]
    intro p hp
    have := hlt p hp
    constructor <;> simp only [Reg.key] <;> omega
  · have hw : a.weir p = s.weir p := by rw [hfa]; rfl
    have hrd : ∀ q ∈ [Reg.weirInit p, .weirLast p, .weirHist p], a.rd q = s.rd q := fun q hq => ha fun g hg => by
      simp only [List.mem_cons, List.not_mem_nil, or_false] at hq
      rcases hq with rfl | rfl | rfl <;> simp only [Reg.key] <;> omega
    rw [a.started_startWeirs (s.domainLanes_nodup d) p, hw, hrd _ (by simp), hrd _ (by simp), hrd _ (by simp)]

/-! ### ARMED -/

theorem State.StartsWeirs.rd_domain {a v : State} {m : Nat} (h : a.StartsWeirs m v) {q : Reg}
    (hq : q = .engDctl m ∨ q = .engDstat m) : v.rd q = a.rd q := by
  refine h.rd q (fun g hg => ?_) fun p hp => ?_ <;> rcases hq with rfl | rfl <;> simp only [Reg.key] <;> omega

theorem State.StartsWeirs.domLife {a v : State} {m : Nat} (h : a.StartsWeirs m v) :
    v.domLife m = a.domLife m :=
  State.domLife_of_rd (h.rd_domain (.inr rfl)) (h.rd_domain (.inl rfl))

section
variable {s : State} {m : Nat} (hst : (s.domLife m).st = 1)
include hst

/-- The move to ARMED: of the domain's own registers the life-cycle and SUB, then its weirs and groups. -/
theorem State.moveDomain_armed : ∃ a, s.OnlyRegs [.engDctl m, .engDstat m] a ∧ a.sub m = 1 ∧
    a.domLife m = { s.domLife m with st := 2 } ∧ a.StartsWeirs m (s.moveDomain m (s.domLife m).arrive) := by
  have hl : (s.domLife m).arrive = { s.domLife m with st := 2 } := by simp [Life.arrive, hst]
  have hf : (s.domLife m).arrive.Fits := (s.domLife_fits m).arrive
  refine ⟨(s.setDomLife m (s.domLife m).arrive).setSub m subArmed, ?_, ?_, ?_, ?_⟩
  · exact (s.onlyRegs_setLife (by simp) (by simp) _ _).trans (State.onlyRegs_setFld _ (by simp) _ _)
  · exact State.fld_setFld_self _ _ rfl _
  · rw [State.setSub, State.domLife_setFld_stat _ _ rfl (by decide), s.domLife_setDomLife m hf, hl]
  · rw [State.moveDomain_eq, hl]
    simp only [hst]
    exact State.startsWeirs _ m

/-- ARMED with nothing latched: the domain's own registers, its weirs and its groups have started. -/
theorem State.domainArrive_armed (hp : (s.domLife m).pend = 0) : ∃ a v, s.OnlyRegs [.engDctl m, .engDstat m] a ∧
    a.StartsWeirs m v ∧ ∃ w, v.OnlyRegs [.engDctl m, .engDstat m] w ∧ s.domainArrive m = w.settle ∧
    w.domLife m = { s.domLife m with st := 2 } ∧ w.sub m = 1 := by
  obtain ⟨a, ha, hsub, hal, hv⟩ := s.moveDomain_armed hst
  have hvl := hv.domLife
  have hon : ((s.moveDomain m (s.domLife m).arrive).domLife m).onward =
      (s.moveDomain m (s.domLife m).arrive).domLife m := by
    rw [hvl, hal]
    simp [Life.onward, hp]
  have hmv := State.moveDomain_light _ m (State.domLife_fits (s.moveDomain m (s.domLife m).arrive) m) (.inl rfl)
  refine ⟨a, _, ha, hv, _, hmv.only, ?_, ?_, ?_⟩
  · unfold State.domainArrive
    dsimp only
    rw [hon, hmv.life, if_neg (by rw [hvl, hal]; simp)]
  · rw [hmv.life, hvl, hal]
  · rw [← hsub]
    exact (hmv.stat _ rfl (by decide) rfl).trans (State.fld_of_rd (hv.rd_domain (.inr rfl)) _)

/-- ARMED with a reset latched: the domain goes on to STOPPING, and its counters are told. -/
theorem State.domainArrive_armed_latched (hm : m < 8) (hp : (s.domLife m).pend = 1) : let t := s.domainArrive m
    t.domLife m = ⟨3, 0, (s.domLife m).en⟩ ∧ t.sub m = 0 ∧ ∀ n ∈ s.domainCounters m, Soon.stopCounter n ∈ t.soon := by
  obtain ⟨a, ha, hsub, hal, hv⟩ := s.moveDomain_armed hst
  have hvl := (hv.domLife).trans hal
  let v := s.moveDomain m (s.domLife m).arrive
  have hon : (v.domLife m).onward = ⟨3, 0, (s.domLife m).en⟩ := by
    rw [hvl]
    simp [Life.onward, hp]
  let b := v.setDomLife m ⟨3, 0, (s.domLife m).en⟩
  have hb : v.OnlyRegs [.engDctl m, .engDstat m] b := v.onlyRegs_setLife (by simp) (by simp) _ _
  have hbl : b.domLife m = ⟨3, 0, (s.domLife m).en⟩ :=
    v.domLife_setDomLife m ⟨by simp, by simp, (s.domLife_fits m).en⟩
  have hw : v.moveDomain m (v.domLife m).onward = b.stopDomain m := by
    rw [hon, State.moveDomain_eq, hvl]
    simp [b]
  have hwd := b.stopsDomain hm
  have hcnt : (b.stopDomain m).domainCounters m = s.domainCounters m := State.domainCounters_congr (fun n hn => calc
    _ = b.rd (.cntCtrl n) := hwd.rd_units hm hn (by simp)
    _ = v.rd (.cntCtrl n) := hb.rd_domain (by simp only [Reg.key]; omega) (by simp only [Reg.key]; omega)
    _ = a.rd (.cntCtrl n) := hv.rd _ (fun g hg => by simp only [Reg.key]; omega)
      (fun p hp => by constructor <;> simp only [Reg.key] <;> omega)
    _ = s.rd (.cntCtrl n) := ha.rd_domain (by simp only [Reg.key]; omega) (by simp only [Reg.key]; omega)) m
  have ht : s.domainArrive m = ((b.stopDomain m).stopUnits m false).settle := by
    unfold State.domainArrive
    dsimp only
    rw [hw, hwd.domLife hm, hbl, if_pos rfl]
  dsimp only
  rw [ht, State.stopUnits_later, hcnt]
  refine ⟨?_, ?_, fun n hn => ?_⟩
  · rw [State.domLife_settle, ← hbl, ← hwd.domLife hm]
    rfl
  · rw [State.sub_settle]
    exact hwd.sub
  · simp [hn]

end

/-! ### DISARMED -/

/-- The domain reaches DISARMED, and goes on to STARTING with a request latched. -/
theorem State.domainArrive_disarmed {s : State} {m : Nat} (hst : (s.domLife m).st = 3) :
    ∃ w, s.OnlyRegs [.engDctl m, .engDstat m] w ∧ s.domainArrive m = w.settle ∧
    w.domLife m = (if (s.domLife m).pend = 1 then ⟨1, 0, (s.domLife m).en⟩ else { s.domLife m with st := 0 }) ∧
    w.fld (.engDstat m) F.engDstat.limitLock = (s.domLife m).pend ∧ w.sub m = s.sub m := by
  have hf := s.domLife_fits m
  have har : (s.domLife m).arrive = { s.domLife m with st := 0 } := by simp [Life.arrive, hst]
  have h1 := s.moveDomain_light m hf.arrive (.inr (.inl (by rw [har])))
  let v := s.moveDomain m (s.domLife m).arrive
  have hvl : v.domLife m = { s.domLife m with st := 0 } := h1.life.trans har
  have hon : (v.domLife m).onward =
      if (s.domLife m).pend = 1 then ⟨1, 0, (s.domLife m).en⟩ else { s.domLife m with st := 0 } := by
    have := hf.pend
    rw [hvl]
    by_cases hp : (s.domLife m).pend = 1
    · simp [Life.onward, hp]
    · have h0 : (s.domLife m).pend = 0 := by omega
      simp [Life.onward, h0]
  have h2 := v.moveDomain_light m (v.domLife_fits m).onward (by rw [hon, hvl]; split <;> simp)
  have hlock : v.fld (.engDstat m) F.engDstat.limitLock = 0 := by
    rw [h1.lock, har, if_neg (by simp [hst])]
  refine ⟨v.moveDomain m (v.domLife m).onward, h1.only.trans h2.only, ?_, h2.life.trans hon, ?_, ?_⟩
  · unfold State.domainArrive
    dsimp only
    rw [h2.life, if_neg (by rw [hon]; split <;> simp)]
  · have := hf.pend
    rw [h2.lock, hon, hvl, hlock]
    split <;> simp_all
    omega
  · exact (h2.stat _ rfl (by decide) rfl).trans (h1.stat _ rfl (by decide) rfl)

end Sys2Proof.Machine
end

section
/-! PROOFS. A whole write by a writer with every right (spec/17 R457, R458), and ENG_DCTL under one (spec/14 R359 to R361). -/

namespace Sys2Proof.Machine

open Sys2Proof

/-! ### Outcomes and rights -/

/-- A command that is one guarded effect answers the effect where its guard holds. -/
theorem Answers.of_run {c : Instr} {s : State} {P : State → Prop} {g : Bool} {f : State → State}
    (hc : exec c s = s.run g f) (hs : s.Live) (hg : g = true) (hP : P (f s)) : Answers c s P :=
  ⟨f s, hc.trans (State.run_next f hs.1 hs.2 hg), hP⟩

theorem permits_secure (c : RegClass) (a : Acc) : permits c a .secure = true := by
  cases c <;> cases a <;> rfl

theorem State.may_of_secure {s : State} {x : Wr} (h : s.rights x.who = .secure) (r : Reg) (f : Fld) :
    s.may x r f = true := by
  rw [State.may, h]
  exact permits_secure _ _

theorem State.filtered_of_secure {s : State} {x : Wr} (h : s.rights x.who = .secure) (r : Reg) : s.filtered x r = false := by
  simp [State.filtered, State.may_of_secure h]

/-- A whole write of a register outside the tick-clocked units acts at once, and is counted where its unit refuses it. -/
theorem State.access_whole {s : State} {w : Who} (hw : s.Writer w) (r : Reg) (d : BitVec 32) (hr : tickClocked r.key = false)
    (h : State → State × Bool) : s.access ⟨w, r.key, d, whole⟩ r h =
      if (h s).2 then (h s).1.violate w 3 r.key true else (h s).1 := by
  obtain ⟨-, hsec, hhost⟩ := hw
  have hb : (isHost w && !s.accepting && !bootWindow r.key) = false := by
    rcases hhost with h | h <;> simp [h]
  have hs : whole ≠ 0 := by decide
  have hd : s.defers r.key = false := by simp [State.defers, hr]
  simp only [State.access, State.accept, if_neg hs, hb, hd, State.perform, State.filtered_of_secure (x := ⟨w, r.key, d, whole⟩) hsec r]
  rfl

/-! ### Fields of a whole write -/

section
variable (w : Who) (k : Nat) (d : BitVec 32)

theorem Wr.mask_whole : (⟨w, k, d, whole⟩ : Wr).mask = BitVec.allOnes 32 := by
  have h : ∀ i < 4, whole.getLsbD i = true := by decide
  simp only [Wr.mask, h, Nat.reduceLT, if_true]
  rfl

theorem Wr.bits_whole (f : Fld) : (⟨w, k, d, whole⟩ : Wr).bits f = f.get d := by
  rw [Wr.bits, Wr.mask_whole, BitVec.and_allOnes]

theorem Wr.val_whole (f : Fld) (old : BitVec 32) : (⟨w, k, d, whole⟩ : Wr).val f old = f.get d := by
  rw [Wr.val, Wr.mask_whole, BitVec.and_allOnes, BitVec.not_allOnes, BitVec.and_zero, BitVec.zero_or]

theorem Wr.full_whole (f : Fld) : (⟨w, k, d, whole⟩ : Wr).full f = true := by
  rw [Wr.full, Wr.mask_whole, BitVec.not_allOnes, BitVec.and_zero]
  rfl

theorem Wr.any_whole {f : Fld} (hf : f.mask ≠ 0) : (⟨w, k, d, whole⟩ : Wr).any f = true := by
  rw [Wr.any, Wr.mask_whole, BitVec.allOnes_and]
  exact decide_eq_true hf

end

/-! ### ENG_DCTL -/

/-- A refused write that would change nothing is not counted. -/
theorem State.takeIf_kept {s : State} {w : Who} {k : Nat} {d : BitVec 32} {r : Reg} {l : List Fld}
    (hl : ∀ f ∈ l, f.get d = s.fld r f) :
    l.foldl (fun y f => State.takeIf false y ⟨w, k, d, whole⟩ r f) (s, false) = (s, false) := by
  induction l with
  | nil => rfl
  | cons f l ih =>
    obtain ⟨hf, hl⟩ := List.forall_mem_cons.1 hl
    rw [List.foldl_cons, State.takeIf, if_neg (by simp), State.changes, Wr.val_whole, hf]
    simpa using ih hl

/-- The descriptor in ENG_DCTL (spec/14 R359). -/
def dctlCfg : List Fld := [F.engDctl.holdmax, F.engDctl.refcg, F.engDctl.loopflt, F.engDctl.dfa, F.engDctl.policy]

/-- The descriptor takes a write while the domain is OFF. -/
def State.takeDctlCfg (s : State) (x : Wr) (m : Nat) : State × Bool :=
  dctlCfg.foldl (fun y f => State.takeIf ((s.domLife m).st == 0) y x (.engDctl m) f) (s, false)

section
variable {s : State} {w : Who} {m : Nat} {d : BitVec 32} (hw : s.rights w = .secure)
include hw

/-- A field that takes a whole write. -/
theorem State.take_whole {k : Nat} (r : Reg) {f : Fld} (hf : f.mask ≠ 0) (ha : f.acc = .prw) :
    s.take ⟨w, k, d, whole⟩ r f = s.setFld r f (f.get d) := by
  have hm : s.may ⟨w, k, d, whole⟩ r f = true := State.may_of_secure hw r f
  simp [State.take, hm, Wr.any_whole w k d hf, ha, Wr.val_whole]

/-- Fields of one register that lie apart from each other, taken in turn, stand in it as written. -/
theorem State.takeIf_whole {k : Nat} (r : Reg) {l : List Fld} (hl : ∀ f ∈ l, f.mask ≠ 0 ∧ f.acc = .prw ∧ f.ok = true)
    (ha : l.Pairwise fun f g => f.apart g = true) :
    ∃ y, l.foldl (fun y f => State.takeIf true y ⟨w, k, d, whole⟩ r f) (s, false) = (y, false) ∧ s.OnlyRegs [r] y ∧
      (∀ f ∈ l, y.fld r f = f.get d) ∧
      ∀ g : Fld, g.ok = true → (∀ f ∈ l, f.apart g = true) → y.fld r g = s.fld r g := by
  induction l generalizing s with
  | nil => exact ⟨s, rfl, .refl _ _, by simp, fun _ _ _ => rfl⟩
  | cons f l ih =>
    obtain ⟨⟨hm, hp, hok⟩, hl⟩ := List.forall_mem_cons.1 hl
    obtain ⟨hf, ha⟩ := List.pairwise_cons.1 ha
    obtain ⟨y, hy, hreg, hin, hout⟩ := ih (s := s.setFld r f (f.get d)) hw hl ha
    refine ⟨y, ?_, (s.onlyRegs_setFld (by simp) f _).trans hreg, List.forall_mem_cons.2 ⟨?_, hin⟩, fun g hg hfg => ?_⟩
    · rw [List.foldl_cons, State.takeIf, if_pos rfl, State.take_whole hw r hm hp]
      exact hy
    · rw [hout f hok fun g hg => ?_, State.fld_setFld_self _ _ hok, Nat.mod_eq_of_lt (f.get_lt d)]
      have := hf g hg
      simp only [Fld.apart, decide_eq_true_eq] at this ⊢
      omega
    · obtain ⟨hg1, hg2⟩ := List.forall_mem_cons.1 hfg
      rw [hout g hg hg2, State.fld_setFld_apart _ _ hok hg hg1]

/-- A descriptor that a write does not change, or takes while OFF, stands in ENG_DCTL behind it. -/
theorem State.takeDctlCfg_whole (h : (s.domLife m).st = 0 ∨ ∀ f ∈ dctlCfg, f.get d = s.fld (.engDctl m) f) {k : Nat} :
    ∃ y, s.takeDctlCfg ⟨w, k, d, whole⟩ m = (y, false) ∧ s.OnlyRegs [.engDctl m] y ∧
      (∀ f ∈ dctlCfg, y.fld (.engDctl m) f = f.get d) ∧ ((s.domLife m).st ≠ 0 → y = s) := by
  by_cases hst : (s.domLife m).st = 0
  · obtain ⟨y, hy, hreg, hin, -⟩ := State.takeIf_whole (k := k) hw (.engDctl m) (l := dctlCfg) (d := d)
      (by decide) (by decide)
    refine ⟨y, ?_, hreg, hin, fun h => absurd hst h⟩
    rw [← hy, State.takeDctlCfg, hst]
    rfl
  · have hk := h.resolve_left hst
    refine ⟨s, ?_, .refl _ _, fun f hf => (hk f hf).symm, fun _ => rfl⟩
    rw [State.takeDctlCfg, beq_false_of_ne hst, State.takeIf_kept hk]

end

/-- A command of 0 is none. -/
theorem State.domainCmd_zero (s : State) (m : Nat) : s.domainCmd m 0 = (s, false) := rfl

section
variable {s y : State} {w : Who} {k m : Nat} {d : BitVec 32}
  (hy : s.takeDctlCfg ⟨w, k, d, whole⟩ m = (y, false)) (hw : y.rights w = .secure)
include hy hw

/-- A write of EN = 1 asks for arming, one of DRST = 1 alone for a reset. -/
theorem writeEngDctl_ask {n : Nat} (hc : F.engDctl.cmd.get d = 0)
    (h : n = 1 ∧ F.engDctl.en.get d = 1 ∧ F.engDctl.drst.get d = 0 ∨
      n = 0 ∧ F.engDctl.en.get d = 0 ∧ F.engDctl.drst.get d = 1) :
    writeEngDctl s ⟨w, k, d, whole⟩ m = (y.askDomain m n, false) := by
  have hmay : ∀ f, y.may ⟨w, k, d, whole⟩ (.engDctl m) f = true := State.may_of_secure hw _
  have hany : (⟨w, k, d, whole⟩ : Wr).any F.engDctl.en = true := Wr.any_whole w k d (by decide)
  unfold State.takeDctlCfg dctlCfg at hy
  unfold writeEngDctl
  rcases h with ⟨rfl, he, hd⟩ | ⟨rfl, he, hd⟩
  · simp [hy, Wr.bits_whole, he, hd, hc, hmay, hany, State.wrote1, State.domainCmd_zero]
  · simp [hy, Wr.bits_whole, he, hd, hc, hmay, State.wrote1, State.domainCmd_zero]

/-- A write with neither is a command. -/
theorem writeEngDctl_cmd (he : F.engDctl.en.get d = 0) (hd : F.engDctl.drst.get d = 0) :
    writeEngDctl s ⟨w, k, d, whole⟩ m = y.domainCmd m (F.engDctl.cmd.get d) := by
  have hmay : ∀ f, y.may ⟨w, k, d, whole⟩ (.engDctl m) f = true := State.may_of_secure hw _
  unfold State.takeDctlCfg dctlCfg at hy
  unfold writeEngDctl
  simp [hy, Wr.bits_whole, he, hd, hmay, State.wrote1, Wr.full_whole]

end

/-- A write of ENG_DCTL by a writer with every right answers what the unit's rule makes of it. -/
theorem Answers.of_dctl {c : Instr} {s t : State} {w : Who} {m : Nat} {d : BitVec 32} {P : State → Prop}
    (hc : exec c s = execDctl w m d whole s) (hw : s.Writer w) (hm : m < 8)
    (h : writeEngDctl s ⟨w, (Reg.engDctl m).key, d, whole⟩ m = (t, false)) (hP : P t) : Answers c s P := by
  have hr : tickClocked (Reg.engDctl m).key = false := by
    have h : ¬0x720000 ≤ (Reg.engDctl m).key := by
      simp only [Reg.key]
      omega
    simp [tickClocked, h]
  unfold execDctl at hc
  refine Answers.of_run hc hw.1 (decide_eq_true hm) ?_
  rwa [s.access_whole hw _ d hr, h]

end Sys2Proof.Machine
end

section
/-! PROOFS. Requests to arm and to reset a domain, as written and as they act (spec/14 R361; spec/18 R483, R485). -/

namespace Sys2Proof.Machine

open Sys2Proof

/-- A request writes EN. -/
theorem Life.en_request (l : Life) {n : Nat} (hn : n = 0 ∨ n = 1) : (l.request n).en = n := by
  unfold Life.request
  split <;> simp_all

/-- A request that acts at once keeps the descriptor in ENG_DCTL. -/
theorem State.fld_ctrl_requestDomain (u : State) {m n : Nat} (hm : m < 8) (hn : n = 0 ∨ n = 1) {f : Fld} (hf : f.ok = true)
    (ha : F.engDctl.en.apart f = true) : (u.requestDomain m n false).fld (.engDctl m) f = u.fld (.engDctl m) f := by
  have hfit := u.domLife_fits m
  have light : (u.domLife m).st = 3 ∨ ((u.domLife m).request n).st ≠ 3 →
      (u.domLife m).st = ((u.domLife m).request n).st ∨ ((u.domLife m).request n).st = 0 ∨
        ((u.domLife m).request n).st = 1 →
      (u.requestDomain m n false).fld (.engDctl m) f = u.fld (.engDctl m) f := fun h h' => by
    have hmv := u.moveDomain_light m (hfit.request (n := n) (by omega)) h'
    rw [State.requestDomain_light false h hmv, State.fld_settle, hmv.ctrl f hf ha]
  rcases hn with rfl | rfl
  · have hz := hfit.request_zero_st
    by_cases h2 : (u.domLife m).st = 2
    · have hs := State.moveDomain_stop hm h2
      rw [(State.OnlyRegs.refl u _).requestDomain_stop hm h2, State.fld_settle, State.stopUnits_later,
        ← u.fld_setLife_ctrl (stat := .engDstat m) ⟨3, (u.domLife m).pend, 0⟩ (engDstat_key_ne m) rfl hf ha]
      exact State.fld_of_rd (hs.rd_domain hm (.inl rfl)) f
    · rw [if_neg h2] at hz
      exact light (by omega) (.inl hz.symm)
  · have hone := hfit.request_one_st
    exact light (by rw [hone]; split <;> omega) (by rw [hone]; split <;> simp_all)

section
variable {s y : State} {m n : Nat} (hy : s.OnlyRegs [.engDctl m] y)
include hy

/-- An accepted request while shore time runs waits for the next tick, with EN as written. -/
theorem State.OnlyRegs.askDomain_runs (hr : s.shoreRuns = true) :
    s.RegsBut [.engDctl m] (y.askDomain m n) ∧
    y.askDomain m n = { s with regs := (y.askDomain m n).regs, soon := s.soon ++ [.domain m n] } := by
  have hu : s.OnlyRegs [.engDctl m] (y.setFld (.engDctl m) F.engDctl.en n) := hy.trans (y.onlyRegs_setFld (by simp) _ _)
  have hyr : (y.setFld (.engDctl m) F.engDctl.en n).shoreRuns = true := by
    rw [hu.1]
    exact hr
  have h : y.askDomain m n = (y.setFld (.engDctl m) F.engDctl.en n).later (.domain m n) := if_pos hyr
  refine ⟨fun q hq => ?_, ?_⟩
  · rw [h, ← hu.2 q hq]
    rfl
  · rw [h, State.later, hu.1]

/-- While shore time stands still it acts at once. -/
theorem State.OnlyRegs.askDomain_stands (hr : s.shoreRuns = false) :
    ∃ u, s.OnlyRegs [.engDctl m] u ∧ y.askDomain m n = u.requestDomain m n false := by
  have hu : s.OnlyRegs [.engDctl m] (y.setFld (.engDctl m) F.engDctl.en n) := hy.trans (y.onlyRegs_setFld (by simp) _ _)
  refine ⟨_, hu, if_neg ?_⟩
  rw [hu.1]
  simp [hr]

end

/-- Of ENG_DCTL an accepted request changes EN alone. -/
theorem State.ctrl_askDomain (y : State) {m n : Nat} (hm : m < 8) (hn : n = 0 ∨ n = 1) :
    (y.askDomain m n).fld (.engDctl m) F.engDctl.en = n ∧
    ∀ f ∈ dctlCfg, (y.askDomain m n).fld (.engDctl m) f = y.fld (.engDctl m) f := by
  have hcfg : ∀ f ∈ dctlCfg, f.ok = true ∧ F.engDctl.en.apart f = true := by decide
  let u := y.setFld (.engDctl m) F.engDctl.en n
  have hue : u.fld (.engDctl m) F.engDctl.en = n := by
    rw [State.fld_setFld_self _ _ rfl]
    exact Nat.mod_eq_of_lt (by rcases hn with rfl | rfl <;> decide)
  have huc : ∀ f ∈ dctlCfg, u.fld (.engDctl m) f = y.fld (.engDctl m) f := fun f hf =>
    State.fld_setFld_apart _ _ rfl (hcfg f hf).1 (hcfg f hf).2 _
  by_cases hr : u.shoreRuns = true
  · have h : y.askDomain m n = u.later (.domain m n) := if_pos hr
    rw [h]
    exact ⟨hue, huc⟩
  · have h : y.askDomain m n = u.requestDomain m n false := if_neg hr
    rw [h]
    refine ⟨?_, fun f hf => ?_⟩
    · have hl : (u.requestDomain m n false).domLife m = (u.domLife m).request n := by
        rcases hn with rfl | rfl
        · exact (State.stops_requestDomain hm (.refl u _) false).1
        · exact (State.arms_requestDomain (.refl u _) false).1
      calc (u.requestDomain m n false).fld (.engDctl m) F.engDctl.en
        _ = ((u.domLife m).request n).en := congrArg Life.en hl
        _ = n := Life.en_request _ hn
    · rw [u.fld_ctrl_requestDomain hm hn (hcfg f hf).1 (hcfg f hf).2, huc f hf]

section
variable {s : State} {w : Who} {m : Nat} {d : BitVec 32} (hw : s.Writer w) (hm : m < 8)
include hw hm

/-- DOMAIN_ARM (spec/14 R361). -/
theorem answers_domainArm (he : F.engDctl.en.get d = 1) (hd : F.engDctl.drst.get d = 0) (hc : F.engDctl.cmd.get d = 0)
    (hk : (s.domLife m).st = 0 ∨ ∀ f ∈ dctlCfg, f.get d = s.fld (.engDctl m) f) :
    Answers (.domainArm w m d whole) s fun t =>
      (∀ f ∈ dctlCfg, t.fld (.engDctl m) f = f.get d) ∧ t.fld (.engDctl m) F.engDctl.en = 1 ∧
      (s.shoreRuns = false → s.Arms m t) ∧
      (s.shoreRuns = true → s.RegsBut [.engDctl m] t ∧
        t = { s with regs := t.regs, soon := s.soon ++ [.domain m 1] }) := by
  obtain ⟨y, hy, hreg, hcfg, -⟩ := State.takeDctlCfg_whole hw.2.1 hk (k := (Reg.engDctl m).key)
  have hyw : y.rights w = .secure := by
    rw [hreg.1]
    exact hw.2.1
  obtain ⟨hen, hkeep⟩ := y.ctrl_askDomain (n := 1) hm (.inr rfl)
  refine Answers.of_dctl rfl hw hm (writeEngDctl_ask hy hyw hc (.inl ⟨rfl, he, hd⟩)) ?_
  refine ⟨fun f hf => (hkeep f hf).trans (hcfg f hf), hen, fun hr => ?_, fun hr => hreg.askDomain_runs hr⟩
  obtain ⟨u, hu, ht⟩ := hreg.askDomain_stands (n := 1) hr
  rw [ht]
  exact State.arms_requestDomain hu false

/-- DOMAIN_RESET (spec/14 R361). -/
theorem answers_domainReset (he : F.engDctl.en.get d = 0) (hd : F.engDctl.drst.get d = 1) (hc : F.engDctl.cmd.get d = 0)
    (hk : ∀ f ∈ dctlCfg, f.get d = s.fld (.engDctl m) f) :
    Answers (.domainReset w m d whole) s fun t =>
      t.fld (.engDctl m) F.engDctl.en = 0 ∧ (∀ f ∈ dctlCfg, t.fld (.engDctl m) f = s.fld (.engDctl m) f) ∧
      (s.shoreRuns = true → s.RegsBut [.engDctl m] t ∧
        t = { s with regs := t.regs, soon := s.soon ++ [.domain m 0] }) ∧
      (s.shoreRuns = false → s.Stops m t ∧ ((s.domLife m).st = 2 →
        (∀ n, n < 64 → t.cntLife n = s.cntLife n ∧ t.inlLife n = s.inlLife n) ∧
        t.soon = s.soon ++ (s.domainCounters m).map Soon.stopCounter ++ (s.domainInlets m).map Soon.stopInlet)) := by
  obtain ⟨y, hy, hreg, hcfg, -⟩ := State.takeDctlCfg_whole hw.2.1 (.inr hk) (k := (Reg.engDctl m).key)
  have hyw : y.rights w = .secure := by
    rw [hreg.1]
    exact hw.2.1
  obtain ⟨hen, hkeep⟩ := y.ctrl_askDomain (n := 0) hm (.inl rfl)
  refine Answers.of_dctl rfl hw hm (writeEngDctl_ask hy hyw hc (.inr ⟨rfl, he, hd⟩)) ?_
  refine ⟨hen, fun f hf => (hkeep f hf).trans ((hcfg f hf).trans (hk f hf)), fun hr => hreg.askDomain_runs hr, fun hr => ?_⟩
  obtain ⟨u, hu, ht⟩ := hreg.askDomain_stands (n := 0) hr
  rw [ht]
  refine ⟨State.stops_requestDomain hm hu false, fun hst => ?_⟩
  obtain ⟨-, -, hunits, hsoon⟩ := hu.stop_later hm hst
  exact ⟨hunits, hsoon⟩

end

/-- What the start of a domain makes of each weir. -/
theorem State.StartsWeirs.weirs {s t : State} {d : Nat} (h : s.StartsWeirs d t) (p : Nat) (hp : p < 256) :
    (t.rd (.weirLast p) = if p ∈ s.domainLanes d then s.rd (.weirInit p) else s.rd (.weirLast p)) ∧
    (t.rd (.weirHist p) = if p ∈ s.domainLanes d then s.rd (.weirInit p) else s.rd (.weirHist p)) ∧
    t.weir p = if p ∈ s.domainLanes d then { s.weir p with periods := [] } else s.weir p := by
  have e := h.started p hp
  by_cases hd : p ∈ s.domainLanes d
  · simpa only [hd, if_true, Prod.mk.injEq] using e
  · simpa only [hd, if_false, Prod.mk.injEq] using e

section
variable {s : State} {m : Nat} (hs : s.Live) (hm : m < 8)
include hs hm

/-- DOMAIN_ARMED with nothing latched (spec/01 R17). -/
theorem answers_domainArmed (hst : (s.domLife m).st = 1) (hc : s.countersArmed m = true) (hp : (s.domLife m).pend = 0) :
    Answers (.domainArmed m) s fun t =>
      t.domLife m = { s.domLife m with st := 2 } ∧ t.sub m = 1 ∧
      (∀ g, g < 32 → (t.group g) = if s.bit (.weirCgctl g) F.weirCgctl.domv ∧ s.fld (.weirCgctl g) F.weirCgctl.dom = m
        then { armed := s.ticks, deadlines := [], strobe := none } else s.group g) ∧
      (∀ g, g < 32 → t.rd (.weirCgpnum g) = if s.bit (.weirCgctl g) F.weirCgctl.domv ∧
        s.fld (.weirCgctl g) F.weirCgctl.dom = m then 0 else s.rd (.weirCgpnum g)) ∧
      (∀ p, p < 256 → ∀ q ∈ [Reg.weirLast p, .weirHist p],
        t.rd q = if s.laneDomain p = some m then s.rd (.weirInit p) else s.rd q) ∧
      (∀ p, p < 256 → t.weir p = if s.laneDomain p = some m then { s.weir p with periods := [] } else s.weir p) ∧
      (∀ q : Reg, q.key ≠ (Reg.engDctl m).key → q.key ≠ (Reg.engDstat m).key →
        (∀ g, g < 32 → q.key ≠ (Reg.weirCgpnum g).key) →
        (∀ p, p < 256 → q.key ≠ (Reg.weirLast p).key ∧ q.key ≠ (Reg.weirHist p).key) → t.rd q = s.rd q) ∧
      State.OnlyPins { s with regs := t.regs, groups := t.groups, weirs := t.weirs } t := by
  obtain ⟨a, v, ha, hv, u, hu, ht, hlife, hsub⟩ := State.domainArrive_armed hst hp
  have har : ∀ {q : Reg}, q.key ≠ (Reg.engDctl m).key → q.key ≠ (Reg.engDstat m).key → a.rd q = s.rd q := ha.rd_domain
  have hur : ∀ {q : Reg}, q.key ≠ (Reg.engDctl m).key → q.key ≠ (Reg.engDstat m).key → u.rd q = v.rd q := hu.rd_domain
  have hcg : ∀ g, g < 32 → ∀ f, a.fld (.weirCgctl g) f = s.fld (.weirCgctl g) f := fun g hg =>
    State.fld_of_rd (har (by simp only [Reg.key]; omega) (by simp only [Reg.key]; omega))
  have hgroup : ∀ g, g < 32 → (g ∈ a.domainGroups m ↔
      s.bit (.weirCgctl g) F.weirCgctl.domv = true ∧ s.fld (.weirCgctl g) F.weirCgctl.dom = m) := fun g hg => by
    rw [State.mem_domainGroups, State.bit, hcg g hg, hcg g hg]
    exact and_iff_right hg
  have hlane : ∀ p, p < 256 → (p ∈ a.domainLanes m ↔ s.laneDomain p = some m) := fun p hp => by
    rw [State.mem_domainLanes, State.laneDomain_of_rd
      (har (by simp only [Reg.key]; omega) (by simp only [Reg.key]; omega))]
    exact and_iff_right hp
  have hframe : u = { s with regs := u.regs, groups := u.groups, weirs := u.weirs } := by
    rw [hu.1, hv.frame, ha.1]
  refine Answers.of_run (g := decide (m < 8) && (s.domLife m).st == 1 && s.countersArmed m)
    (f := fun s => s.domainArrive m) rfl hs (by simp [hm, hst, hc]) ?_
  dsimp only
  rw [ht]
  refine ⟨?_, ?_, fun g hg => ?_, fun g hg => ?_, fun p hp q hq => ?_, fun p hp => ?_, fun q h1 h2 h3 h4 => ?_, ?_⟩
  · rw [State.domLife_settle, hlife]
  · rw [State.sub_settle, hsub]
  · have h := hv.group g
    simp only [hgroup g hg] at h
    have hug : u.settle.group g = v.group g := by
      simp only [State.group, State.settle_frame]
      rw [hu.1]
    rw [hug, h, ha.1]
    rfl
  · have h := hv.pnum g hg
    simp only [hgroup g hg] at h
    rw [State.rd_settle, hur (by simp only [Reg.key]; omega) (by simp only [Reg.key]; omega), h,
      har (by simp only [Reg.key]; omega) (by simp only [Reg.key]; omega)]
  · obtain ⟨hlast, hhist, -⟩ := hv.weirs p hp
    simp only [hlane p hp] at hlast hhist
    have hi : a.rd (.weirInit p) = s.rd (.weirInit p) :=
      har (by simp only [Reg.key]; omega) (by simp only [Reg.key]; omega)
    have hqk : q.key ≠ (Reg.engDctl m).key ∧ q.key ≠ (Reg.engDstat m).key := by
      simp only [List.mem_cons, List.not_mem_nil, or_false] at hq
      rcases hq with rfl | rfl <;> constructor <;> simp only [Reg.key] <;> omega
    rw [State.rd_settle, hur hqk.1 hqk.2, ← har hqk.1 hqk.2, ← hi]
    simp only [List.mem_cons, List.not_mem_nil, or_false] at hq
    rcases hq with rfl | rfl
    · exact hlast
    · exact hhist
  · obtain ⟨-, -, hweir⟩ := hv.weirs p hp
    have huw : u.settle.weir p = v.weir p := by
      simp only [State.weir, State.settle_frame]
      rw [hu.1]
    have haw : a.weir p = s.weir p := by
      rw [ha.1]
      rfl
    simp only [hlane p hp, haw] at hweir
    rw [huw, hweir]
  · rw [State.rd_settle, hur h1 h2, hv.rd q h3 h4, har h1 h2]
  · have h : u = { s with regs := u.settle.regs, groups := u.settle.groups, weirs := u.settle.weirs } := by
      simpa using hframe
    rw [← h]
    exact u.follows_settle.onlyPins

/-- DOMAIN_ARMED with a reset latched (spec/01 R20). -/
theorem answers_domainArmed_latched (hst : (s.domLife m).st = 1) (hc : s.countersArmed m = true)
    (hp : (s.domLife m).pend = 1) : Answers (.domainArmed m) s fun t =>
      t.domLife m = ⟨3, 0, (s.domLife m).en⟩ ∧ t.sub m = 0 ∧ ∀ n ∈ s.domainCounters m, Soon.stopCounter n ∈ t.soon :=
  Answers.of_run (g := decide (m < 8) && (s.domLife m).st == 1 && s.countersArmed m)
    (f := fun s => s.domainArrive m) rfl hs (by simp [hm, hst, hc]) (State.domainArrive_armed_latched hst hm hp)

/-- DOMAIN_DISARMED (spec/01 R17, R20). -/
theorem answers_domainDisarmed (hst : (s.domLife m).st = 3) (hr : s.shoreRuns = true) :
    Answers (.domainDisarmed m) s fun t =>
      t.domLife m = (if (s.domLife m).pend = 1 then ⟨1, 0, (s.domLife m).en⟩ else { s.domLife m with st := 0 }) ∧
      t.fld (.engDstat m) F.engDstat.limitLock = (s.domLife m).pend ∧ t.sub m = s.sub m ∧
      s.RegsBut [.engDctl m, .engDstat m] t ∧ State.OnlyPins { s with regs := t.regs } t := by
  obtain ⟨u, hu, ht, hlife, hlock, hsub⟩ := State.domainArrive_disarmed hst
  refine Answers.of_run (g := decide (m < 8) && (s.domLife m).st == 3 && s.shoreRuns)
    (f := fun s => s.domainArrive m) rfl hs (by simp [hm, hst, hr]) ?_
  dsimp only
  rw [ht, State.domLife_settle, State.fld_settle, State.sub_settle]
  exact ⟨hlife, hlock, hsub, fun q hq => (State.rd_settle u q).trans (hu.2 q hq), hu.onlyPins_settle⟩

end

end Sys2Proof.Machine
end

section
/-! PROOFS. The sub-states of a domain (spec/14 R360, R362, R363): what is asked for, the freeze with its C and its F, and the
entry to a sub-state. -/

namespace Sys2Proof.Machine

open Sys2Proof

theorem State.domain_setDomain_ne (s : State) {d x : Nat} (y : Domain) (h : x ≠ d) : (s.setDomain d y).domain x = s.domain x :=
  SMap.get_put_ne y _ _ h

theorem satInc_lt (n x : Nat) : satInc n x < 2 ^ n := by
  have := Nat.two_pow_pos n
  unfold satInc
  split <;> omega

/-! ### Commands -/

section
variable {s : State} {w : Who} {m : Nat} {d : BitVec 32} (hw : s.Writer w) (hm : m < 8) (hon : s.domainOn m = true)
  (he : F.engDctl.en.get d = 0) (hd : F.engDctl.drst.get d = 0)
  (hk : ∀ f ∈ dctlCfg, f.get d = s.fld (.engDctl m) f)
include hw hm hon he hd hk

/-- A command to a domain that is ON, in a write that leaves its descriptor. -/
theorem Answers.of_domainCmd {c : Instr} {t : State} {P : State → Prop} (hc : exec c s = execDctl w m d whole s)
    (h : s.domainCmd m (F.engDctl.cmd.get d) = (t, false)) (hP : P t) : Answers c s P := by
  obtain ⟨y, hy, -, -, hsame⟩ := State.takeDctlCfg_whole hw.2.1 (.inr hk) (k := (Reg.engDctl m).key)
  have hst : (s.domLife m).st = 2 := beq_iff_eq.1 hon
  obtain rfl := hsame (by omega)
  exact Answers.of_dctl hc hw hm ((writeEngDctl_cmd hy hw.2.1 he hd).trans h) hP

/-- CMD RESUME and CMD SAFE ask for a sub-state (spec/14 R360). -/
theorem answers_askSub {c : Instr} {n : Nat} (hc : exec c s = execDctl w m d whole s)
    (h : s.domainCmd m (F.engDctl.cmd.get d) = (s.askSub m n, false)) : Answers c s fun t =>
      t.domain m = { s.domain m with next := some n, asked := s.ticks } ∧ (∀ x, x ≠ m → t.domain x = s.domain x) ∧
      s.RegsBut [] t ∧ State.OnlyPins { s with regs := t.regs, domains := t.domains } t := by
  refine Answers.of_domainCmd hw hm hon he hd hk hc h ⟨?_, fun x hx => ?_, fun _ _ => rfl, rfl, fun _ => rfl⟩
  · exact s.domain_setDomain_self m _
  · exact s.domain_setDomain_ne _ hx

theorem answers_cmdResume (hc : F.engDctl.cmd.get d = 1) (hsub : s.sub m = 4 ∨ s.sub m = 5) :
    Answers (.cmdResume w m d whole) s fun t =>
      t.domain m = { s.domain m with next := some 2, asked := s.ticks } ∧ (∀ x, x ≠ m → t.domain x = s.domain x) ∧
      s.RegsBut [] t ∧ State.OnlyPins { s with regs := t.regs, domains := t.domains } t := by
  refine answers_askSub hw hm hon he hd hk rfl ?_
  simp [State.domainCmd, hc, hon, hsub, subHold, subSafe, subRun]

theorem answers_cmdSafe (hc : F.engDctl.cmd.get d = 2) (h1 : 1 ≤ s.sub m) (h4 : s.sub m ≤ 4) :
    Answers (.cmdSafe w m d whole) s fun t =>
      t.domain m = { s.domain m with next := some 5, asked := s.ticks } ∧ (∀ x, x ≠ m → t.domain x = s.domain x) ∧
      s.RegsBut [] t ∧ State.OnlyPins { s with regs := t.regs, domains := t.domains } t := by
  refine answers_askSub hw hm hon he hd hk rfl ?_
  simp [State.domainCmd, hc, hon, h1, h4, subHold, subSafe]

/-- CMD HOLD freezes at once (spec/14 R362). -/
theorem answers_cmdHold (hc : F.engDctl.cmd.get d = 3) (h1 : 1 ≤ s.sub m) (h3 : s.sub m ≤ 3) :
    Answers (.cmdHold w m d whole) s fun t =>
      t.domain m = { s.domain m with froze := some (s.ticks, s.sub m), stopped := false, switched := false } ∧
      (∀ x, x ≠ m → t.domain x = s.domain x) ∧
      t.sub m = 4 ∧ t.fld (.engDstat m) F.engDstat.holdcnt = 0 ∧ t.domLife m = s.domLife m ∧
      s.Counts (.engDcnt m) F.engDcnt.freezes t ∧
      (∀ f ∈ [F.engDcnt.takeovers, F.engDcnt.rollbacks, F.engDcnt.laneswaps],
        t.fld (.engDcnt m) f = s.fld (.engDcnt m) f) ∧
      s.RegsBut [.engDstat m, .engDcnt m] t ∧ State.OnlyPins { s with regs := t.regs, domains := t.domains } t := by
  have hcmd : s.domainCmd m (F.engDctl.cmd.get d) = (s.freeze m false, false) := by
    simp [State.domainCmd, hc, hon, h1, h3, subCoast]
  have hkey : (Reg.engDstat m).key ≠ (Reg.engDcnt m).key := by simp only [Reg.key]; omega
  let a := s.setSub m subHold
  let b := a.incSat (.engDcnt m) F.engDcnt.freezes
  let v := b.setFld (.engDstat m) F.engDstat.holdcnt 0
  have hv : s.OnlyRegs [.engDstat m, .engDcnt m] v :=
    ((s.onlyRegs_setFld (by simp) _ _).trans (a.onlyRegs_setFld (by simp) _ _)).trans (b.onlyRegs_setFld (by simp) _ _)
  have hbs : ∀ f, b.fld (.engDstat m) f = a.fld (.engDstat m) f := fun f => a.fld_setFld_ne _ _ _ hkey
  have hvc : ∀ f, v.fld (.engDcnt m) f = b.fld (.engDcnt m) f := fun f => b.fld_setFld_ne _ _ _ hkey.symm
  have hac : ∀ f, a.fld (.engDcnt m) f = s.fld (.engDcnt m) f := fun f => s.fld_setFld_ne _ _ _ hkey.symm
  refine Answers.of_domainCmd hw hm hon he hd hk rfl hcmd
    ⟨?_, fun x hx => ?_, ?_, ?_, ?_, ?_, fun f hf => ?_, hv.2, rfl, fun _ => rfl⟩
  · exact v.domain_setDomain_self m _
  · exact v.domain_setDomain_ne _ hx
  · have h : v.sub m = a.sub m := (b.fld_setFld_apart _ rfl rfl rfl 0).trans (hbs _)
    exact h.trans (s.fld_setFld_self _ rfl _)
  · exact b.fld_setFld_self _ rfl 0
  · have hva : v.domLife m = b.domLife m := b.domLife_setFld_stat m rfl (by decide) 0
    have hba : b.domLife m = a.domLife m := State.domLife_of_rd (a.rd_setFld_ne _ _ hkey)
      (a.rd_setFld_ne _ _ (by simp only [Reg.key]; omega))
    exact hva.trans (hba.trans (s.domLife_setFld_stat m rfl (by decide) _))
  · calc v.fld (.engDcnt m) F.engDcnt.freezes
      _ = satInc 8 (a.fld (.engDcnt m) F.engDcnt.freezes) % 2 ^ 8 := (hvc _).trans (a.fld_setFld_self _ rfl _)
      _ = satInc 8 (s.fld (.engDcnt m) F.engDcnt.freezes) := by rw [Nat.mod_eq_of_lt (satInc_lt _ _), hac]
  · have hf' : f.ok = true ∧ F.engDcnt.freezes.apart f = true := by
      revert f
      decide
    calc v.fld (.engDcnt m) f
      _ = a.fld (.engDcnt m) f := (hvc f).trans (a.fld_setFld_apart _ rfl hf'.1 hf'.2 _)
      _ = s.fld (.engDcnt m) f := hac f

end

/-! ### C -/

/-- Lane `p` where commit stops (spec/14 R363). -/
def State.stoppedLane (s : State) (p : Nat) : Lane :=
  { s.lane p with held := s.heldPeriod p, queue := (s.lane p).queue.filter (fun y => !s.withdrawn p y),
                  core := (s.lane p).core.filter (fun y => !s.withdrawn p y.1) }

/-- Weir `p` where commit stops. -/
def State.stoppedWeir (s : State) (p : Nat) : Weir :=
  { s.weir p with periods := (s.weir p).periods.filter fun y => !s.unstarted p y }

theorem State.lane_stopCommit (s : State) (p : Nat) : (s.stopCommit p).lane p = s.stoppedLane p :=
  s.lane_setLane_self p _

theorem State.lane_stopCommit_ne (s : State) {p q : Nat} (h : q ≠ p) : (s.stopCommit p).lane q = s.lane q :=
  s.lane_setLane_ne _ h

theorem State.weir_stopCommit (s : State) (p : Nat) : (s.stopCommit p).weir p = s.stoppedWeir p :=
  (State.weir_setWeir _ p p _).trans (if_pos rfl)

theorem State.weir_stopCommit_ne (s : State) {p q : Nat} (h : q ≠ p) : (s.stopCommit p).weir q = s.weir q :=
  (State.weir_setWeir _ p q _).trans (if_neg h)

theorem State.frame_stopCommits (s : State) (l : List Nat) : l.foldl State.stopCommit s =
    { s with lanes := (l.foldl State.stopCommit s).lanes, weirs := (l.foldl State.stopCommit s).weirs } :=
  foldl_related (R := fun s t => t = { s with lanes := t.lanes, weirs := t.weirs }) (fun _ => rfl)
    (fun h h' => by rw [h', h]) (fun _ _ _ => rfl) s

/-- What a stop of commit makes of lane and weir `p` follows from these, from the registers and from the time. -/
theorem State.stopped_congr {s t : State} {p : Nat} (hl : s.lane p = t.lane p) (hw : s.weir p = t.weir p)
    (hr : s.regs = t.regs) (ht : s.ticks = t.ticks) :
    s.stoppedLane p = t.stoppedLane p ∧ s.stoppedWeir p = t.stoppedWeir p := by
  have hf : ∀ r f, s.fld r f = t.fld r f := State.fld_congr hr
  have hnow : s.now = t.now := by rw [State.now, ht, State.now]
  have hlead : s.lead (s.groupOf p) = t.lead (t.groupOf p) := by simp only [State.lead, State.groupOf, hf]
  have hper : s.per (s.groupOf p) = t.per (t.groupOf p) := by simp only [State.per, State.groupOf, hf]
  have hun : s.unstarted p = t.unstarted p := by
    unfold State.unstarted
    rw [hnow, ht, hlead]
  have hwd : s.withdrawn p = t.withdrawn p := by
    funext y
    simp only [State.withdrawn, hw, hun]
  have hheld : s.heldPeriod p = t.heldPeriod p := by
    unfold State.heldPeriod
    rw [hw, hnow, hper]
  simp only [State.stoppedLane, State.stoppedWeir, hl, hw, hun, hwd, hheld, and_self]

theorem State.stopCommits (s : State) {l : List Nat} (hn : l.Nodup) (p : Nat) :
    let t := l.foldl State.stopCommit s
    t.lane p = (if p ∈ l then s.stoppedLane p else s.lane p) ∧
    t.weir p = if p ∈ l then s.stoppedWeir p else s.weir p := by
  have h := foldl_at (f := State.stopCommit) (p := p) (fun s => (s.lane p, s.weir p))
    (fun s => (s.lane p, s.weir p, s.regs, s.ticks)) hn
    (fun s q hq => by rw [s.lane_stopCommit_ne hq.symm, s.weir_stopCommit_ne hq.symm])
    (fun s q hq => by
      rw [s.lane_stopCommit_ne hq.symm, s.weir_stopCommit_ne hq.symm]
      rfl)
    (fun s t e => by
      simp only [Prod.mk.injEq] at e
      obtain ⟨hl, hw, hr, ht⟩ := e
      obtain ⟨h1, h2⟩ := State.stopped_congr hl hw hr ht
      rw [s.lane_stopCommit, t.lane_stopCommit, s.weir_stopCommit, t.weir_stopCommit, h1, h2]) s
  rw [s.lane_stopCommit, s.weir_stopCommit] at h
  by_cases hp : p ∈ l
  · simpa only [hp, if_true, Prod.mk.injEq] using h
  · simpa only [hp, if_false, Prod.mk.injEq] using h

section
variable {s : State} {m : Nat} (hs : s.Live) (hm : m < 8) (hon : s.domainOn m = true)
include hs hm hon

/-- FREEZE_COMMIT_STOP (spec/14 R363). -/
theorem answers_freezeCommitStop (hsub : s.sub m = 4) (hstop : (s.domain m).stopped = false) :
    Answers (.freezeCommitStop m) s fun t =>
      t.domain m = { s.domain m with stopped := true } ∧ (∀ x, x ≠ m → t.domain x = s.domain x) ∧
      (∀ p, p < 256 → (t.lane p).lvl = (s.lane p).lvl ∧ (t.lane p).oe = (s.lane p).oe ∧
        (s.laneDomain p = some m → (t.lane p).held = s.heldPeriod p ∧
          (t.lane p).queue = (s.lane p).queue.filter (fun y => !s.withdrawn p y) ∧
          (t.lane p).core = (s.lane p).core.filter (fun y => !s.withdrawn p y.1) ∧
          t.weir p = { s.weir p with periods := (s.weir p).periods.filter fun y => !s.unstarted p y }) ∧
        (s.laneDomain p ≠ some m → (t.lane p).held = (s.lane p).held ∧ (t.lane p).queue = (s.lane p).queue ∧
          (t.lane p).core = (s.lane p).core ∧ t.weir p = s.weir p)) ∧
      t = { s with domains := t.domains, lanes := t.lanes, weirs := t.weirs } := by
  let a := s.setDomain m { s.domain m with stopped := true }
  let v := (a.domainLanes m).foldl State.stopCommit a
  have hv := a.frame_stopCommits (a.domainLanes m)
  have hvd : v.domains = a.domains := by
    rw [show v = _ from hv]
  have hg : s.freezing m = true := by simp [State.freezing, hon, hsub, hstop, subHold]
  refine Answers.of_run (g := decide (m < 8) && s.freezing m) (f := fun s => s.commitStop m) rfl hs (by simp [hm, hg]) ?_
  have ht : s.commitStop m = v.settle := rfl
  dsimp only
  rw [ht]
  refine ⟨?_, fun x hx => ?_, fun p hp => ?_, ?_⟩
  · rw [State.domain_settle, State.domain, hvd]
    exact s.domain_setDomain_self m _
  · rw [State.domain_settle, State.domain, hvd]
    exact s.domain_setDomain_ne _ hx
  · obtain ⟨hlane, hweir⟩ := a.stopCommits (a.domainLanes_nodup m) p
    have hmem : p ∈ a.domainLanes m ↔ s.laneDomain p = some m := State.mem_domainLanes.trans (and_iff_right hp)
    obtain ⟨hlvl, hoe, hqueue, hcore, hheld⟩ := v.lane_settle p
    have hw : v.settle.weir p = v.weir p := by simp [State.weir]
    rw [hlvl, hoe, hqueue, hcore, hheld, hw, show v.lane p = _ from hlane, show v.weir p = _ from hweir]
    simp only [hmem]
    by_cases hd : s.laneDomain p = some m
    · simp only [hd, if_true, ne_eq, not_true_eq_false, false_implies, true_implies, and_true]
      exact ⟨rfl, rfl, rfl, rfl, rfl, rfl⟩
    · simp only [hd, if_false, ne_eq, not_false_eq_true, false_implies, true_implies, true_and]
      exact ⟨rfl, rfl, rfl, rfl, rfl, rfl⟩
  · rw [v.follows_settle.frame, show v = _ from hv]
    rfl

end

end Sys2Proof.Machine
end

section
/-! PROOFS. The F of a freeze and the entry to a sub-state (spec/14 R360, R363, R365). -/

namespace Sys2Proof.Machine

open Sys2Proof

/-- Each lane of `l` changes by a rule of its own state and the tick. -/
def State.modLanes (s : State) (g : Nat → Lane → Lane) (l : List Nat) : State :=
  l.foldl (fun s p => s.modLane p (g s.ticks)) s

theorem State.frame_modLanes (s : State) (g : Nat → Lane → Lane) (l : List Nat) :
    s.modLanes g l = { s with lanes := (s.modLanes g l).lanes } := by
  unfold State.modLanes
  refine foldl_related (R := fun s t => t = { s with lanes := t.lanes }) (fun _ => rfl) (fun h h' => by rw [h', h]) ?_ s
  exact fun _ _ _ => rfl

theorem State.lane_modLanes (s : State) (g : Nat → Lane → Lane) {l : List Nat} (hn : l.Nodup) (p : Nat) :
    (s.modLanes g l).lane p = if p ∈ l then g s.ticks (s.lane p) else s.lane p := by
  have self : ∀ s : State, (s.modLane p (g s.ticks)).lane p = g s.ticks (s.lane p) := fun s => s.lane_setLane_self p _
  have other : ∀ (s : State) q, q ≠ p → (s.modLane q (g s.ticks)).lane p = s.lane p := fun s q hq =>
    s.lane_setLane_ne _ hq.symm
  have h := foldl_at (f := fun s p => s.modLane p (g s.ticks)) (p := p) (fun s => s.lane p)
    (fun s => (s.ticks, s.lane p)) hn other
    (fun s q hq => by
      rw [other s q hq]
      rfl)
    (fun s t e => by
      simp only [Prod.mk.injEq] at e
      obtain ⟨ht, hl⟩ := e
      rw [self s, self t, ht, hl]) s
  rwa [self s] at h

/-- A held period starts again in tick `t`. -/
def Lane.restart (t : Nat) (x : Lane) : Lane := { x with held := x.held.map fun h => { h with start := 32 * t } }

/-- A lane holds no period. -/
def Lane.free (x : Lane) : Lane := { x with held := none }

/-- Domain `m` at its F, before its lanes or its sub-state follow. -/
def State.switchDomain (s : State) (m : Nat) : State :=
  s.setDomain m { s.domain m with switched := true, fTick := s.ticks }

theorem State.freezeSwitch_safe {s : State} {m : Nat} (h : s.bit (.engDctl m) F.engDctl.dfa = true) :
    s.freezeSwitch m = ((s.switchDomain m).setSub m subSafe).settle := if_pos h

theorem State.freezeSwitch_restart {s : State} {m : Nat} (h : s.bit (.engDctl m) F.engDctl.dfa = false) :
    s.freezeSwitch m = ((s.switchDomain m).modLanes Lane.restart (s.domainLanes m)).settle :=
  if_neg (Bool.eq_false_iff.1 h)

theorem State.enterSub_run (s : State) (m : Nat) : s.enterSub m 2 =
    (((s.setSub m 2).setDomain m .init).modLanes (fun _ => Lane.free) (s.domainLanes m)).settle := by
  have hl : (s.setSub m 2).domainLanes m = s.domainLanes m := State.domainLanes_congr (fun p =>
    s.rd_setFld_ne _ _ (by simp only [Reg.key]; omega)) m
  rw [← hl]
  rfl

/-- The record of a domain that enters a sub-state but RUN: what was asked for is done, and before F a freeze has reached
its F (spec/14 R363). -/
def State.enteredDomain (s : State) (m : Nat) : Domain :=
  if s.sub m = 4 ∧ (s.domain m).switched = false then
    { s.domain m with next := none, switched := true, fTick := s.ticks }
  else { s.domain m with next := none }

/-- ENG_DSTAT alone of the registers changes with SUB, and not the life-cycle. -/
theorem State.onlyRegs_setSub (s : State) (m n : Nat) : s.OnlyRegs [.engDstat m] (s.setSub m n) :=
  s.onlyRegs_setFld (by simp) _ _

theorem State.domLife_setSub (s : State) (m n : Nat) : (s.setSub m n).domLife m = s.domLife m :=
  s.domLife_setFld_stat m rfl (by decide) n

theorem State.sub_setSub (s : State) {m n : Nat} (hn : n < 8) : (s.setSub m n).sub m = n :=
  (s.fld_setFld_self _ rfl n).trans (Nat.mod_eq_of_lt hn)

theorem State.enterSub_other (s : State) {m n : Nat} (hn : n ≠ 2) : ∃ v : State, s.enterSub m n = v.settle ∧
    v.domain m = s.enteredDomain m ∧ v = { s.setSub m n with domains := v.domains } := by
  refine ⟨_, if_neg hn, (State.domain_setDomain_self _ m _).trans ?_, ?_⟩
  · by_cases h : s.sub m = 4 ∧ (s.domain m).switched = false
    · have hf : (s.sub m == subHold && !(s.domain m).switched) = true := by simp [h, subHold]
      rw [if_pos hf, State.domain_setDomain_self, State.enteredDomain, if_pos h]
      rfl
    · have hf : ¬(s.sub m == subHold && !(s.domain m).switched) = true := by simpa [subHold] using h
      rw [if_neg hf, State.enteredDomain, if_neg h]
      rfl
  · split <;> rfl

/-- Behind an entry to sub-state `n`: of the registers SUB has changed, and RUN has freed the held lanes (spec/14 R360,
R363, R365). -/
structure State.Enters (s : State) (m n : Nat) (t : State) : Prop where
  sub    : t.sub m = n
  life   : t.domLife m = s.domLife m
  domain : t.domain m = if n = 2 then .init else s.enteredDomain m
  lane   : ∀ p, p < 256 → (t.lane p).held = (if n = 2 ∧ s.laneDomain p = some m then none else (s.lane p).held) ∧
    (t.lane p).queue = (s.lane p).queue ∧ (t.lane p).lvl = (s.lane p).lvl ∧ (t.lane p).oe = (s.lane p).oe
  regs   : s.RegsBut [.engDstat m] t
  frame  : t = { s with regs := t.regs, domains := t.domains, lanes := t.lanes }

/-- The pins may settle once the sub-state has been entered. -/
theorem State.Enters.settle {s v : State} {m n : Nat} (h : s.Enters m n v) : s.Enters m n v.settle where
  sub := (State.sub_settle v m).trans h.sub
  life := (State.domLife_settle v m).trans h.life
  domain := (State.domain_settle v m).trans h.domain
  lane := fun p hp => by
    obtain ⟨hlvl, hoe, hqueue, -, hheld⟩ := v.lane_settle p
    rw [hlvl, hoe, hqueue, hheld]
    exact h.lane p hp
  regs := fun q hq => (State.rd_settle v q).trans (h.regs q hq)
  frame := by
    rw [v.follows_settle.frame, h.frame]

theorem State.enters (s : State) {m n : Nat} (hn : n < 8) : s.Enters m n (s.enterSub m n) := by
  have hreg := s.onlyRegs_setSub m n
  by_cases h2 : n = 2
  · subst h2
    have hv := ((s.setSub m 2).setDomain m .init).frame_modLanes (fun _ => Lane.free) (s.domainLanes m)
    rw [State.enterSub_run]
    refine State.Enters.settle ⟨?_, ?_, ?_, fun p hp => ?_, fun q hq => ?_, ?_⟩
    · rw [hv]
      exact s.sub_setSub hn
    · rw [hv]
      exact s.domLife_setSub m 2
    · rw [hv, if_pos rfl]
      exact (s.setSub m 2).domain_setDomain_self m Domain.init
    · have hmem : p ∈ s.domainLanes m ↔ s.laneDomain p = some m := State.mem_domainLanes.trans (and_iff_right hp)
      rw [State.lane_modLanes _ _ (s.domainLanes_nodup m)]
      simp only [hmem, true_and]
      split <;> exact ⟨rfl, rfl, rfl, rfl⟩
    · rw [hv, ← hreg.2 q hq]
      rfl
    · rw [hv]
      rfl
  · obtain ⟨v, ht, hdom, hv⟩ := s.enterSub_other (m := m) h2
    rw [ht]
    refine State.Enters.settle ⟨?_, ?_, ?_, fun p hp => ?_, fun q hq => ?_, ?_⟩
    · rw [hv]
      exact s.sub_setSub hn
    · rw [hv]
      exact s.domLife_setSub m n
    · rw [hdom, if_neg h2]
    · rw [hv, if_neg (by simp [h2])]
      exact ⟨rfl, rfl, rfl, rfl⟩
    · rw [hv, ← hreg.2 q hq]
      rfl
    · rw [hv]
      rfl

section
variable {s : State} {m : Nat} (hs : s.Live) (hm : m < 8) (hon : s.domainOn m = true)
include hs hm hon

/-- FREEZE_SWITCH (spec/14 R363). -/
theorem answers_freezeSwitch (hsub : s.sub m = 4) (hstop : (s.domain m).stopped = true)
    (hsw : (s.domain m).switched = false) (hr : s.shoreRuns = true) (hstart : s.atPeriodStart m = true) :
    Answers (.freezeSwitch m) s fun t =>
      t.domain m = { s.domain m with switched := true, fTick := s.ticks } ∧
      (s.bit (.engDctl m) F.engDctl.dfa = true → t.sub m = 5 ∧ t.domLife m = s.domLife m ∧ s.RegsBut [.engDstat m] t ∧
        State.OnlyPins { s with regs := t.regs, domains := t.domains } t) ∧
      (s.bit (.engDctl m) F.engDctl.dfa = false → (∀ p, p < 256 → (t.lane p).held = if s.laneDomain p = some m
        then (s.lane p).held.map (fun h => { h with start := s.now }) else (s.lane p).held) ∧
        t = { s with domains := t.domains, lanes := t.lanes }) := by
  have hg : s.switchDue m = true := by simp [State.switchDue, hon, hsub, hstop, hsw, hr, hstart, subHold]
  refine Answers.of_run (g := decide (m < 8) && s.switchDue m) (f := fun s => s.freezeSwitch m) rfl hs (by simp [hm, hg]) ?_
  dsimp only
  cases hd : s.bit (.engDctl m) F.engDctl.dfa with
  | true =>
    have hreg := (s.switchDomain m).onlyRegs_setSub m subSafe
    rw [State.freezeSwitch_safe hd]
    refine ⟨?_, fun _ => ⟨?_, ?_, fun q hq => ?_, ?_⟩, nofun⟩
    · exact (State.domain_settle _ m).trans (s.domain_setDomain_self m _)
    · exact (State.sub_settle _ m).trans (State.sub_setSub _ (by decide))
    · exact (State.domLife_settle _ m).trans (State.domLife_setSub _ m _)
    · exact (State.rd_settle _ q).trans (hreg.2 q hq)
    · simp only [State.settle_frame]
      exact (State.follows_settle _).onlyPins
  | false =>
    have hv := (s.switchDomain m).frame_modLanes Lane.restart (s.domainLanes m)
    rw [State.freezeSwitch_restart hd]
    refine ⟨?_, nofun, fun _ => ⟨fun p hp => ?_, ?_⟩⟩
    · rw [State.domain_settle, hv]
      exact s.domain_setDomain_self m _
    · have hmem : p ∈ s.domainLanes m ↔ s.laneDomain p = some m := State.mem_domainLanes.trans (and_iff_right hp)
      obtain ⟨-, -, -, -, hheld⟩ := State.lane_settle ((s.switchDomain m).modLanes Lane.restart (s.domainLanes m)) p
      rw [hheld, State.lane_modLanes _ _ (s.domainLanes_nodup m)]
      simp only [hmem]
      split <;> rfl
    · rw [(State.follows_settle _).frame, hv]
      rfl

/-- DOMAIN_SUBSTATE_CHANGE (spec/14 R360, R363). -/
theorem answers_domainSubstateChange {n : Nat} (hr : s.shoreRuns = true) (hask : (s.domain m).asked < s.ticks)
    (hstart : s.atPeriodStart m = true) (hnext : (s.domain m).next = some n)
    (hC : s.sub m = 4 → n = 5 → (s.domain m).stopped = true) (hn : n < 8) :
    Answers (.domainSubstateChange m) s (s.Enters m n) := by
  have hc : s.sub m ≠ 4 ∨ n ≠ 5 ∨ (s.domain m).stopped = true := by
    by_cases h4 : s.sub m = 4
    · by_cases h5 : n = 5
      · exact .inr (.inr (hC h4 h5))
      · exact .inr (.inl h5)
    · exact .inl h4
  have hdue : s.subDue m = some n := by
    simp [State.subDue, hnext, hon, hr, hask, hstart, subHold, subSafe, or_assoc, hc]
  have hexec : exec (.domainSubstateChange m) s = s.run (decide (m < 8)) fun s => s.enterSub m n := by
    show execDomainSubstateChange m s = _
    rw [execDomainSubstateChange, hdue]
  exact Answers.of_run hexec hs (decide_eq_true hm) (s.enters hn)

/-- HOLDMAX_EXPIRY (spec/14 R360). -/
theorem answers_holdmaxExpiry (hsub : s.sub m = 4) (hsw : (s.domain m).switched = true)
    (hmax : s.fld (.engDctl m) F.engDctl.holdmax ≠ 0)
    (hcnt : s.fld (.engDctl m) F.engDctl.holdmax ≤ s.fld (.engDstat m) F.engDstat.holdcnt) :
    Answers (.holdmaxExpiry m) s (s.Enters m 5) := by
  have hdue : s.holdmaxDue m = true := by simp [State.holdmaxDue, hon, hsub, hsw, hmax, hcnt, subHold]
  exact Answers.of_run (g := decide (m < 8) && s.holdmaxDue m) (f := fun s => s.enterSub m subSafe) rfl hs
    (by simp [hm, hdue]) (s.enters (by decide))

end

end Sys2Proof.Machine
end

section
/-! PROOFS. Domains change state (O46): the clauses put together. -/

namespace Sys2Proof.Machine

open Sys2Proof

theorem State.mem_domainCounters {s : State} {m n : Nat} (hn : n < 64) : n ∈ s.domainCounters m ↔
    (s.bit (.cntCtrl n) F.cntCtrl.domv && s.fld (.cntCtrl n) F.cntCtrl.dom == m) = true := by
  rw [State.domainCounters, List.mem_filter, List.mem_range]
  exact and_iff_right hn

theorem State.mem_domainInlets {s : State} {m n : Nat} (hn : n < 64) : n ∈ s.domainInlets m ↔
    (s.bit (.inlCtrl n) F.inlCtrl.domv && s.fld (.inlCtrl n) F.inlCtrl.dom == m) = true := by
  rw [State.domainInlets, List.mem_filter, List.mem_range]
  exact and_iff_right hn

/-- Settles O46: each request is that of a domain, a counter or an inlet in its life-cycle (spec/01 R17 to R21), each
sub-state's change that of its register, its record and its lanes. -/
theorem domainsChangeState : Obligations.DomainsChangeState := by
  unfold Obligations.DomainsChangeState
  intro s w m d hs hm
  dsimp only
  refine ⟨fun hw he hd hc hk => answers_domainArm hw hm he hd hc hk, State.arms_requestDomain (.refl s _) true,
    fun hst hc hp => answers_domainArmed hs hm hst hc hp, fun hst hc hp => ?_,
    fun hw he hd hc hk => answers_domainReset hw hm he hd hc hk,
    ⟨State.stops_requestDomain hm (.refl s _) true, fun hst => ?_⟩,
    fun n _ => ⟨fun hch => ?_, s.inlLife_stopInlet n⟩,
    fun hst hr => answers_domainDisarmed hs hm hst hr,
    fun hw hon he hd hk => ⟨answers_cmdResume hw hm hon he hd hk, answers_cmdSafe hw hm hon he hd hk,
      answers_cmdHold hw hm hon he hd hk⟩,
    fun hon => answers_freezeCommitStop hs hm hon,
    fun hon => answers_freezeSwitch hs hm hon, fun c hcase n hon hnext hmax hn hC => ?_⟩
  · obtain ⟨t, ht, hlife, hsub, hsoon⟩ := answers_domainArmed_latched hs hm hst hc hp
    exact ⟨t, ht, hlife, hsub, fun n hn hin => hsoon n ((State.mem_domainCounters hn).2 hin)⟩
  · obtain ⟨-, -, hsoon, hunits⟩ := (State.OnlyRegs.refl s [.engDctl m]).stop_now hm hst
    refine ⟨hsoon, fun n hn => ?_⟩
    have h := hunits n hn
    simp only [State.mem_domainCounters hn, State.mem_domainInlets hn] at h
    exact h
  · exact (s.cntLife_stopCounter n).trans (by rw [hch]; rfl)
  · have hent : Answers c s (s.Enters m n) := by
      rcases hcase with ⟨rfl, hr, hask, hstart⟩ | ⟨rfl, hsub, hsw, hm0, hcnt⟩
      · exact answers_domainSubstateChange hs hm hon hr hask hstart (hnext rfl) hC hn
      · rw [hmax rfl]
        exact answers_holdmaxExpiry hs hm hon hsub hsw hm0 hcnt
    obtain ⟨t, ht, h⟩ := hent
    exact ⟨t, ht, h.sub, h.life, h.domain, h.lane, h.regs, h.frame⟩

end Sys2Proof.Machine
end

section
/-! PROOFS. One thread changes: the relation, its composition, and a boundary at which nothing waits (spec/05 R126, R127). -/

namespace Sys2Proof.Machine

/-- Nothing but thread `t` of engine `e` has changed, which is `x` now. -/
def State.OnlyThread (s : State) (e t : Nat) (x : Thread) (s' : State) : Prop :=
  s'.thread e t = x ∧ (∀ e' t', 32 * e' + t' ≠ 32 * e + t → s'.thread e' t' = s.thread e' t') ∧
  s' = { s with threads := s'.threads }

theorem State.OnlyThread.refl (s : State) (e t : Nat) : s.OnlyThread e t (s.thread e t) s := ⟨rfl, fun _ _ _ => rfl, rfl⟩

theorem State.onlyThread_setThread (s : State) (e t : Nat) (x : Thread) : s.OnlyThread e t x (s.setThread e t x) :=
  ⟨s.thread_setThread_self e t x, fun _ _ h => s.thread_setThread_ne x h, rfl⟩

theorem State.onlyThread_modThread (s : State) (e t : Nat) (f : Thread → Thread) :
    s.OnlyThread e t (f (s.thread e t)) (s.modThread e t f) := s.onlyThread_setThread e t _

theorem State.OnlyThread.trans {s s' s'' : State} {e t : Nat} {x y : Thread} (h : s.OnlyThread e t x s')
    (h' : s'.OnlyThread e t y s'') : s.OnlyThread e t y s'' := by
  obtain ⟨-, ho, hf⟩ := h
  obtain ⟨hy, ho', hf'⟩ := h'
  exact ⟨hy, fun e' t' hk => (ho' e' t' hk).trans (ho e' t' hk), by rw [hf', hf]⟩

/-- No command waits for the thread's boundary, and debug asks for nothing there. -/
structure Thread.Idle (x : Thread) : Prop where
  queue    : x.cmdQueue = []
  haltReq  : x.haltReq = false
  stepping : x.stepping = false

/-- Debug's requests leave such a thread as it is. -/
theorem Thread.Idle.halts {x : Thread} (h : x.Idle) :
    { x with stepping := false, haltReq := false, halted := x.halted || x.haltReq } = x := by
  obtain ⟨-, hh, hs⟩ := h
  cases x
  simp_all

/-- A boundary at which nothing waits changes nothing. -/
theorem State.boundary_idle {s : State} {e t : Nat} (h : (s.thread e t).Idle) :
    s.OnlyThread e t (s.thread e t) (s.boundary e t) := by
  have hx := s.onlyThread_setThread e t (s.thread e t)
  unfold State.boundary
  dsimp only
  rw [h.halts]
  split
  · exact .refl s e t
  · split <;> simp [h.queue, hx, State.OnlyThread.refl]

/-- A saturating counter one further reads so. -/
theorem State.fld_incSat (s : State) (r : Reg) {f : Fld} (hf : f.ok = true) : (s.incSat r f).fld r f = satInc f.width (s.fld r f) := by
  rw [State.incSat, State.fld_setFld_self _ _ hf, Nat.mod_eq_of_lt (satInc_lt _ _)]

/-- A thread that is parked (spec/05 R125). -/
def Thread.parkedBy (x : Thread) (cause : Nat) : Thread :=
  { x with st := .parked, inhdl := false, rep := none, savedRep := none, byStop := false, pair := none,
           parkCause := cause, parkPc := x.pc }

/-- What parking a thread does: to the thread, and to the counter of parks (spec/05 R125). -/
structure State.Parks (s : State) (e t cause : Nat) (s' : State) : Prop where
  thread : s'.thread e t = (s.thread e t).parkedBy cause
  others : ∀ e' t', 32 * e' + t' ≠ 32 * e + t → s'.thread e' t' = s.thread e' t'
  count  : s'.fld (.engParkcnt e) F.engParkcnt.count =
    satInc F.engParkcnt.count.width (s.fld (.engParkcnt e) F.engParkcnt.count)
  rd     : s.RegsBut [.engParkcnt e] s'
  frame  : s' = { s with regs := s'.regs, threads := s'.threads }

theorem State.parks (s : State) (e t cause : Nat) : s.Parks e t cause (s.park e t cause) where
  thread := s.thread_modThread_self e t fun x => x.parkedBy cause
  others := fun _ _ hk => s.thread_modThread_ne (fun x => x.parkedBy cause) hk
  count := State.fld_incSat _ _ rfl
  rd := fun _ hr => State.rd_setFld_ne _ _ _ (hr _ (by simp))
  frame := rfl

end Sys2Proof.Machine
end

section
/-! PROOFS. The issue of one instruction (spec/02 R24 to R40, R58, R63): what its slot leaves behind, whatever its effect. -/

namespace Sys2Proof.Machine

/-! ### The slot and the issue counters -/

@[simp] theorem State.engine_modEngine_self (s : State) (e : Nat) (f : Engine → Engine) :
    (s.modEngine e f).engine e = f (s.engine e) := s.engine_setEngine_self e _

theorem State.engine_modEngine_ne (s : State) {e e' : Nat} (f : Engine → Engine) (h : e' ≠ e) :
    (s.modEngine e f).engine e' = s.engine e' := s.engine_setEngine_ne _ h

/-- A slot that is used changes the engine's place in its rotation only. -/
theorem State.useSlot_frame (s : State) (e t : Nat) : s.useSlot e t = { s with engines := (s.useSlot e t).engines } := by
  unfold State.useSlot
  split <;> rfl

@[simp] theorem State.thread_useSlot (s : State) (e t e' t' : Nat) : (s.useSlot e t).thread e' t' = s.thread e' t' := by
  rw [s.useSlot_frame]
  rfl

@[simp] theorem State.rd_useSlot (s : State) (e t : Nat) (r : Reg) : (s.useSlot e t).rd r = s.rd r := by
  rw [s.useSlot_frame]
  rfl

@[simp] theorem State.fld_useSlot (s : State) (e t : Nat) (r : Reg) (f : Fld) : (s.useSlot e t).fld r f = s.fld r f :=
  State.fld_of_rd (s.rd_useSlot e t r) f

@[simp] theorem State.roleOf_useSlot (s : State) (e t e' : Nat) : (s.useSlot e t).roleOf e' = s.roleOf e' :=
  s.fld_useSlot e t _ _

theorem State.engine_useSlot (s : State) (e t : Nat) : (s.useSlot e t).engine e =
    if (s.thread e t).midPair then s.engine e
    else { s.engine e with slot := (s.nextSlot e).1, boostPtr := (s.nextSlot e).2.1, slotAt := s.ticks } := by
  unfold State.useSlot
  split
  · rfl
  · exact s.engine_modEngine_self e _

theorem State.engine_useSlot_ne (s : State) {e e' : Nat} (t : Nat) (h : e' ≠ e) :
    (s.useSlot e t).engine e' = s.engine e' := by
  unfold State.useSlot
  split
  · rfl
  · exact s.engine_modEngine_ne _ h

theorem State.engine_useSlot_place (s : State) (e t : Nat) : (s.useSlot e t).engine e =
    { s.engine e with slot := ((s.useSlot e t).engine e).slot, boostPtr := ((s.useSlot e t).engine e).boostPtr,
                      slotAt := ((s.useSlot e t).engine e).slotAt } := by
  rw [s.engine_useSlot]
  split <;> rfl

@[simp] theorem State.sb_useSlot (s : State) (e t : Nat) : ((s.useSlot e t).engine e).sb = (s.engine e).sb := by
  rw [s.engine_useSlot]
  split <;> rfl

theorem State.slotUsed_useSlot (s : State) (e t : Nat) : s.SlotUsed e t (s.useSlot e t) := by
  refine ⟨fun h => ?_, fun h => ?_⟩ <;> simp [s.engine_useSlot, h]

/-- A field that is the whole register. -/
theorem Fld.put_whole (a : Acc) (x : BitVec 32) (v : Nat) : Fld.put ⟨31, 0, a⟩ x v = BitVec.ofNat 32 v := by
  refine BitVec.eq_of_getLsbD_eq fun i hi => ?_
  have hin : 0 ≤ i ∧ i ≤ 31 := by omega
  rw [Fld.put_getLsbD rfl, if_pos hin, BitVec.getLsbD_ofNat, decide_eq_true hi]
  rfl

theorem Fld.get_whole (a : Acc) (x : BitVec 32) : Fld.get ⟨31, 0, a⟩ x = x.toNat := by
  simp [Fld.get, Fld.width, Nat.mod_eq_of_lt x.isLt]

/-- A counter of 32 bits one further. -/
theorem State.rd_incWrap_whole (s : State) (r : Reg) (a : Acc) : (s.incWrap r ⟨31, 0, a⟩).rd r = s.rd r + 1 := by
  rw [State.incWrap, State.setFld, State.rd_wr_self, Fld.put_whole, State.fld, Fld.get_whole]
  simp [BitVec.ofNat_add]

/-- The issue is counted by one of the two counters; of the thread the pairing state alone changes. -/
theorem State.countIssue_eq (s : State) (e t : Nat) (o : Op) (pc : Word) : ∃ p m,
    s.countIssue e t o pc = (s.modThread e t fun x => { x with pair := p, midPair := m }).incWrap (.engIssuecnt e) F.engIssuecnt.issue ∨
    s.countIssue e t o pc = (s.modThread e t fun x => { x with pair := p, midPair := m }).incWrap (.engPaircnt e) F.engPaircnt.pair := by
  unfold State.countIssue
  dsimp only
  split
  · split
    · exact ⟨_, _, .inr rfl⟩
    · exact ⟨_, _, .inl rfl⟩
  · exact ⟨_, _, .inl rfl⟩

/-- A thread that leaves the queue for an iterator changes that queue only. -/
theorem State.leaveIter_engines (s : State) (e t : Nat) : (∃ w, (s.leaveIter e t).engine e = { s.engine e with iterWait := w }) ∧
    (∀ e', e' ≠ e → (s.leaveIter e t).engine e' = s.engine e') ∧
    s.leaveIter e t = { s with engines := (s.leaveIter e t).engines } := by
  unfold State.leaveIter
  split
  · exact ⟨⟨_, s.engine_modEngine_self e _⟩, fun _ h => s.engine_modEngine_ne _ h, rfl⟩
  · exact ⟨⟨_, rfl⟩, fun _ _ => rfl, rfl⟩

/-! ### The end of an issue -/

/-- What follows the effect of an instruction at `pc`: its issue is counted, the thread goes on at `next` with load `l` in
flight, and what waits for its boundary happens. -/
def State.retire (s : State) (e t : Nat) (o : Op) (pc : Word) (l : Option Load) (next : Word) : State :=
  (((s.countIssue e t o pc).advance e t l next).leaveIter e t).boundary e t

/-- `s'` is `v` behind such an issue: the thread is at `pc` with `l` in flight, one of the issue counters has counted, and
the engine's queue for its iterators alone may be shorter. -/
structure State.Retired (v : State) (e t : Nat) (l : List Load) (pc : Word) (s' : State) : Prop where
  thread  : ∃ p m, s'.thread e t = { v.thread e t with loads := l, pc := pc, bpSkip := false, pair := p, midPair := m }
  others  : ∀ e' t', 32 * e' + t' ≠ 32 * e + t → s'.thread e' t' = v.thread e' t'
  counted : v.Counted e s'
  rd      : v.RegsBut [.engIssuecnt e, .engPaircnt e] s'
  engine  : ∃ w, s'.engine e = { v.engine e with iterWait := w }
  engines : ∀ e', e' ≠ e → s'.engine e' = v.engine e'
  frame   : s' = { v with threads := s'.threads, regs := s'.regs, engines := s'.engines }

/-- Of a thread with no load in flight none ages. -/
theorem Thread.age_of_no_loads {x : Thread} (h : x.loads = []) : x.age = x := by
  cases x
  simp_all [Thread.age]

theorem State.counted_issue (s : State) (e : Nat) : s.Counted e (s.incWrap (.engIssuecnt e) F.engIssuecnt.issue) :=
  .inl ⟨State.rd_incWrap_whole _ _ _, State.rd_wr_ne _ _ (by simp only [Reg.key]; omega)⟩

theorem State.counted_pair (s : State) (e : Nat) : s.Counted e (s.incWrap (.engPaircnt e) F.engPaircnt.pair) :=
  .inr ⟨State.rd_incWrap_whole _ _ _, State.rd_wr_ne _ _ (by simp only [Reg.key]; omega)⟩

/-- The count of an issue changes its counter and the thread's pairing state. -/
theorem State.countIssue_counts (s : State) (e t : Nat) (o : Op) (pc : Word) : ∃ p m s₁,
    s.OnlyThread e t { s.thread e t with pair := p, midPair := m } s₁ ∧ s₁.Counted e (s.countIssue e t o pc) ∧
    s₁.OnlyRegs [.engIssuecnt e, .engPaircnt e] (s.countIssue e t o pc) := by
  obtain ⟨p, m, h | h⟩ := s.countIssue_eq e t o pc <;> rw [h]
  · exact ⟨p, m, _, s.onlyThread_modThread e t _, State.counted_issue _ e, State.onlyRegs_setFld _ (by simp) _ _⟩
  · exact ⟨p, m, _, s.onlyThread_modThread e t _, State.counted_pair _ e, State.onlyRegs_setFld _ (by simp) _ _⟩

/-- A thread with no load in flight goes on with the one it begins. -/
theorem State.onlyThread_advance {s : State} {e t : Nat} (h : (s.thread e t).loads = []) (l : Option Load) (pc : Word) :
    s.OnlyThread e t { s.thread e t with loads := l.toList, pc := pc, bpSkip := false } (s.advance e t l pc) := by
  have hx : s.OnlyThread e t { (s.thread e t).age with
      loads := (s.thread e t).age.loads ++ l.toList, pc := pc, bpSkip := false } (s.advance e t l pc) :=
    s.onlyThread_modThread e t _
  rwa [Thread.age_of_no_loads h, h] at hx

/-- An issue of a thread for which nothing waits, and which has no load in flight, retires. -/
theorem State.retired {v : State} {e t : Nat} (hi : (v.thread e t).Idle) (hl : (v.thread e t).loads = []) (o : Op) (pc : Word)
    (l : Option Load) (next : Word) : v.Retired e t l.toList next (v.retire e t o pc l next) := by
  obtain ⟨p, m, s₁, ⟨hx₁, ho₁, hf₁⟩, hcount, hf₂, hrd⟩ := v.countIssue_counts e t o pc
  unfold State.retire
  generalize v.countIssue e t o pc = c at *
  have hthr : ∀ e' t', c.thread e' t' = s₁.thread e' t' := fun e' t' => by rw [hf₂]; rfl
  have hxc : c.thread e t = { v.thread e t with pair := p, midPair := m } := (hthr e t).trans hx₁
  obtain ⟨hx₃, ho₃, hf₃⟩ := State.onlyThread_advance (s := c) (e := e) (t := t) (by rw [hxc]; exact hl) l next
  rw [hxc] at hx₃
  generalize c.advance e t l next = a at *
  obtain ⟨⟨w, hw⟩, hw', hf₄⟩ := a.leaveIter_engines e t
  have hthr' : ∀ e' t', (a.leaveIter e t).thread e' t' = a.thread e' t' := fun e' t' => by rw [hf₄]; rfl
  generalize a.leaveIter e t = q at *
  obtain ⟨hx₅, ho₅, hf₅⟩ := State.boundary_idle (s := q) (e := e) (t := t)
    (by rw [hthr', hx₃]; exact ⟨hi.queue, hi.haltReq, hi.stepping⟩)
  generalize q.boundary e t = F at *
  have hregs : F.regs = c.regs := by rw [hf₅, hf₄, hf₃]
  have hengs : F.engines = q.engines := by rw [hf₅]
  have hv : a.engines = v.engines := by rw [hf₃, hf₂, hf₁]
  refine ⟨⟨p, m, ?_⟩, fun e' t' hk => ?_, ?_, ?_, ⟨w, ?_⟩, fun e' he => ?_, ?_⟩
  · rw [hx₅, hthr', hx₃]
  · rw [ho₅ _ _ hk, hthr', ho₃ _ _ hk, hthr, ho₁ _ _ hk]
  · have h₁ : ∀ r, s₁.rd r = v.rd r := State.rd_congr (by rw [hf₁])
    have hF : ∀ r, F.rd r = c.rd r := State.rd_congr hregs
    simpa only [State.Counted, hF, h₁] using hcount
  · exact fun r hr => (State.rd_congr hregs r).trans ((hrd r hr).trans (State.rd_congr (by rw [hf₁]) r))
  · simpa only [State.engine, hengs, hv] using hw
  · simpa only [State.engine, hengs, hv] using hw' e' he
  · rw [hf₅, hf₄, hf₃, hf₂, hf₁]

/-! ### An instruction that meets nothing on its way -/

section
variable {s : State} {e t : Nat} {o : Op}

theorem State.Clear.idle (h : s.Clear e t o) : (s.thread e t).Idle := ⟨h.queue, h.halt.1, h.halt.2⟩

/-- Its effect is all that happens in the slot before the issue is counted. -/
theorem State.Clear.issueOp (h : s.Clear e t o) {v : State} {l : Option Load} {j : Option Word}
    (hr : (s.useSlot e t).runOp e t o false (s.thread e t).pc (s.after e t o) = .next v l j) :
    s.issueOp e t o = v.retire e t o (s.thread e t).pc l (j.getD (s.after e t o)) := by
  have hw : (s.useSlot e t).wordsOf e t o (s.thread e t).pc = s.wordsOf e t o (s.thread e t).pc := by
    simp only [State.wordsOf, State.regsOf, State.thread_useSlot]
    rfl
  unfold State.issueOp
  simp only [State.thread_useSlot, h.drain, hw, h.fetch]
  rw [State.after] at hr
  simp only [hr, State.attempt, State.thread_useSlot, h.hazard, h.parity, h.clean]
  rfl

theorem State.Clear.issue_eq (h : s.Clear e t o) : s.issue e t o = .next (s.issueOp e t o.normal) :=
  State.run_next (g := s.canIssue e t && o.wf && (s.thread e t).rep.isNone && (s.thread e t).cust.isNone)
    (fun s => s.issueOp e t o.normal) h.live.1 h.live.2 (by simp [h.may, h.wf, h.rep, h.cust])

/-- What holds of every state behind such an issue holds of the answer. -/
theorem Answers.of_retired {c : Instr} {P : State → Prop} (hc : exec c s = s.issue e t o) (h : s.Clear e t o) {v : State}
    {l : Option Load} {j : Option Word} (hr : (s.useSlot e t).runOp e t o false (s.thread e t).pc (s.after e t o) = .next v l j)
    (hi : (v.thread e t).Idle) (hl : (v.thread e t).loads = [])
    (hP : ∀ s', v.Retired e t l.toList (j.getD (s.after e t o)) s' → P s') : Answers c s P := by
  refine ⟨_, hc.trans h.issue_eq, hP _ ?_⟩
  rw [h.normal, h.issueOp hr]
  exact State.retired hi hl o _ l _

/-- Where the effect has left the engines as the slot found them, the slot is what is used of the engine. -/
theorem State.Retired.slotUsed {v s' : State} {l : List Load} {pc : Word} (h : v.Retired e t l pc s')
    (hv : v.engines = (s.useSlot e t).engines) : s.SlotUsed e t s' := by
  obtain ⟨w, hw⟩ := h.engine
  have he : v.engine e = (s.useSlot e t).engine e := by rw [State.engine, hv]; rfl
  simpa [State.SlotUsed, hw, he] using s.slotUsed_useSlot e t

/-- An effect on the thread alone: the instruction retires. -/
theorem Answers.retires {c : Instr} (hc : exec c s = s.issue e t o) (h : s.Clear e t o) {f : Thread → Thread} {y : Thread}
    {v : State} {l : Option Load} {j : Option Word}
    (hr : (s.useSlot e t).runOp e t o false (s.thread e t).pc (s.after e t o) = .next v l j)
    (hv : (s.useSlot e t).OnlyThread e t y v) (hi : y.Idle) (hl : y.loads = [])
    (hf : f (s.thread e t) = { y with loads := l.toList }) : Answers c s (s.Retires e t f (j.getD (s.after e t o))) := by
  obtain ⟨hx, ho, hframe⟩ := hv
  refine Answers.of_retired hc h hr (by rwa [hx]) (by rwa [hx]) fun s' hret => ?_
  have hrd : ∀ r, v.rd r = s.rd r := fun r => (State.rd_congr (by rw [hframe]) r).trans (s.rd_useSlot e t r)
  have heng : ∀ e', v.engine e' = (s.useSlot e t).engine e' := fun e' => by rw [hframe]; rfl
  obtain ⟨⟨p, m, hthr⟩, hoth, hcount, hregs, ⟨w, hw⟩, hw', hfr⟩ := id hret
  refine ⟨?_, by simpa only [State.Counted, hrd] using hcount, ?_, fun e' t' hk => ?_, fun r hr => ?_, fun e' he => ?_,
    hret.slotUsed (by rw [hframe]), ?_⟩
  · rw [hthr, hf, hx]
  · rw [hfr, hframe, s.useSlot_frame]
  · rw [hoth _ _ hk, ho _ _ hk, s.thread_useSlot]
  · exact (hregs r hr).trans (hrd r)
  · rw [hw' _ he, heng, s.engine_useSlot_ne t he]
  · rw [hw, heng, s.engine_useSlot_place]

theorem Thread.of_no_loads {x : Thread} (h : x.loads = []) : { x with loads := [] } = x := by
  cases x
  simp_all

/-- An effect on the thread alone that begins no load: the instruction retires with the thread as the effect makes it. -/
theorem Answers.retires_plain {c : Instr} (hc : exec c s = s.issue e t o) (h : s.Clear e t o) {f : Thread → Thread} {v : State}
    {j : Option Word} (hr : (s.useSlot e t).runOp e t o false (s.thread e t).pc (s.after e t o) = .next v none j)
    (hv : (s.useSlot e t).OnlyThread e t (f (s.thread e t)) v) (hi : (f (s.thread e t)).Idle)
    (hl : (f (s.thread e t)).loads = []) : Answers c s (s.Retires e t f (j.getD (s.after e t o))) :=
  Answers.retires hc h hr hv hi hl (Thread.of_no_loads hl).symm

/-- The same of an effect stated as a change of the thread. -/
theorem Answers.retires_mod {c : Instr} (hc : exec c s = s.issue e t o) (h : s.Clear e t o) {f : Thread → Thread}
    (hr : (s.useSlot e t).runOp e t o false (s.thread e t).pc (s.after e t o) = .ok ((s.useSlot e t).modThread e t f))
    (hi : (f (s.thread e t)).Idle) (hl : (f (s.thread e t)).loads = []) :
    Answers c s (s.Retires e t f (s.after e t o)) := by
  have hx := (s.useSlot e t).onlyThread_modThread e t f
  rw [s.thread_useSlot] at hx
  exact Answers.retires_plain hc h hr hx hi hl

end

end Sys2Proof.Machine
end

section
/-! PROOFS. FENCE, UNLOCK and SLOTSWAP wait for the store buffer (O20). -/

namespace Sys2Proof.Machine

open Sys2Proof

/-- On an empty buffer what waits for it is done at once (spec/02 R51). -/
theorem State.drainThen_empty {s : State} {e : Nat} (h : (s.engine e).sb = []) (t : Nat) (d : DrainThen) :
    s.drainThen e t d = .next (s.finishDrain e t d).1 (s.finishDrain e t d).2 none := by
  simp [State.drainThen, h]

/-- On a buffer with entries the thread waits for just those (spec/02 R51). -/
theorem State.drainThen_waits {s : State} {e : Nat} (h : 0 < (s.engine e).sb.length) (t : Nat) (d : DrainThen) :
    s.drainThen e t d = .ok (s.modThread e t fun x => { x with drain := some ⟨(s.engine e).sb.length, d⟩ }) := by
  simp [State.drainThen, Nat.ne_of_gt h]

/-- A lock for which no one waits becomes free when its holder releases it (spec/13 R344, R346). -/
theorem State.lockRelease_last {s : State} {e t k : Nat} (hh : (s.lock k).holder = some (s.roleIndex e t))
    (hq : (s.lock k).queue = []) :
    s.lockRelease (.thread e t) k = (1, s.setLock k { s.lock k with holder := none, told := true }) := by
  have hr : s.requester (.thread e t) = s.roleIndex e t := rfl
  simp [State.lockRelease, hr, hh, State.handOver, hq, arbitrate]

@[simp] theorem State.lock_setLock_self (s : State) (k : Nat) (x : Lock) : (s.setLock k x).lock k = x :=
  SMap.get_put_self s.locks k x _

section
variable {s : State} {e t : Nat} {o : Op}

/-- An instruction that waits for the buffer retires, and its thread waits. -/
theorem answers_drain_waits {c : Instr} (hc : exec c s = s.issue e t o) (h : s.Clear e t o) {d : DrainThen}
    (hd : (s.useSlot e t).runOp e t o false (s.thread e t).pc (s.after e t o) = (s.useSlot e t).drainThen e t d)
    (hn : 0 < (s.engine e).sb.length) :
    Answers c s (s.Retires e t (fun x => { x with drain := some ⟨(s.engine e).sb.length, d⟩ }) (s.after e t o)) := by
  rw [State.drainThen_waits (by rwa [s.sb_useSlot]), s.sb_useSlot] at hd
  exact Answers.retires_mod hc h hd ⟨h.queue, h.halt.1, h.halt.2⟩ h.loads

/-- SLOTSWAP of a supervisor waits for the buffer (spec/02 R28, R51). -/
theorem State.doSlotswap_sup {s : State} {e t : Nat} (h : (s.thread e t).priv ≠ 0) :
    s.doSlotswap e t = s.drainThen e t .swap := by
  simp [State.doSlotswap, Thread.sup, h]

/-- SLOTSWAP of a user is counted in VIOL (spec/02 R29). -/
theorem State.doSlotswap_user {s : State} {e t : Nat} (h : (s.thread e t).priv = 0) :
    s.doSlotswap e t = .ok (s.modThread e t fun x => { x with viol := satInc 16 x.viol }) := by
  simp [State.doSlotswap, Thread.sup, h, State.violate]

/-- SLOTSWAP on an empty buffer: a swap is pending (spec/02 R28). -/
theorem answers_slotswap (h : s.Clear e t .slotswap) (hn : (s.engine e).sb.length = 0) (hp : (s.thread e t).priv ≠ 0) :
    Answers (.slotswap e t) s fun s' => s'.fld (.engCtrl e) F.engCtrl.swap = 1 ∧
      (s'.thread e t).regs = (s.thread e t).regs ∧ (s'.thread e t).pc = (s.thread e t).pc + 1 ∧ s.SlotUsed e t s' ∧
      s.RegsBut [.engCtrl e, .engIssuecnt e, .engPaircnt e] s' ∧
      s' = { s with threads := s'.threads, regs := s'.regs, engines := s'.engines } := by
  have hr : (s.useSlot e t).runOp e t .slotswap false (s.thread e t).pc (s.after e t .slotswap) =
      .next ((s.useSlot e t).setFld (.engCtrl e) F.engCtrl.swap 1) none none :=
    (State.doSlotswap_sup (by simpa using hp)).trans
      (State.drainThen_empty (by rwa [s.sb_useSlot, ← List.length_eq_zero_iff]) t .swap)
  have hthr : ((s.useSlot e t).setFld (.engCtrl e) F.engCtrl.swap 1).thread e t = s.thread e t := s.thread_useSlot e t e t
  refine Answers.of_retired rfl h hr (by rw [hthr]; exact h.idle) (by rw [hthr]; exact h.loads) fun s' hret => ?_
  obtain ⟨⟨p, m, hx⟩, -, -, hrd, -, -, hframe⟩ := id hret
  have hc : Reg.key (.engCtrl e) ≠ Reg.key (.engIssuecnt e) ∧ Reg.key (.engCtrl e) ≠ Reg.key (.engPaircnt e) := by
    simp only [Reg.key]; omega
  refine ⟨?_, by rw [hx, hthr], by rw [hx]; rfl, hret.slotUsed (by simp), fun r hr => ?_, ?_⟩
  · rw [State.fld_of_rd (hrd _ (by simpa using hc)), State.fld_setFld_self _ _ rfl]
    rfl
  · simp only [List.mem_cons, List.not_mem_nil, or_false, forall_eq_or_imp, forall_eq] at hr
    rw [hrd r (by simpa using hr.2), State.rd_setFld_ne _ _ _ hr.1, s.rd_useSlot]
  · rw [hframe, State.setFld, State.wr, s.useSlot_frame]

/-- UNLOCK on an empty buffer of a lock for which no one waits: the lock is free, the code 1 on its way (spec/13 R346). -/
theorem answers_unlock {d k : Nat} (h : s.Clear e t (.unlock d k)) (hn : (s.engine e).sb.length = 0)
    (hh : (s.lock (((s.thread e t).regs.get k).toNat % 256)).holder = some (s.roleIndex e t))
    (hq : (s.lock (((s.thread e t).regs.get k).toNat % 256)).queue = []) :
    Answers (.unlock e t d k) s fun s' =>
      s'.lock (((s.thread e t).regs.get k).toNat % 256) =
        { s.lock (((s.thread e t).regs.get k).toNat % 256) with holder := none, told := true } ∧
      (s'.thread e t).loads = [inFlight [(d, 1)] false] ∧ (s'.thread e t).regs = (s.thread e t).regs ∧
      (s'.thread e t).pc = (s.thread e t).pc + 2 ∧ s.RegsBut [.engIssuecnt e, .engPaircnt e] s' ∧
      s' = { s with threads := s'.threads, regs := s'.regs, engines := s'.engines, locks := s'.locks } := by
  generalize hn : ((s.thread e t).regs.get k).toNat % 256 = n at *
  have hlock : (s.useSlot e t).lock n = s.lock n := by rw [s.useSlot_frame]; rfl
  have hrel := State.lockRelease_last (s := s.useSlot e t) (e := e) (t := t) (k := n)
    (by rw [hlock, State.roleIndex, s.roleOf_useSlot]; exact hh) (by rwa [hlock])
  rw [hlock] at hrel
  have hr : (s.useSlot e t).runOp e t (.unlock d k) false (s.thread e t).pc (s.after e t (.unlock d k)) =
      .next ((s.useSlot e t).setLock n { s.lock n with holder := none, told := true }) (some (inFlight [(d, 1)] false)) none := by
    rw [State.runOp, State.doUnlock, State.regsOf, s.thread_useSlot, hn,
      State.drainThen_empty (by rwa [s.sb_useSlot, ← List.length_eq_zero_iff]), State.finishDrain, hrel]
    rfl
  have hthr : ((s.useSlot e t).setLock n { s.lock n with holder := none, told := true }).thread e t = s.thread e t :=
    s.thread_useSlot e t e t
  refine Answers.of_retired rfl h hr (by rw [hthr]; exact h.idle) (by rw [hthr]; exact h.loads)
    fun s' ⟨⟨p, m, hx⟩, _, _, hrd, _, _, hframe⟩ => ?_
  refine ⟨?_, by rw [hx]; rfl, by rw [hx, hthr], by rw [hx]; rfl, fun r hr => (hrd r hr).trans (s.rd_useSlot e t r), ?_⟩
  · rw [hframe]
    exact State.lock_setLock_self _ _ _
  · rw [hframe, State.setLock, s.useSlot_frame]

end

/-- Settles O20: each instruction's effect as its slot makes it, with the buffer empty and with entries in it. -/
theorem drainingInstructions : Obligations.DrainingInstructions := by
  unfold Obligations.DrainingInstructions
  intro s e t d k
  dsimp only
  refine ⟨fun c hc h hn hp => ?_, fun h hn => ?_, fun h hn hp => ?_, fun h hp => ?_, fun h hn hh hq => ?_⟩
  · simp only [List.mem_cons, List.not_mem_nil, or_false] at hc
    rcases hc with rfl | rfl | rfl
    · exact answers_drain_waits rfl h rfl hn
    · exact answers_drain_waits rfl h (State.doSlotswap_sup (by simpa using hp rfl)) hn
    · refine answers_drain_waits rfl h ?_ hn
      rw [← s.thread_useSlot e t e t]
      rfl
  · have hb := State.drainThen_empty (s := s.useSlot e t) (by rwa [s.sb_useSlot, ← List.length_eq_zero_iff]) t .fence
    have hx := State.OnlyThread.refl (s.useSlot e t) e t
    rw [s.thread_useSlot] at hx
    exact Answers.retires_plain (f := id) rfl h hb hx h.idle h.loads
  · exact answers_slotswap h hn hp
  · exact Answers.retires_mod rfl h (State.doSlotswap_user (by simpa using hp)) ⟨h.queue, h.halt.1, h.halt.2⟩ h.loads
  · exact answers_unlock h hn hh hq

end Sys2Proof.Machine
end

section
/-! PROOFS. PARK, reserved encodings, an empty custom opcode and CHECKPOINT outside a continuity domain (O23). -/

namespace Sys2Proof.Machine

open Sys2Proof

/-! ### A word of code does not depend on the slot -/

theorem State.icache_useSlot (s : State) (e t : Nat) : ((s.useSlot e t).engine e).icache = (s.engine e).icache := by
  rw [s.engine_useSlot]
  split <;> rfl

theorem State.codeWord_useSlot (s : State) (e t : Nat) (a : Word) : (s.useSlot e t).codeWord e t a = s.codeWord e t a := by
  have hc : ∀ la, (s.useSlot e t).cachedLine e la = s.cachedLine e la := fun la => by
    rw [State.cachedLine, s.icache_useSlot, State.cachedLine]
  have hb : ∀ la, (s.useSlot e t).buffered e t la = s.buffered e t la := fun la => by
    rw [State.buffered, s.thread_useSlot, State.buffered]
  have hh : ∀ la, (s.useSlot e t).heldLine e t la = s.heldLine e t la := fun la => by
    rw [State.heldLine, hc, hb, s.thread_useSlot, State.heldLine]
  have hf : ∀ la, (s.useSlot e t).farRefused e la = s.farRefused e la := fun la => by rw [s.useSlot_frame]; rfl
  have hr : ∀ a, (s.useSlot e t).fetchRefused e t a = s.fetchRefused e t a := fun a => by
    simp only [State.fetchRefused, hh, hf, State.bit, s.fld_useSlot]
    rfl
  have hn : ∀ k, ((s.useSlot e t).readWord k).1 = (s.readWord k).1 := fun k => by
    have hd : (s.useSlot e t).decodeWord (s.served k) = s.decodeWord (s.served k) := by rw [s.useSlot_frame]; rfl
    have hs : (s.useSlot e t).served k = s.served k := by rw [s.useSlot_frame]; rfl
    have hy : (s.useSlot e t).syn (s.served k) = s.syn (s.served k) := by rw [s.useSlot_frame]; rfl
    simp only [State.readWord, hs, hd, hy]
    rcases s.decodeWord (s.served k) with ⟨_ | _ | _ | _, d⟩ <;> rfl
  simp only [State.codeWord, hr, hh, hn]

section
variable {s : State} {e t : Nat}

/-- PARK parks its thread behind itself, with its own address in PARK_PC (spec/02 R40, spec/05 R125). -/
theorem answers_park (h : s.Clear e t .park) : Answers (.park e t) s fun s' =>
    (s'.thread e t).st = .parked ∧ (s'.thread e t).parkCause = (if s.codeWord e t (s.thread e t).pc = 0 then 2 else 1) ∧
    (s'.thread e t).parkPc = (s.thread e t).pc ∧ (s'.thread e t).pc = (s.thread e t).pc + 1 ∧
    (s'.thread e t).regs = (s.thread e t).regs ∧ (s'.thread e t).inhdl = false ∧
    s'.fld (.engParkcnt e) F.engParkcnt.count = satInc F.engParkcnt.count.width (s.fld (.engParkcnt e) F.engParkcnt.count) ∧
    s.RegsBut [.engIssuecnt e, .engPaircnt e, .engParkcnt e] s' ∧
    s' = { s with threads := s'.threads, regs := s'.regs, engines := s'.engines } := by
  have hcode := s.codeWord_useSlot e t (s.thread e t).pc
  generalize hcause : (if s.codeWord e t (s.thread e t).pc = 0 then 2 else 1) = cause
  have hr : (s.useSlot e t).runOp e t .park false (s.thread e t).pc (s.after e t .park) =
      .next ((s.useSlot e t).park e t cause) none none := by
    rw [State.runOp, State.doPark, hcode, hcause]
    rfl
  obtain ⟨hx, -, hcount, hrd, hframe⟩ := (s.useSlot e t).parks e t cause
  generalize (s.useSlot e t).park e t cause = v at *
  rw [s.thread_useSlot] at hx
  refine Answers.of_retired rfl h hr (by rw [hx]; exact ⟨h.queue, h.halt.1, h.halt.2⟩) (by rw [hx]; exact h.loads)
    fun s' ⟨⟨p, m, hy⟩, _, _, hrd', _, _, hframe'⟩ => ?_
  have hk : (Reg.engParkcnt e).key ≠ (Reg.engIssuecnt e).key ∧ (Reg.engParkcnt e).key ≠ (Reg.engPaircnt e).key := by
    simp only [Reg.key]; omega
  rw [hx] at hy
  refine ⟨by rw [hy]; rfl, by rw [hy]; rfl, by rw [hy]; rfl, by rw [hy]; rfl, by rw [hy]; rfl, by rw [hy]; rfl, ?_,
    fun r hr => ?_, by rw [hframe', hframe, s.useSlot_frame]⟩
  · rw [State.fld_of_rd (hrd' _ (by simpa using hk)), hcount, s.fld_useSlot]
  · simp only [List.mem_cons, List.not_mem_nil, or_false, forall_eq_or_imp, forall_eq] at hr
    obtain ⟨h1, h2, h3⟩ := hr
    rw [hrd' r (by simp [h1, h2]), hrd r (by simpa using h3), s.rd_useSlot]

/-- A reserved encoding advances VIOL (spec/04 R110). -/
theorem State.runOp_reserved (s : State) (e t len : Nat) (loc : Bool) (pc next : Word) :
    s.runOp e t (.reserved len) loc pc next = .ok (s.modThread e t fun x => { x with viol := satInc 16 x.viol }) := rfl

/-- A custom opcode whose entry is empty issues as a reserved encoding (spec/04 R114). -/
theorem exec_cust_empty {n a b c : Nat} (h : s.Clear e t (.reserved 2)) (hn : s.custLen e n = 0)
    (hw : (Op.cust n a b c).wf = true) : exec (.cust e t n a b c) s = s.issue e t (.reserved 2) := by
  have hc : exec (.cust e t n a b c) s =
      .next (if s.custLen e n = 0 then s.issueOp e t (.reserved 2) else s.issueCust e t ⟨n, a, b, c, 0⟩) :=
    State.run_next (g := s.canIssue e t && (Op.cust n a b c).wf && (s.thread e t).rep.isNone && (s.thread e t).cust.isNone)
      (fun s => if s.custLen e n = 0 then s.issueOp e t (.reserved 2) else s.issueCust e t ⟨n, a, b, c, 0⟩)
      h.live.1 h.live.2 (by simp [h.may, hw, h.rep, h.cust])
  rw [hc, h.issue_eq, if_pos hn, h.normal]

end

/-- Settles O23: each effect as the instruction's slot makes it; an empty custom opcode issues as a reserved encoding. -/
theorem parkAndReservedEncodings : Obligations.ParkAndReservedEncodings := by
  unfold Obligations.ParkAndReservedEncodings
  intro s e t n a b c len
  dsimp only
  refine ⟨answers_park, fun h => ?_, fun h hn hw => ?_, fun h hd => ?_⟩
  · exact Answers.retires_mod rfl h (State.runOp_reserved ..) ⟨h.queue, h.halt.1, h.halt.2⟩ h.loads
  · exact Answers.retires_mod (exec_cust_empty h hn hw) h (State.runOp_reserved ..) ⟨h.queue, h.halt.1, h.halt.2⟩ h.loads
  · have hr : (s.useSlot e t).runOp e t .checkpoint false (s.thread e t).pc (s.after e t .checkpoint) =
        .next (s.useSlot e t) none none := by
      have hd' : (s.useSlot e t).threadDomain (s.roleOf e) t = none := by rw [← hd, s.useSlot_frame]; rfl
      rw [State.runOp, State.doCheckpoint, s.roleOf_useSlot, hd']
      rfl
    have hx := State.OnlyThread.refl (s.useSlot e t) e t
    rw [s.thread_useSlot] at hx
    exact Answers.retires_plain (f := id) rfl h hr hx h.idle h.loads

end Sys2Proof.Machine
end

section
/-! PROOFS. Long operations and loads in flight write their results (O16). -/

namespace Sys2Proof.Machine

open Sys2Proof

/-! ### What the completions do to a thread -/

theorem Thread.ckLess_of_no_records {x : Thread} (h : x.ck = []) (f : CkRecord → CkRecord) : x.ckLess f = x := by
  simp [Thread.ckLess, h]

/-- The oldest multiply ends (spec/02 R41): its result is in its register. -/
theorem Thread.completeMul_cons {x : Thread} {o : LongOp} {l : List LongOp} (h : x.mul = o :: l) (hk : x.ck = []) :
    x.completeMul = { x with mul := l, regs := x.regs.longResult o } := by
  simp [Thread.completeMul, h, Thread.ckLess_of_no_records, hk]

/-- The thread's iterator ends (spec/02 R41, spec/03 R83). -/
theorem Thread.completeIter_some {x : Thread} {o : LongOp} (h : x.iter = some o) (hk : x.ck = []) :
    x.completeIter = { x with iter := none, regs := x.regs.longResult o } := by
  simp [Thread.completeIter, h, Thread.ckLess_of_no_records, hk]

theorem Regs.astat_longResult (r : Regs) (o : LongOp) : (r.longResult o).astat = r.astat ||| o.sticky := by
  unfold Regs.longResult
  cases o.reg <;> rfl

/-- A load alone in flight that completes (spec/02 R45): its registers are written, unless the instruction behind it is still
to come. -/
theorem completeLoad_fresh {x : Thread} {l : Load} (hc : l.complete = false) (hf : l.fresh = true) :
    completeLoad x [l] = (x, [{ l with complete := true }]) := by
  simp [completeLoad, hc, hf]

theorem completeLoad_late {x : Thread} {l : Load} (hc : l.complete = false) (hf : l.fresh = false) :
    completeLoad x [l] = (x.takeLoad l, []) := by
  simp [completeLoad, hc, hf]

/-! ### The commands -/

section
variable {s : State} {e t : Nat} (hs : s.Live) (he : e < 9) (ht : t < 32)
include hs he ht

theorem exec_longOpComplete_mul {o : LongOp} {l : List LongOp} (h : (s.thread e t).mul = o :: l) (hk : (s.thread e t).ck = []) :
    exec (.longOpComplete e t 0) s = .next (s.setThread e t
      { s.thread e t with mul := l, regs := (s.thread e t).regs.longResult o }) := by
  rw [← Thread.completeMul_cons h hk]
  exact State.run_next (fun s => s.modThread e t Thread.completeMul) hs.1 hs.2 (decide_eq_true ⟨he, ht⟩)

theorem exec_longOpComplete_iter {o : LongOp} (h : (s.thread e t).iter = some o) (hk : (s.thread e t).ck = []) :
    exec (.longOpComplete e t 1) s = .next (s.setThread e t
      { s.thread e t with iter := none, regs := (s.thread e t).regs.longResult o }) := by
  rw [← Thread.completeIter_some h hk]
  exact State.run_next (fun s => s.modThread e t Thread.completeIter) hs.1 hs.2 (decide_eq_true ⟨he, ht⟩)

theorem exec_loadComplete {l : Load} (hl : (s.thread e t).loads = [l]) (hc : l.complete = false) :
    exec (.loadComplete e t) s = .next (s.setThread e t
      { (completeLoad (s.thread e t) [l]).1 with loads := (completeLoad (s.thread e t) [l]).2 }) := by
  rw [← hl]
  exact State.run_next (g := decide (e < 9 ∧ t < 32) && (s.thread e t).loads.any fun l => !l.complete)
    (fun s => s.modThread e t fun x => { (completeLoad x x.loads).1 with loads := (completeLoad x x.loads).2 }) hs.1 hs.2
    (by simp [he, ht, hl, hc])

end

section
variable {s : State} {e t src : Nat}

theorem Thread.Idle.setReg {x : Thread} (h : x.Idle) (k : Nat) (v : Word) (p : Bool) : (x.setReg k v p).Idle :=
  ⟨h.queue, h.haltReq, h.stepping⟩

theorem Thread.loads_setReg {x : Thread} (h : x.loads = []) (k : Nat) (v : Word) (p : Bool) : (x.setReg k v p).loads = [] := by
  simp [Thread.setReg, h]

theorem State.onlyThread_setReg (s : State) (e t k : Nat) (v : Word) (p : Bool) :
    s.OnlyThread e t ((s.thread e t).setReg k v p) (s.setReg e t k v p) := s.onlyThread_modThread e t _

theorem State.thread_setReg_self (s : State) (e t k : Nat) (v : Word) (p : Bool) :
    (s.setReg e t k v p).thread e t = (s.thread e t).setReg k v p := s.thread_modThread_self e t _

theorem State.runOp_lrd_half (s : State) (e t src d : Nat) (loc : Bool) (pc next : Word) :
    s.runOp e t (.lrd (.half src d)) loc pc next =
      .ok (s.modThread e t fun x => x.setReg d (x.regs.lrdHalf src).1 (x.regs.lrdHalf src).2) := by
  simp only [State.runOp, State.doLrd, State.setReg, State.modThread, State.regsOf]

/-- LRD of a half (spec/03 R85). -/
theorem answers_lrd_half {d : Nat} (h : s.Clear e t (.lrd (.half src d))) : Answers (.lrd e t (.half src d)) s
    (s.Retires e t (fun x => x.setReg d (x.regs.lrdHalf src).1 (x.regs.lrdHalf src).2) (s.after e t (.lrd (.half src d)))) :=
  Answers.retires_mod rfl h (State.runOp_lrd_half ..) (h.idle.setReg _ _ _) (Thread.loads_setReg h.loads _ _ _)

theorem State.runOp_lrd_pair (s : State) (e t src n : Nat) (loc : Bool) (pc next : Word) :
    s.runOp e t (.lrd (.pair src n)) loc pc next = .next ((s.setReg e t (2 * n) (lowHalf ((s.thread e t).regs.lrdPair src).1)
      ((s.thread e t).regs.lrdPair src).2).setReg e t (2 * n + 1) (highHalf ((s.thread e t).regs.lrdPair src).1)
      ((s.thread e t).regs.lrdPair src).2) none none := rfl

/-- LRD of a pair (spec/03 R85): the low half goes to the even register, the high half to the odd one. -/
theorem answers_lrd_pair {n : Nat} (h : s.Clear e t (.lrd (.pair src n))) : Answers (.lrd e t (.pair src n)) s
    (s.Retires e t (fun x => (x.setReg (2 * n) (lowHalf (x.regs.lrdPair src).1) (x.regs.lrdPair src).2).setReg (2 * n + 1)
      (highHalf (x.regs.lrdPair src).1) (x.regs.lrdPair src).2) (s.after e t (.lrd (.pair src n)))) := by
  have hx := (State.onlyThread_setReg (s.useSlot e t) e t (2 * n) (lowHalf ((s.thread e t).regs.lrdPair src).1)
    ((s.thread e t).regs.lrdPair src).2).trans (State.onlyThread_setReg _ e t (2 * n + 1)
      (highHalf ((s.thread e t).regs.lrdPair src).1) ((s.thread e t).regs.lrdPair src).2)
  rw [State.thread_setReg_self, s.thread_useSlot] at hx
  refine Answers.retires_plain (j := none) rfl h ?_ hx ((h.idle.setReg _ _ _).setReg _ _ _)
    (Thread.loads_setReg (Thread.loads_setReg h.loads _ _ _) _ _ _)
  rw [State.runOp_lrd_pair, s.thread_useSlot]

end

/-- Settles O16: each completion is that of its operation or its load, and LRD's effect that of its form. -/
theorem resultsInFlightComplete : Obligations.ResultsInFlightComplete := by
  unfold Obligations.ResultsInFlightComplete
  refine ⟨fun s e t hs he ht => ⟨fun o l hm hk => ?_, fun o hi ho hk => ?_, fun src d _ h => answers_lrd_half h,
    fun src n h => answers_lrd_pair h⟩, fun s e t l hs he ht hl hc => ⟨fun hf => ?_, fun hf => ?_⟩⟩
  · refine ⟨_, exec_longOpComplete_mul hs he ht hm hk, ?_⟩
    dsimp only
    rw [State.thread_setThread_self]
    refine ⟨rfl, Regs.astat_longResult _ o, fun ho => ?_, fun ho => ?_, fun ho => ?_⟩ <;> simp only [Regs.longResult, ho]
  · rw [exec_longOpComplete_iter hs he ht hi hk]
    simp only [Regs.longResult, ho]
  · rw [exec_loadComplete hs he ht hl hc, completeLoad_fresh hc hf]
  · rw [exec_loadComplete hs he ht hl hc, completeLoad_late hc hf]
    rfl

end Sys2Proof.Machine
end

section
/-! PROOFS. Engines as wholes: their life-cycle (spec/02 R512), and what happens to all their threads alike. -/

namespace Sys2Proof.Machine

/-! ### All the threads of an engine -/

/-- `f` acts on every thread of engine `e`. -/
def State.modThreads (s : State) (e : Nat) (f : Thread → Thread) : State := allThreads.foldl (fun s t => s.modThread e t f) s

theorem State.releaseEngine_eq (s : State) (e : Nat) : s.releaseEngine e =
    s.modThreads e fun x => if x.st = .quiesced ∧ x.byStop then x.release else x := rfl

theorem State.invalidate_eq (s : State) (e : Nat) : s.invalidate e =
    (s.modEngine e fun x => { x with icache := [] }).modThreads e
      fun x => { x with lineBuf := none, missStale := x.miss.isSome } := rfl

theorem State.modThreads_frame (s : State) (e : Nat) (f : Thread → Thread) :
    s.modThreads e f = { s with threads := (s.modThreads e f).threads } := by
  have h := foldl_related (R := fun s t : State => t = { s with threads := t.threads }) (fun _ => rfl)
    (fun h h' => by rw [h', h]) (f := fun s t => s.modThread e t f) (l := allThreads) (fun _ _ _ => rfl) s
  exact h

@[simp] theorem State.regs_modThreads (s : State) (e : Nat) (f : Thread → Thread) : (s.modThreads e f).regs = s.regs := by
  rw [s.modThreads_frame]

@[simp] theorem State.engines_modThreads (s : State) (e : Nat) (f : Thread → Thread) :
    (s.modThreads e f).engines = s.engines := by
  rw [s.modThreads_frame]

theorem State.thread_modThreads (s : State) (e : Nat) (f : Thread → Thread) {u : Nat} (hu : u < 32) :
    (s.modThreads e f).thread e u = f (s.thread e u) := by
  have hm : u ∈ allThreads := List.mem_range.2 hu
  have h := foldl_at (f := fun s t => s.modThread e t f) (l := allThreads) (p := u) (fun s => s.thread e u)
    (fun s => s.thread e u) List.nodup_range (fun s q hq => s.thread_modThread_ne f (by omega))
    (fun s q hq => s.thread_modThread_ne f (by omega))
    (fun s s' h => by rw [State.thread_modThread_self, State.thread_modThread_self, h]) s
  rwa [if_pos hm, State.thread_modThread_self] at h

theorem State.thread_modThreads_other (s : State) {e e' : Nat} (f : Thread → Thread) {u : Nat} (hu : u < 32) (h : e' ≠ e) :
    (s.modThreads e f).thread e' u = s.thread e' u := by
  refine foldl_keeps (fun s => s.thread e' u) (fun s t ht => s.thread_modThread_ne f ?_) s
  have := List.mem_range.1 ht
  omega

/-! ### The life-cycle -/

theorem engStat_key_ne (e : Nat) : (Reg.engStat e).key ≠ (Reg.engCtrl e).key := by simp only [Reg.key]; omega

theorem State.engLife_fits (s : State) (e : Nat) : (s.engLife e).Fits := s.life_fits _ _ rfl

theorem State.engLife_setEngLife (s : State) (e : Nat) {l : Life} (hl : l.Fits) : (s.setEngLife e l).engLife e = l :=
  s.life_setLife (engStat_key_ne e) rfl rfl hl

theorem State.onlyRegs_setEngLife (s : State) (e : Nat) (l : Life) : s.OnlyRegs [.engStat e, .engCtrl e] (s.setEngLife e l) :=
  s.onlyRegs_setLife (by simp) (by simp) _ l

theorem State.engLife_congr {s t : State} (h : t.regs = s.regs) (e : Nat) : t.engLife e = s.engLife e := by
  simp only [State.engLife, State.fld_congr h]

/-- An engine that stays in its state, or comes to OFF or STARTING, changes its registers only. -/
theorem State.moveEngine_light {s : State} {e : Nat} {l : Life} (h : (s.engLife e).st = l.st ∨ l.st < 2) :
    s.moveEngine e l = s.setEngLife e l := by
  unfold State.moveEngine
  dsimp only
  split
  · rfl
  · rw [if_neg (by omega), if_neg (by omega)]

/-- An engine that comes to ON releases what its stop quiesced. -/
theorem State.moveEngine_on {s : State} {e : Nat} {l : Life} (h : (s.engLife e).st ≠ 2) (hl : l.st = 2) :
    s.moveEngine e l = (s.setEngLife e l).releaseEngine e := by
  unfold State.moveEngine
  simp [hl, h]

section
variable {s : State} {e : Nat}

/-- A stop with no request latched ends at OFF. -/
theorem State.engineArrive_off (hst : (s.engLife e).st = 3) (hp : (s.engLife e).pend = 0) :
    (s.engineArrive e).engLife e = ⟨0, 0, (s.engLife e).en⟩ ∧ s.OnlyRegs [.engStat e, .engCtrl e] (s.engineArrive e) := by
  have ha : (s.engLife e).arrive = ⟨0, 0, (s.engLife e).en⟩ := by simp [Life.arrive, hst, hp]
  have hf := ha ▸ (s.engLife_fits e).arrive
  unfold State.engineArrive
  dsimp only
  rw [ha, State.moveEngine_light (l := ⟨0, 0, _⟩) (.inr (by simp)), s.engLife_setEngLife e hf, Life.onward,
    State.moveEngine_light (.inr (by simp))]
  exact ⟨State.engLife_setEngLife _ e hf, (s.onlyRegs_setEngLife e _).trans (State.onlyRegs_setEngLife _ e _)⟩

/-- A start with no request latched ends at ON, and releases what the stop quiesced. -/
theorem State.engineArrive_on (hst : (s.engLife e).st = 1) (hp : (s.engLife e).pend = 0) :
    (s.engineArrive e).engLife e = ⟨2, 0, (s.engLife e).en⟩ ∧
    (∃ a, s.OnlyRegs [.engStat e, .engCtrl e] a ∧ (a.releaseEngine e).OnlyRegs [.engStat e, .engCtrl e] (s.engineArrive e)) := by
  have ha : (s.engLife e).arrive = ⟨2, 0, (s.engLife e).en⟩ := by simp [Life.arrive, hst, hp]
  have hf := ha ▸ (s.engLife_fits e).arrive
  unfold State.engineArrive
  dsimp only
  have hl : ((s.setEngLife e ⟨2, 0, (s.engLife e).en⟩).releaseEngine e).engLife e = ⟨2, 0, (s.engLife e).en⟩ := by
    rw [State.releaseEngine_eq, State.engLife_congr (State.regs_modThreads _ e _), s.engLife_setEngLife e hf]
  have hm : s.moveEngine e ⟨2, 0, (s.engLife e).en⟩ = (s.setEngLife e ⟨2, 0, (s.engLife e).en⟩).releaseEngine e :=
    State.moveEngine_on (by simp [hst]) rfl
  have ho : Life.onward ⟨2, 0, (s.engLife e).en⟩ = ⟨2, 0, (s.engLife e).en⟩ := rfl
  rw [ha, hm, hl, ho, State.moveEngine_light (.inl (by rw [hl]))]
  exact ⟨State.engLife_setEngLife _ e hf, _, s.onlyRegs_setEngLife e _, State.onlyRegs_setEngLife _ e _⟩

end

end Sys2Proof.Machine
end

section
/-! PROOFS. Faults of a thread (spec/05 R125, R142; spec/14 R356 to R358): what a fault of a thread of no domain leaves
behind. -/

namespace Sys2Proof.Machine

/-! ### Alarms -/

/-- Only the outlet has changed, and of the registers its own. -/
def State.Alarms (s s' : State) : Prop :=
  s' = { s with regs := s'.regs, outlet := s'.outlet } ∧ s.RegsBut [.outStat, .outCnt] s'

theorem State.Alarms.refl (s : State) : s.Alarms s := ⟨rfl, fun _ _ => rfl⟩

theorem State.Alarms.trans {s t u : State} (h : s.Alarms t) (h' : t.Alarms u) : s.Alarms u := by
  obtain ⟨hf, hr⟩ := h
  obtain ⟨hf', hr'⟩ := h'
  exact ⟨by rw [hf', hf], fun r hr₀ => (hr' r hr₀).trans (hr r hr₀)⟩

theorem State.alarms_setOutlet (s : State) (o : Outlet) : s.Alarms (s.setOutlet o) := ⟨rfl, fun _ _ => rfl⟩

theorem State.alarms_setFld (s : State) {r : Reg} (h : r ∈ [Reg.outStat, .outCnt]) (f : Fld) (v : Nat) : s.Alarms (s.setFld r f v) :=
  ⟨rfl, (s.onlyRegs_setFld h f v).2⟩

theorem State.alarms_dropTraces (s : State) (n : Nat) : s.Alarms (s.dropTraces n) := by
  unfold State.dropTraces
  split
  · exact .refl s
  · exact ((s.alarms_setFld (by simp) _ _).trans (State.alarms_setFld _ (by simp) _ _)).trans (State.alarms_setOutlet _ _)

theorem State.alarms_stormTest (s : State) : s.Alarms s.stormTest := by
  unfold State.stormTest
  dsimp only
  split
  · exact (((s.alarms_setFld (by simp) _ _).trans (State.alarms_setOutlet _ _)).trans (State.alarms_setOutlet _ _)).trans
      (State.alarms_dropTraces _ _)
  · exact .refl s

theorem State.alarms_endWindow (s : State) : s.Alarms s.endWindow := by
  unfold State.endWindow
  dsimp only
  split
  · exact ((s.alarms_setOutlet _).trans (State.alarms_setFld _ (by simp) _ _)).trans (State.alarms_setOutlet _ _)
  · exact s.alarms_setOutlet _

theorem State.alarms_alarm (s : State) (code : Nat) (d : BitVec 32) : s.Alarms (s.alarm code d) := by
  have hw : s.Alarms (if s.windowEnds then s.endWindow else s) := by
    split
    · exact s.alarms_endWindow
    · exact .refl s
  exact ((hw.trans (State.alarms_setOutlet _ _)).trans (State.alarms_setOutlet _ _)).trans (State.alarms_stormTest _)

/-! ### The record -/

/-- The record `x` put into the ring, and counted. -/
def State.ringFault (s : State) (x : FaultRec) : State :=
  let i := s.fld .engFcnt F.engFcnt.faults % 16
  ((s.setCont { s.cont with faults := (s.cont.faults.erase i).insert i x }).setFld .engFcnt F.engFcnt.newest i).incWrap .engFcnt
    F.engFcnt.faults

theorem State.recordFault_eq (s : State) {x : FaultRec} (hx : x.mask = 0) :
    ∃ v, s.recordFault x = (s.ringFault x).alarm 0x18 v := by
  have hnone : ((List.range 8).filter fun d => x.mask.testBit d) = [] := by simp [hx]
  unfold State.recordFault
  dsimp only
  rw [hnone]
  exact ⟨_, rfl⟩

/-- A fault recorded for no domain (spec/14 R358): it is in the ring, and counted; no thread has changed. -/
theorem State.recordFault_counts (s : State) {x : FaultRec} (hx : x.mask = 0) :
    (s.recordFault x).fld .engFcnt F.engFcnt.faults = (s.fld .engFcnt F.engFcnt.faults + 1) % 2 ^ F.engFcnt.faults.width ∧
    (s.fld .engFcnt F.engFcnt.faults % 16, x) ∈ (s.recordFault x).cont.faults ∧ (s.recordFault x).threads = s.threads := by
  obtain ⟨v, hv⟩ := s.recordFault_eq hx
  obtain ⟨hf, hr⟩ := (s.ringFault x).alarms_alarm 0x18 v
  rw [← hv] at hf hr
  refine ⟨?_, ?_, by rw [hf]; rfl⟩
  · rw [State.fld_of_rd (hr .engFcnt (by decide)), State.ringFault, State.incWrap, State.fld_setFld_self _ _ rfl,
      State.fld_setFld_apart _ _ rfl rfl rfl]
    rfl
  · rw [hf]
    exact SMap.mem_insert.2 (.inl rfl)

/-! ### The thread -/

theorem Thread.waitTest_faulted {x : Thread} (h : x.st = .faulted) : x.waitTest = x := by
  rw [Thread.waitTest, if_neg (by simp [h])]

/-- A thread in FAULTED takes an event into EVT alone. -/
theorem State.thread_setEvt_faulted {s : State} {e t e' t' : Nat} (ht : t < 32) (ht' : t' < 32)
    (h : (s.thread e t).st = .faulted) (bits : Word) :
    ∃ v, (s.setEvt e' t' bits).thread e t = { s.thread e t with evt := v } := by
  by_cases hk : 32 * e + t = 32 * e' + t'
  · obtain ⟨rfl, rfl⟩ : e = e' ∧ t = t' := by omega
    exact ⟨_, (s.thread_modThread_self e t _).trans (Thread.waitTest_faulted h)⟩
  · exact ⟨_, State.thread_modThread_ne s _ hk⟩

theorem State.thread_roleEvt_faulted {s : State} {e t t' : Nat} (ht : t < 32) (ht' : t' < 32)
    (h : (s.thread e t).st = .faulted) (r n : Nat) :
    ∃ v, (s.roleEvt r t' n).thread e t = { s.thread e t with evt := v } := by
  unfold State.roleEvt
  split
  · exact ⟨_, rfl⟩
  · split
    · exact State.thread_setEvt_faulted ht ht' h _
    · exact ⟨_, rfl⟩

/-- The thread as a fault of cause `c` leaves it, but for its EVT. -/
def Thread.faulted (x : Thread) (c : Nat) : Thread :=
  { x with st := .faulted, fcause := c, rep := none, cust := none, drain := none, pair := none, midPair := false, bite := false }

/-- A fault of cause `c` puts the thread into FAULTED; time, records, and registers other than TOP_ISTAT stay. -/
structure State.Faults (s : State) (e t c : Nat) (s' : State) : Prop where
  thread : ∃ v, s'.thread e t = { (s.thread e t).faulted c with evt := v }
  rd : s.RegsBut [.topIstat] s'
  frame : s' = { s with regs := s'.regs, threads := s'.threads }

/-- Only threads have changed. -/
def State.OnlyThreads (s s' : State) : Prop := s' = { s with threads := s'.threads }

theorem State.OnlyThreads.trans {s t u : State} (h : s.OnlyThreads t) (h' : t.OnlyThreads u) : s.OnlyThreads u := by
  unfold State.OnlyThreads at *
  rw [h', h]

theorem State.onlyThreads_modThread (s : State) (e t : Nat) (f : Thread → Thread) : s.OnlyThreads (s.modThread e t f) := rfl

theorem State.onlyThreads_setEvt (s : State) (e t : Nat) (bits : Word) : s.OnlyThreads (s.setEvt e t bits) := rfl

theorem State.onlyThreads_roleEvt (s : State) (r t n : Nat) : s.OnlyThreads (s.roleEvt r t n) := by
  unfold State.roleEvt
  split
  · rfl
  · split
    · exact s.onlyThreads_setEvt _ _ _
    · rfl

/-- The last step of a fault notifies role 0 where its own thread 0 is the one (spec/05 R142). -/
theorem State.Faults.report {s b : State} {e t c : Nat} {v : Word} (hb : s.OnlyThreads b)
    (hx : b.thread e t = { (s.thread e t).faulted c with evt := v }) :
    s.Faults e t c (if b.roleOf e = 0 ∧ t = 0 then b.setFld .topIstat F.topIstat.supflt 1 else b) := by
  obtain ⟨th, rfl⟩ : ∃ th, b = { s with threads := th } := ⟨_, hb⟩
  split
  · exact ⟨⟨v, hx⟩, (State.onlyRegs_setFld _ (by simp) _ _).2, rfl⟩
  · exact ⟨⟨v, hx⟩, fun _ _ => rfl, rfl⟩

theorem State.faults_enterFaulted (s : State) {e t : Nat} (ht : t < 32) (c : Nat) : s.Faults e t c (s.enterFaulted e t c) := by
  have ha : (s.modThread e t fun x => x.faulted c).thread e t = (s.thread e t).faulted c := s.thread_modThread_self e t _
  have ho := s.onlyThreads_modThread e t fun x => x.faulted c
  have he : s.enterFaulted e t c = (fun b : State => if b.roleOf e = 0 ∧ t = 0 then b.setFld .topIstat F.topIstat.supflt 1 else b)
    (((s.modThread e t fun x => x.faulted c).setEvt e 0 (evtBit 13)).roleEvt 0 0 13) := rfl
  rw [he]
  generalize (s.modThread e t fun x => x.faulted c) = a at ha ho
  obtain ⟨v, hv⟩ := State.thread_setEvt_faulted (s := a) (e' := e) (t' := 0) ht (by omega) (by rw [ha]; rfl) (evtBit 13)
  replace ho := ho.trans (a.onlyThreads_setEvt e 0 (evtBit 13))
  generalize a.setEvt e 0 (evtBit 13) = b at hv ho
  obtain ⟨v', hv'⟩ := State.thread_roleEvt_faulted (s := b) (t' := 0) ht (by omega) (by rw [hv, ha]; rfl) 0 13
  exact .report (v := v') (ho.trans (b.onlyThreads_roleEvt 0 0 13)) (by rw [hv', hv, ha])

/-! ### A fault of a thread of no domain -/

section
variable {s : State} {e t : Nat}

theorem State.threadFault_undomained (ht : t < 32) (hd : s.threadDomain (s.roleOf e) t = none) (c code : Nat) :
    s.threadFault e t c code = (s.enterFaulted e t c).recordFault ⟨code, s.roleOf e, e, t, 0, false, 0, 0,
      (s.enterFaulted e t c).time⟩ := by
  have h : (s.enterFaulted e t c).threadDomain (s.roleOf e) t = none := by
    rw [(s.faults_enterFaulted ht c).frame]
    exact hd
  unfold State.threadFault
  dsimp only
  rw [h]

/-- Such a fault is recorded for no domain, and stops the thread. -/
structure State.FaultsAlone (s : State) (e t c code : Nat) (s' : State) : Prop where
  thread : ∃ v, s'.thread e t = { (s.thread e t).faulted c with evt := v }
  count : s'.fld .engFcnt F.engFcnt.faults = (s.fld .engFcnt F.engFcnt.faults + 1) % 2 ^ F.engFcnt.faults.width
  record : (s.fld .engFcnt F.engFcnt.faults % 16, FaultRec.mk code (s.roleOf e) e t 0 false 0 0 s.time) ∈ s'.cont.faults

theorem State.threadFault_alone (ht : t < 32) (hd : s.threadDomain (s.roleOf e) t = none) (c code : Nat) :
    s.FaultsAlone e t c code (s.threadFault e t c code) := by
  rw [State.threadFault_undomained ht hd]
  obtain ⟨⟨v, hv⟩, hr, hf⟩ := s.faults_enterFaulted (e := e) ht c
  have htime : (s.enterFaulted e t c).time = s.time := by rw [hf]
  generalize s.enterFaulted e t c = a at hv hr htime
  have hcnt : a.fld .engFcnt F.engFcnt.faults = s.fld .engFcnt F.engFcnt.faults := State.fld_of_rd (hr _ (by decide)) _
  obtain ⟨hn, hm, hth⟩ := a.recordFault_counts (x := ⟨code, s.roleOf e, e, t, 0, false, 0, 0, a.time⟩) rfl
  rw [hcnt] at hn hm
  rw [htime] at hn hm hth ⊢
  exact ⟨⟨v, by rw [State.thread, hth]; exact hv⟩, hn, hm⟩

/-- At the boundary of a thread outside a REP sequence a STEP and a HALT come to their end. -/
def Thread.endStep (x : Thread) : Thread := { x with stepping := false, haltReq := false, halted := x.halted || x.haltReq }

theorem State.boundary_eq (hb : (s.thread e t).atBoundary = true) (hr : (s.thread e t).rep = none) : s.boundary e t =
    if (s.thread e t).cmdQueue.isEmpty then s.setThread e t (s.thread e t).endStep
    else (s.thread e t).cmdQueue.foldl (fun s c => s.applyCmd e t c)
      ((s.setThread e t (s.thread e t).endStep).modThread e t fun x => { x with cmdQueue := [], pair := none }) := by
  have hn : ¬ (s.thread e t).rep.isSome = true := by simp [hr]
  unfold State.boundary
  dsimp only
  rw [if_neg (by simp [hb]), if_neg hn, State.thread_setThread_self]
  rfl

theorem State.boundary_empty (hb : (s.thread e t).atBoundary = true) (hr : (s.thread e t).rep = none)
    (hq : (s.thread e t).cmdQueue = []) : s.boundary e t = s.setThread e t (s.thread e t).endStep := by
  rw [State.boundary_eq hb hr, hq]
  rfl

theorem State.boundary_one {c : Nat} (hb : (s.thread e t).atBoundary = true) (hr : (s.thread e t).rep = none)
    (hq : (s.thread e t).cmdQueue = [c]) : s.boundary e t =
      ((s.setThread e t (s.thread e t).endStep).modThread e t fun x => { x with cmdQueue := [], pair := none }).applyCmd e t c := by
  rw [State.boundary_eq hb hr, hq]
  rfl

/-- A PARK command parks the thread that is not parked yet. -/
theorem State.parked_applyCmd (s : State) (e t : Nat) : ((s.applyCmd e t 1).thread e t).st = .parked := by
  have h : s.applyCmd e t 1 = if (s.thread e t).st = .parked then s else s.park e t 6 := rfl
  rw [h]
  split
  · assumption
  · rw [(s.parks e t 6).thread]
    rfl

end

end Sys2Proof.Machine
end

section
/-! PROOFS. Engines at their boundaries (O26; spec/02 R24, R28, R37, R512, spec/05 R137, R143). -/

namespace Sys2Proof.Machine

open Sys2Proof

/-- A command whose guard fails has no effect. -/
theorem State.run_guarded {s : State} {g : Bool} (f : State → State) (ht : s.test = none) (hg : g = false) :
    s.run g f = .next s := by
  simp [State.run, ht, hg]

theorem State.thread_congr {s t : State} (h : t.threads = s.threads) (e u : Nat) : t.thread e u = s.thread e u := by
  rw [State.thread, h, State.thread]

/-! ### The rotation -/

theorem State.effPrio_setEngines (s : State) (E : SMap Engine) (n i k : Nat) :
    State.effPrio { s with engines := E } n i k = s.effPrio n i k := by
  induction n generalizing i k with
  | zero => rfl
  | succ n ih => simp only [State.effPrio, ih]; rfl

/-- What a thread inherits (spec/13 R350) does not depend on what engines hold beside their threads. -/
theorem State.inheriting_modEngine (s : State) (e : Nat) (f : Engine → Engine) (e' : Nat) :
    (s.modEngine e f).inheriting e' = s.inheriting e' := by
  have h : ∀ i, (s.modEngine e f).threadPrio i = s.threadPrio i := fun i => s.effPrio_setEngines _ 256 i 0
  simp only [State.inheriting, h]
  rfl

/-- The slot maps change places where a swap is pending (spec/02 R28). -/
def State.swapMaps (s : State) (e : Nat) : State :=
  if s.bit (.engCtrl e) F.engCtrl.swap then
    (s.setFld (.engCtrl e) F.engCtrl.swap 0).setFld (.engStat e) F.engStat.activeMap (1 - s.fld (.engStat e) F.engStat.activeMap)
  else s

section
variable (s : State) (e : Nat)

theorem State.onlyRegs_swapMaps : s.OnlyRegs [.engCtrl e, .engStat e] (s.swapMaps e) := by
  unfold State.swapMaps
  split
  · exact (s.onlyRegs_setFld (by simp) _ _).trans (State.onlyRegs_setFld _ (by simp) _ _)
  · exact .refl s _

theorem State.swap_swapMaps : (s.swapMaps e).fld (.engCtrl e) F.engCtrl.swap = 0 := by
  unfold State.swapMaps
  split
  next => rw [State.fld_of_rd (State.rd_setFld_ne _ _ _ (engStat_key_ne e).symm), State.fld_setFld_self _ _ rfl]; rfl
  next h =>
    have := s.fld_lt (.engCtrl e) F.engCtrl.swap
    rw [State.bit_eq_true _ _ rfl] at h
    change _ < 2 at this
    omega

theorem State.state_swapMaps : (s.swapMaps e).fld (.engStat e) F.engStat.state = s.fld (.engStat e) F.engStat.state := by
  unfold State.swapMaps
  split
  · rw [State.fld_setFld_apart _ _ rfl rfl rfl, State.fld_of_rd (State.rd_setFld_ne _ _ _ (engStat_key_ne e))]
  · rfl

theorem State.activeMap_swapMaps : (s.swapMaps e).fld (.engStat e) F.engStat.activeMap =
    if s.fld (.engCtrl e) F.engCtrl.swap = 1 then 1 - s.fld (.engStat e) F.engStat.activeMap
    else s.fld (.engStat e) F.engStat.activeMap := by
  simp only [State.swapMaps, State.bit_eq_true _ _ (show F.engCtrl.swap.width = 1 from rfl)]
  split
  · rw [State.fld_setFld_self _ _ rfl]
    exact Nat.mod_eq_of_lt (show 1 - _ < 2 by omega)
  · rfl

end

/-- The rotation begins at slot 0 with the boosted threads of now. -/
def Engine.rotated (x : Engine) (ptr : Nat) (boosted : List (Nat × Nat)) : Engine :=
  { x with slot := 0, boostPtr := ptr, boosted := boosted }

section
variable {s : State} {e t : Nat}

theorem exec_rotationBoundary (s : State) (e : Nat) : exec (.rotationBoundary e) s =
    s.run (decide (e < 9) && (s.fld (.engStat e) F.engStat.state == lifeOn || s.fld (.engStat e) F.engStat.state == 3) &&
      !s.asleep && !s.resting e && s.turn e == none)
      fun s => ((s.incWrap (.engRotcnt e) F.engRotcnt.rot).swapMaps e).modEngine e fun x => x.rotated (s.nextSlot e).2.1
        (((s.incWrap (.engRotcnt e) F.engRotcnt.rot).swapMaps e).inheriting e) := rfl

theorem answers_rotationBoundary (hl : s.Live) (he : e < 9)
    (hst : s.fld (.engStat e) F.engStat.state = 2 ∨ s.fld (.engStat e) F.engStat.state = 3) (ha : s.asleep = false)
    (hr : s.resting e = false) (ht : s.turn e = none) : Answers (.rotationBoundary e) s fun s' =>
      s'.fld (.engRotcnt e) F.engRotcnt.rot = (s.fld (.engRotcnt e) F.engRotcnt.rot + 1) % 2 ^ 32 ∧
      s'.fld (.engCtrl e) F.engCtrl.swap = 0 ∧
      s'.fld (.engStat e) F.engStat.activeMap =
        (if s.fld (.engCtrl e) F.engCtrl.swap = 1 then 1 - s.fld (.engStat e) F.engStat.activeMap
         else s.fld (.engStat e) F.engStat.activeMap) ∧
      s'.fld (.engStat e) F.engStat.state = s.fld (.engStat e) F.engStat.state ∧
      s'.engine e = { s.engine e with slot := 0, boostPtr := (s.nextSlot e).2.1, boosted := s'.inheriting e } ∧
      (∀ e', e' ≠ e → s'.engine e' = s.engine e') ∧ s.RegsBut [.engRotcnt e, .engCtrl e, .engStat e] s' ∧
      s' = { s with regs := s'.regs, engines := s'.engines } := by
  have hg : (decide (e < 9) && (s.fld (.engStat e) F.engStat.state == lifeOn || s.fld (.engStat e) F.engStat.state == 3) &&
      !s.asleep && !s.resting e && s.turn e == none) = true := by
    rcases hst with h | h <;> simp [he, ha, hr, ht, h, lifeOn]
  refine .of_run (exec_rotationBoundary s e) hl hg ?_
  dsimp only
  have hcr : (Reg.engCtrl e).key ≠ (Reg.engRotcnt e).key := by simp only [Reg.key]; omega
  have hsr : (Reg.engStat e).key ≠ (Reg.engRotcnt e).key := by simp only [Reg.key]; omega
  obtain ⟨hrot, hone⟩ : (s.incWrap (.engRotcnt e) F.engRotcnt.rot).fld (.engRotcnt e) F.engRotcnt.rot =
      (s.fld (.engRotcnt e) F.engRotcnt.rot + 1) % 2 ^ 32 ∧
      s.OnlyRegs [.engRotcnt e] (s.incWrap (.engRotcnt e) F.engRotcnt.rot) :=
    ⟨State.fld_setFld_self _ _ rfl _, s.onlyRegs_setFld (by simp) _ _⟩
  generalize s.incWrap (.engRotcnt e) F.engRotcnt.rot = a at hrot hone
  have hctrl := hone.2 (.engCtrl e) (by simpa using hcr)
  have hstat := hone.2 (.engStat e) (by simpa using hsr)
  have htwo := a.onlyRegs_swapMaps e
  have hswap := a.swap_swapMaps e
  have hstate := a.state_swapMaps e
  have hmap := a.activeMap_swapMaps e
  rw [State.fld_of_rd hctrl, State.fld_of_rd hstat] at hmap
  rw [State.fld_of_rd hstat] at hstate
  have hrot' := State.fld_of_rd (htwo.2 (.engRotcnt e) (by simp [hcr.symm, hsr.symm])) F.engRotcnt.rot
  generalize a.swapMaps e = b at htwo hswap hstate hmap hrot'
  obtain ⟨hf, hrd⟩ := (hone.mono (by simp)).trans (htwo.mono (l' := [.engRotcnt e, .engCtrl e, .engStat e]) (by simp))
  have hE : b.engines = s.engines := by rw [hf]
  have hEng : ∀ e', b.engine e' = s.engine e' := fun e' => by rw [State.engine, hE]; rfl
  refine ⟨hrot'.trans hrot, hswap, hmap, hstate, ?_, fun e' h => ?_, hrd, ?_⟩
  · rw [State.engine_modEngine_self, hEng, State.inheriting_modEngine]
    rfl
  · rw [State.engine_modEngine_ne _ _ h, hEng]
  · rw [hf]
    rfl

/-- A rotation with a slot left goes on. -/
theorem exec_rotationBoundary_early (hl : s.Live) (h : s.turn e ≠ none) : exec (.rotationBoundary e) s = .next s := by
  have hg : (decide (e < 9) && (s.fld (.engStat e) F.engStat.state == lifeOn || s.fld (.engStat e) F.engStat.state == 3) &&
      !s.asleep && !s.resting e && s.turn e == none) = false := by
    rw [beq_eq_false_iff_ne.2 h, Bool.and_false]
  exact (exec_rotationBoundary s e).trans (State.run_guarded _ hl.1 hg)

/-! ### Starts, stops and diversions -/

theorem answers_icacheInvalidateDone (hl : s.Live) (he : e < 9) (h : s.fld (.engCtrl e) F.engCtrl.icinv = 1) :
    Answers (.icacheInvalidateDone e) s fun s' => s'.fld (.engCtrl e) F.engCtrl.icinv = 0 ∧
      s'.fld (.engCtrl e) F.engCtrl.swap = s.fld (.engCtrl e) F.engCtrl.swap ∧
      s'.fld (.engCtrl e) F.engCtrl.en = s.fld (.engCtrl e) F.engCtrl.en ∧ s.OnlyRegs [.engCtrl e] s' := by
  have hb : s.bit (.engCtrl e) F.engCtrl.icinv = true := (s.bit_eq_true _ rfl).2 h
  refine .of_run (f := fun s => s.setFld (.engCtrl e) F.engCtrl.icinv 0) rfl hl (by simp [he, hb]) ?_
  exact ⟨State.fld_setFld_self _ _ rfl _, State.fld_setFld_apart _ _ rfl rfl rfl _, State.fld_setFld_apart _ _ rfl rfl rfl _,
    s.onlyRegs_setFld (by simp) _ _⟩

theorem answers_engineStartDone (hl : s.Live) (he : e < 9) (hst : s.fld (.engStat e) F.engStat.state = 1)
    (hp : s.fld (.engStat e) F.engStat.pend = 0) (hc : s.cont.takeover = none) (ha : s.asleep = false)
    (hw : s.power.waking = false) : Answers (.engineStartDone e) s fun s' =>
      s'.fld (.engStat e) F.engStat.state = 2 ∧ s'.fld (.engStat e) F.engStat.pend = 0 ∧
      s'.fld (.engCtrl e) F.engCtrl.en = s.fld (.engCtrl e) F.engCtrl.en ∧
      (∀ u, u < 32 → s'.thread e u = if (s.thread e u).st = .quiesced ∧ (s.thread e u).byStop = true
        then (s.thread e u).release else s.thread e u) ∧
      (∀ e' u, u < 32 → e' ≠ e → s'.thread e' u = s.thread e' u) ∧
      s.RegsBut [.engStat e, .engCtrl e] s' ∧ s' = { s with regs := s'.regs, threads := s'.threads } := by
  obtain ⟨hlife, a, ha', hb'⟩ := State.engineArrive_on (s := s) (e := e) hst hp
  refine .of_run (f := fun s => s.engineArrive e) rfl hl (by simp [he, hc, ha, hw, State.engLife, hst]) ?_
  rw [State.releaseEngine_eq] at hb'
  obtain ⟨hf, hr⟩ := ha'
  obtain ⟨hf', hr'⟩ := hb'
  have hm := a.modThreads_frame e fun x => if x.st = .quiesced ∧ x.byStop then x.release else x
  have hself := fun u (hu : u < 32) => a.thread_modThreads e (fun x => if x.st = .quiesced ∧ x.byStop then x.release else x) hu
  have hother := fun e' u hu (h : e' ≠ e) =>
    a.thread_modThreads_other (u := u) (fun x => if x.st = .quiesced ∧ x.byStop then x.release else x) hu h
  generalize (a.modThreads e fun x => if x.st = .quiesced ∧ x.byStop then x.release else x) = m at hf' hm hr' hself hother
  generalize s.engineArrive e = b at hlife hf' hr'
  have hth : ∀ e' u, a.thread e' u = s.thread e' u := fun e' u => State.thread_congr (by rw [hf]) e' u
  have hth' : ∀ e' u, b.thread e' u = m.thread e' u := fun e' u => State.thread_congr (by rw [hf']) e' u
  refine ⟨congrArg Life.st hlife, congrArg Life.pend hlife, congrArg Life.en hlife, fun u hu => ?_, fun e' u hu h => ?_,
    fun r h => (hr' r h).trans ((State.rd_congr (by rw [hm]) r).trans (hr r h)), by rw [hf', hm, hf]⟩
  · rw [hth', hself u hu, hth]
  · rw [hth', hother e' u hu h, hth]

theorem answers_engineStopDone (hl : s.Live) (he : e < 9) (hst : s.fld (.engStat e) F.engStat.state = 3)
    (hp : s.fld (.engStat e) F.engStat.pend = 0) (hq : s.engineQuiet e = true) : Answers (.engineStopDone e) s fun s' =>
      s'.fld (.engStat e) F.engStat.state = 0 ∧ s'.fld (.engStat e) F.engStat.pend = 0 ∧
      s'.fld (.engCtrl e) F.engCtrl.en = s.fld (.engCtrl e) F.engCtrl.en ∧ s.OnlyRegs [.engStat e, .engCtrl e] s' := by
  obtain ⟨hlife, ho⟩ := State.engineArrive_off (s := s) (e := e) hst hp
  exact .of_run (f := fun s => s.engineArrive e) rfl hl (by simp [he, hq, State.engLife, hst])
    ⟨congrArg Life.st hlife, congrArg Life.pend hlife, congrArg Life.en hlife, ho⟩

theorem answers_urgentDiversion (hl : s.Live) (he : e < 9) (ht : t < 32) (hst : s.fld (.engStat e) F.engStat.state = 2)
    (hd : (s.thread e t).canDivert = true) (hc : ∀ l ∈ (s.thread e t).loads, l.complete = true) :
    let x := s.thread e t
    Answers (.urgentDiversion e t) s fun s' =>
      s'.thread e t = { x with st := .diverted, inhdl := true, uret := x.pc, pc := x.uvec, savedRep := x.rep, rep := none,
                               pair := none } ∧
      (∀ e' u, 32 * e' + u ≠ 32 * e + t → s'.thread e' u = s.thread e' u) ∧ s' = { s with threads := s'.threads } := by
  intro x
  let y : Thread := { x with st := .diverted, inhdl := true, uret := x.pc, pc := x.uvec }
  refine .of_run (f := fun s => s.setThread e t { y with savedRep := x.rep, rep := none, pair := none }) rfl hl ?_
    ⟨State.thread_setThread_self _ _ _ _, fun e' u h => State.thread_setThread_ne s _ h, rfl⟩
  have hc' : ((s.thread e t).loads.all fun l => l.complete) = true := List.all_eq_true.2 hc
  simp only [he, ht, hst, hd, hc', lifeOn]
  rfl

/-! ### Poisoned stores -/

theorem answers_poisonedStoreFault (hl : s.Live) (he : e < 9) (ht : t < 32) (hbite : (s.thread e t).bite = true)
    (hb : (s.thread e t).atBoundary = true) (hi : (s.thread e t).issues = true)
    (hd : s.threadDomain (s.roleOf e) t = none) : let x := s.thread e t
    Answers (.poisonedStoreFault e t) s fun s' =>
      s' = (s.threadFault e t 1 5).boundary e t ∧ (x.cmdQueue = [1] → (s'.thread e t).st = .parked) ∧
      (x.cmdQueue = [] → (s'.thread e t).st = .faulted ∧ (s'.thread e t).fcause = 1 ∧ (s'.thread e t).bite = false ∧
      (s'.thread e t).regs = x.regs ∧ (s'.thread e t).pc = x.pc ∧
      s'.fld .engFcnt F.engFcnt.faults = (s.fld .engFcnt F.engFcnt.faults + 1) % 2 ^ F.engFcnt.faults.width ∧
      (s.fld .engFcnt F.engFcnt.faults % 16, FaultRec.mk 5 (s.roleOf e) e t 0 false 0 0 s.time) ∈ s'.cont.faults) := by
  refine .of_run (f := fun s => s.faultNow e t 1 5) rfl hl (by simp [he, ht, hbite, hb, hi]) ⟨rfl, ?_⟩
  dsimp only [State.faultNow]
  obtain ⟨⟨v, hv⟩, hn, hm⟩ := State.threadFault_alone ht hd 1 5
  generalize s.threadFault e t 1 5 = f at hv hn hm
  have hfb : (f.thread e t).atBoundary = true := by rw [hv]; rfl
  have hfr : (f.thread e t).rep = none := by rw [hv]; rfl
  have hfq : (f.thread e t).cmdQueue = (s.thread e t).cmdQueue := by rw [hv]; rfl
  refine ⟨fun h => ?_, fun h => ?_⟩
  · rw [State.boundary_one hfb hfr (hfq.trans h)]
    exact State.parked_applyCmd _ e t
  · rw [State.boundary_empty hfb hfr (hfq.trans h), State.thread_setThread_self, hv]
    exact ⟨rfl, rfl, rfl, rfl, rfl, hn, hm⟩

end

/-- Settles O26, a command at a time: a rotation and a start by what they do in turn, a poison fault by what a fault of a
thread of no domain leaves (`State.FaultsAlone`) and what then waits at its boundary. -/
theorem enginesAtTheirBoundaries : Obligations.EnginesAtTheirBoundaries := fun _ _ _ hl he ht =>
  ⟨answers_rotationBoundary hl he, exec_rotationBoundary_early hl, answers_icacheInvalidateDone hl he,
    answers_engineStartDone hl he, answers_engineStopDone hl he, answers_urgentDiversion hl he ht,
    answers_poisonedStoreFault hl he ht⟩

end Sys2Proof.Machine
end

section
/-! PROOFS. Writes of ENG_CTRL (spec/02 R28, R37, R512). -/

namespace Sys2Proof.Machine

open Sys2Proof

/-! ### Secure rights stay -/

/-- A thread with secure rights is not as a reset leaves it. -/
theorem Thread.init_priv_lt (t : Nat) : (Thread.init t).priv < 2 := by
  unfold Thread.init
  dsimp only
  split <;> decide

theorem State.secure_thread (s : State) (e t : Nat) : s.rights (.thread e t) = .secure ↔ 2 ≤ (s.thread e t).priv := by
  simp only [State.rights]
  generalize (s.thread e t).priv = p
  match p with
  | 0 => simp
  | 1 => simp
  | n + 2 => simp

/-- A key that is listed reads alike for every default, one that is not reads as the default. -/
theorem SMap.get_cases {V : Type} (m : SMap V) (k : Nat) : (∃ v, ∀ d, m.get k d = v) ∨ ∀ d, m.get k d = d := by
  induction m with
  | nil => exact .inr fun _ => rfl
  | cons c m ih =>
    by_cases h : c.1 = k
    · exact .inl ⟨c.2, fun d => by simp [SMap.get, h]⟩
    · simpa [SMap.get, h] using ih

/-- A change of threads that leaves PRIV takes no secure rights away. -/
theorem State.secure_modThread {s : State} {w : Who} {e t : Nat} {f : Thread → Thread} (hf : ∀ x, (f x).priv = x.priv)
    (h : s.rights w = .secure) : (s.modThread e t f).rights w = .secure := by
  cases w with
  | host => exact h
  | thread e' u =>
    rw [State.secure_thread] at h ⊢
    by_cases hk : 32 * e' + u = 32 * e + t
    · rcases SMap.get_cases s.threads (32 * e + t) with ⟨v, hv⟩ | hv
      · rw [State.thread, hk, hv] at h
        have hne : f v ≠ .init t := fun hi => by
          have := Thread.init_priv_lt t
          rw [← hi, hf] at this
          omega
        have : (s.modThread e t f).thread e' u = f v := by
          rw [State.modThread, State.setThread, State.thread, State.thread, hk, hv, SMap.put, if_neg hne]
          exact SMap.get_insert_erase s.threads _ (f v) _
        rw [this, hf]
        exact h
      · rw [State.thread, hk, hv] at h
        have := Thread.init_priv_lt u
        omega
    · rw [State.thread_modThread_ne s f hk]
      exact h

theorem State.rights_congr {s t : State} (h : t.threads = s.threads) (w : Who) : t.rights w = s.rights w := by
  cases w with
  | host => rfl
  | thread e u => simp only [State.rights, State.thread_congr h]

theorem State.secure_modThreads {s : State} {w : Who} (e : Nat) {f : Thread → Thread} (hf : ∀ x, (f x).priv = x.priv)
    (h : s.rights w = .secure) : (s.modThreads e f).rights w = .secure :=
  foldl_related (R := fun s t : State => s.rights w = .secure → t.rights w = .secure) (fun _ h => h)
    (fun h h' hs => h' (h hs)) (fun _ _ _ => State.secure_modThread hf) s h

/-! ### Swap and invalidation -/

/-- A write of ENG_CTRL asks for a swap and for an invalidation. -/
def State.askEngine (s : State) (e : Nat) (swap icinv : Bool) : State :=
  let a := if swap then s.setFld (.engCtrl e) F.engCtrl.swap 1 else s
  if icinv then (a.setFld (.engCtrl e) F.engCtrl.icinv 1).invalidate e else a

section
variable (s : State) (e : Nat)

theorem State.invalidate_frame : s.invalidate e = { s with threads := (s.invalidate e).threads, engines := (s.invalidate e).engines } := by
  rw [State.invalidate_eq]
  have h := (s.modEngine e fun x => { x with icache := [] }).modThreads_frame e
    fun x => { x with lineBuf := none, missStale := x.miss.isSome }
  generalize (s.modEngine e fun x => { x with icache := [] }).modThreads e _ = a at h
  rw [h]
  rfl

theorem State.icache_invalidate : ((s.invalidate e).engine e).icache = [] := by
  have h : (s.invalidate e).engines = (s.modEngine e fun x => { x with icache := [] }).engines :=
    State.engines_modThreads _ e _
  rw [State.engine, h, ← State.engine, engine_modEngine_self]

theorem State.lineBuf_invalidate {u : Nat} (hu : u < 32) : ((s.invalidate e).thread e u).lineBuf = none := by
  rw [State.invalidate_eq, State.thread_modThreads _ _ _ hu]

theorem State.secure_invalidate {w : Who} (h : s.rights w = .secure) : (s.invalidate e).rights w = .secure := by
  rw [State.invalidate_eq]
  exact State.secure_modThreads e (fun _ => rfl) ((State.rights_congr rfl w).trans h)

/-- What an ENG_CTRL write asks for. -/
structure State.Asks (s : State) (e : Nat) (sw ic : Bool) (s' : State) : Prop where
  swap  : s'.fld (.engCtrl e) F.engCtrl.swap = if sw then 1 else s.fld (.engCtrl e) F.engCtrl.swap
  icinv : s'.fld (.engCtrl e) F.engCtrl.icinv = if ic then 1 else s.fld (.engCtrl e) F.engCtrl.icinv
  cache : ic = true → (s'.engine e).icache = [] ∧ ∀ u, u < 32 → (s'.thread e u).lineBuf = none
  kept  : ic = false → s'.threads = s.threads ∧ s'.engines = s.engines
  rd    : s.RegsBut [.engCtrl e] s'
  frame : s' = { s with regs := s'.regs, threads := s'.threads, engines := s'.engines }

theorem State.asks_swap (swap : Bool) : s.Asks e swap false (if swap then s.setFld (.engCtrl e) F.engCtrl.swap 1 else s) := by
  cases swap with
  | false => exact ⟨rfl, rfl, nofun, fun _ => ⟨rfl, rfl⟩, fun _ _ => rfl, rfl⟩
  | true => exact ⟨State.fld_setFld_self _ _ rfl _, State.fld_setFld_apart _ _ rfl rfl rfl _,
      nofun, fun _ => ⟨rfl, rfl⟩, (s.onlyRegs_setFld (by simp) _ _).2, rfl⟩

theorem State.asks (swap icinv : Bool) : s.Asks e swap icinv (s.askEngine e swap icinv) := by
  obtain ⟨hs, hi, -, hk, hr, hf⟩ := s.asks_swap e swap
  unfold State.askEngine
  dsimp only
  generalize (if swap then s.setFld (.engCtrl e) F.engCtrl.swap 1 else s) = a at hs hi hk hr hf
  cases icinv with
  | false => exact ⟨hs, hi, nofun, hk, hr, hf⟩
  | true =>
    have hb : (a.setFld (.engCtrl e) F.engCtrl.icinv 1).fld (.engCtrl e) F.engCtrl.icinv = 1 := State.fld_setFld_self _ _ rfl _
    have hbs : (a.setFld (.engCtrl e) F.engCtrl.icinv 1).fld (.engCtrl e) F.engCtrl.swap = a.fld (.engCtrl e) F.engCtrl.swap :=
      State.fld_setFld_apart _ _ rfl rfl rfl _
    obtain ⟨hbf, hbr⟩ := a.onlyRegs_setFld (l := [.engCtrl e]) (r := .engCtrl e) (by simp) F.engCtrl.icinv 1
    simp only [if_true]
    generalize a.setFld (.engCtrl e) F.engCtrl.icinv 1 = b at hb hbs hbf hbr
    have hif := b.invalidate_frame e
    have hcache := b.icache_invalidate e
    have hline := fun u (hu : u < 32) => b.lineBuf_invalidate e hu
    generalize b.invalidate e = c at hif hcache hline
    have hcr : c.regs = b.regs := by rw [hif]
    exact ⟨(State.fld_congr hcr _ _).trans (hbs.trans hs), (State.fld_congr hcr _ _).trans hb,
      fun _ => ⟨hcache, hline⟩, nofun,
      fun r h => (State.rd_congr hcr r).trans ((hbr r h).trans (hr r h)), by rw [hif, hbf, hf]⟩

theorem State.secure_askEngine {w : Who} (h : s.rights w = .secure) (swap icinv : Bool) :
    (s.askEngine e swap icinv).rights w = .secure := by
  have ha : (if swap then s.setFld (.engCtrl e) F.engCtrl.swap 1 else s).rights w = .secure := by
    split
    · exact (State.rights_congr rfl w).trans h
    · exact h
  unfold State.askEngine
  dsimp only
  split
  · exact State.secure_invalidate _ _ ((State.rights_congr rfl w).trans ha)
  · exact ha

end

/-! ### The write -/

section
variable {s : State} {w : Who} {d : BitVec 32} {e : Nat}

theorem State.wrote1_whole (hw : s.rights w = .secure) (k : Nat) (r : Reg) (f : Fld) :
    s.wrote1 ⟨w, k, d, whole⟩ r f = (f.get d != 0) := by
  rw [State.wrote1, State.may_of_secure hw, Wr.bits_whole, Bool.true_and]

theorem State.asleep_askEngine (e : Nat) (sw ic : Bool) : (s.askEngine e sw ic).asleep = s.asleep := by
  have h : (Reg.engPwrstat).key ≠ (Reg.engCtrl e).key := by simp only [Reg.key]; omega
  rw [State.asleep, State.fld_of_rd ((s.asks e sw ic).rd .engPwrstat (by simpa using h)), State.asleep]

theorem writeEngCtrl_whole (hw : s.rights w = .secure) (ha : s.asleep = false) (k : Nat) :
    let a := s.askEngine e (F.engCtrl.swap.get d != 0) (F.engCtrl.icinv.get d != 0)
    writeEngCtrl s ⟨w, k, d, whole⟩ e = (a.moveEngine e ((a.engLife e).request (F.engCtrl.en.get d)), false) := by
  intro a
  have hs : (if (F.engCtrl.swap.get d != 0) then s.setFld (.engCtrl e) F.engCtrl.swap 1 else s).rights w = .secure := by
    split
    · exact (State.rights_congr rfl w).trans hw
    · exact hw
  have hm : a.may ⟨w, k, d, whole⟩ (.engCtrl e) F.engCtrl.en = true := State.may_of_secure (s.secure_askEngine e hw _ _) _ _
  have hsleep : a.asleep = false := (State.asleep_askEngine e _ _).trans ha
  unfold writeEngCtrl
  dsimp only
  rw [State.wrote1_whole hw, State.wrote1_whole hs]
  change (if (a.may _ _ _ && _) = true then if a.asleep = true then _ else (a.moveEngine e _, false) else _) = _
  rw [hm, hsleep, Wr.any_whole _ _ _ (by decide), Wr.bits_whole]
  rfl

/-- The engines' registers are none of the tick-clocked units'. -/
theorem tickClocked_below {k : Nat} (h : k < 0x720000) : tickClocked k = false := by
  rw [tickClocked, decide_eq_false (by omega), Bool.false_and]

/-- A request for EN = 1 starts an engine that is OFF and leaves one that is ON; one for EN = 0 leaves it OFF. -/
theorem Life.request_st {l : Life} {n : Nat} (hn : n < 2) (h : l.st = 0 ∨ l.st = 2 ∧ n = 1) :
    (l.request n).st = if l.st = 0 then n else 2 := by
  unfold Life.request
  split <;> simp_all
  omega

theorem answers_engCtrl {c : Instr} (hc : exec c s = execEngCtrl w e d whole s) (hw : s.Writer w) (he : e < 9)
    (ha : s.asleep = false) (hst : s.fld (.engStat e) F.engStat.state = 0 ∨
      s.fld (.engStat e) F.engStat.state = 2 ∧ F.engCtrl.en.get d = 1) : Answers c s fun s' =>
        s'.fld (.engCtrl e) F.engCtrl.en = F.engCtrl.en.get d ∧
        s'.fld (.engStat e) F.engStat.state = (if s.fld (.engStat e) F.engStat.state = 0 then F.engCtrl.en.get d else 2) ∧
        s'.fld (.engCtrl e) F.engCtrl.swap =
          (if F.engCtrl.swap.get d = 1 then 1 else s.fld (.engCtrl e) F.engCtrl.swap) ∧
        (F.engCtrl.icinv.get d = 1 → s'.fld (.engCtrl e) F.engCtrl.icinv = 1 ∧ (s'.engine e).icache = [] ∧
          ∀ u, u < 32 → (s'.thread e u).lineBuf = none) ∧
        (F.engCtrl.icinv.get d = 0 → s'.threads = s.threads ∧ s'.engines = s.engines) ∧
        s.RegsBut [.engCtrl e, .engStat e] s' ∧
        s' = { s with regs := s'.regs, threads := s'.threads, engines := s'.engines } := by
  have hk : tickClocked (Reg.engCtrl e).key = false := tickClocked_below (by simp only [Reg.key]; omega)
  refine .of_run (f := fun s => s.access ⟨w, (Reg.engCtrl e).key, d, whole⟩ (.engCtrl e) fun s =>
    writeEngCtrl s ⟨w, (Reg.engCtrl e).key, d, whole⟩ e) hc hw.1 (by simp [he]) ?_
  obtain ⟨hswap, hic, hcache, hkept, hrd, hf⟩ := s.asks e (F.engCtrl.swap.get d != 0) (F.engCtrl.icinv.get d != 0)
  have hn : F.engCtrl.en.get d < 2 := F.engCtrl.en.get_lt d
  have hs2 : F.engCtrl.swap.get d < 2 := F.engCtrl.swap.get_lt d
  rw [State.access_whole hw _ _ hk, writeEngCtrl_whole hw.2.1 ha]
  dsimp only
  rw [if_neg (by simp)]
  generalize s.askEngine e (F.engCtrl.swap.get d != 0) (F.engCtrl.icinv.get d != 0) = a at hswap hic hcache hkept hrd hf
  have hsta : (a.engLife e).st = s.fld (.engStat e) F.engStat.state :=
    State.fld_of_rd (hrd _ (by simpa using engStat_key_ne e)) F.engStat.state
  have hreq := Life.request_st (l := a.engLife e) hn (by rwa [hsta])
  have hren : ((a.engLife e).request (F.engCtrl.en.get d)).en = F.engCtrl.en.get d := Life.en_request _ (by omega)
  have hfit := (a.engLife_fits e).request hn
  generalize hl : (a.engLife e).request (F.engCtrl.en.get d) = l at hreq hren hfit
  rw [State.moveEngine_light (by rw [hreq]; split <;> omega)]
  have hlife := a.engLife_setEngLife e hfit
  obtain ⟨hbf, hbr⟩ := a.onlyRegs_setEngLife e l
  have hctrl : ∀ f : Fld, f.ok = true → F.engCtrl.en.apart f = true →
      (a.setEngLife e l).fld (.engCtrl e) f = a.fld (.engCtrl e) f :=
    fun f => a.fld_setLife_ctrl (en := F.engCtrl.en) l (engStat_key_ne e) rfl
  have hb1 := hctrl F.engCtrl.swap rfl rfl
  have hb2 := hctrl F.engCtrl.icinv rfl rfl
  generalize a.setEngLife e l = b at hlife hbf hbr hb1 hb2
  have hthr : b.threads = a.threads := by rw [hbf]
  have heng : b.engines = a.engines := by rw [hbf]
  refine ⟨(congrArg Life.en hlife).trans hren, (congrArg Life.st hlife).trans (by rw [hreq, hsta]), ?_, fun h => ?_, fun h => ?_,
    fun r h => ?_, by rw [hbf, hf]⟩
  · rw [hb1, hswap]
    by_cases h : F.engCtrl.swap.get d = 1
    · simp [h]
    · simp [show F.engCtrl.swap.get d = 0 by omega]
  · have h1 : (F.engCtrl.icinv.get d != 0) = true := by simp [h]
    obtain ⟨hca, hli⟩ := hcache h1
    rw [h1] at hic
    exact ⟨hb2.trans hic, by rw [State.engine, heng]; exact hca, fun u hu => by rw [State.thread_congr hthr]; exact hli u hu⟩
  · have h0 : (F.engCtrl.icinv.get d != 0) = false := by simp [h]
    rw [hthr, heng]
    exact hkept h0
  · obtain ⟨hr1, hr2⟩ : r.key ≠ (Reg.engCtrl e).key ∧ r.key ≠ (Reg.engStat e).key := by simpa using h
    exact (hbr r (by simp [hr1, hr2])).trans (hrd r (by simpa using hr1))

end

end Sys2Proof.Machine
end

section
/-! PROOFS. Writes of ENG_TSTATE: commands to a thread at its boundary (spec/05 R126, spec/02 R512). -/

namespace Sys2Proof.Machine

open Sys2Proof

/-- A thread that has come to issue or to wait while its engine quiesces, quiesced as well (spec/02 R512). -/
def State.heldThread (s : State) (e : Nat) (y : Thread) : Thread :=
  if s.quiescing e ∧ (y.issues ∨ y.st = .waiting) ∧ y.atBoundary
  then { y with st := .quiesced, prior := y.st, byStop := true, pair := none } else y

section
variable {s : State} {e t : Nat}

theorem State.onlyThread_quiesceNew (x : Thread) :
    s.OnlyThread e t (s.heldThread e x) ((s.setThread e t x).quiesceNew e t) := by
  have h : s.OnlyThread e t x (s.setThread e t x) := s.onlyThread_setThread e t x
  have hq : (s.setThread e t x).quiescing e = s.quiescing e := rfl
  unfold State.quiesceNew State.heldThread
  dsimp only
  rw [State.thread_setThread_self, hq]
  by_cases hc : s.quiescing e = true ∧ (x.issues = true ∨ x.st = .waiting) ∧ x.atBoundary = true
  · obtain ⟨hc1, hc2, hc3⟩ := hc
    have hor : (x.issues || x.st == .waiting) = true := by simpa using hc2
    rw [if_pos ⟨hc1, hc2, hc3⟩, hc1, hor, hc3]
    exact h.trans (State.onlyThread_setThread _ e t _)
  · rw [if_neg hc, if_neg (by simpa [and_assoc] using hc)]
    exact h

variable {w : Who} {d : BitVec 32}

/-- A write of ENG_TSTATE that keeps PRIO and PRIV is its command, and a thread at its boundary obeys at once. -/
theorem Answers.of_command {c : Instr} {P : State → Prop} (hc : exec c s = execTstate w e t d whole s) (hw : s.Writer w)
    (he : e < 9) (ht : t < 32) (hb : (s.thread e t).atBoundary = true) (hq : (s.thread e t).cmdQueue = [])
    (hprio : F.engTstate.prio.get d = (s.thread e t).prio) (hpriv : F.engTstate.priv.get d = (s.thread e t).priv)
    (h : P (s.applyCmd e t (F.engTstate.cmd.get d))) : Answers c s P := by
  have hk : tickClocked (Reg.engTstate e t).key = false := tickClocked_below (by simp only [Reg.key]; omega)
  have hwr : writeEngTstate s ⟨w, (Reg.engTstate e t).key, d, whole⟩ e t = (s.applyCmd e t (F.engTstate.cmd.get d), false) := by
    unfold writeEngTstate State.orderThread
    dsimp only
    rw [Wr.val_whole, Wr.val_whole, hprio, hpriv, bne_self_eq_false, bne_self_eq_false, Bool.or_false, Bool.and_false,
      Bool.false_and, if_neg Bool.false_ne_true, State.may_of_secure hw.2.1, Wr.full_whole, Wr.bits_whole, hb, hq]
    rfl
  refine .of_run (f := fun s => s.access ⟨w, (Reg.engTstate e t).key, d, whole⟩ (.engTstate e t) fun s =>
    writeEngTstate s ⟨w, (Reg.engTstate e t).key, d, whole⟩ e t) hc hw.1 (by simp [he, ht]) ?_
  rw [State.access_whole hw _ _ hk, hwr]
  exact h

/-! ### The commands -/

/-- RESUME, of a PARKED thread. -/
theorem State.onlyThread_resume (h : (s.thread e t).st = .parked) :
    s.OnlyThread e t (s.heldThread e { s.thread e t with st := .ready, fcause := 0 }) (s.applyCmd e t 2) := by
  have : s.applyCmd e t 2 = (s.setThread e t { s.thread e t with st := .ready, fcause := 0 }).quiesceNew e t := if_pos h
  rw [this]
  exact State.onlyThread_quiesceNew _

/-- QUIESCE, of a thread that issues or waits. -/
theorem State.onlyThread_quiesce (h : ((s.thread e t).issues || decide ((s.thread e t).st = .waiting)) = true) :
    s.OnlyThread e t ((s.thread e t).quiesce false) (s.applyCmd e t 3) := by
  have : s.applyCmd e t 3 = s.setThread e t ((s.thread e t).quiesce false) := if_pos h
  rw [this]
  exact s.onlyThread_setThread e t _

/-- RELEASE, of a QUIESCED thread. -/
theorem State.onlyThread_release (h : (s.thread e t).st = .quiesced) :
    s.OnlyThread e t (s.heldThread e (s.thread e t).release) (s.applyCmd e t 4) := by
  have : s.applyCmd e t 4 = (s.setThread e t (s.thread e t).release).quiesceNew e t := if_pos h
  rw [this]
  exact State.onlyThread_quiesceNew _

/-- CLRVIOL. -/
theorem State.onlyThread_clrviol : s.OnlyThread e t { s.thread e t with viol := 0 } (s.applyCmd e t 5) :=
  s.onlyThread_setThread e t _

/-- PARK, of a thread that is not parked yet. -/
theorem State.parks_applyCmd (h : (s.thread e t).st ≠ .parked) : s.Parks e t 6 (s.applyCmd e t 1) := by
  have : s.applyCmd e t 1 = s.park e t 6 := if_neg h
  rw [this]
  exact s.parks e t 6

/-- DECLARE, of a thread of no domain that issues (spec/05 R126). -/
theorem State.faultsAlone_declare (ht : t < 32) (h : (s.thread e t).issues = true)
    (hd : s.threadDomain (s.roleOf e) t = none) : s.FaultsAlone e t 5 8 (s.applyCmd e t 6) := by
  have : s.applyCmd e t 6 = s.threadFault e t 5 8 := if_pos h
  rw [this]
  exact State.threadFault_alone ht hd 5 8

theorem answers_threadCmds (hw : s.Writer w) (he : e < 9) (ht : t < 32) (hb : (s.thread e t).atBoundary = true)
    (hq : (s.thread e t).cmdQueue = []) (hprio : F.engTstate.prio.get d = (s.thread e t).prio)
    (hpriv : F.engTstate.priv.get d = (s.thread e t).priv) : let x := s.thread e t
    (F.engTstate.cmd.get d = 1 → x.st ≠ .parked → Answers (.threadCmdPark w e t d whole) s fun s' =>
      s'.thread e t = { x with st := .parked, inhdl := false, rep := none, savedRep := none, byStop := false, pair := none,
                               parkCause := 6, parkPc := x.pc } ∧
      s'.fld (.engParkcnt e) F.engParkcnt.count = satInc F.engParkcnt.count.width (s.fld (.engParkcnt e) F.engParkcnt.count) ∧
      s.RegsBut [.engParkcnt e] s' ∧ s' = { s with regs := s'.regs, threads := s'.threads }) ∧
    (∀ c : Instr × Nat × Bool × Thread,
      c ∈ [(.threadCmdResume w e t d whole, 2, decide (x.st = .parked), s.heldThread e { x with st := .ready, fcause := 0 }),
        (.threadCmdQuiesce w e t d whole, 3, x.issues || decide (x.st = .waiting), { x with st := .quiesced, prior := x.st, byStop := false, pair := none }),
        (.threadCmdRelease w e t d whole, 4, decide (x.st = .quiesced), s.heldThread e x.release),
        (.threadCmdClrviol w e t d whole, 5, true, { x with viol := 0 })] →
      F.engTstate.cmd.get d = c.2.1 → c.2.2.1 = true → Answers c.1 s fun s' => s.OnlyThread e t c.2.2.2 s') ∧
    (F.engTstate.cmd.get d = 6 → x.issues = true → s.threadDomain (s.roleOf e) t = none →
      Answers (.threadCmdDeclare w e t d whole) s fun s' =>
        (s'.thread e t).st = .faulted ∧ (s'.thread e t).fcause = 5 ∧ (s'.thread e t).regs = x.regs ∧ (s'.thread e t).pc = x.pc ∧
        s'.fld .engFcnt F.engFcnt.faults = (s.fld .engFcnt F.engFcnt.faults + 1) % 2 ^ F.engFcnt.faults.width) := by
  intro x
  have run := fun {c : Instr} {P : State → Prop} (hc : exec c s = execTstate w e t d whole s) =>
    Answers.of_command (P := P) hc hw he ht hb hq hprio hpriv
  refine ⟨fun hcmd hst => run rfl ?_, fun c hc hcmd hst => ?_, fun hcmd hi hd => run rfl ?_⟩
  · rw [hcmd]
    obtain ⟨hth, -, hn, hr, hf⟩ := State.parks_applyCmd hst
    exact ⟨hth, hn, hr, hf⟩
  · simp only [List.mem_cons, List.not_mem_nil, or_false] at hc
    rcases hc with rfl | rfl | rfl | rfl <;> refine run rfl ?_ <;> rw [hcmd]
    · exact State.onlyThread_resume (of_decide_eq_true hst)
    · exact State.onlyThread_quiesce hst
    · exact State.onlyThread_release (of_decide_eq_true hst)
    · exact State.onlyThread_clrviol
  · rw [hcmd]
    obtain ⟨⟨v, hv⟩, hn, -⟩ := State.faultsAlone_declare ht hi hd
    rw [hv]
    exact ⟨rfl, rfl, rfl, rfl, hn⟩

end

end Sys2Proof.Machine
end

section
/-! PROOFS. The configuration copy (spec/14 R368), pokes (spec/05 R135, R144) and the decode table (spec/04 R122); with them the
writes of O27. -/

namespace Sys2Proof.Machine

open Sys2Proof

/-- The map of a slot is its retirement entries', its bank's, and what was settled in the present tick. -/
theorem State.slotPhys_congr {s t : State} {n : Nat} (hr : ∀ i f, t.fld (.memRetire i) f = s.fld (.memRetire i) f)
    (hb : ∀ f, t.fld (.memBstat n) f = s.fld (.memBstat n) f) (hi : t.integ = s.integ) (ht : t.ticks = s.ticks)
    (hs : t.shoreRuns = s.shoreRuns) (w : Nat) : t.slotPhys n w = s.slotPhys n w := by
  have hj : ∀ M, t.justNow M = s.justNow M := fun M => by
    funext n
    simp only [State.justNow, ht, hs]
  simp only [State.slotPhys, State.retireOf, State.bit, hr, hb, hj, hi] <;> rfl

/-! ### What reaches the configuration copy -/

/-- The registers that say where the configuration copy of a role stands. -/
def placesCopy : Reg → Bool
  | .engStat _ | .engCont _ | .memBstat _ | .memRetire _ => true
  | _ => false

/-- The state with other memory. -/
def State.withMem (s : State) (m : SMap (BitVec 8)) (c : SMap (BitVec 16)) : State := { s with mem := m, chk := c }

/-- `t` copies what `s` copies: the copy stands at the same place and the same memory lies there. -/
structure State.CopiesAs (s t : State) : Prop where
  rd : ∀ r, placesCopy r = true → t.rd r = s.rd r
  mem : t.mem = s.mem
  chk : t.chk = s.chk
  integ : t.integ = s.integ
  ticks : t.ticks = s.ticks
  runs : t.shoreRuns = s.shoreRuns

/-- Bytes are stored into any state alike. -/
theorem State.setBytes_withMem (m : SMap (BitVec 8)) (c : SMap (BitVec 16)) (k : Nat) (mask : BitVec 8) (d : BitVec 64) :
    ∃ m', ∀ u : State, (u.withMem m c).setBytes k mask d = u.withMem m' c := by
  have h : ∀ (l : List Nat) (m : SMap (BitVec 8)), ∃ m', ∀ u : State,
      l.foldl (fun s i => if mask.getLsbD i then s.setByte (8 * k + i) (byteOf d i) else s) (u.withMem m c) = u.withMem m' c := by
    intro l
    induction l with
    | nil => exact fun m => ⟨m, fun _ => rfl⟩
    | cons i l ih =>
      intro m
      obtain ⟨m', hm⟩ := ih (if mask.getLsbD i then m.put (8 * k + i) (byteOf d i) 0 else m)
      refine ⟨m', fun u => ?_⟩
      rw [List.foldl_cons, ← hm u]
      split <;> rfl
  exact h _ m

theorem State.writeWord_whole (s : State) (k : Nat) (d : BitVec 64) :
    s.writeWord k 0xFF d = (s.setBytes (s.served k) 0xFF d).setSyn (s.served k) 0 := rfl

section
variable {s t : State} (h : s.CopiesAs t) (m : SMap (BitVec 8)) (c : SMap (BitVec 16))
include h

theorem State.CopiesAs.fld {r : Reg} (hr : placesCopy r = true) (f : Fld) : t.fld r f = s.fld r f :=
  State.fld_of_rd (h.rd r hr) f

theorem State.CopiesAs.slotPhys (n w : Nat) : (t.withMem m c).slotPhys n w = (s.withMem m c).slotPhys n w :=
  State.slotPhys_congr (fun i => h.fld (r := .memRetire i) rfl) (h.fld (r := .memBstat n) rfl) h.integ h.ticks h.runs w

theorem State.CopiesAs.served (k : Nat) : (t.withMem m c).served k = (s.withMem m c).served k := by
  simp only [State.served, State.withMem, h.integ]

end

/-- Two states that are `s` and `t` with the same memory. -/
def State.Alike (s t x y : State) : Prop := ∃ m c, x = s.withMem m c ∧ y = t.withMem m c

section
variable {s t : State} (h : s.CopiesAs t)
include h

theorem State.CopiesAs.writeWords {x y : State} (hxy : s.Alike t x y) (l : List Nat) (k : Nat → Nat) (d : Nat → State → BitVec 64)
    (hd : ∀ m c j, d j (t.withMem m c) = d j (s.withMem m c)) :
    s.Alike t (l.foldl (fun s j => s.writeWord (k j) 0xFF (d j s)) x) (l.foldl (fun s j => s.writeWord (k j) 0xFF (d j s)) y) := by
  refine List.foldl_rel hxy fun j _ x y ⟨m, c, hx, hy⟩ => ?_
  subst hx hy
  obtain ⟨m', hm⟩ := State.setBytes_withMem m c ((s.withMem m c).served (k j)) 0xFF (d j (s.withMem m c))
  rw [hd, State.writeWord_whole, State.writeWord_whole, h.served, hm, hm]
  exact ⟨m', c.put _ _ _, rfl, rfl⟩

theorem State.CopiesAs.copyRole (r : Nat) : s.Alike t (s.copyRole r) (t.copyRole r) := by
  have hst : s.Alike t s t := ⟨s.mem, s.chk, rfl, by rw [← h.mem, ← h.chk]; rfl⟩
  have hc : ∀ f, t.fld (.engCont r) f = s.fld (.engCont r) f := h.fld rfl
  unfold State.copyRole State.slotRange
  simp only [State.bit, hc]
  by_cases hp : r < 8 ∧ (s.fld (.engCont r) F.engCont.cen != 0) = true
  · rw [if_pos hp, if_pos hp]
    refine List.foldl_rel hst fun i _ x y ⟨m, c, hx, hy⟩ => ?_
    subst hx hy
    rw [h.slotPhys]
    split
    · split
      · refine h.writeWords ⟨m, c, rfl, rfl⟩ _ _ _ fun m c j => ?_
        simp only [State.withMem, h.ticks]
      · exact ⟨m, c, rfl, rfl⟩
    · exact ⟨m, c, rfl, rfl⟩
  · rw [if_neg hp, if_neg hp]
    exact hst

/-- The copy is brought up alike. -/
theorem State.CopiesAs.copyThrough (e : Nat) : t.copyThrough e =
    { t with mem := (s.copyThrough e).mem, chk := (s.copyThrough e).chk } := by
  have hr : t.roleOf e = s.roleOf e := h.fld rfl _
  obtain ⟨m, c, hx, hy⟩ := h.copyRole (s.roleOf e)
  rw [State.copyThrough, State.copyThrough, hr, hx, hy]
  rfl

end

/-! ### Pokes -/

section
variable {s : State} {w : Who} {d : BitVec 32} {e t : Nat}

theorem answers_poke (hw : s.Writer w) (he : e < 9) (ht : t < 32) : let x := s.thread e t
    Answers (.poke w e t d whole) s fun s' =>
      s'.thread e t = Thread.waitTest { x with evt := x.evt ||| d.setWidth 16, urgmask := d.extractLsb' 16 16 } ∧
      (∀ e' u, 32 * e' + u ≠ 32 * e + t → s'.thread e' u = s.thread e' u) ∧
      s' = { s with threads := s'.threads, mem := (s.copyThrough e).mem, chk := (s.copyThrough e).chk } := by
  have hk : tickClocked (Reg.engTevt e t).key = false := tickClocked_below (by simp only [Reg.key]; omega)
  have hsec := hw.2.1
  have hlow : BitVec.ofNat 16 (F.engTevt.evt.get d) = d.setWidth 16 := by
    apply BitVec.eq_of_toNat_eq
    simp [Fld.get, Fld.width, F.engTevt.evt]
  have hhigh : BitVec.ofNat 16 (F.engTevt.urgmask.get d) = d.extractLsb' 16 16 := by
    apply BitVec.eq_of_toNat_eq
    simp [Fld.get, Fld.width, F.engTevt.urgmask, Nat.shiftRight_eq_div_pow]
  let a := s.modThread e t fun x => { x with urgmask := d.extractLsb' 16 16 }
  have ha : a.rights w = .secure := State.secure_modThread (fun _ => rfl) hsec
  have hcopy : s.CopiesAs a := ⟨fun _ _ => rfl, rfl, rfl, rfl, rfl, rfl⟩
  have hb := hcopy.copyThrough e
  have hwr : writeEngTevt s ⟨w, (Reg.engTevt e t).key, d, whole⟩ e t = ((a.copyThrough e).setEvt e t (d.setWidth 16), false) := by
    have hm : (a.copyThrough e).may ⟨w, (Reg.engTevt e t).key, d, whole⟩ (.engTevt e t) F.engTevt.evt = true :=
      State.may_of_secure ((State.rights_congr (by rw [hb]) w).trans ha) _ _
    unfold writeEngTevt
    dsimp only
    rw [hsec, Wr.any_whole _ _ _ (by decide), Wr.val_whole, Wr.bits_whole, hlow, hhigh]
    simp only [Rights.supervisor, Bool.and_self, if_true]
    change (if (a.copyThrough e).may _ _ _ && _ then _ else _) = _
    rw [hm]
    rfl
  refine .of_run (f := fun s => s.access ⟨w, (Reg.engTevt e t).key, d, whole⟩ (.engTevt e t) fun s =>
    writeEngTevt s ⟨w, (Reg.engTevt e t).key, d, whole⟩ e t) rfl hw.1 (by simp [he, ht]) ?_
  rw [State.access_whole hw _ _ hk, hwr]
  dsimp only
  rw [if_neg (by simp), hb]
  have hx : ({ a with mem := (s.copyThrough e).mem, chk := (s.copyThrough e).chk } : State).thread e t =
      { s.thread e t with urgmask := d.extractLsb' 16 16 } :=
    (State.thread_congr (s := a) rfl e t).trans (s.thread_modThread_self e t fun x => { x with urgmask := d.extractLsb' 16 16 })
  refine ⟨(State.thread_modThread_self _ e t _).trans ?_,
    fun e' u h => (State.thread_modThread_ne _ _ h).trans ((State.thread_congr (s := a) rfl e' u).trans
      (s.thread_modThread_ne (fun x => { x with urgmask := d.extractLsb' 16 16 }) h)), rfl⟩
  rw [hx]

end

/-! ### The decode table -/

/-- The fields of a micro-op (spec/04 R113). -/
def uopFields : List Fld := [F.engUop.kind, F.engUop.op, F.engUop.d, F.engUop.s, F.engUop.imm]

/-- A micro-op is its fields. -/
theorem uop_eq_of_fields {x y : BitVec 32} (h : ∀ f ∈ uopFields, f.get x = f.get y) : x.extractLsb' 0 24 = y.extractLsb' 0 24 := by
  apply BitVec.eq_of_toNat_eq
  simp only [uopFields, List.forall_mem_cons, Fld.get, Fld.width, F.engUop.kind, F.engUop.op, F.engUop.d, F.engUop.s,
    F.engUop.imm] at h
  obtain ⟨h1, h2, h3, h4, h5, -⟩ := h
  simp only [BitVec.extractLsb'_toNat, Nat.shiftRight_zero]
  omega

/-- Fields of one register, set in turn to those of a word. -/
def State.setFlds (s : State) (r : Reg) (d : BitVec 32) (l : List Fld) : State := l.foldl (fun s f => s.setFld r f (f.get d)) s

theorem State.onlyRegs_setFlds (s : State) (r : Reg) (d : BitVec 32) (l : List Fld) : s.OnlyRegs [r] (s.setFlds r d l) :=
  foldl_related (R := fun s t : State => s.OnlyRegs [r] t) (fun s => .refl s _) (fun h h' => h.trans h')
    (fun s f _ => s.onlyRegs_setFld (by simp) f _) s

theorem State.fld_setFlds_apart (s : State) (r : Reg) (d : BitVec 32) {l : List Fld} {f : Fld} (hf : f.ok = true)
    (hl : ∀ g ∈ l, g.ok = true ∧ g.apart f = true) : (s.setFlds r d l).fld r f = s.fld r f :=
  foldl_keeps (fun s => s.fld r f) (fun s g hg => s.fld_setFld_apart r (hl g hg).1 hf (hl g hg).2 _) s

theorem State.fld_setFlds (s : State) (r : Reg) (d : BitVec 32) {l : List Fld} (hl : ∀ f ∈ l, f.ok = true)
    (ha : l.Pairwise fun f g => g.apart f = true) {f : Fld} (hf : f ∈ l) : (s.setFlds r d l).fld r f = f.get d := by
  induction l generalizing s with
  | nil => simp at hf
  | cons g l ih =>
    obtain ⟨hg, hl'⟩ := List.forall_mem_cons.1 hl
    obtain ⟨hg', ha⟩ := List.pairwise_cons.1 ha
    rcases List.mem_cons.1 hf with rfl | hf
    · exact ((s.setFld r f (f.get d)).fld_setFlds_apart r d (l := l) hg fun g h => ⟨hl' g h, hg' g h⟩).trans
        ((s.fld_setFld_self r hg _).trans (Nat.mod_eq_of_lt (f.get_lt d)))
    · exact ih (s.setFld r g (g.get d)) hl' ha hf

section
variable {s : State} {w : Who} {d : BitVec 32} {e n k : Nat}

/-- Supervisor-writable fields take a whole write. -/
theorem State.takeIf_srw (hw : s.rights w = .secure) (a : Nat) (r : Reg) {l : List Fld} (hl : ∀ f ∈ l, f.mask ≠ 0 ∧ f.acc = .srw) :
    l.foldl (fun y f => State.takeIf true y ⟨w, a, d, whole⟩ r f) (s, false) = (s.setFlds r d l, false) := by
  induction l generalizing s with
  | nil => rfl
  | cons f l ih =>
    obtain ⟨⟨hm, ha⟩, hl⟩ := List.forall_mem_cons.1 hl
    have ht : s.take ⟨w, a, d, whole⟩ r f = s.setFld r f (f.get d) := by
      simp [State.take, State.may_of_secure (x := ⟨w, a, d, whole⟩) hw r f, Wr.any_whole w a d hm, ha, Wr.val_whole]
    rw [List.foldl_cons, State.takeIf, if_pos rfl, ht]
    exact ih ((State.rights_congr rfl w).trans hw) hl

/-- A refused write leaves the register, and is counted where it would change a field. -/
theorem State.takeIf_refused (hw : s.rights w = .secure) (a : Nat) (r : Reg) {l : List Fld} (hl : ∀ f ∈ l, f.mask ≠ 0) (b : Bool) :
    l.foldl (fun y f => State.takeIf false y ⟨w, a, d, whole⟩ r f) (s, b) = (s, b || l.any fun f => f.get d != s.fld r f) := by
  induction l generalizing b with
  | nil => simp
  | cons f l ih =>
    obtain ⟨hm, hl⟩ := List.forall_mem_cons.1 hl
    have hc : s.changes ⟨w, a, d, whole⟩ r f = (f.get d != s.fld r f) := by
      rw [State.changes, State.may_of_secure (x := ⟨w, a, d, whole⟩) hw r f, Wr.any_whole w a d hm, Wr.val_whole]
      rfl
    rw [List.foldl_cons, State.takeIf, if_neg Bool.false_ne_true, hc]
    exact (ih hl _).trans (by rw [List.any_cons, Bool.or_assoc])

/-- The registers that place the configuration copy are none of the decode table's. -/
theorem placesCopy_key {r : Reg} (h : placesCopy r = true) (he : e < 9) (hn : n < 16) (hk : k < 8) : r.key ≠ (Reg.engUop e n k).key := by
  unfold placesCopy at h
  split at h
  case h_5 => cases h
  all_goals
    simp only [Reg.key]
    omega

theorem uopFields_masks : ∀ f ∈ uopFields, f.mask ≠ 0 ∧ f.acc = .srw := by decide

theorem tableReg_uop (hn : n < 16) (hk : k < 8) : tableReg e (0xC00 + 32 * n + 4 * k) = some (.engUop e n k) := by
  have hdiv : (0xC00 + 32 * n + 4 * k - 0xC00) / 32 = n := by omega
  have hmod : (0xC00 + 32 * n + 4 * k - 0xC00) % 32 / 4 = k := by omega
  rw [tableReg, if_pos (by omega), hdiv, hmod]

theorem exec_decodeTableWrite {off : Nat} (h : tableReg e off = some (.engUop e n k)) :
    exec (.decodeTableWrite w e off d whole) s = s.run (decide (e < 9)) fun s =>
      s.access ⟨w, (Reg.engUop e n k).key, d, whole⟩ (.engUop e n k) fun s =>
        writeEngUop s ⟨w, (Reg.engUop e n k).key, d, whole⟩ e (.engUop e n k) := by
  have hx : exec (.decodeTableWrite w e off d whole) s = execDecodeTableWrite w e off d whole s := rfl
  rw [hx, execDecodeTableWrite, h]
  rfl

theorem writeEngUop_eq {x : Wr} {y : State} {refused : Bool}
    (hy : uopFields.foldl (fun y f => State.takeIf (s.tableIdle e) y x (.engUop e n k) f) (s, false) = (y, refused)) :
    writeEngUop s x e (.engUop e n k) = (if refused then y else y.copyThrough e, refused) := by
  have hf : (Reg.engUop e n k).fields = uopFields := rfl
  rw [writeEngUop, hf, hy]

theorem Answers.of_uop (hw : s.Writer w) (he : e < 9) (hn : n < 16) (hk : k < 8) {P : State → Prop} {y : State} {refused : Bool}
    (hy : uopFields.foldl (fun x f => State.takeIf (s.tableIdle e) x ⟨w, (Reg.engUop e n k).key, d, whole⟩ (.engUop e n k) f)
      (s, false) = (y, refused))
    {z : State} (hz : (if refused then y.violate w 3 (Reg.engUop e n k).key true else y.copyThrough e) = z) (h : P z) :
    Answers (.decodeTableWrite w e (0xC00 + 32 * n + 4 * k) d whole) s P := by
  have ht : tickClocked (Reg.engUop e n k).key = false := tickClocked_below (by simp only [Reg.key]; omega)
  refine .of_run (exec_decodeTableWrite (tableReg_uop hn hk)) hw.1 (by simp [he]) ?_
  rw [State.access_whole hw _ _ ht, writeEngUop_eq hy]
  subst hz
  cases refused with
  | false => simpa only [Bool.false_eq_true, if_false] using h
  | true => simpa only [if_true] using h

/-- A micro-op that the table took is in its register, and the copy is brought up from all that it reads. -/
theorem Answers.of_uop_taken (hw : s.Writer w) (he : e < 9) (hn : n < 16) (hk : k < 8) {y : State}
    (hy : uopFields.foldl (fun x f => State.takeIf (s.tableIdle e) x ⟨w, (Reg.engUop e n k).key, d, whole⟩ (.engUop e n k) f)
      (s, false) = (y, false))
    (hfld : ∀ f ∈ uopFields, y.fld (.engUop e n k) f = f.get d) (ho : s.OnlyRegs [.engUop e n k] y) :
    Answers (.decodeTableWrite w e (0xC00 + 32 * n + 4 * k) d whole) s fun s' =>
      (s'.rd (.engUop e n k)).extractLsb' 0 24 = d.extractLsb' 0 24 ∧ s.RegsBut [.engUop e n k] s' ∧
      s' = { s with regs := s'.regs, mem := (s.copyThrough e).mem, chk := (s.copyThrough e).chk } := by
  obtain ⟨hf, hr⟩ := ho
  have hcopy : s.CopiesAs y := ⟨fun r h => hr r (by simpa using placesCopy_key h he hn hk), by rw [hf], by rw [hf], by rw [hf],
    by rw [hf], by rw [hf]⟩
  have hbits : ∀ m c, ((y.withMem m c).rd (.engUop e n k)).extractLsb' 0 24 = d.extractLsb' 0 24 := fun _ _ =>
    uop_eq_of_fields hfld
  have hrd : ∀ m c, s.RegsBut [.engUop e n k] (y.withMem m c) := fun _ _ => hr
  exact .of_uop hw he hn hk hy ((if_neg Bool.false_ne_true).trans (hcopy.copyThrough e)) ⟨hbits _ _, hrd _ _, by rw [hf]⟩

/-- While no thread may execute it, the table takes a micro-op. -/
theorem answers_uop_idle (hw : s.Writer w) (he : e < 9) (hn : n < 16) (hk : k < 8) (hi : s.tableIdle e = true) :
    Answers (.decodeTableWrite w e (0xC00 + 32 * n + 4 * k) d whole) s fun s' =>
      (s'.rd (.engUop e n k)).extractLsb' 0 24 = d.extractLsb' 0 24 ∧ s.RegsBut [.engUop e n k] s' ∧
      s' = { s with regs := s'.regs, mem := (s.copyThrough e).mem, chk := (s.copyThrough e).chk } :=
  .of_uop_taken hw he hn hk (by rw [hi, State.takeIf_srw hw.2.1 _ _ uopFields_masks])
    (fun _ hf => s.fld_setFlds _ d (by decide) (by decide) hf) (s.onlyRegs_setFlds _ d uopFields)

/-- Else it refuses a change, and counts it. -/
theorem answers_uop_busy (hw : s.Writer w) (he : e < 9) (hn : n < 16) (hk : k < 8) (hi : s.tableIdle e = false)
    (hne : (s.rd (.engUop e n k)).extractLsb' 0 24 ≠ d.extractLsb' 0 24) :
    Answers (.decodeTableWrite w e (0xC00 + 32 * n + 4 * k) d whole) s fun s' =>
      s' = s.violate w 3 (Reg.engUop e n k).key true := by
  have hany : (uopFields.any fun f => f.get d != s.fld (.engUop e n k) f) = true := by
    by_contra hall
    refine hne (uop_eq_of_fields fun f hf => ?_)
    have hf := List.any_eq_false.1 (Bool.eq_false_iff.2 hall) f hf
    rw [bne_iff_ne, not_not] at hf
    exact hf.symm
  have hy : uopFields.foldl (fun x f => State.takeIf (s.tableIdle e) x ⟨w, (Reg.engUop e n k).key, d, whole⟩ (.engUop e n k) f)
      (s, false) = (s, true) := by
    rw [hi, State.takeIf_refused hw.2.1 _ _ (fun f hf => (uopFields_masks f hf).1), hany]
    rfl
  exact .of_uop hw he hn hk hy (if_pos rfl) rfl

end

/-- Settles O27: a whole write by a writer with secure rights acts at once as its unit's rule says; a thread at its boundary
obeys at once, and the configuration copy is brought up from what the write leaves as it is. -/
theorem commandsOfEnginesAndThreads : Obligations.CommandsOfEnginesAndThreads := by
  intro s w d e t hw he ht
  refine ⟨fun c hc ha hst => ?_, fun hb hq hprio hpriv => answers_threadCmds hw he ht hb hq hprio hpriv, answers_poke hw he ht,
    fun n k hn hk => ⟨answers_uop_idle hw he hn hk, answers_uop_busy hw he hn hk⟩⟩
  have hx : exec c s = execEngCtrl w e d whole s := by
    simp only [List.mem_cons, List.not_mem_nil, or_false] at hc
    rcases hc with rfl | rfl | rfl <;> rfl
  exact answers_engCtrl hx hw he ha hst

end Sys2Proof.Machine
end

section
/-! PROOFS. Bytes and check bits of memory (spec/12 R317): what a stored word, a stored half and the poison code leave. -/

namespace Sys2Proof.Machine

open Sys2Proof

/-! ### Bytes -/

theorem State.byte_setBytes (s : State) (k : Nat) (mask : BitVec 8) (d : BitVec 64) (b : Nat) :
    (s.setBytes k mask d).byte b =
      if 8 * k ≤ b ∧ b < 8 * k + 8 ∧ mask.getLsbD (b - 8 * k) then byteOf d (b - 8 * k) else s.byte b := by
  have h : ∀ n, ((List.range n).foldl (fun s i => if mask.getLsbD i then s.setByte (8 * k + i) (byteOf d i) else s) s).byte b =
      if 8 * k ≤ b ∧ b < 8 * k + n ∧ mask.getLsbD (b - 8 * k) then byteOf d (b - 8 * k) else s.byte b := by
    intro n
    induction n with
    | zero => rw [if_neg (by omega)]; rfl
    | succ n ih =>
      rw [List.range_succ, List.foldl_append, List.foldl_cons, List.foldl_nil]
      by_cases hb : b = 8 * k + n
      · subst hb
        rw [Nat.add_sub_cancel_left] at ih ⊢
        rw [if_neg (by omega)] at ih
        by_cases hm : mask.getLsbD n
        · rw [if_pos hm, State.byte_setByte_self, if_pos ⟨by omega, by omega, hm⟩]
        · rw [if_neg hm, ih, if_neg (by simp [hm])]
      · have hlt : b < 8 * k + (n + 1) ↔ b < 8 * k + n := by omega
        simp only [hlt]
        split
        next => rw [State.byte_setByte_ne _ _ hb, ih]
        next => exact ih
  exact h 8

theorem State.frame_setBytes (s : State) (k : Nat) (mask : BitVec 8) (d : BitVec 64) :
    s.setBytes k mask d = { s with mem := (s.setBytes k mask d).mem } := by
  refine foldl_related (R := fun s t : State => t = { s with mem := t.mem }) (fun _ => rfl) (fun h h' => by rw [h', h])
    (fun s i _ => ?_) s
  split <;> rfl

/-! ### A word that decodes clean -/

/-- A word decodes clean where its syndrome is 0. -/
theorem eccDecode_clean {d : BitVec 64} {sr sc all : BitVec 8} : (eccDecode d sr sc all).1 = .clean ↔ sr = 0 ∧ sc = 0 := by
  unfold eccDecode
  split
  next h => exact iff_of_true rfl h
  next h =>
    refine iff_of_false ?_ h
    split
    · simp
    · split
      · simp
      · split <;> simp
      · split <;> simp
      · simp

theorem State.decodeWord_clean {s : State} {k : Nat} (h : (s.decodeWord k).1 = .clean) : s.decodeWord k = (.clean, s.word k) := by
  rw [State.decodeWord] at h ⊢
  rw [eccDecode, if_pos (eccDecode_clean.1 h)]

/-- Whether a word is clean is in its check bits alone. -/
theorem State.decodeWord_congr {s t : State} (hc : t.chk = s.chk) {k : Nat} (h : (s.decodeWord k).1 = .clean) :
    (t.decodeWord k).1 = .clean := by
  rw [State.decodeWord, eccDecode_clean] at h ⊢
  rwa [State.syn, hc]

theorem State.served_self {s : State} (h : s.integ.bgtSaved = none) (k : Nat) : s.served k = k := by
  rw [State.served, h]

/-- A part of a clean word is stored as it is (spec/12 R317). -/
theorem State.writeWord_part {s : State} (hb : s.integ.bgtSaved = none) {k : Nat} (hc : (s.decodeWord k).1 = .clean)
    {mask : BitVec 8} (h0 : mask ≠ 0) (h1 : mask ≠ 0xFF) (d : BitVec 64) : s.writeWord k mask d = s.setBytes k mask d := by
  rw [State.writeWord, State.served_self hb, if_neg h0, if_neg h1, State.decodeWord_clean hc]

/-! ### A unit of four bytes -/

section
variable (u : Nat)

theorem unitMask_ne : unitMask (4 * u) 0xF ≠ 0 ∧ unitMask (4 * u) 0xF ≠ 0xFF := by
  unfold unitMask
  split <;> decide

theorem getLsbD_unitMask {j : Nat} (hj : j < 8) :
    (unitMask (4 * u) 0xF).getLsbD j = decide (4 * (u % 2) ≤ j ∧ j < 4 * (u % 2) + 4) := by
  have hu : 4 * u / 4 % 2 = u % 2 := by omega
  rcases Nat.mod_two_eq_zero_or_one u with h | h <;> simp only [unitMask, hu, h] <;> revert j <;> decide

theorem byteOf_unitData (d : BitVec 32) {i : Nat} (hi : i < 4) :
    byteOf (unitData (4 * u) d) (4 * (u % 2) + i) = d.extractLsb' (8 * i) 8 := by
  have hu : 4 * u / 4 % 2 = u % 2 := by omega
  refine BitVec.eq_of_getLsbD_eq fun j hj => ?_
  rcases Nat.mod_two_eq_zero_or_one u with h | h
  · have hlt : 8 * i + j < 32 := by omega
    simp only [byteOf, unitData, hu, h, if_true, BitVec.getLsbD_extractLsb', BitVec.getLsbD_append, Nat.mul_zero, Nat.zero_add,
      hlt]
  · have hge : ¬ 8 * (4 * 1 + i) + j < 32 := by omega
    have hsub : 8 * (4 * 1 + i) + j - 32 = 8 * i + j := by omega
    simp only [byteOf, unitData, hu, h, Nat.one_ne_zero, if_false, BitVec.getLsbD_extractLsb', BitVec.getLsbD_append, hge, hsub]

/-- A unit of four bytes stored in its word. -/
def State.setUnit (s : State) (k : Nat) (d : BitVec 32) : State := s.setBytes k (unitMask (4 * u) 0xF) (unitData (4 * u) d)

theorem State.byte_setUnit (s : State) (k : Nat) (d : BitVec 32) (b : Nat) : (s.setUnit u k d).byte b =
    if 8 * k + 4 * (u % 2) ≤ b ∧ b < 8 * k + 4 * (u % 2) + 4 then d.extractLsb' (8 * (b - (8 * k + 4 * (u % 2)))) 8
    else s.byte b := by
  rw [State.setUnit, State.byte_setBytes]
  by_cases h : 8 * k ≤ b ∧ b < 8 * k + 8
  · rw [getLsbD_unitMask u (by omega)]
    by_cases hu : 8 * k + 4 * (u % 2) ≤ b ∧ b < 8 * k + 4 * (u % 2) + 4
    · have hb : b - 8 * k = 4 * (u % 2) + (b - (8 * k + 4 * (u % 2))) := by omega
      rw [if_pos hu, if_pos ⟨h.1, h.2, by rw [decide_eq_true_eq]; omega⟩, hb, byteOf_unitData u d (by omega)]
    · rw [if_neg hu, if_neg (by rw [decide_eq_true_eq]; omega)]
  · rw [if_neg (by omega), if_neg (by omega)]

/-- A store of a unit in a clean word, and one of poison (spec/02 R53). -/
structure State.UnitStored (s : State) (k : Nat) (x : StoreEntry) (s' : State) : Prop where
  data : x.poison = false → (∀ i, i < 4 → s'.byte (8 * k + 4 * (x.unit % 2) + i) = x.data.extractLsb' (8 * i) 8) ∧
    (∀ b, b < 8 * k + 4 * (x.unit % 2) ∨ 8 * k + 4 * (x.unit % 2) + 4 ≤ b → s'.byte b = s.byte b) ∧ s'.chk = s.chk
  poison : x.poison = true → s'.syn k = poisonSyn k ∧ (∀ i, i < 8 → s'.byte (8 * k + i) = 0) ∧
    (∀ b, b < 8 * k ∨ 8 * k + 8 ≤ b → s'.byte b = s.byte b) ∧ ∀ j, j ≠ k → s'.syn j = s.syn j

end

section
variable {s : State} {k : Nat} {x : StoreEntry}

theorem State.stored_setUnit (hp : x.poison = false) : s.UnitStored k x (s.setUnit x.unit k x.data) where
  data _ := by
    refine ⟨fun i hi => ?_, fun b hb => ?_, by rw [State.setUnit, State.frame_setBytes]⟩
    · rw [State.byte_setUnit, if_pos (by omega), Nat.add_sub_cancel_left]
    · rw [State.byte_setUnit, if_neg (by omega)]
  poison h := by simp [hp] at h

theorem State.stored_poisonWord (hp : x.poison = true) : s.UnitStored k x (s.poisonWord k) where
  data h := by simp [hp] at h
  poison _ := by
    have hbyte : ∀ b, (s.poisonWord k).byte b = (s.setBytes k 0xFF 0).byte b := fun _ => rfl
    have hchk : (s.setBytes k 0xFF 0).chk = s.chk := by rw [State.frame_setBytes]
    refine ⟨SMap.get_put_self _ _ _ _, fun i hi => ?_, fun b hb => ?_, fun j hj => ?_⟩
    · have hm : (0xFF#8).getLsbD i = true := by revert i; decide
      rw [hbyte, State.byte_setBytes, Nat.add_sub_cancel_left, if_pos ⟨by omega, by omega, hm⟩, byteOf]
      simp
    · rw [hbyte, State.byte_setBytes, if_neg (by omega)]
    · exact (SMap.get_put_ne _ _ _ hj).trans (by rw [hchk]; rfl)

end

end Sys2Proof.Machine
end

section
/-! PROOFS. The store buffer drains (spec/02 R48 to R53, spec/11 R281, R282, spec/14 R369). -/

namespace Sys2Proof.Machine

open Sys2Proof

/-! ### The entry leaves the buffer -/

theorem Thread.ckLess_eq (x : Thread) (f : CkRecord → CkRecord) : x.ckLess f = { x with ck := (x.ckLess f).ck } := by
  unfold Thread.ckLess
  split
  · split <;> rfl
  · rfl

/-- The oldest entry has left the buffer, and a record of its thread has one store less to wait for. -/
structure State.Pops (s : State) (e : Nat) (l : List StoreEntry) (p : State) : Prop where
  engine : p.engine e = { s.engine e with sb := l }
  thread : ∀ u, p.thread e u = { s.thread e u with ck := (p.thread e u).ck }
  frame : p = { s with engines := p.engines, threads := p.threads }

theorem State.pops_popEntry {s : State} {e : Nat} {x : StoreEntry} {l : List StoreEntry} (h : (s.engine e).sb = x :: l) :
    s.Pops e l (s.popEntry e x) where
  engine := by
    have : (s.popEntry e x).engine e = { s.engine e with sb := (s.engine e).sb.drop 1 } :=
      engine_modEngine_self s e fun y => { y with sb := y.sb.drop 1 }
    rw [this, h]
    rfl
  thread u := by
    by_cases hu : u = x.thr
    · have : (s.popEntry e x).thread e u = (s.thread e u).ckLess fun c => { c with stores := c.stores - 1 } := by
        rw [hu]
        exact State.thread_modThread_self _ e x.thr _
      rw [this]
      exact Thread.ckLess_eq _ _
    · have : (s.popEntry e x).thread e u = s.thread e u := State.thread_modThread_ne _ _ (by omega)
      rw [this]
  frame := rfl

/-! ### What waited for it -/

theorem State.drainStep_none {s : State} {e t : Nat} (h : (s.thread e t).drain = none) : s.drainStep e t = s := by
  rw [State.drainStep, h]

/-- Nothing waits for the entry. -/
theorem State.afterDrain_idle {s : State} {e : Nat} {x : StoreEntry} (h : ∀ u, u < 32 → (s.thread e u).drain = none)
    (hp : inPool (4 * x.unit) = true → s.fld (.memBstat (poolSlot (4 * x.unit))) F.memBstat.state = 2) :
    s.afterDrain e x = s := by
  have hfold : allThreads.foldl (fun s t => s.drainStep e t) s = s := by
    have : ∀ l : List Nat, (∀ u ∈ l, u < 32) → l.foldl (fun s t => s.drainStep e t) s = s := by
      intro l
      induction l with
      | nil => exact fun _ => rfl
      | cons u l ih =>
        intro hl
        obtain ⟨hu, hl⟩ := List.forall_mem_cons.1 hl
        rw [List.foldl_cons, State.drainStep_none (h u hu), ih hl]
    exact this _ fun u hu => List.mem_range.1 hu
  unfold State.afterDrain
  rw [hfold]
  dsimp only
  split
  next hin =>
    rw [State.retFollow, hp hin]
    rfl
  next => rfl

/-! ### The ports of local RAM -/

/-- A write through a port of local RAM has been noted, and counted where it meets another (spec/11 R282). -/
structure State.Ports (p : State) (e : Nat) (tie : Bool) (q : State) : Prop where
  engine : q.engine e = { p.engine e with lramLast := (q.engine e).lramLast, lramTies := (q.engine e).lramTies }
  rd : p.RegsBut [.memLrcol e] q
  count : q.fld (.memLrcol e) F.memLrcol.count =
    if tie then satInc F.memLrcol.count.width (p.fld (.memLrcol e) F.memLrcol.count) else p.fld (.memLrcol e) F.memLrcol.count
  frame : q = { p with regs := q.regs, engines := q.engines }

theorem State.Ports.refl (p : State) (e : Nat) : p.Ports e false p := ⟨rfl, fun _ _ => rfl, rfl, rfl⟩

/-- The engine notes a write through the thread port. -/
def Engine.noted (x : Engine) (w tick : Nat) (mask : BitVec 8) : Engine :=
  { x with lramLast := some ⟨false, w, tick, mask⟩, lramTies := if x.lramNear false w tick then x.lramTies + 1 else x.lramTies }

/-- The write meets one of the service port. -/
def Engine.ties (x : Engine) (e w tick : Nat) : Bool := x.lramNear false w tick && Config.ramTie e x.lramTies

theorem State.lramPort_eq (p : State) (e w : Nat) (mask : BitVec 8) : p.lramPort e false w mask =
    (mask, if (p.engine e).ties e w p.ticks then
      (p.modEngine e fun x => x.noted w p.ticks mask).incSat (.memLrcol e) F.memLrcol.count
     else p.modEngine e fun x => x.noted w p.ticks mask) := by
  unfold State.lramPort
  simp only [Bool.and_false, Bool.false_eq_true, if_false]
  rfl

/-- The thread port keeps every byte of the write. -/
theorem State.ports_lramPort (p : State) (e w : Nat) (mask : BitVec 8) :
    ∃ q, p.lramPort e false w mask = (mask, q) ∧ p.Ports e ((p.engine e).ties e w p.ticks) q := by
  refine ⟨_, p.lramPort_eq e w mask, ?_⟩
  have he : (p.modEngine e fun x => x.noted w p.ticks mask).engine e = (p.engine e).noted w p.ticks mask :=
    engine_modEngine_self p e _
  have hE : ∀ q : State, q.engines = (p.modEngine e fun x => x.noted w p.ticks mask).engines →
      q.engine e = { p.engine e with lramLast := (q.engine e).lramLast, lramTies := (q.engine e).lramTies } := fun q hq => by
    have : q.engine e = (p.engine e).noted w p.ticks mask := by rw [State.engine, hq]; exact he
    rw [this]
    rfl
  cases (p.engine e).ties e w p.ticks with
  | true => exact ⟨hE _ rfl, (State.onlyRegs_setFld _ (by simp) _ _).2, State.fld_incSat _ _ rfl, rfl⟩
  | false => exact ⟨hE _ rfl, fun _ _ => rfl, rfl, rfl⟩

end Sys2Proof.Machine
end

section
/-! PROOFS. A store reaches its memory (spec/02 R48 to R53, spec/11 R281, R282, spec/14 R369). -/

namespace Sys2Proof.Machine

open Sys2Proof

/-! ### Where a local RAM word's mirror stands -/

/-- Noting a write at a port changes none of the registers that place a mirror. -/
structure State.Mirrors (s t : State) : Prop where
  rd : ∃ e, e < 9 ∧ s.RegsBut [.memLrcol e] t
  integ : t.integ = s.integ
  ticks : t.ticks = s.ticks
  runs : t.shoreRuns = s.shoreRuns

section
variable {s t : State} (h : s.Mirrors t)
include h

theorem State.Mirrors.fld_slot {n : Nat} (hn : n < 32) (f : Fld) :
    t.fld (.memBctl n) f = s.fld (.memBctl n) f ∧ t.fld (.memBstat n) f = s.fld (.memBstat n) f := by
  obtain ⟨e, he, hr⟩ := h.rd
  have h1 : (Reg.memBctl n).key ≠ (Reg.memLrcol e).key := by simp only [Reg.key]; omega
  have h2 : (Reg.memBstat n).key ≠ (Reg.memLrcol e).key := by simp only [Reg.key]; omega
  exact ⟨State.fld_of_rd (hr _ (by simpa using h1)) f, State.fld_of_rd (hr _ (by simpa using h2)) f⟩

theorem State.Mirrors.fld_low {r : Reg} (hr : r.key < 0x780000) (f : Fld) : t.fld r f = s.fld r f := by
  obtain ⟨e, he, hrd⟩ := h.rd
  have hk : (Reg.memLrcol e).key = 0x780200 + 0x4 * e := rfl
  have h1 : r.key ≠ (Reg.memLrcol e).key := by omega
  exact State.fld_of_rd (hrd _ (by simpa using h1)) f

theorem State.Mirrors.slotPhys {n : Nat} (hn : n < 32) (w : Nat) : t.slotPhys n w = s.slotPhys n w := by
  obtain ⟨e, he, hr⟩ := h.rd
  refine State.slotPhys_congr (fun i f => ?_) (fun f => (h.fld_slot hn f).2) h.integ h.ticks h.runs w
  have h1 : (Reg.memRetire i).key ≠ (Reg.memLrcol e).key := by simp only [Reg.key]; omega
  exact State.fld_of_rd (hr _ (by simpa using h1)) f

theorem State.Mirrors.mirrorAddr {e : Nat} (he : e < 9) (w : Nat) : t.mirrorAddr e w = s.mirrorAddr e w := by
  have hrole : t.roleOf e = s.roleOf e := h.fld_low (by simp only [Reg.key]; omega) _
  have hn : s.fld (.engCont (s.roleOf e)) F.engCont.cslot < 32 := s.fld_lt _ _
  have hslot := h.fld_slot hn
  by_cases hr : s.roleOf e < 8
  · have hc : ∀ f, t.fld (.engCont (s.roleOf e)) f = s.fld (.engCont (s.roleOf e)) f :=
      h.fld_low (by simp only [Reg.key]; omega)
    have hm : ∀ f, t.fld (.engMirror (s.roleOf e)) f = s.fld (.engMirror (s.roleOf e)) f :=
      h.fld_low (by simp only [Reg.key]; omega)
    have hj : t.justNow t.integ.handed = s.justNow s.integ.handed := by
      funext n
      simp only [State.justNow, h.integ, h.ticks, h.runs]
    have ha : t.admitsRole (s.roleOf e) = s.admitsRole (s.roleOf e) := by
      simp only [State.admitsRole, State.slotOwner, hc, hj, (hslot _).1, (hslot _).2]
    simp only [State.mirrorAddr, hrole, State.bit, hm, hc, ha] <;> rfl
  · simp only [State.mirrorAddr, hrole, hr, false_and, if_false]

end

/-- The slot of a mirror is one of the Pool's. -/
theorem State.poolSlot_mirror {s : State} {e w a : Nat} (hw : w < 0x1000) (h : s.mirrorAddr e w = some a) : poolSlot a < 32 := by
  unfold State.mirrorAddr at h
  dsimp only at h
  split at h
  · have hn : s.fld (.engCont (s.roleOf e)) F.engCont.cslot < 32 := s.fld_lt _ _
    rw [Option.some.injEq] at h
    simp only [poolSlot]
    omega
  · cases h

/-! ### The word -/

/-- A store has reached word `k` through a port, and met another where `tie`. -/
structure State.Puts (p : State) (e k : Nat) (x : StoreEntry) (tie : Bool) (q : State) : Prop where
  stored : p.UnitStored k x q
  engine : q.engine e = { p.engine e with lramLast := (q.engine e).lramLast, lramTies := (q.engine e).lramTies }
  rd : p.RegsBut [.memLrcol e] q
  count : q.fld (.memLrcol e) F.memLrcol.count =
    if tie then satInc F.memLrcol.count.width (p.fld (.memLrcol e) F.memLrcol.count) else p.fld (.memLrcol e) F.memLrcol.count
  frame : q = { p with mem := q.mem, chk := q.chk, engines := q.engines, regs := q.regs }

theorem State.UnitStored.congr {s t u : State} {k : Nat} {x : StoreEntry} (hm : t.mem = s.mem) (hc : t.chk = s.chk)
    (h : t.UnitStored k x u) : s.UnitStored k x u := by
  have hb : ∀ b, t.byte b = s.byte b := fun b => by rw [State.byte, hm, State.byte]
  have hs : ∀ j, t.syn j = s.syn j := fun j => by rw [State.syn, hc, State.syn]
  obtain ⟨h1, h2⟩ := h
  simp only [hb, hs, hc] at h1 h2
  exact ⟨h1, h2⟩

section
variable {p q : State} {e k : Nat} {x : StoreEntry}

theorem State.storeWord_data (hb : p.integ.bgtSaved = none) (hm : x.mask = 0xF) (hc : (p.decodeWord k).1 = .clean)
    (hp : x.poison = false) : p.storeWord k x = p.setUnit x.unit k x.data := by
  obtain ⟨h0, h1⟩ := unitMask_ne x.unit
  rw [State.storeWord, hp, hm]
  exact State.writeWord_part hb hc h0 h1 _

theorem State.storeWord_poison (hb : p.integ.bgtSaved = none) (hp : x.poison = true) : p.storeWord k x = p.poisonWord k := by
  rw [State.storeWord, hp, State.served_self hb]
  rfl

theorem State.unitStored_storeWord (hb : p.integ.bgtSaved = none) (hm : x.mask = 0xF) (hc : (p.decodeWord k).1 = .clean) :
    p.UnitStored k x (p.storeWord k x) ∧ p.storeWord k x = { p with mem := (p.storeWord k x).mem, chk := (p.storeWord k x).chk } := by
  cases hp : x.poison with
  | false =>
    rw [State.storeWord_data hb hm hc hp]
    refine ⟨State.stored_setUnit hp, ?_⟩
    have := p.frame_setBytes k (unitMask (4 * x.unit) 0xF) (unitData (4 * x.unit) x.data)
    rw [State.setUnit, this]
  | true =>
    rw [State.storeWord_poison hb hp]
    refine ⟨State.stored_poisonWord hp, ?_⟩
    have := p.frame_setBytes k 0xFF 0
    rw [State.poisonWord, this]
    rfl

/-- Behind the port the word is stored. -/
theorem State.Ports.puts {tie : Bool} (h : p.Ports e tie q) (hb : p.integ.bgtSaved = none) (hm : x.mask = 0xF)
    (hc : (p.decodeWord k).1 = .clean) : p.Puts e k x tie (q.storeWord k x) := by
  obtain ⟨hE, hr, hn, hf⟩ := h
  have hmem : q.mem = p.mem := by rw [hf]
  have hchk : q.chk = p.chk := by rw [hf]
  have hint : q.integ = p.integ := by rw [hf]
  obtain ⟨hs, hw⟩ := State.unitStored_storeWord (p := q) (k := k) (by rw [hint, hb]) hm (State.decodeWord_congr hchk hc)
  obtain ⟨m, c, hmc⟩ : ∃ m c, q.storeWord k x = { q with mem := m, chk := c } := ⟨_, _, hw⟩
  rw [hmc] at hs ⊢
  exact ⟨hs.congr hmem hchk, hE, hr, hn, by rw [hf]⟩

theorem State.Ports.mirrors {tie : Bool} (h : p.Ports e tie q) (he : e < 9) : p.Mirrors q :=
  ⟨⟨e, he, h.rd⟩, by rw [h.frame], by rw [h.frame], by rw [h.frame]⟩

/-- Local RAM without a mirror takes the store through its thread port. -/
theorem State.storeLram_alone (hb : p.integ.bgtSaved = none) (he : e < 9) (hm : p.mirrorAddr e (x.unit / 2) = none) :
    ∃ q, p.Ports e ((p.engine e).ties e (x.unit / 2) p.ticks) q ∧ p.storeLram e x = q.storeWord (lramWord e (x.unit / 2)) x := by
  obtain ⟨q, hq, hport⟩ := p.ports_lramPort e (x.unit / 2) (if x.poison then 0xFF else unitMask (4 * x.unit) x.mask)
  refine ⟨q, hport, ?_⟩
  rw [State.storeLram, hq]
  dsimp only
  have hmir := hport.mirrors he
  have hnone : q.mirrorAddr e (x.unit / 2) = none := (hmir.mirrorAddr he _).trans hm
  have hbq : q.integ.bgtSaved = none := by rw [hmir.integ, hb]
  cases hp : x.poison with
  | true =>
    rw [State.storeWord_poison hbq hp, if_pos rfl, State.poisonLram, hnone]
  | false =>
    rw [State.storeWord, hp, if_neg Bool.false_ne_true, if_neg Bool.false_ne_true, if_neg Bool.false_ne_true, State.writeLram, hnone]

/-- Local RAM with a mirror takes the store in both words. -/
theorem State.storeLram_mirrored {a k' : Nat} (he : e < 9) (hb : p.integ.bgtSaved = none) (hm : x.mask = 0xF)
    (hp : x.poison = false) (hmir : p.mirrorAddr e (x.unit / 2) = some a) (hw : x.unit / 2 < 0x1000)
    (hk : p.slotPhys (poolSlot a) (slotWord a) = some k') (hc : (p.decodeWord (lramWord e (x.unit / 2))).1 = .clean)
    (hc' : (p.decodeWord k').1 = .clean) :
    ∃ q, p.Ports e ((p.engine e).ties e (x.unit / 2) p.ticks) q ∧
      p.storeLram e x = (q.setUnit x.unit (lramWord e (x.unit / 2)) x.data).setUnit x.unit k' x.data := by
  obtain ⟨q, hq, hport⟩ := p.ports_lramPort e (x.unit / 2) (unitMask (4 * x.unit) 0xF)
  obtain ⟨h0, h1⟩ := unitMask_ne x.unit
  have hto := hport.mirrors he
  have hchk : q.chk = p.chk := by rw [hport.frame]
  have hbq : q.integ.bgtSaved = none := by rw [hto.integ, hb]
  have hone : q.writeWord (lramWord e (x.unit / 2)) (unitMask (4 * x.unit) 0xF) (unitData (4 * x.unit) x.data) =
      q.setUnit x.unit (lramWord e (x.unit / 2)) x.data := State.writeWord_part hbq (State.decodeWord_congr hchk hc) h0 h1 _
  have hf := q.frame_setBytes (lramWord e (x.unit / 2)) (unitMask (4 * x.unit) 0xF) (unitData (4 * x.unit) x.data)
  refine ⟨q, hport, ?_⟩
  have haddr : q.mirrorAddr e (x.unit / 2) = some a := (hto.mirrorAddr he _).trans hmir
  have hphys : q.slotPhys (poolSlot a) (slotWord a) = some k' := (hto.slotPhys (State.poolSlot_mirror hw hmir) _).trans hk
  simp only [State.storeLram, hp, hm, Bool.false_eq_true, if_false, hq, State.writeLram, haddr, hphys]
  rw [hone]
  refine State.writeWord_part (by rw [State.setUnit, hf, hbq]) (State.decodeWord_congr (s := p) ?_ hc') h0 h1 _
  rw [State.setUnit, hf, hchk]

end

end Sys2Proof.Machine
end

section
/-! PROOFS. STORE_DRAIN, region by region, and the far line (spec/02 R37, R38, R48, R50); with them O28. -/

namespace Sys2Proof.Machine

open Sys2Proof

/-! ### What stays when an entry leaves the buffer -/

section
variable {s p : State} {e : Nat} {l : List StoreEntry} (h : s.Pops e l p)
include h

theorem State.Pops.regs : p.regs = s.regs := by rw [h.frame]

theorem State.Pops.mirrors : s.Mirrors p :=
  ⟨⟨0, by omega, fun r _ => State.rd_congr h.regs r⟩, by rw [h.frame], by rw [h.frame], by rw [h.frame]⟩

theorem State.Pops.slotPhys (n w : Nat) : p.slotPhys n w = s.slotPhys n w :=
  State.slotPhys_congr (fun _ => State.fld_congr h.regs _) (State.fld_congr h.regs _) h.mirrors.integ h.mirrors.ticks
    h.mirrors.runs w

theorem State.Pops.tarnShut : p.tarnShut = s.tarnShut := by
  simp only [State.tarnShut, State.bit, State.fld_congr h.regs]

theorem State.Pops.clean {k : Nat} (hc : (s.decodeWord k).1 = .clean) : (p.decodeWord k).1 = .clean :=
  State.decodeWord_congr (by rw [h.frame]) hc

theorem State.Pops.saved (hb : s.integ.bgtSaved = none) : p.integ.bgtSaved = none := by rw [h.mirrors.integ, hb]

/-- A store that changes no thread leaves nothing waiting where nothing waited. -/
theorem State.Pops.drain {q : State} (hq : q.threads = p.threads) (hd : ∀ u, u < 32 → (s.thread e u).drain = none) (u : Nat)
    (hu : u < 32) : (q.thread e u).drain = none := by
  rw [State.thread_congr hq, h.thread u]
  exact hd u hu

end

/-! ### The regions -/

theorem region_of_inPool {a : Nat} (h : inPool a = true) : region a = .pool := by
  have ha : 0x100000 ≤ a ∧ a < 0x500000 := of_decide_eq_true h
  rw [region, if_neg (by omega), if_pos ha]

theorem lt_of_region_lram {a : Nat} (h : region a = .lram) : a < 0x8000 := by
  unfold region at h
  split at h
  next ha => exact ha
  next => split_ifs at h

/-- Where a store finds its word. -/
inductive State.Finds (s : State) (e : Nat) (x : StoreEntry) (k : Nat) : Prop
  | lram (hr : region (4 * x.unit) = .lram) (hk : k = lramWord e (x.unit / 2)) (hm : s.mirrorAddr e (x.unit / 2) = none)
  | pool (hr : region (4 * x.unit) = .pool) (hk : s.slotPhys (poolSlot (4 * x.unit)) (slotWord (4 * x.unit)) = some k)
    (hs : s.fld (.memBstat (poolSlot (4 * x.unit))) F.memBstat.state = 2)
    (hh : s.bit (.memBstat (poolSlot (4 * x.unit))) F.memBstat.handover = false)
  | tarn (hr : region (4 * x.unit) = .tarn) (ht : s.tarnShut = false) (hk : k = tarnWord ((4 * x.unit - 0x600000) / 8))

section
variable {s p : State} {e k : Nat} {x : StoreEntry} {l : List StoreEntry}

theorem State.Pops.finds (h : s.Pops e l p) (he : e < 9) (hf : s.Finds e x k) : p.Finds e x k := by
  cases hf with
  | lram hr hk hm => exact .lram hr hk ((h.mirrors.mirrorAddr he _).trans hm)
  | pool hr hk hs hh =>
    exact .pool hr ((h.slotPhys _ _).trans hk) ((State.fld_congr h.regs _ _).trans hs)
      (by rw [State.bit, State.fld_congr h.regs]; exact hh)
  | tarn hr ht hk => exact .tarn hr (h.tarnShut.trans ht) hk

/-- The store does not wait. -/
theorem State.Finds.waits (h : s.Finds e x k) : s.drainWaits e x = false := by
  unfold State.drainWaits
  cases h with
  | lram hr hk hm => rw [hr]; simp only [State.mirrorWaits, hm]
  | pool hr hk hs hh => rw [hr]; simp only [State.slotTakes, hh, hs]; rfl
  | tarn hr ht hk => rw [hr]

/-- The store reaches its word. -/
theorem State.Finds.puts (h : p.Finds e x k) (he : e < 9) (hb : p.integ.bgtSaved = none) (hm : x.mask = 0xF)
    (hc : (p.decodeWord k).1 = .clean) :
    p.Puts e k x (decide (region (4 * x.unit) = .lram) && (p.engine e).ties e (x.unit / 2) p.ticks) (p.applyStore e x) := by
  unfold State.applyStore
  cases h with
  | lram hr hk hmir =>
    obtain ⟨q, hq, hs⟩ := State.storeLram_alone hb he hmir
    subst hk
    rw [hr]
    dsimp only
    rw [hs]
    exact hq.puts hb hm hc
  | pool hr hk hs hh =>
    rw [hr, hk]
    exact (State.Ports.refl p e).puts hb hm hc
  | tarn hr ht hk =>
    rw [hr]
    dsimp only
    rw [ht, if_neg Bool.false_ne_true, ← hk]
    exact (State.Ports.refl p e).puts hb hm hc

end

/-! ### The command -/

section
variable {s : State} {e : Nat} {x : StoreEntry} {l : List StoreEntry} (hl : s.Live) (he : e < 9)
  (hsb : (s.engine e).sb = x :: l) (ha : s.asleep = false)
include hl he hsb ha

theorem Answers.of_drain {P : State → Prop} (hw : s.drainWaits e x = false)
    (h : P (((s.popEntry e x).applyStore e x).afterDrain e x)) : Answers (.storeDrain e) s P := by
  have hx : exec (.storeDrain e) s = s.run (decide (e < 9) && !s.asleep && !s.drainWaits e x) fun s =>
      ((s.popEntry e x).applyStore e x).afterDrain e x := by
    change execStoreDrain e s = _
    rw [execStoreDrain, hsb]
  exact .of_run hx hl (by simp [he, ha, hw]) h

theorem answers_storeDrain_word (hd : ∀ u, u < 32 → (s.thread e u).drain = none) {k : Nat} (hf : s.Finds e x k)
    (hb : s.integ.bgtSaved = none) (hm : x.mask = 0xF) (hc : (s.decodeWord k).1 = .clean) :
    Answers (.storeDrain e) s fun s' => s.UnitStored k x s' ∧
      s'.engine e = { s.engine e with sb := l, lramLast := (s'.engine e).lramLast, lramTies := (s'.engine e).lramTies } ∧
      (∀ u, (s'.thread e u).regs = (s.thread e u).regs) ∧ s.RegsBut [.memLrcol e] s' ∧
      s'.fld (.memLrcol e) F.memLrcol.count =
        (if region (4 * x.unit) = .lram ∧ (s.engine e).lramNear false (x.unit / 2) s.ticks = true ∧
            Config.ramTie e (s.engine e).lramTies = true
         then satInc F.memLrcol.count.width (s.fld (.memLrcol e) F.memLrcol.count) else s.fld (.memLrcol e) F.memLrcol.count) ∧
      s' = { s with mem := s'.mem, chk := s'.chk, engines := s'.engines, threads := s'.threads, regs := s'.regs } := by
  have hp : s.Pops e l (s.popEntry e x) := State.pops_popEntry hsb
  have hputs := (hp.finds he hf).puts he (hp.saved hb) hm (hp.clean hc)
  refine .of_drain hl he hsb ha hf.waits ?_
  obtain ⟨p, hpe⟩ : ∃ p, s.popEntry e x = p := ⟨_, rfl⟩
  rw [hpe] at hp hputs ⊢
  obtain ⟨q, hqe⟩ : ∃ q, p.applyStore e x = q := ⟨_, rfl⟩
  rw [hqe] at hputs ⊢
  obtain ⟨hst, hE, hr, hn, hfr⟩ := hputs
  have hth : q.threads = p.threads := by rw [hfr]
  have hidle : q.afterDrain e x = q := by
    refine State.afterDrain_idle (hp.drain hth hd) fun hin => ?_
    have hreg := region_of_inPool hin
    cases hf with
    | lram h => rw [hreg] at h; cases h
    | tarn h => rw [hreg] at h; cases h
    | pool h hk hs hh =>
      have hk : (Reg.memBstat (poolSlot (4 * x.unit))).key ≠ (Reg.memLrcol e).key := by
        have := of_decide_eq_true hin
        simp only [Reg.key, poolSlot]
        omega
      rw [State.fld_of_rd (hr _ (by simpa using hk)), State.fld_congr hp.regs, hs]
  rw [hidle]
  refine ⟨hst.congr (by rw [hp.frame]) (by rw [hp.frame]), ?_, fun u => ?_, fun r h => ?_, ?_, ?_⟩
  · rw [hE, hp.engine]
  · rw [State.thread_congr hth, hp.thread u]
  · rw [hr r h, State.rd_congr hp.regs]
  · rw [hn, hp.engine, hp.mirrors.ticks, State.fld_congr hp.regs]
    simp only [Engine.ties, Bool.and_eq_true, decide_eq_true_eq]
    rfl
  · rw [hfr, hp.frame]

/-- A mirrored word of local RAM and its mirror both take the store (spec/14 R369). -/
theorem answers_storeDrain_mirrored (hd : ∀ u, u < 32 → (s.thread e u).drain = none) {a k : Nat}
    (hr : region (4 * x.unit) = .lram) (hmir : s.mirrorAddr e (x.unit / 2) = some a)
    (hw : s.mirrorWaits e (x.unit / 2) = false) (hk : s.slotPhys (poolSlot a) (slotWord a) = some k)
    (hb : s.integ.bgtSaved = none) (hm : x.mask = 0xF) (hp : x.poison = false)
    (hc : (s.decodeWord (lramWord e (x.unit / 2))).1 = .clean) (hc' : (s.decodeWord k).1 = .clean) :
    Answers (.storeDrain e) s fun s' => ∀ i, i < 4 →
      s'.byte (8 * lramWord e (x.unit / 2) + 4 * (x.unit % 2) + i) = x.data.extractLsb' (8 * i) 8 ∧
      s'.byte (8 * k + 4 * (x.unit % 2) + i) = x.data.extractLsb' (8 * i) 8 := by
  have hpop : s.Pops e l (s.popEntry e x) := State.pops_popEntry hsb
  have hlt := lt_of_region_lram hr
  refine .of_drain hl he hsb ha (by rw [State.drainWaits, hr]; exact hw) ?_
  obtain ⟨p, hpe⟩ : ∃ p, s.popEntry e x = p := ⟨_, rfl⟩
  rw [hpe] at hpop ⊢
  obtain ⟨q, hq, hs⟩ := State.storeLram_mirrored (p := p) (x := x) he (hpop.saved hb) hm hp ((hpop.mirrors.mirrorAddr he _).trans hmir)
    (by omega) ((hpop.slotPhys _ _).trans hk) (hpop.clean hc) (hpop.clean hc')
  have happ : p.applyStore e x = p.storeLram e x := by rw [State.applyStore, hr]
  have hin : inPool (4 * x.unit) = false := by
    rw [inPool, decide_eq_false (by omega)]
  have hth : (p.applyStore e x).threads = p.threads := by
    rw [happ, hs, State.setUnit, State.frame_setBytes, State.setUnit, State.frame_setBytes, hq.frame]
  rw [State.afterDrain_idle (hpop.drain hth hd) (by simp [hin]), happ, hs]
  intro i hi
  constructor
  · rw [State.byte_setUnit]
    split
    next h =>
      have hsame : lramWord e (x.unit / 2) = k := by omega
      rw [hsame, Nat.add_sub_cancel_left]
    next => rw [State.byte_setUnit, if_pos (by omega), Nat.add_sub_cancel_left]
  · rw [State.byte_setUnit, if_pos (by omega), Nat.add_sub_cancel_left]

theorem answers_storeDrain_control (hr : region (4 * x.unit) = .control) (hp : x.poison = false) :
    Answers (.storeDrain e) s fun s' =>
      s' = ((s.popEntry e x).writeBus ⟨.thread e x.thr, 4 * x.unit, x.data, x.mask⟩).afterDrain e x := by
  refine .of_drain hl he hsb ha (by rw [State.drainWaits, hr]) ?_
  rw [State.applyStore, hr]
  dsimp only
  rw [State.storeControl, hp]
  rfl

theorem answers_storeDrain_sched (hd : ∀ u, u < 32 → (s.thread e u).drain = none) (hr : region (4 * x.unit) = .sched)
    (hp : x.poison = false) (ht : x.thr < 32) : Answers (.storeDrain e) s fun s' =>
      (s'.thread e x.thr).viol = satInc 16 (s.thread e x.thr).viol ∧ (s'.thread e x.thr).regs = (s.thread e x.thr).regs ∧
      s'.engine e = { s.engine e with sb := l } ∧ s' = { s with engines := s'.engines, threads := s'.threads } := by
  have hpop : s.Pops e l (s.popEntry e x) := State.pops_popEntry hsb
  refine .of_drain hl he hsb ha (by rw [State.drainWaits, hr]) ?_
  obtain ⟨p, hpe⟩ : ∃ p, s.popEntry e x = p := ⟨_, rfl⟩
  rw [hpe] at hpop ⊢
  have happ : p.applyStore e x = p.modThread e x.thr fun y => { y with viol := satInc 16 y.viol } := by
    rw [State.applyStore, hr]
    dsimp only
    rw [State.storeSched, hp]
    rfl
  have hin : inPool (4 * x.unit) ≠ true := fun h => by rw [region_of_inPool h] at hr; cases hr
  have hself : (p.applyStore e x).thread e x.thr = { p.thread e x.thr with viol := satInc 16 (p.thread e x.thr).viol } := by
    rw [happ]
    exact p.thread_modThread_self e x.thr _
  have hdrain : ∀ u, u < 32 → ((p.applyStore e x).thread e u).drain = none := fun u hu => by
    by_cases hux : u = x.thr
    · rw [hux, hself]
      exact hpop.drain rfl hd x.thr ht
    · have : (p.applyStore e x).thread e u = p.thread e u := by
        rw [happ]
        exact p.thread_modThread_ne _ (by omega)
      rw [this]
      exact hpop.drain rfl hd u hu
  rw [State.afterDrain_idle hdrain fun h => absurd h hin, hself, hpop.thread x.thr, happ]
  exact ⟨rfl, rfl, hpop.engine, by rw [hpop.frame]; rfl⟩

end

/-! ### Far lines -/

theorem State.readWord_clean {s : State} {k : Nat} (hb : s.integ.bgtSaved = none) (hc : (s.decodeWord k).1 = .clean) :
    s.readWord k = (s.word k, false, s) := by
  simp only [State.readWord, State.served_self hb, State.decodeWord_clean hc]

/-- The ways of a set behind a line that enters it (spec/02 R37). -/
def Engine.installed (x : Engine) (la : Nat) (d : BitVec 64) : Engine :=
  let ways := ((SMap.get x.icache (la % 256) []).filter fun y => y.line != la).take 1
  { x with icache := SMap.put x.icache (la % 256) (⟨la, d, 0⟩ :: ways) [] }

theorem State.install_eq (s : State) (e la : Nat) (d : BitVec 64) : s.install e la d = s.setEngine e ((s.engine e).installed la d) :=
  rfl

theorem Engine.kept_installed (x : Engine) (la : Nat) (d : BitVec 64) {j : Nat} (h : j ≠ la % 256) :
    SMap.get (x.installed la d).icache j [] = SMap.get x.icache j [] := by
  rw [Engine.installed, SMap.get_put_ne _ _ _ h]

theorem Engine.find_installed (x : Engine) (la : Nat) (d : BitVec 64) :
    ((SMap.get (x.installed la d).icache (la % 256) []).find? fun y => y.line == la) = some ⟨la, d, 0⟩ := by
  rw [Engine.installed, SMap.get_put_self]
  simp

/-- A far line that reads clean enters the cache and the line buffer (spec/02 R38). -/
theorem State.deliverLine_clean {s : State} {e t la k : Nat}
    (hk : s.slotPhys (poolSlot (s.farAddr e la)) (slotWord (s.farAddr e la)) = some k) (hb : s.integ.bgtSaved = none)
    (hc : (s.decodeWord k).1 = .clean) : s.deliverLine e t la =
      (((s.modThread e t fun x => { x with miss := none, missStale := false }).install e la (s.word k)).modThread e t
        fun y => { y with lineBuf := some ⟨la, s.word k, 0⟩ }) := by
  have hread : ∀ a : State, s.OnlyThreads a → a.readWord (a.poolPhys (a.farAddr e la)) = (s.word k, false, a) := by
    intro a ha
    obtain ⟨th, rfl⟩ : ∃ th, a = { s with threads := th } := ⟨_, ha⟩
    have hphys : State.poolPhys { s with threads := th } (State.farAddr { s with threads := th } e la) = k :=
      congrArg (Option.getD · 0) hk
    rw [hphys]
    exact State.readWord_clean (s := { s with threads := th }) hb hc
  unfold State.deliverLine
  dsimp only
  rw [hread _ (s.onlyThreads_modThread e t _)]
  rfl

section
variable {s : State} {e t la : Nat} (hl : s.Live) (he : e < 9) (ht : t < 32) (hm : (s.thread e t).miss = some la)
include hl he ht hm

theorem Answers.of_farLine {P : State → Prop} (h : P (if (s.thread e t).missStale || !inPool (s.farAddr e la) ||
      (s.slotPhys (poolSlot (s.farAddr e la)) (slotWord (s.farAddr e la))).isNone ||
      s.fld (.memBstat (poolSlot (s.farAddr e la))) F.memBstat.state != lifeOn then
        s.modThread e t fun x => { x with miss := none, missStale := false }
      else s.deliverLine e t la)) : Answers (.farFetchLineDelivered e t) s P := by
  have hx : exec (.farFetchLineDelivered e t) s = execFarFetchLineDelivered e t s := rfl
  rw [execFarFetchLineDelivered, hm] at hx
  exact .of_run hx hl (by simp [he, ht]) h

theorem answers_farFetch_stale (hs : (s.thread e t).missStale = true) : Answers (.farFetchLineDelivered e t) s fun s' =>
    s'.thread e t = { s.thread e t with miss := none, missStale := false } ∧ s' = { s with threads := s'.threads } := by
  refine .of_farLine hl he ht hm ?_
  rw [hs, Bool.true_or, Bool.true_or, Bool.true_or, if_pos rfl]
  exact ⟨s.thread_modThread_self e t _, rfl⟩

theorem answers_farFetch_line {k : Nat} (hs : (s.thread e t).missStale = false) (hin : inPool (s.farAddr e la) = true)
    (hk : s.slotPhys (poolSlot (s.farAddr e la)) (slotWord (s.farAddr e la)) = some k)
    (hon : s.fld (.memBstat (poolSlot (s.farAddr e la))) F.memBstat.state = 2) (hb : s.integ.bgtSaved = none)
    (hc : (s.decodeWord k).1 = .clean) : Answers (.farFetchLineDelivered e t) s fun s' =>
      s'.thread e t = { s.thread e t with miss := none, missStale := false, lineBuf := some ⟨la, s.word k, 0⟩ } ∧
      ((SMap.get (s'.engine e).icache (la % 256) []).find? fun y => y.line == la) = some ⟨la, s.word k, 0⟩ ∧
      (∀ j, j ≠ la % 256 → SMap.get (s'.engine e).icache j [] = SMap.get (s.engine e).icache j []) ∧
      s' = { s with threads := s'.threads, engines := s'.engines } := by
  refine .of_farLine hl he ht hm ?_
  have hgo : ¬ ((s.thread e t).missStale || !inPool (s.farAddr e la) ||
      (s.slotPhys (poolSlot (s.farAddr e la)) (slotWord (s.farAddr e la))).isNone ||
      s.fld (.memBstat (poolSlot (s.farAddr e la))) F.memBstat.state != lifeOn) = true := by
    rw [hs, hin, hk, hon]
    exact Bool.false_ne_true
  rw [if_neg hgo, State.deliverLine_clean hk hb hc]
  obtain ⟨a, hae⟩ : ∃ a, (s.modThread e t fun x => { x with miss := none, missStale := false }) = a := ⟨_, rfl⟩
  have hself : a.thread e t = { s.thread e t with miss := none, missStale := false } := by
    rw [← hae]
    exact s.thread_modThread_self e t _
  have hf : s.OnlyThreads a := hae ▸ s.onlyThreads_modThread e t _
  have hE : a.engine e = s.engine e := by rw [State.engine, hf]; rfl
  rw [hae, State.install_eq, hE]
  have hnew : ∀ f, (((a.setEngine e ((s.engine e).installed la (s.word k))).modThread e t f).engine e) =
      (s.engine e).installed la (s.word k) := fun _ => State.engine_setEngine_self a e _
  refine ⟨?_, ?_, fun j hj => ?_, ?_⟩
  · have hsame : (a.setEngine e ((s.engine e).installed la (s.word k))).thread e t = a.thread e t := rfl
    rw [State.thread_modThread_self, hsame, hself]
  · rw [hnew]
    exact (s.engine e).find_installed la _
  · rw [hnew]
    exact (s.engine e).kept_installed la _ hj
  · obtain ⟨th, rfl⟩ : ∃ th, a = { s with threads := th } := ⟨_, hf⟩
    rfl

end

/-- Settles O28, region by region: a store that finds its word puts its four bytes or the poison code there, and nothing
waits behind it; a far line comes from a clean word of the Pool. -/
theorem storesDrainAndFarLinesArrive : Obligations.StoresDrainAndFarLinesArrive := by
  intro s e hl he
  refine ⟨fun x l hsb ha hd => ⟨fun k hk hb hm hc => ?_, fun a' k' hr hmir hw hk hb hm hp hc hc' =>
    answers_storeDrain_mirrored hl he hsb ha hd hr hmir hw hk hb hm hp hc hc', answers_storeDrain_control hl he hsb ha,
    answers_storeDrain_sched hl he hsb ha hd⟩, fun t la ht hm => ⟨answers_farFetch_stale hl he ht hm,
    fun k => answers_farFetch_line hl he ht hm⟩⟩
  have hf : s.Finds e x k := by
    rcases hk with ⟨hr, hk, hmir⟩ | ⟨hr, hk, hs, hh⟩ | ⟨hr, ht, hk⟩
    · exact .lram hr hk hmir
    · exact .pool hr hk hs hh
    · exact .tarn hr ht hk
  obtain ⟨s', hx, hst, hrest⟩ := answers_storeDrain_word hl he hsb ha hd hf hb hm hc
  exact ⟨s', hx, hst.data, hst.poison, hrest⟩

end Sys2Proof.Machine
end

section
/-! PROOFS. The registers of a thread (O9), and what an instruction leaves that writes one of them. -/

namespace Sys2Proof.Machine

open Sys2Proof

/-! ### The register file -/

@[simp] theorem Regs.poison_zero (r : Regs) : r.poison 0 = false := rfl

theorem Regs.poison_set_self (r : Regs) {k : Nat} (h : k ≠ 0) (v : Word) (p : Bool) : (r.set k v p).poison k = p := by
  simp [Regs.poison, Regs.set, h]

theorem Regs.poison_set_ne (r : Regs) {k j : Nat} (h : j ≠ k) (v : Word) (p : Bool) :
    (r.set k v p).poison j = r.poison j := by
  by_cases hk : k = 0
  · simp [Regs.set, hk]
  · simp only [Regs.poison, Regs.set, hk, if_false]
    rw [SMap.get_put_ne p false false h]

/-- A write of a general register reaches the general registers and their poison bits only. -/
theorem Regs.set_frame (r : Regs) (k : Nat) (v : Word) (p : Bool) :
    r.set k v p = { r with w := (r.set k v p).w, wp := (r.set k v p).wp } := by
  unfold Regs.set
  split <;> rfl

/-- Settles O9: reads after writes of the two maps, whose key 0 no write reaches. -/
theorem registerFileOfAThread : Obligations.RegisterFileOfAThread := by
  unfold Obligations.RegisterFileOfAThread
  exact fun r k j v p => ⟨⟨r.set_zero v p, r.get_zero, r.poison_zero⟩,
    fun hk => ⟨r.get_set_self hk v p, r.poison_set_self hk v p⟩,
    fun hj => ⟨r.get_set_ne hj v p, r.poison_set_ne hj v p⟩, r.set_frame k v p⟩

/-! ### Instructions that leave their thread changed -/

section
variable {s : State} {e t : Nat} {o : Op} {c : Instr} {f : Thread → Thread}

/-- The effect leaves the thread as `y`: the instruction retires with it. -/
theorem Answers.retires_set (hc : exec c s = s.issue e t o) (h : s.Clear e t o) {y : Thread}
    (hr : (s.useSlot e t).runOp e t o false (s.thread e t).pc (s.after e t o) = .ok ((s.useSlot e t).setThread e t y))
    (hi : y.Idle) (hl : y.loads = []) (hf : f (s.thread e t) = y) : Answers c s (s.Retires e t f (s.after e t o)) := by
  subst hf
  exact Answers.retires_plain (j := none) hc h hr ((s.useSlot e t).onlyThread_setThread e t _) hi hl

/-- The effect leaves the thread as it was, and goes on at `j`. -/
theorem Answers.retires_id (hc : exec c s = s.issue e t o) (h : s.Clear e t o) {j : Option Word}
    (hr : (s.useSlot e t).runOp e t o false (s.thread e t).pc (s.after e t o) = .next (s.useSlot e t) none j) :
    Answers c s (s.Retires e t id (j.getD (s.after e t o))) := by
  have hx := State.OnlyThread.refl (s.useSlot e t) e t
  rw [s.thread_useSlot] at hx
  exact Answers.retires_plain (f := id) hc h hr hx h.idle h.loads

/-- The effect writes a general register. -/
theorem Answers.retires_setReg (hc : exec c s = s.issue e t o) (h : s.Clear e t o) {d : Nat} {v : Word} {p : Bool}
    (hr : (s.useSlot e t).runOp e t o false (s.thread e t).pc (s.after e t o) = .ok ((s.useSlot e t).setReg e t d v p))
    (hf : f (s.thread e t) = (s.thread e t).setReg d v p) : Answers c s (s.Retires e t f (s.after e t o)) := by
  refine Answers.retires_set hc h ?_ (h.idle.setReg d v p) (Thread.loads_setReg h.loads d v p) hf
  rw [hr, State.setReg, State.modThread, s.thread_useSlot]

@[simp] theorem State.regsOf_useSlot (s : State) (e t : Nat) : (s.useSlot e t).regsOf e t = (s.thread e t).regs := by
  rw [State.regsOf, s.thread_useSlot]

end

end Sys2Proof.Machine
end

section
/-! PROOFS. MOV, the register-register operations and the immediate forms (O10; spec/03 R70 to R73). -/

namespace Sys2Proof.Machine

open Sys2Proof

/-! ### The values of the rows -/

theorem ofInt_add_toInt (x : Word) (i : Int) : BitVec.ofInt 16 (x.toInt + i) = x + BitVec.ofInt 16 i := by
  rw [BitVec.ofInt_add, BitVec.ofInt_toInt]

theorem aluResult_add (x y : Word) : aluResult .add x y = (x + y, 0) := by
  rw [aluResult, wrapped, ofInt_add_toInt, BitVec.ofInt_toInt]

theorem aluResult_neg (x y : Word) : aluResult .neg x y = (-y, 0) := by
  rw [aluResult, wrapped, BitVec.ofInt_neg, BitVec.ofInt_toInt]

theorem aluResult_sub (x y : Word) : aluResult .sub x y = (x - y, 0) := by
  rw [aluResult, wrapped, Int.sub_eq_add_neg, ofInt_add_toInt, BitVec.ofInt_neg, BitVec.ofInt_toInt, BitVec.sub_eq_add_neg]

theorem aluResult_ror (x y : Word) : aluResult .ror x y = (x.rotateRight (y.toNat % 16), 0) := by
  rw [aluResult, shifted, Nat.mod_mod_of_dvd _ (by decide)]

/-- The absolute value of an integer, by its sign. -/
theorem natAbs_by_sign (i : Int) : (i.natAbs : Int) = if i < 0 then -i else i := by
  split <;> omega

theorem aluResult_abs (x y : Word) : aluResult .abs x y = (if y.toInt < 0 then -y else y, 0) := by
  rw [aluResult, wrapped, natAbs_by_sign]
  split <;> simp [BitVec.ofInt_neg]

theorem clampSigned_16 (v : Int) : clampSigned 16 v = max (-32768) (min 32767 v) := by
  simp only [clampSigned]
  split
  · omega
  · split <;> omega

theorem clampSigned_16_fits (v : Int) : clampSigned 16 v = v ↔ -32768 ≤ v ∧ v ≤ 32767 := by
  rw [clampSigned_16]
  omega

/-- A compare's answer as a word. -/
theorem flagWord_decide (p : Prop) [Decidable p] : flagWord (decide p) = if p then 1 else 0 := by
  simp only [flagWord, decide_eq_true_eq]

theorem shifted_ror {n : Nat} (h : n < 16) (x : Word) : shifted .ror x n = x.rotateRight n := by
  rw [shifted, Nat.mod_eq_of_lt h]

/-! ### Register-register operations -/

@[simp] theorem Thread.stick_zero (x : Thread) : x.stick 0 = x := by
  simp [Thread.stick]

section
variable {s : State} {e t a b d : Nat} {c : Instr}

/-- MOV carries the poison bit (R70, R98). -/
theorem answers_mov (h : s.Clear e t (.alu .mov a b)) : Answers (.mov e t a b) s
    (s.Retires e t (fun x => x.setReg a (x.regs.get b) (x.regs.poison b)) (s.after e t (.alu .mov a b))) := by
  refine Answers.retires_setReg rfl h ?_ rfl
  simp only [State.runOp, State.doAlu, if_pos, State.regsOf_useSlot]

/-- What a register operation but MOV leaves of its thread: its result with its sticky bits (R70, R72). -/
def Thread.afterAlu (x : Thread) (o : Alu) (a b : Nat) : Thread :=
  let r := aluResult o (x.regs.get a) (x.regs.get b)
  (x.setReg a r.1 false).stick r.2

theorem State.runOp_alu_useSlot {o : Alu} (ho : o ≠ .mov) (pc next : Word) :
    (s.useSlot e t).runOp e t (.alu o a b) false pc next =
      .ok ((s.useSlot e t).setThread e t ((s.thread e t).afterAlu o a b)) := by
  simp only [State.runOp, State.doAlu, if_neg ho, State.regsOf_useSlot, State.putResult, State.modThread, State.thread_useSlot,
    Thread.afterAlu]

theorem Thread.Idle.afterAlu {x : Thread} (h : x.Idle) (o : Alu) (a b : Nat) : (x.afterAlu o a b).Idle :=
  ⟨h.queue, h.haltReq, h.stepping⟩

theorem Thread.loads_afterAlu {x : Thread} (h : x.loads = []) (o : Alu) (a b : Nat) : (x.afterAlu o a b).loads = [] :=
  Thread.loads_setReg h a (aluResult o (x.regs.get a) (x.regs.get b)).1 false

variable {o : Alu} (hc : exec c s = s.issue e t (.alu o a b)) (ho : o ≠ .mov) (h : s.Clear e t (.alu o a b))
include hc ho h

/-- Every operation but MOV writes its result with its sticky bits. -/
theorem answers_alu {f : Thread → Thread} (hf : f (s.thread e t) = (s.thread e t).afterAlu o a b) :
    Answers c s (s.Retires e t f (s.after e t (.alu o a b))) :=
  Answers.retires_set hc h (State.runOp_alu_useSlot ho _ _) (h.idle.afterAlu o a b) (Thread.loads_afterAlu h.loads o a b) hf

/-- A result without sticky bits. -/
theorem answers_alu_plain {g : Word → Word → Word} (hg : ∀ x y, aluResult o x y = (g x y, 0)) :
    Answers c s (s.Retires e t (fun x => x.setReg a (g (x.regs.get a) (x.regs.get b)) false) (s.after e t (.alu o a b))) := by
  refine answers_alu hc ho h ?_
  rw [Thread.afterAlu, hg, Thread.stick_zero]

/-- A result that saturates (R71, R72). -/
theorem answers_alu_saturated {v : Int} (hv : aluResult o ((s.thread e t).regs.get a) ((s.thread e t).regs.get b) = saturated v) :
    Answers c s (s.Retires e t (fun x =>
      let y := x.setReg a (BitVec.ofInt 16 (max (-32768) (min 32767 v))) false
      if -32768 ≤ v ∧ v ≤ 32767 then y else { y with regs := { y.regs with astat := y.regs.astat ||| 0x0100 } })
      (s.after e t (.alu o a b))) := by
  refine answers_alu hc ho h ?_
  simp only [Thread.afterAlu, hv, saturated, clampSigned_16_fits, ← clampSigned_16]
  split
  · exact (Thread.stick_zero _).symm
  · rfl

end

/-! ### Immediate forms -/

section
variable {s : State} {e t d n : Nat} {c : Instr}

/-- An immediate form writes its destination; `v` is the model's value of it, `g` the row's. -/
theorem answers_immediate {o : Op} (v : Word → Word) {g : Word → Word} (hc : exec c s = s.issue e t o) (h : s.Clear e t o)
    (hr : (s.useSlot e t).runOp e t o false (s.thread e t).pc (s.after e t o) =
      .ok ((s.useSlot e t).setReg e t d (v (((s.useSlot e t).regsOf e t).get d)) false)) (hv : ∀ x, v x = g x) :
    Answers c s (s.Retires e t (fun x => x.setReg d (g (x.regs.get d)) false) (s.after e t o)) := by
  rw [s.regsOf_useSlot, hv] at hr
  exact Answers.retires_setReg hc h hr rfl

theorem State.Clear.shift_lt {o : Shift} (h : s.Clear e t (.shift o d n)) : n < 16 := by
  have hw := h.wf
  simp only [Op.wf, Bool.and_eq_true, decide_eq_true_eq] at hw
  exact hw.2

end

/-- Settles O10: each row's value is its formula's, and every operation retires with it. -/
theorem operationsThatWrap : Obligations.OperationsThatWrap := by
  unfold Obligations.OperationsThatWrap
  refine ⟨⟨fun s e t a b => ⟨answers_mov, fun c hc h => ?_⟩, fun s e t a b c hc h => ?_⟩, fun s e t d n i c hc h => ?_⟩ <;>
    simp only [List.mem_cons, List.not_mem_nil, or_false] at hc
  · rcases hc with rfl | rfl | rfl | rfl | rfl | rfl | rfl | rfl | rfl | rfl | rfl
    · exact answers_alu_plain rfl (by nofun) h aluResult_add
    · exact answers_alu_plain rfl (by nofun) h aluResult_sub
    · exact answers_alu_plain rfl (by nofun) h fun _ _ => rfl
    · exact answers_alu_plain rfl (by nofun) h fun _ _ => rfl
    · exact answers_alu_plain rfl (by nofun) h fun _ _ => rfl
    · exact answers_alu_plain rfl (by nofun) h fun _ _ => rfl
    · exact answers_alu_plain rfl (by nofun) h fun _ _ => rfl
    · exact answers_alu_plain rfl (by nofun) h fun _ _ => rfl
    · exact answers_alu_plain rfl (by nofun) h aluResult_ror
    · exact answers_alu_plain rfl (by nofun) h aluResult_neg
    · exact answers_alu_plain rfl (by nofun) h aluResult_abs
  · rcases hc with rfl | rfl | rfl | rfl
    · exact answers_alu_saturated rfl (by nofun) h rfl
    · exact answers_alu_saturated rfl (by nofun) h rfl
    · exact answers_alu_saturated rfl (by nofun) h rfl
    · exact answers_alu_saturated rfl (by nofun) h (congrArg saturated (natAbs_by_sign _))
  · rcases hc with rfl | rfl | rfl | rfl | rfl | rfl | rfl | rfl | rfl | rfl
    · exact answers_immediate (fun _ => BitVec.ofInt 16 i) rfl h rfl fun _ => rfl
    · exact answers_immediate (fun x => BitVec.ofInt 16 (x.toInt + i)) rfl h rfl fun x => ofInt_add_toInt x i
    · exact answers_immediate (shifted .shl · n) rfl h rfl fun _ => rfl
    · exact answers_immediate (shifted .shr · n) rfl h rfl fun _ => rfl
    · exact answers_immediate (shifted .sar · n) rfl h rfl fun _ => rfl
    · exact answers_immediate (shifted .ror · n) rfl h rfl (shifted_ror h.shift_lt)
    · exact answers_immediate (cmpiResult .seq · i) rfl h rfl fun _ => flagWord_decide _
    · exact answers_immediate (cmpiResult .sne · i) rfl h rfl fun _ => (flagWord_decide _).trans (ite_not ..)
    · exact answers_immediate (cmpiResult .slt · i) rfl h rfl fun _ => flagWord_decide _
    · refine answers_immediate (cmpiResult .sltu · n) rfl h rfl fun x => (flagWord_decide _).trans ?_
      simp only [Int.ofNat_lt]

end Sys2Proof.Machine
end

section
/-! PROOFS. Branches, jumps, calls and returns (O11; spec/03 R76 to R80). -/

namespace Sys2Proof.Machine

open Sys2Proof

/-! ### Conditions -/

theorem toInt_ofInt_imm {i : Int} (h : -8 ≤ i ∧ i ≤ 15) : (BitVec.ofInt 16 i).toInt = i := by
  rw [BitVec.toInt_ofInt, Int.bmod_eq_of_le] <;> omega

theorem toNat_ofInt_imm {n : Nat} (h : n ≤ 15) : (BitVec.ofInt 16 (n : Int)).toNat = n := by
  rw [BitVec.ofInt_natCast, BitVec.toNat_ofNat, Nat.mod_eq_of_lt (by omega)]

section
variable (x y : Word)

theorem condHolds_lt : condHolds .lt x y = true ↔ x.toInt < y.toInt := decide_eq_true_iff

theorem condHolds_ge : condHolds .ge x y = true ↔ ¬ x.toInt < y.toInt := decide_eq_true_iff.trans Int.not_lt.symm

theorem condHolds_ltu : condHolds .ltu x y = true ↔ x.toNat < y.toNat := decide_eq_true_iff

theorem condHolds_geu : condHolds .geu x y = true ↔ ¬ x.toNat < y.toNat := decide_eq_true_iff.trans Nat.not_lt.symm

/-- Equal words have the same signed value. -/
theorem eq_ofInt_imm {i : Int} (h : -8 ≤ i ∧ i ≤ 15) : x = BitVec.ofInt 16 i ↔ x.toInt = i := by
  rw [← BitVec.toInt_inj, toInt_ofInt_imm h]

end

/-! ### Branches -/

section
variable {s : State} {e t a b : Nat} {i off : Int} {c : Instr} {o : Op}

/-- A branch goes on at its target where its condition holds, and at the next instruction where it does not. -/
theorem answers_branchTo (hc : exec c s = s.issue e t o) (h : s.Clear e t o) {taken : Bool}
    (hr : (s.useSlot e t).runOp e t o false (s.thread e t).pc (s.after e t o) =
      branchTo (s.useSlot e t) taken (s.thread e t).pc off) {p : Prop} (hp : taken = true ↔ p) :
    (p → Answers c s (s.Retires e t id ((s.thread e t).pc + BitVec.ofInt 16 off))) ∧
    (¬ p → Answers c s (s.Retires e t id (s.after e t o))) := by
  refine ⟨fun h1 => ?_, fun h0 => ?_⟩
  · rw [branchTo, if_pos (hp.2 h1)] at hr
    exact Answers.retires_id hc h hr
  · rw [branchTo, if_neg (mt hp.1 h0)] at hr
    exact Answers.retires_id hc h hr

theorem answers_branch {k : Cond} (hc : exec c s = s.issue e t (.branch k a b off)) (h : s.Clear e t (.branch k a b off))
    {p : Word → Word → Prop} (hp : ∀ x y, condHolds k x y = true ↔ p x y) :
    let x := s.thread e t
    (p (x.regs.get a) (x.regs.get b) → Answers c s (s.Retires e t id (x.pc + BitVec.ofInt 16 off))) ∧
    (¬ p (x.regs.get a) (x.regs.get b) → Answers c s (s.Retires e t id (s.after e t (.branch k a b off)))) :=
  answers_branchTo hc h (by rw [State.runOp, s.regsOf_useSlot]) (hp _ _)

/-- The immediate of a branch lies in the range of its table (R76). -/
theorem State.Clear.imm_range {k : Cond} (h : s.Clear e t (.branchI k a i off)) : -8 ≤ i ∧ i ≤ 15 := by
  have hw := h.wf
  simp only [Op.wf, Bool.and_eq_true] at hw
  obtain ⟨⟨-, hi⟩, -⟩ := hw
  split at hi <;> simp only [inRange, decide_eq_true_eq] at hi <;> omega

theorem answers_branchI {k : Cond} (hc : exec c s = s.issue e t (.branchI k a i off))
    (h : s.Clear e t (.branchI k a i off)) {p : Word → Prop} (hp : ∀ x, condHolds k x (BitVec.ofInt 16 i) = true ↔ p x) :
    let x := s.thread e t
    (p (x.regs.get a) → Answers c s (s.Retires e t id (x.pc + BitVec.ofInt 16 off))) ∧
    (¬ p (x.regs.get a) → Answers c s (s.Retires e t id (s.after e t (.branchI k a i off)))) :=
  answers_branchTo hc h (by rw [State.runOp, s.regsOf_useSlot, condIHolds]) (hp _)

theorem answers_bz {nz : Bool} (hc : exec c s = s.issue e t (.bz nz a off)) (h : s.Clear e t (.bz nz a off))
    {p : Word → Prop} (hp : ∀ x, (if nz then x != 0 else x == 0) = true ↔ p x) :
    let x := s.thread e t
    (p (x.regs.get a) → Answers c s (s.Retires e t id (x.pc + BitVec.ofInt 16 off))) ∧
    (¬ p (x.regs.get a) → Answers c s (s.Retires e t id (s.after e t (.bz nz a off)))) :=
  answers_branchTo hc h (by rw [State.runOp, s.regsOf_useSlot]) (hp _)

/-! ### Jumps -/

/-- CALL puts the address of the next instruction into LINK (R80). -/
theorem answers_call (h : s.Clear e t (.mts 31 a)) : Answers (.call e t a) s
    (s.Retires e t (fun x => { x with regs := { x.regs with link := x.pc + 2 } }) ((s.thread e t).regs.get a)) := by
  have hx := (s.useSlot e t).onlyThread_setThread e t
    { s.thread e t with regs := { (s.thread e t).regs with link := (s.thread e t).pc + 2 } }
  refine Answers.retires_plain (j := some ((s.thread e t).regs.get a)) rfl h ?_ hx ⟨h.queue, h.halt.1, h.halt.2⟩ h.loads
  rw [State.runOp, State.doMts, s.thread_useSlot]
  rfl

theorem answers_jmp (h : s.Clear e t (.mts 30 a)) :
    Answers (.jmp e t a) s (s.Retires e t id ((s.thread e t).regs.get a)) := by
  refine Answers.retires_id (j := some ((s.thread e t).regs.get a)) rfl h ?_
  rw [State.runOp, State.doMts, s.thread_useSlot]

theorem answers_ret (h : s.Clear e t (.mts 29 a)) : Answers (.ret e t a) s (s.Retires e t id (s.thread e t).regs.link) := by
  refine Answers.retires_id (j := some (s.thread e t).regs.link) rfl h ?_
  rw [State.runOp, State.doMts, s.thread_useSlot]

end

/-- Settles O11: each row's condition is the model's, and a branch goes on by it. -/
theorem branchesJumpsAndLink : Obligations.BranchesJumpsAndLink := by
  unfold Obligations.BranchesJumpsAndLink
  refine ⟨fun s e t a b n i off c hc h => ?_, fun s e t a => ⟨answers_jmp, answers_call, answers_ret⟩⟩
  simp only [List.mem_cons, List.not_mem_nil, or_false] at hc
  rcases hc with rfl | rfl | rfl | rfl | rfl | rfl | rfl | rfl | rfl | rfl | rfl | rfl | rfl | rfl
  · exact answers_branch rfl h fun _ _ => beq_iff_eq
  · exact answers_branch rfl h fun _ _ => bne_iff_ne
  · exact answers_branch rfl h condHolds_lt
  · exact answers_branch rfl h condHolds_ge
  · exact answers_branch rfl h condHolds_ltu
  · exact answers_branch rfl h condHolds_geu
  · exact answers_branchI (p := fun x => x.toInt = i) rfl h fun x => beq_iff_eq.trans (eq_ofInt_imm x h.imm_range)
  · exact answers_branchI (p := fun x => x.toInt ≠ i) rfl h fun x => bne_iff_ne.trans (eq_ofInt_imm x h.imm_range).not
  · refine answers_branchI (p := fun x => x.toInt < i) rfl h fun x => ?_
    rw [condHolds_lt, toInt_ofInt_imm h.imm_range]
  · refine answers_branchI (p := fun x => ¬ x.toInt < i) rfl h fun x => ?_
    rw [condHolds_ge, toInt_ofInt_imm h.imm_range]
  · refine answers_branchI (p := fun x => x.toNat < n) rfl h fun x => ?_
    rw [condHolds_ltu, toNat_ofInt_imm (Int.ofNat_le.1 h.imm_range.2)]
  · refine answers_branchI (p := fun x => ¬ x.toNat < n) rfl h fun x => ?_
    rw [condHolds_geu, toNat_ofInt_imm (Int.ofNat_le.1 h.imm_range.2)]
  · exact answers_bz (p := fun x => x = 0) rfl h fun x => beq_iff_eq
  · exact answers_bz (p := fun x => x ≠ 0) rfl h fun x => bne_iff_ne

end Sys2Proof.Machine
end

section
/-! PROOFS. The multiply pipe and the multiply-accumulates start (O14; spec/03 R81, R82). -/

namespace Sys2Proof.Machine

open Sys2Proof

/-! ### The values of the rows -/

theorem clampSigned_40 (v : Int) : clampSigned 40 v = max (-(2 ^ 39)) (min (2 ^ 39 - 1) v) := by
  simp only [clampSigned]
  split
  · omega
  · split <;> omega

/-- An unsigned product fits 32 bits. -/
theorem setWidth_mulu (x y : Word) :
    (BitVec.ofNat 32 (x.toNat * y.toNat)).setWidth 40 = BitVec.ofNat 40 (x.toNat * y.toNat) := by
  have h : x.toNat * y.toNat < 2 ^ 16 * 2 ^ 16 := Nat.mul_lt_mul'' x.isLt y.isLt
  refine BitVec.eq_of_toNat_eq ?_
  simp only [BitVec.toNat_setWidth, BitVec.toNat_ofNat]
  omega

/-- What a value that is clamped to 16 bits becomes in the pipe, with SAT where it did not fit (R72). -/
theorem clamped_mr (v : Int) : (⟨.mr, (clamp16 v).setWidth 40, satIf 16 v, false⟩ : LongOp) =
    ⟨.mr, (BitVec.ofInt 32 (max (-32768) (min 32767 v))).setWidth 40,
      if max (-32768) (min 32767 v) = v then 0 else 0x0100, false⟩ := by
  simp only [clamp16, satIf, clampSigned_16, astatSat]

/-- The accumulator behind MAC or MSC (R82): modulo 2^40, or clamped with SATMAC. -/
theorem macResult_eq (msc sat : Bool) (acc : BitVec 40) (a b : Word) :
    let v := acc.toInt + (if msc then -(a.toInt * b.toInt) else a.toInt * b.toInt)
    let lim := max (-(2 ^ 39)) (min (2 ^ 39 - 1) v)
    macResult msc sat acc a b = if sat then (BitVec.ofInt 40 lim, if lim = v then 0 else 0x0100) else (BitVec.ofInt 40 v, 0) := by
  have hx : (if msc then acc.toInt - a.toInt * b.toInt else acc.toInt + a.toInt * b.toInt) =
      acc.toInt + (if msc then -(a.toInt * b.toInt) else a.toInt * b.toInt) := by
    cases msc <;> rfl
  simp only [macResult, hx, satIf, clampSigned_40, astatSat]

/-! ### Starts on the pipe -/

section
variable {s : State} {e t a b n i : Nat} {c : Instr} {o : Op}

/-- A start puts its operation behind those in flight; `k` is the model's operation, `l` the row's. -/
theorem answers_startMul (hc : exec c s = s.issue e t o) (h : s.Clear e t o) {k l : LongOp}
    (hr : (s.useSlot e t).runOp e t o false (s.thread e t).pc (s.after e t o) = .ok ((s.useSlot e t).startMul e t k))
    (hl : k = l) : Answers c s (s.Retires e t (fun x => { x with mul := x.mul ++ [l] }) (s.after e t o)) := by
  subst hl
  exact Answers.retires_mod hc h hr ⟨h.queue, h.halt.1, h.halt.2⟩ h.loads

/-- The operation that a multiply into MR begins. -/
def mulOp (k : Mul) (x y : Word) : LongOp := ⟨.mr, (mulResult k x y).1.setWidth 40, (mulResult k x y).2, false⟩

theorem answers_mul {k : Mul} (hc : exec c s = s.issue e t (.mul k a b)) (h : s.Clear e t (.mul k a b)) {l : LongOp}
    (hl : mulOp k ((s.thread e t).regs.get a) ((s.thread e t).regs.get b) = l) :
    Answers c s (s.Retires e t (fun x => { x with mul := x.mul ++ [l] }) (s.after e t (.mul k a b))) :=
  answers_startMul hc h (by rw [State.runOp, State.doMul, s.regsOf_useSlot]; rfl) hl

theorem answers_scl (h : s.Clear e t (.scl n i)) :
    let r := ((s.thread e t).accAhead n).toInt / 2 ^ i
    Answers (.scl e t n i) s (s.Retires e t (fun x => { x with mul := x.mul ++ [⟨.mr,
      (BitVec.ofInt 32 (max (-32768) (min 32767 r))).setWidth 40, if max (-32768) (min 32767 r) = r then 0 else 0x0100, false⟩] })
      (s.after e t (.scl n i))) :=
  answers_startMul rfl h (by rw [State.runOp, State.doScl, s.thread_useSlot]; rfl) (clamped_mr _)

theorem answers_aset (h : s.Clear e t (.aset n i)) :
    let r := (s.thread e t).regs
    Answers (.aset e t n i) s (s.Retires e t (fun x => { x with mul := x.mul ++ [⟨accOf n,
      (r.get (2 * i + 1) ++ r.get (2 * i) : BitVec 32).signExtend 40, 0, false⟩] }) (s.after e t (.aset n i))) :=
  answers_startMul rfl h (by rw [State.runOp, State.doAset, s.regsOf_useSlot]; rfl) rfl

theorem answers_mac {msc : Bool} (hc : exec c s = s.issue e t (.mac msc n a b)) (h : s.Clear e t (.mac msc n a b)) :
    let x := s.thread e t
    let p := (x.regs.get a).toInt * (x.regs.get b).toInt
    let v := (x.accAhead n).toInt + (if msc then -p else p)
    let lim := max (-(2 ^ 39)) (min (2 ^ 39 - 1) v)
    Answers c s (s.Retires e t (fun y => { y with mul := y.mul ++ [if x.regs.astat.getLsbD 0 then
        ⟨accOf n, BitVec.ofInt 40 lim, if lim = v then 0 else 0x0100, true⟩
      else ⟨accOf n, BitVec.ofInt 40 v, 0, true⟩] }) (s.after e t (.mac msc n a b))) := by
  refine answers_startMul hc h (by rw [State.runOp, State.doMac, s.regsOf_useSlot, s.thread_useSlot]) ?_
  rw [macResult_eq, satMac]
  split <;> rfl

end

/-- Settles O14: each start's operation is its row's. -/
theorem multipliesStart : Obligations.MultipliesStart := by
  unfold Obligations.MultipliesStart
  refine ⟨fun s e t a b n i => ⟨fun h => ?_, fun h => ?_, fun h => ?_, answers_scl, fun h => ?_, answers_aset⟩,
    fun s e t n a b c hc h => ?_⟩
  · exact answers_mul rfl h rfl
  · exact answers_mul rfl h (congrArg (LongOp.mk .mr · 0 false) (setWidth_mulu _ _))
  · exact answers_mul rfl h (clamped_mr _)
  · exact answers_startMul rfl h rfl rfl
  · simp only [List.mem_cons, List.not_mem_nil, or_false] at hc
    rcases hc with rfl | rfl
    · exact answers_mac rfl h
    · exact answers_mac rfl h

end Sys2Proof.Machine
end

section
/-! PROOFS. WAIT (O18; spec/03 R92, spec/05 R139). -/

namespace Sys2Proof.Machine

open Sys2Proof

/-- An event of a mask that found none is delivered by it. -/
theorem masked_or_ne_zero {evt b mask : Word} (h : evt &&& mask = 0) (hb : b &&& mask ≠ 0) : (evt ||| b) &&& mask ≠ 0 := by
  have hd : (evt ||| b) &&& mask = evt &&& mask ||| b &&& mask := by
    refine BitVec.eq_of_getLsbD_eq fun i _ => ?_
    simp only [BitVec.getLsbD_and, BitVec.getLsbD_or, Bool.and_or_distrib_right]
  rw [hd, h]
  simpa using hb

/-- A waiting thread whose mask found nothing before gets the masked bits in its destination, behind the WAIT (spec/05 R139). -/
theorem Thread.waitTest_delivers {x : Thread} {b : Word} (hs : x.st = .waiting) (hd : x.inhdl = false)
    (hm : x.evt &&& x.waitMask = 0) (hb : b &&& x.waitMask ≠ 0) :
    let y := Thread.waitTest { x with evt := x.evt ||| b }
    y.st = .ready ∧ y.pc = x.pc + 2 ∧ y.evt = (x.evt ||| b) &&& ~~~x.waitMask ∧
      y.regs = x.regs.set x.waitDst ((x.evt ||| b) &&& x.waitMask) false := by
  rw [Thread.waitTest, if_pos ⟨hs, masked_or_ne_zero hm hb⟩]
  exact ⟨if_neg (Bool.eq_false_iff.1 hd), rfl, rfl, rfl⟩

section
variable {s : State} {e t d m : Nat} (h : s.Clear e t (.wait d m))
include h

theorem answers_wait_zero (hm : (s.thread e t).regs.get m = 0) :
    Answers (.waitEvt e t d m) s (s.Retires e t (fun x => x.setReg d 0 false) (s.after e t (.wait d m))) := by
  refine Answers.retires_setReg rfl h ?_ rfl
  rw [State.runOp, State.doWait, s.thread_useSlot, if_pos hm]

/-- A masked event is pending: it is delivered at once. -/
theorem answers_wait_pending (hm : (s.thread e t).evt &&& (s.thread e t).regs.get m ≠ 0) :
    Answers (.waitEvt e t d m) s (s.Retires e t (fun x => { x.setReg d (x.evt &&& (s.thread e t).regs.get m) false with
      evt := x.evt &&& ~~~(s.thread e t).regs.get m }) (s.after e t (.wait d m))) := by
  have h0 : (s.thread e t).regs.get m ≠ 0 := fun h0 => hm (by rw [h0]; exact BitVec.and_zero)
  have hl := Thread.loads_setReg h.loads d ((s.thread e t).evt &&& (s.thread e t).regs.get m) false
  refine Answers.retires_set (y := { (s.thread e t).setReg d ((s.thread e t).evt &&& (s.thread e t).regs.get m) false with
    evt := (s.thread e t).evt &&& ~~~(s.thread e t).regs.get m }) rfl h ?_ ⟨h.queue, h.halt.1, h.halt.2⟩ hl rfl
  rw [State.runOp, State.doWait, s.thread_useSlot, if_neg h0, if_pos hm]

/-- None is pending: the thread waits, and the first that comes is delivered. -/
theorem answers_wait_waits (h0 : (s.thread e t).regs.get m ≠ 0)
    (hm : (s.thread e t).evt &&& (s.thread e t).regs.get m = 0) :
    let x := s.thread e t
    let mask := x.regs.get m
    Answers (.waitEvt e t d m) s fun s' =>
      s.Retires e t (fun x => { x with st := .waiting, waitMask := mask, waitDst := d }) x.pc s' ∧
      ∀ b : Word, b &&& mask ≠ 0 → x.inhdl = false →
        ((s'.setEvt e t b).thread e t).st = .ready ∧ ((s'.setEvt e t b).thread e t).pc = x.pc + 2 ∧
        ((s'.setEvt e t b).thread e t).evt = (x.evt ||| b) &&& ~~~mask ∧
        ((s'.setEvt e t b).thread e t).regs = x.regs.set d ((x.evt ||| b) &&& mask) false := by
  intro x mask
  have hx := (s.useSlot e t).onlyThread_setThread e t { x with st := .waiting, waitMask := mask, waitDst := d }
  obtain ⟨s', hs', hret⟩ := Answers.retires_plain (c := .waitEvt e t d m) (j := some x.pc)
    (f := fun x => { x with st := .waiting, waitMask := mask, waitDst := d }) rfl h (by
      rw [State.runOp, State.doWait, s.thread_useSlot, if_neg h0, if_neg (not_not.2 hm)]) hx
      ⟨h.queue, h.halt.1, h.halt.2⟩ h.loads
  refine ⟨s', hs', hret, fun b hb hd => ?_⟩
  obtain ⟨hthr, -⟩ := hret
  have hset : (s'.setEvt e t b).thread e t = Thread.waitTest { s'.thread e t with evt := (s'.thread e t).evt ||| b } :=
    s'.thread_modThread_self e t _
  have hdel := Thread.waitTest_delivers (x := s'.thread e t) (b := b) (by rw [hthr]) (by rw [hthr]; exact hd)
    (by rw [hthr]; exact hm) (by rw [hthr]; exact hb)
  rw [hset]
  rwa [hthr] at hdel ⊢

end

/-- Settles O18: the three outcomes of WAIT. -/
theorem waitDeliversOrWaits : Obligations.WaitDeliversOrWaits := by
  unfold Obligations.WaitDeliversOrWaits
  exact fun s e t d m h => ⟨answers_wait_zero h, answers_wait_pending h, answers_wait_waits h⟩

end Sys2Proof.Machine
end

section
/-! PROOFS. MFS and MTS (O19; spec/03 R80, R86, R96, spec/05 R134, R138, spec/14 R368). -/

namespace Sys2Proof.Machine

open Sys2Proof

/-! ### MFS -/

/-- The slot taken changes no special register. -/
theorem State.specialReg_useSlot (s : State) (e t sr : Nat) (pc : Word) :
    (s.useSlot e t).specialReg e t sr pc = s.specialReg e t sr pc := by
  rw [s.useSlot_frame]
  rfl

section
variable {s : State} {e t d sr a : Nat}

/-- MFS of a register that is no action register writes its value (R96). -/
theorem answers_mfs (h : s.Clear e t (.mfs d sr)) (hsr : sr < 29) {v : Word} (hv : s.specialReg e t sr (s.thread e t).pc = v) :
    Answers (.mfs e t d sr) s (s.Retires e t (fun x => x.setReg d v false) (s.after e t (.mfs d sr))) := by
  refine Answers.retires_setReg rfl h ?_ rfl
  have hn : (!((s.useSlot e t).thread e t).sup && decide (29 ≤ sr)) = false := by
    rw [decide_eq_false (by omega), Bool.and_false]
  simp only [State.runOp, State.doMfs, s.specialReg_useSlot, hv, hn, Bool.false_eq_true, if_false]

theorem State.specialReg_repcnt {pc : Word} (h : (s.thread e t).rep = none) : s.specialReg e t 1 pc = 0 := by
  simp only [State.specialReg, h]

/-! ### MTS -/

/-- MTS of a register of the thread's own. -/
theorem answers_mts_own (h : s.Clear e t (.mts sr a)) {f : Thread → Thread}
    (hr : (s.useSlot e t).doMts e t sr a (s.after e t (.mts sr a)) = .ok ((s.useSlot e t).setThread e t (f (s.thread e t))))
    (hi : (f (s.thread e t)).Idle) (hl : (f (s.thread e t)).loads = []) :
    Answers (.mts e t sr a) s (s.Retires e t f (s.after e t (.mts sr a))) := Answers.retires_set rfl h hr hi hl rfl

/-- MTS of a read-only or reserved number (R96). -/
theorem answers_mts_nothing (h : s.Clear e t (.mts sr a))
    (hr : (s.useSlot e t).doMts e t sr a (s.after e t (.mts sr a)) = .ok (s.useSlot e t)) :
    Answers (.mts e t sr a) s (s.Retires e t id (s.after e t (.mts sr a))) := Answers.retires_id (j := none) rfl h hr

/-- A user's MTS of URGMASK or UVEC is counted in VIOL (spec/05 R134). -/
theorem answers_mts_refused (h : s.Clear e t (.mts sr a))
    (hr : (s.useSlot e t).doMts e t sr a (s.after e t (.mts sr a)) = .ok ((s.useSlot e t).violate (.thread e t) 0 0 true)) :
    Answers (.mts e t sr a) s (s.Retires e t (fun x => { x with viol := satInc 16 x.viol }) (s.after e t (.mts sr a))) :=
  Answers.retires_mod rfl h hr ⟨h.queue, h.halt.1, h.halt.2⟩ h.loads

/-- An effect on the thread alone, behind which the issue was counted. -/
theorem State.Retired.retires {v s' : State} {y : Thread} {pc : Word} {f : Thread → Thread}
    (h : v.Retired e t [] pc s') (hv : (s.useSlot e t).OnlyThread e t y v) (hl : y.loads = []) (hf : f (s.thread e t) = y) :
    s.Retires e t f pc s' := by
  obtain ⟨hx, ho, hframe⟩ := hv
  have hrd : ∀ r, v.rd r = s.rd r := fun r => (State.rd_congr (by rw [hframe]) r).trans (s.rd_useSlot e t r)
  have heng : ∀ e', v.engine e' = (s.useSlot e t).engine e' := fun e' => by rw [hframe]; rfl
  obtain ⟨⟨p, m, hthr⟩, hoth, hcount, hregs, ⟨w, hw⟩, hw', hfr⟩ := id h
  refine ⟨?_, by simpa only [State.Counted, hrd] using hcount, ?_, fun e' t' hk => ?_, fun r hr => ?_, fun e' he => ?_,
    h.slotUsed (by rw [hframe]), ?_⟩
  · rw [hthr, hf, hx, ← hl]
  · rw [hfr, hframe, s.useSlot_frame]
  · rw [hoth _ _ hk, ho _ _ hk, s.thread_useSlot]
  · exact (hregs r hr).trans (hrd r)
  · rw [hw' _ he, heng, s.engine_useSlot_ne t he]
  · rw [hw, heng, s.engine_useSlot_place]

/-- Other memory behind an issue. -/
theorem State.Retired.withMem {v s' : State} {l : List Load} {pc : Word} {m : SMap (BitVec 8)} {k : SMap (BitVec 16)}
    (h : (v.withMem m k).Retired e t l pc s') : v.Retired e t l pc (s'.withMem v.mem v.chk) where
  thread := h.thread
  others := h.others
  counted := h.counted
  rd := h.rd
  engine := h.engine
  engines := h.engines
  frame := by rw [h.frame]; rfl

/-- The slot and the thread do not reach the configuration copy. -/
theorem State.copiesAs_setThread (s : State) (e t : Nat) (y : Thread) : s.CopiesAs ((s.useSlot e t).setThread e t y) where
  rd r _ := s.rd_useSlot e t r
  mem := by rw [State.setThread, s.useSlot_frame]
  chk := by rw [State.setThread, s.useSlot_frame]
  integ := by rw [State.setThread, s.useSlot_frame]
  ticks := by rw [State.setThread, s.useSlot_frame]
  runs := by rw [State.setThread, s.useSlot_frame]

/-- A supervisor's MTS of URGMASK or UVEC: the thread is as `f` makes it, and the configuration copy with it (spec/14
R368). -/
theorem answers_mts_copied (h : s.Clear e t (.mts sr a)) {f : Thread → Thread}
    (hr : (s.useSlot e t).doMts e t sr a (s.after e t (.mts sr a)) =
      .ok (((s.useSlot e t).setThread e t (f (s.thread e t))).copyThrough e))
    (hi : (f (s.thread e t)).Idle) (hl : (f (s.thread e t)).loads = []) :
    Answers (.mts e t sr a) s fun s' => ∃ u, s.Retires e t f (s.after e t (.mts sr a)) u ∧
      s' = { u with mem := (s.copyThrough e).mem, chk := (s.copyThrough e).chk } := by
  have hv := (s.useSlot e t).onlyThread_setThread e t (f (s.thread e t))
  have hcopy := s.copiesAs_setThread e t (f (s.thread e t))
  rw [hcopy.copyThrough] at hr
  generalize (s.useSlot e t).setThread e t (f (s.thread e t)) = v at *
  have hx : (v.withMem (s.copyThrough e).mem (s.copyThrough e).chk).thread e t = f (s.thread e t) := hv.1
  refine Answers.of_retired rfl h hr (by rw [← hx] at hi; exact hi) (by rw [← hx] at hl; exact hl) fun s' hret => ?_
  refine ⟨_, (State.Retired.withMem hret).retires hv hl rfl, ?_⟩
  rw [hret.frame]
  rfl

/-- MTS URET (spec/05 R138) of a thread that is not DIVERTED. -/
theorem answers_mtsUret (h : s.Clear e t (.mts 8 a)) (hst : (s.thread e t).st ≠ .diverted) :
    Answers (.mtsUret e t a) s
      (s.Retires e t (fun x => { x with uret := (s.thread e t).regs.get a }) (s.after e t (.mts 8 a))) := by
  refine Answers.retires_set (y := { s.thread e t with uret := (s.thread e t).regs.get a }) rfl h ?_
    ⟨h.queue, h.halt.1, h.halt.2⟩ h.loads rfl
  rw [State.runOp, State.doMts, State.doMtsUret, s.thread_useSlot, if_neg hst]

/-- Of a DIVERTED one it ends the diversion. -/
theorem answers_mtsUret_diverted (h : s.Clear e t (.mts 8 a)) (hst : (s.thread e t).st = .diverted) :
    let v := (s.thread e t).regs.get a
    Answers (.mtsUret e t a) s (s.Retires e t
      (fun x => { x with st := .ready, inhdl := false, savedRep := none, rep := if v = x.uret then x.savedRep else none }) v) := by
  intro v
  have hx := (s.useSlot e t).onlyThread_setThread e t { s.thread e t with
    st := .ready, inhdl := false, savedRep := none, rep := if v = (s.thread e t).uret then (s.thread e t).savedRep else none }
  refine Answers.retires_plain (j := some v) rfl h ?_ hx ⟨h.queue, h.halt.1, h.halt.2⟩ h.loads
  rw [State.runOp, State.doMts, State.doMtsUret, s.thread_useSlot, if_pos hst]

end

/-- Settles O19: each register as MFS finds it, and what MTS does with it. -/
theorem specialRegistersAreReadAndWritten : Obligations.SpecialRegistersAreReadAndWritten := by
  unfold Obligations.SpecialRegistersAreReadAndWritten
  refine ⟨fun s e t d c hc h => ?_, fun s e t a => ⟨fun c hc h => ?_, fun c hc h => ?_,
    fun h => ⟨answers_mtsUret h, answers_mtsUret_diverted h⟩⟩⟩ <;>
    simp only [List.mem_cons, List.not_mem_nil, or_false] at hc
  · have hval : c.1 < 29 ∧ s.specialReg e t c.1 (s.thread e t).pc = c.2 := by
      rcases hc with rfl | rfl | rfl | rfl | rfl | rfl | rfl | rfl | rfl | rfl | rfl | rfl | rfl | rfl | rfl
      case inr.inl => exact ⟨by simp, State.specialReg_repcnt h.rep⟩
      all_goals exact ⟨by simp, rfl⟩
    exact answers_mfs h hval.1 hval.2
  · have hx := s.thread_useSlot e t e t
    rcases hc with rfl | rfl | rfl | rfl | rfl | rfl | rfl | rfl | rfl
    · exact answers_mts_own h (by rw [State.doMts, hx]; rfl) ⟨h.queue, h.halt.1, h.halt.2⟩ h.loads
    · exact answers_mts_own h (by rw [State.doMts, hx]) ⟨h.queue, h.halt.1, h.halt.2⟩ h.loads
    · exact answers_mts_own h (by rw [State.doMts, hx]) ⟨h.queue, h.halt.1, h.halt.2⟩ h.loads
    all_goals exact answers_mts_nothing h rfl
  · have hx := s.thread_useSlot e t e t
    refine ⟨fun hp => ?_, fun hp => ?_⟩
    · have hsup : (s.thread e t).sup = false := by simp [Thread.sup, hp]
      rcases hc with rfl | rfl
      · exact answers_mts_refused h (by simp [State.doMts, hx, hsup])
      · exact answers_mts_refused h (by simp [State.doMts, hx, hsup])
    · have hsup : (s.thread e t).sup = true := by simp [Thread.sup, hp]
      rcases hc with rfl | rfl
      · exact answers_mts_copied h (by simp only [State.doMts, hx, hsup, if_true]) ⟨h.queue, h.halt.1, h.halt.2⟩ h.loads
      · exact answers_mts_copied h (by simp only [State.doMts, hx, hsup, if_true]) ⟨h.queue, h.halt.1, h.halt.2⟩ h.loads

end Sys2Proof.Machine
end

section
/-! PROOFS. CHECKPOINT (O25; spec/03 R95, spec/14 R370). -/

namespace Sys2Proof.Machine

open Sys2Proof

/-- With nothing in flight the registers a checkpoint records are the thread's. -/
theorem Thread.settled_at_rest {x : Thread} (hl : x.loads = []) (hm : x.mul = []) (hi : x.iter = none) :
    x.settled = x.regs := by
  simp [Thread.settled, hl, hm, hi]

/-- The record that a checkpoint of thread `t` takes, to go on at `pc` (spec/14 R370). -/
def State.ckRecord (s : State) (e t : Nat) (pc : Word) : CkRecord :=
  let x := s.thread e t
  ⟨x.settled, pc, x.st, x.prior, x.inhdl, x.waitMask, x.waitDst, x.uret, x.rep, x.savedRep, x.evt,
    ((s.engine e).sb.filter fun y => y.thr == t).length, x.mul.length, if x.iter.isSome then 1 else 0, false,
    match x.ck with
    | [] => 0
    | c :: _ => 1 - c.slot⟩

section
variable {s : State} {e t : Nat}

/-- While the newest record is usable, or there is none, the new one comes in front of it. -/
theorem State.checkpoint_takes (h : ∀ c l, (s.thread e t).ck = c :: l → c.usable = true) (pc : Word) :
    s.checkpoint e t pc = s.setThread e t
      { s.thread e t with ck := s.ckRecord e t pc :: (s.thread e t).ck.take 1 } := by
  unfold State.checkpoint
  refine if_neg ?_
  cases hck : (s.thread e t).ck with
  | nil => simp
  | cons c l => simp [h c l hck]

/-- While it is not, the checkpoint is skipped and counted. -/
theorem State.checkpoint_skips {c : CkRecord} {l : List CkRecord} (h : (s.thread e t).ck = c :: l) (hu : c.usable = false)
    (hr : s.roleOf e < 8) (pc : Word) : s.checkpoint e t pc = s.incSat (.engCkstat (s.roleOf e)) F.engCkstat.ckskip := by
  simp [State.checkpoint, h, hu, hr]

theorem State.Clear.engine_lt {o : Op} (h : s.Clear e t o) : e < 9 := by
  have hmay := h.may
  simp only [State.canIssue, Bool.and_eq_true, decide_eq_true_eq] at hmay
  obtain ⟨⟨⟨⟨⟨he, -⟩, -⟩, -⟩, -⟩, -⟩ := hmay
  exact he

/-- CHECKPOINT of a thread of a CONTINUITY domain is a checkpoint (R95). -/
theorem State.runOp_checkpoint {d : Nat} (hd : s.threadDomain (s.roleOf e) t = some d)
    (hp : s.bit (.engDctl d) F.engDctl.policy = true) (pc next : Word) :
    (s.useSlot e t).runOp e t .checkpoint false pc next = .ok ((s.useSlot e t).checkpoint e t next) := by
  have hd' : (s.useSlot e t).threadDomain (s.roleOf e) t = some d := by rw [← hd, s.useSlot_frame]; rfl
  have hp' : (s.useSlot e t).bit (.engDctl d) F.engDctl.policy = true := by rw [← hp, State.bit, s.fld_useSlot]; rfl
  rw [State.runOp, State.doCheckpoint, s.roleOf_useSlot, hd']
  exact congrArg Done.ok (if_pos hp')

variable (h : s.Clear e t .checkpoint) {d : Nat} (hd : s.threadDomain (s.roleOf e) t = some d)
  (hp : s.bit (.engDctl d) F.engDctl.policy = true)
include h hd hp

theorem answers_checkpoint_takes (hu : ∀ c l, (s.thread e t).ck = c :: l → c.usable = true) (hm : (s.thread e t).mul = [])
    (hi : (s.thread e t).iter = none) : let x := s.thread e t
    Answers (.checkpoint e t) s fun s' =>
      (∃ c : CkRecord, (s'.thread e t).ck = c :: x.ck.take 1 ∧ c.usable = false ∧ c.regs = x.regs ∧ c.pc = x.pc + 1 ∧
        c.evt = x.evt ∧ c.st = x.st ∧ c.stores = ((s.engine e).sb.filter fun y => y.thr == t).length ∧ c.muls = 0 ∧ c.iters = 0 ∧
        ∀ y ∈ x.ck.head?, c.slot = 1 - y.slot) ∧
      (s'.thread e t).regs = x.regs ∧ (s'.thread e t).pc = x.pc + 1 ∧ s.RegsBut [.engIssuecnt e, .engPaircnt e] s' ∧
      s' = { s with threads := s'.threads, regs := s'.regs, engines := s'.engines } := by
  intro x
  have hx : (s.useSlot e t).thread e t = x := s.thread_useSlot e t e t
  have hr := State.runOp_checkpoint hd hp x.pc (s.after e t .checkpoint)
  rw [State.checkpoint_takes (by rwa [hx]), hx] at hr
  refine Answers.of_retired rfl h hr (by simpa using ⟨h.queue, h.halt.1, h.halt.2⟩) (by simpa using h.loads) fun s' hret => ?_
  obtain ⟨⟨p, m, hthr⟩, -, -, hrd, -, -, hframe⟩ := hret
  rw [State.thread_setThread_self] at hthr
  refine ⟨⟨(s.useSlot e t).ckRecord e t (s.after e t .checkpoint), by rw [hthr], rfl, ?_, rfl, ?_, ?_, ?_, ?_, ?_, ?_⟩,
    by rw [hthr], by rw [hthr]; rfl, fun r hr => (hrd r hr).trans (s.rd_useSlot e t r), ?_⟩
  · simp only [State.ckRecord, hx]
    exact Thread.settled_at_rest h.loads hm hi
  · simp only [State.ckRecord, hx]
  · simp only [State.ckRecord, hx]
  · simp only [State.ckRecord, s.sb_useSlot]
  · simp only [State.ckRecord, hx, hm, x, List.length_nil]
  · simp [State.ckRecord, hx, hi, x]
  · intro y hy
    simp only [State.ckRecord, hx]
    cases hck : x.ck with
    | nil => simp [hck] at hy
    | cons c l =>
      rw [hck] at hy
      obtain rfl : c = y := by simpa using hy
      rfl
  · rw [hframe, State.setThread, s.useSlot_frame]

theorem answers_checkpoint_skips (hr8 : s.roleOf e < 8) {c : CkRecord} {l : List CkRecord} (hck : (s.thread e t).ck = c :: l)
    (hu : c.usable = false) : let x := s.thread e t
    Answers (.checkpoint e t) s fun s' =>
      (s'.thread e t).ck = x.ck ∧ (s'.thread e t).regs = x.regs ∧ (s'.thread e t).pc = x.pc + 1 ∧
      s'.fld (.engCkstat (s.roleOf e)) F.engCkstat.ckskip =
        satInc F.engCkstat.ckskip.width (s.fld (.engCkstat (s.roleOf e)) F.engCkstat.ckskip) := by
  intro x
  have hx : (s.useSlot e t).thread e t = x := s.thread_useSlot e t e t
  have hr := State.runOp_checkpoint hd hp x.pc (s.after e t .checkpoint)
  rw [State.checkpoint_skips (by rwa [hx]) hu (by rwa [s.roleOf_useSlot]), s.roleOf_useSlot] at hr
  have hv : ((s.useSlot e t).incSat (.engCkstat (s.roleOf e)) F.engCkstat.ckskip).thread e t = x := hx
  refine Answers.of_retired rfl h hr (by rw [hv]; exact h.idle) (by rw [hv]; exact h.loads) fun s' hret => ?_
  obtain ⟨⟨p, m, hthr⟩, -, -, hrd, -, -, -⟩ := hret
  rw [hv] at hthr
  have he := h.engine_lt
  have hk : (Reg.engCkstat (s.roleOf e)).key ≠ (Reg.engIssuecnt e).key ∧
      (Reg.engCkstat (s.roleOf e)).key ≠ (Reg.engPaircnt e).key := by
    simp only [Reg.key]; omega
  refine ⟨by rw [hthr], by rw [hthr], by rw [hthr]; rfl, ?_⟩
  rw [State.fld_of_rd (hrd _ (by simpa using hk)), State.fld_incSat _ _ rfl, s.fld_useSlot]

end

/-- Settles O25: the record is taken where the newest is usable, and skipped where it is not. -/
theorem checkpointRecordsTheContext : Obligations.CheckpointRecordsTheContext := by
  unfold Obligations.CheckpointRecordsTheContext
  exact fun s e t d h hd hr hp => ⟨answers_checkpoint_takes h hd hp, fun c l => answers_checkpoint_skips h hd hp hr⟩

end Sys2Proof.Machine
end

section
/-! PROOFS. Loads (O12; spec/03 R74, R75, spec/02 R45, R49, R54, R55, spec/05 R131, spec/11 R281, spec/12 R312). -/

namespace Sys2Proof.Machine

open Sys2Proof

/-! ### The instructions -/

section
variable {s : State} {e t d k off : Nat} {z : Size} {c : Instr}

/-- The halves of an access of thread `t` through w(8 + k) (spec/02 R54). -/
def State.accessHalves (s : State) (e t : Nat) (z : Size) (k off : Nat) : List Half :=
  halves z (segOffset ((s.thread e t).regs.get (8 + k)) off)

variable (hc : exec c s = s.issue e t (.load z d k off)) (h : s.Clear e t (.load z d k off))
include hc h

/-- A load that passes its checks delivers what it read, behind the next instruction (spec/02 R45). -/
theorem answers_load (ha : (s.useSlot e t).accessOk e t k false (s.accessHalves e t z k off) = true)
    (hw : (s.useSlot e t).accessWaits e t k false (s.accessHalves e t z k off) = false)
    (hm : ((s.useSlot e t).loadHalves e t k (s.accessHalves e t z k off)).2.2 = s.useSlot e t) :
    let r := (s.useSlot e t).loadHalves e t k (s.accessHalves e t z k off)
    Answers c s (s.Retires e t (fun x => { x with loads := [inFlight (loadDests z d r.1) r.2.1] })
      (s.after e t (.load z d k off))) := by
  intro r
  have hx := State.OnlyThread.refl (s.useSlot e t) e t
  rw [s.thread_useSlot] at hx
  refine Answers.retires (l := some (inFlight (loadDests z d r.1) r.2.1)) (j := none) hc h ?_ hx h.idle h.loads rfl
  rw [State.accessHalves] at ha hw hm
  simp only [State.runOp, State.doLoad, State.regsOf_useSlot, ha, hw, hm, Bool.not_true, Bool.false_and, Bool.or_self,
    Bool.false_eq_true, if_false]
  rfl

/-- One that fails them is counted in VIOL and delivers zero (spec/02 R55). -/
theorem answers_load_refused (ha : (s.useSlot e t).accessOk e t k false (s.accessHalves e t z k off) = false) :
    Answers c s (s.Retires e t (fun x => { x with viol := satInc 16 x.viol, loads := [inFlight (loadDests z d []) false] })
      (s.after e t (.load z d k off))) := by
  have hx := (s.useSlot e t).onlyThread_modThread e t fun x => { x with viol := satInc 16 x.viol }
  rw [s.thread_useSlot] at hx
  refine Answers.retires (l := some (zeroLoad z d)) (j := none) hc h ?_ hx ⟨h.queue, h.halt.1, h.halt.2⟩ h.loads rfl
  rw [State.accessHalves] at ha
  simp only [State.runOp, State.doLoad, State.regsOf_useSlot, ha, Bool.not_false, Bool.true_or, if_true]
  rfl

end

/-! ### What a load reads -/

/-- Byte `i` of a word of memory. -/
theorem State.byteOf_word (s : State) (k : Nat) {i : Nat} (hi : i < 8) : byteOf (s.word k) i = s.byte (8 * k + i) := by
  refine BitVec.eq_of_getLsbD_eq fun j hj => ?_
  simp only [byteOf, State.word, BitVec.getLsbD_extractLsb', BitVec.getLsbD_append, hj, decide_true, Bool.true_and]
  interval_cases i <;> simp (disch := omega) only [if_pos, if_neg] <;> congr 1 <;> omega

section
variable {s : State} {e t a n : Nat}

/-- With an empty buffer nothing is forwarded: a load reads its word of memory (spec/02 R49). -/
theorem State.loadUnit_of_empty (h : (s.engine e).sb = []) (hn : 0 < n) : s.loadUnit e t a n =
    ((List.range n).map fun i => byteOf (s.readWord (s.physWord e a)).1 ((a + i) % 8),
      (s.readWord (s.physWord e a)).2.1, (s.readWord (s.physWord e a)).2.2) := by
  have hf : ∀ b, forwarded (s.engine e).sb t b = none := fun b => by rw [h]; rfl
  have h0 : 0 ∈ List.range n := List.mem_range.2 hn
  unfold State.loadUnit
  simp only [hf]
  rw [if_neg (by simp; omega)]
  simp

theorem region_lram (h : a < 0x8000) : region a = .lram := if_pos h

/-- A load within one unit of clean local RAM, past an empty buffer (spec/11 R281). -/
theorem State.loadUnit_lram (ha : a < 0x8000) (hn : 0 < n) (hu : a % 4 + n ≤ 4) (hsb : (s.engine e).sb = [])
    (hb : s.integ.bgtSaved = none) (hs : s.syn (lramWord e (a / 8)) = 0) :
    s.loadUnit e t a n = ((List.range n).map fun i => s.byte (8 * lramWord e 0 + a + i), false, s) := by
  have hp : s.physWord e a = lramWord e (a / 8) := by rw [State.physWord, region_lram ha]
  have hc : (s.decodeWord (lramWord e (a / 8))).1 = .clean := eccDecode_clean.2 (by rw [hs]; decide)
  rw [State.loadUnit_of_empty hsb hn, hp, State.readWord_clean hb hc]
  refine Prod.ext (List.map_congr_left fun i hi => ?_) rfl
  have hlt := List.mem_range.1 hi
  rw [s.byteOf_word _ (by omega)]
  congr 1
  simp only [lramWord]
  omega

end

/-- Settles O12: what a load delivers, and what it reads from local RAM. -/
theorem loadsDeliverBehindTheNextInstruction : Obligations.LoadsDeliverBehindTheNextInstruction := by
  unfold Obligations.LoadsDeliverBehindTheNextInstruction
  refine ⟨fun s e t d k off c hc h => ?_, fun s e t k o n => ?_⟩
  · have hi : exec c.1 s = s.issue e t (.load c.2 d k off) := by
      simp only [List.mem_cons, List.not_mem_nil, or_false] at hc
      rcases hc with rfl | rfl | rfl <;> rfl
    exact ⟨answers_load hi h, answers_load_refused hi h⟩
  · intro a hn hu ha hsb hb hs
    have hctl : (region (s.segAddr e t k o)).isControl = false := by rw [region_lram ha]; rfl
    simp only [State.loadHalves, hctl, Bool.false_eq_true, if_false, List.append_nil, Bool.or_false]
    exact State.loadUnit_lram ha hn hu hsb hb hs

end Sys2Proof.Machine
end

section
/-! PROOFS. Stores (O13; spec/03 R75, spec/02 R48, R52, R54, R55). -/

namespace Sys2Proof.Machine

open Sys2Proof

/-- Slots that answer at once are not woken. -/
theorem State.wakeHalves_of_awake {s : State} {e t k : Nat} {store : Bool} {l : List Half}
    (h : ∀ x ∈ l, s.slotStall e t k store x = none) : s.wakeHalves e t k store l = s := by
  unfold State.wakeHalves
  induction l with
  | nil => rfl
  | cons x l ih =>
    obtain ⟨hx, hl⟩ := List.forall_mem_cons.1 h
    rw [List.foldl_cons, hx]
    exact ih hl

/-- The slot taken moves no segment. -/
theorem State.storeEntries_useSlot (s : State) (e t k : Nat) (d : BitVec 32) (p : Bool) (l : List Half) (done : Nat) :
    (s.useSlot e t).storeEntries e t k d p done l = s.storeEntries e t k d p done l := by
  induction l generalizing done with
  | nil => rfl
  | cons h l ih => simp only [State.storeEntries, State.segAddr, State.fld_useSlot, ih]

section
variable {s : State} {e t d k off : Nat} {z : Size} {c : Instr}

/-- The entries that a store of thread `t` adds (spec/02 R48). -/
def State.entriesOf (s : State) (e t : Nat) (z : Size) (d k off : Nat) : List StoreEntry :=
  let r := (s.thread e t).regs
  s.storeEntries e t k (storeData r z d) (storePoison r z d) 0 (s.accessHalves e t z k off)

/-- The state of a store's slot with its entries in the buffer. -/
def State.stored (s : State) (e t : Nat) (z : Size) (d k off : Nat) : State :=
  (s.useSlot e t).enqueue e (s.entriesOf e t z d k off)

theorem State.engine_stored (s : State) (e t : Nat) (z : Size) (d k off : Nat) : (s.stored e t z d k off).engine e =
    { (s.useSlot e t).engine e with sb := (s.engine e).sb ++ s.entriesOf e t z d k off } := by
  rw [← s.sb_useSlot e t]
  exact State.engine_modEngine_self _ e _

theorem State.thread_stored (s : State) (e t : Nat) (z : Size) (d k off e' t' : Nat) :
    (s.stored e t z d k off).thread e' t' = s.thread e' t' := s.thread_useSlot e t e' t'

theorem State.rd_stored (s : State) (e t : Nat) (z : Size) (d k off : Nat) (r : Reg) : (s.stored e t z d k off).rd r = s.rd r :=
  s.rd_useSlot e t r

/-- A store that passes its checks and finds room: its effect (spec/02 R48, R52). -/
theorem State.runOp_store (ha : (s.useSlot e t).accessOk e t k true (s.accessHalves e t z k off) = true)
    (hroom : (s.engine e).sb.length + (s.accessHalves e t z k off).length ≤ 8)
    (hw : ∀ h ∈ s.accessHalves e t z k off, (s.useSlot e t).slotStall e t k true h = none) (pc next : Word) :
    (s.useSlot e t).runOp e t (.store z d k off) false pc next = .ok (s.stored e t z d k off) := by
  have hwait : (s.useSlot e t).accessWaits e t k true (s.accessHalves e t z k off) = false := by
    simpa [State.accessWaits] using hroom
  have hwake := State.wakeHalves_of_awake hw
  simp only [State.accessHalves] at ha hwait hwake
  simp only [State.runOp, State.doStore, State.regsOf_useSlot, ha, hwait, hwake, State.storeEntries_useSlot, Bool.not_true,
    Bool.false_and, Bool.or_self, Bool.false_eq_true, if_false]
  rfl

variable (hc : exec c s = s.issue e t (.store z d k off)) (h : s.Clear e t (.store z d k off))
include hc h

theorem answers_store (ha : (s.useSlot e t).accessOk e t k true (s.accessHalves e t z k off) = true)
    (hroom : (s.engine e).sb.length + (s.accessHalves e t z k off).length ≤ 8)
    (hw : ∀ h ∈ s.accessHalves e t z k off, (s.useSlot e t).slotStall e t k true h = none) :
    Answers c s fun s' =>
      s'.engine e = { s.engine e with
        sb := (s.engine e).sb ++ s.entriesOf e t z d k off,
        slot := (s'.engine e).slot, boostPtr := (s'.engine e).boostPtr, slotAt := (s'.engine e).slotAt, iterWait := (s'.engine e).iterWait } ∧
      (∀ e', e' ≠ e → s'.engine e' = s.engine e') ∧ s.SlotUsed e t s' ∧ (s'.thread e t).regs = (s.thread e t).regs ∧
      (s'.thread e t).pc = s.after e t (.store z d k off) ∧ s.Counted e s' ∧
      (∀ e' t', 32 * e' + t' ≠ 32 * e + t → s'.thread e' t' = s.thread e' t') ∧
      s' = { s with threads := s'.threads, regs := s'.regs, engines := s'.engines } ∧
      s.RegsBut [.engIssuecnt e, .engPaircnt e] s' := by
  have hx := s.thread_stored e t z d k off
  have hrd := s.rd_stored e t z d k off
  refine Answers.of_retired hc h (State.runOp_store ha hroom hw _ _) (by rw [hx]; exact h.idle) (by rw [hx]; exact h.loads)
    fun s' ⟨⟨p, m, hthr⟩, hoth, hcount, hregs, ⟨w, heng⟩, heng', hframe⟩ => ?_
  rw [s.engine_stored] at heng
  refine ⟨?_, fun e' he => ?_, ?_, by rw [hthr, hx], by rw [hthr]; rfl, by simpa only [State.Counted, hrd] using hcount,
    fun e' t' hk => (hoth e' t' hk).trans (hx e' t'), ?_, fun r hr => (hregs r hr).trans (hrd r)⟩
  · rw [heng, s.engine_useSlot_place]
  · rw [heng' e' he, ← s.engine_useSlot_ne t he]
    exact State.engine_modEngine_ne _ _ he
  · simpa [State.SlotUsed, heng] using s.slotUsed_useSlot e t
  · rw [hframe, State.stored, State.enqueue, State.modEngine, State.setEngine, s.useSlot_frame]

/-- One that fails its checks is counted in VIOL and stores nothing (spec/02 R55). -/
theorem answers_store_refused (ha : (s.useSlot e t).accessOk e t k true (s.accessHalves e t z k off) = false) :
    Answers c s (s.Retires e t (fun x => { x with viol := satInc 16 x.viol }) (s.after e t (.store z d k off))) := by
  refine Answers.retires_mod hc h ?_ ⟨h.queue, h.halt.1, h.halt.2⟩ h.loads
  rw [State.accessHalves] at ha
  simp only [State.runOp, State.doStore, State.regsOf_useSlot, ha, Bool.not_false, Bool.true_or, if_true]
  rfl

end

/-- Settles O13: a store's entries join the buffer, or its refusal is counted. -/
theorem storesEnterTheBuffer : Obligations.StoresEnterTheBuffer := by
  unfold Obligations.StoresEnterTheBuffer
  intro s e t d k off c hc h
  have hi : exec c.1 s = s.issue e t (.store c.2 d k off) := by
    simp only [List.mem_cons, List.not_mem_nil, or_false] at hc
    rcases hc with rfl | rfl | rfl <;> rfl
  exact ⟨answers_store hi h, answers_store_refused hi h⟩

end Sys2Proof.Machine
end

section
/-! PROOFS. REP and REPI, and the repetitions of a register operation (O17; spec/03 R87 to R90). -/

namespace Sys2Proof.Machine

open Sys2Proof

/-! ### REP and REPI -/

theorem State.codeOp_useSlot (s : State) (e t : Nat) (a : Word) : (s.useSlot e t).codeOp e t a = s.codeOp e t a := by
  simp only [State.codeOp, s.codeWord_useSlot]

section
variable {s : State} {e t : Nat} {k : RepCount} {urgent : Bool} {c : Instr} (hc : exec c s = s.issue e t (.rep urgent k))
  (h : s.Clear e t (.rep urgent k))
include hc h

/-- REP and REPI with a count above 0 begin a sequence (R87). -/
theorem answers_rep_begins (hn : 0 < (s.thread e t).regs.repCount urgent k) :
    Answers c s (s.Retires e t (fun x => { x with rep := some ⟨urgent, s.after e t (.rep urgent k),
      (s.thread e t).regs.repCount urgent k, false⟩ }) (s.after e t (.rep urgent k))) := by
  refine Answers.retires_mod hc h ?_ ⟨h.queue, h.halt.1, h.halt.2⟩ h.loads
  simp only [State.runOp, State.doRep, State.regsOf_useSlot, if_neg (Nat.ne_of_gt hn)]

/-- A count of 0 goes on behind the target (R87). -/
theorem answers_rep_skips (hn : (s.thread e t).regs.repCount urgent k = 0) : let next := s.after e t (.rep urgent k)
    Answers c s (s.Retires e t id (next + BitVec.ofNat 16 (s.codeOp e t next).len)) := by
  intro next
  refine Answers.retires_id (j := some (next + BitVec.ofNat 16 (s.codeOp e t next).len)) hc h ?_
  simp only [State.runOp, State.doRep, State.regsOf_useSlot, if_pos hn, State.codeOp_useSlot, next]

end

/-! ### The first word of a register operation -/

theorem decodeSys2_ne_alu (o v : Nat) (k : Alu) (a b : Nat) : decodeSys2 o v ≠ .alu k a b := by
  fun_cases decodeSys2 o v <;> nofun

theorem decodeSys_ne_alu (o v : Nat) (k : Alu) (a b : Nat) : decodeSys o v ≠ .alu k a b := by
  fun_cases decodeSys o v
  case case1 => exact decodeSys2_ne_alu o v k a b
  all_goals nofun

theorem Op.eq_alu_of_normal {o : Op} {k : Alu} {a b : Nat} (h : o.normal = .alu k a b) : o = .alu k a b := by
  revert h
  fun_cases Op.normal o <;> simp

theorem decodeEq_ne_alu (x y : Nat) (off : Int) (k : Alu) (a b : Nat) : decodeEq x y off ≠ .alu k a b := by
  fun_cases decodeEq x y off <;> nofun

/-- A register operation is its first word (spec/04 R99, R100): the second is read in the last group only. -/
theorem decode14_alu {w v : Nat} {k : Alu} {a b : Nat} (h : decode14 w v = .alu k a b) : decode14 w 0 = .alu k a b := by
  rw [decode14] at h ⊢
  by_cases hw : w = 0
  · rw [if_pos hw] at h
    cases h
  rw [if_neg hw] at h ⊢
  dsimp only at h ⊢
  split at h
  next hg => simpa only [hg] using h
  next hg => simpa only [hg] using h
  next hg => simpa only [hg] using h
  next =>
    exfalso
    revert h
    split
    · nofun
    split
    · nofun
    split
    · nofun
    split
    · nofun
    split
    · exact decodeEq_ne_alu _ _ _ k a b
    · exact decodeSys_ne_alu _ _ k a b

/-! ### The end of a slot that is no instruction's first -/

/-- The thread has gone on at `pc` with `l` in flight, and nothing waited for its boundary: `s'` is `c` but for the thread and
the engine's queue for its iterators. -/
structure State.GoesOn (c : State) (e t : Nat) (l : List Load) (pc : Word) (s' : State) : Prop where
  thread  : s'.thread e t = { c.thread e t with loads := l, pc := pc, bpSkip := false }
  engine  : ∃ w, s'.engine e = { c.engine e with iterWait := w }
  frame   : s' = { c with threads := s'.threads, engines := s'.engines }

theorem State.goesOn {c : State} {e t : Nat} (hi : (c.thread e t).Idle) (hl : (c.thread e t).loads = []) (l : Option Load)
    (pc : Word) : c.GoesOn e t l.toList pc (((c.advance e t l pc).leaveIter e t).boundary e t) := by
  obtain ⟨hx, -, hf⟩ := State.onlyThread_advance hl l pc
  generalize c.advance e t l pc = a at *
  obtain ⟨⟨w, hw⟩, -, hf'⟩ := a.leaveIter_engines e t
  have hthr : (a.leaveIter e t).thread e t = a.thread e t := by rw [hf']; rfl
  generalize a.leaveIter e t = q at *
  obtain ⟨hy, -, hf''⟩ := State.boundary_idle (s := q) (e := e) (t := t)
    (by rw [hthr, hx]; exact ⟨hi.queue, hi.haltReq, hi.stepping⟩)
  generalize q.boundary e t = F at *
  have hF : F.engine e = q.engine e := by rw [hf'']; rfl
  have ha : a.engine e = c.engine e := by rw [hf]; rfl
  exact ⟨by rw [hy, hthr, hx], ⟨w, by rw [hF, hw, ha]⟩, by rw [hf'', hf', hf]⟩

/-- An issue that stands alone is counted by ENG_ISSUECNT, and its thread is the second of no pair. -/
theorem State.countAlone_counts (s : State) (e t : Nat) :
    (s.countAlone e t).thread e t = { s.thread e t with pair := none, midPair := false } ∧
    (s.countAlone e t).rd (.engIssuecnt e) = s.rd (.engIssuecnt e) + 1 ∧ s.RegsBut [.engIssuecnt e] (s.countAlone e t) ∧
    s.countAlone e t = { s with threads := (s.countAlone e t).threads, regs := (s.countAlone e t).regs } := by
  obtain ⟨-, hrd⟩ := State.onlyRegs_setFld (l := [.engIssuecnt e]) (r := .engIssuecnt e)
    (s.modThread e t fun x => { x with pair := none, midPair := false }) (by simp) F.engIssuecnt.issue
    (s.fld (.engIssuecnt e) F.engIssuecnt.issue + 1)
  exact ⟨s.thread_modThread_self e t fun x => { x with pair := none, midPair := false }, State.rd_incWrap_whole _ _ _, hrd, rfl⟩

/-! ### One repetition -/

section
variable {s : State} {e t a b : Nat} {o : Alu} {r : Rep}

/-- The sequence behind a repetition: the count has fallen, and ends it at 0 (R90). -/
def Rep.next (r : Rep) : Option Rep := if r.count ≤ 1 then none else some { r with count := r.count - 1, started := true }

/-- The effect of such a repetition (R87, R90). -/
theorem State.repMany_alu (ho : o ≠ .mov) (pc : Word) : (s.useSlot e t).repMany e t (.alu o a b) r pc =
    .next (((s.useSlot e t).setThread e t ((s.thread e t).afterAlu o a b)).countRep e t r) none
      (if r.count ≤ 1 then none else some pc) := by
  rw [State.repMany, State.runOp_alu_useSlot ho]
  rfl

/-- Behind it the thread has its result, and one repetition less to come. -/
theorem State.onlyThread_repMany (s : State) (e t a b : Nat) (o : Alu) (r : Rep) :
    (s.useSlot e t).OnlyThread e t { (s.thread e t).afterAlu o a b with rep := r.next }
      (((s.useSlot e t).setThread e t ((s.thread e t).afterAlu o a b)).countRep e t r) := by
  have hx := (State.onlyThread_setThread (s.useSlot e t) e t ((s.thread e t).afterAlu o a b)).trans
    (State.onlyThread_modThread _ e t fun x => { x with rep := r.next })
  rwa [State.thread_setThread_self] at hx

/-- A register operation is fetched by its first word alone. -/
theorem State.fetchInstr_alu (s : State) (h : (s.thread e t).midPair = false) (pc : Word) :
    s.fetchInstr e t (.alu o a b) pc ((s.wordsOf e t (.alu o a b) pc).drop 1) = (.ok, s) := by
  simp [State.wordsOf, h, Op.len, State.fetchInstr, State.fetchWords]

/-- The slot of a repetition whose target is a register operation, and meets nothing on its way. -/
theorem State.issueRep_alu (hd : (s.thread e t).drain = none) (hm : (s.thread e t).midPair = false)
    (hf : (s.useSlot e t).fetchWords e t [(s.thread e t).pc] = (.ok, s.useSlot e t))
    (hop : s.codeOp e t (s.thread e t).pc = .alu o a b) (hh : (s.thread e t).hazard (.alu o a b) = false)
    (hp : (s.thread e t).parityError (.alu o a b) = false) (hb : (s.thread e t).bites (.alu o a b) = false) (ho : o ≠ .mov) :
    let v := ((s.useSlot e t).setThread e t ((s.thread e t).afterAlu o a b)).countRep e t r
    let pc := (s.thread e t).pc
    s.issueRep e t r =
      (((v.countAlone e t).advance e t none ((if r.count ≤ 1 then none else some pc).getD (pc + 1))).leaveIter e t).boundary e t := by
  intro v pc
  rw [← s.codeOp_useSlot, State.codeOp] at hop
  have hfirst := decode14_alu (Op.eq_alu_of_normal hop)
  have honce : Op.once (.alu o a b) = false := rfl
  unfold State.issueRep
  simp only [State.thread_useSlot, hd, hf, hfirst, State.fetchInstr_alu (s.useSlot e t) (by rwa [s.thread_useSlot]), hop, honce,
    State.repMany_alu ho, State.attempt, hh, hp, hb]
  rfl

theorem exec_repeatIteration (hs : s.Live) (hi : s.canIssue e t = true) (hr : (s.thread e t).rep = some r)
    (hcust : (s.thread e t).cust = none) : exec (.repeatIteration e t) s = .next (s.issueRep e t r) := by
  have hx : execRepeatIteration e t s = s.run (s.canIssue e t && (s.thread e t).cust.isNone) fun s => s.issueRep e t r := by
    simp only [execRepeatIteration, hr]
  exact hx.trans (State.run_next _ hs.1 hs.2 (by simp [hi, hcust]))

/-- What is left behind an issue that stands alone, counts as one, and whose effect was on the thread alone. -/
theorem State.alone_leaves {v : State} {y : Thread} (hv : (s.useSlot e t).OnlyThread e t y v) (hi : y.Idle) (hl : y.loads = [])
    (pc : Word) : let s' := (((v.countAlone e t).advance e t none pc).leaveIter e t).boundary e t
    s'.thread e t = { y with loads := [], pc := pc, bpSkip := false, pair := none, midPair := false } ∧
    s'.rd (.engIssuecnt e) = s.rd (.engIssuecnt e) + 1 ∧ s.RegsBut [.engIssuecnt e] s' ∧ s.SlotUsed e t s' ∧
    s' = { s with threads := s'.threads, regs := s'.regs, engines := s'.engines } := by
  obtain ⟨hx, -, hf⟩ := hv
  obtain ⟨hthr, hcount, hregs, hfc⟩ := v.countAlone_counts e t
  rw [hx] at hthr
  obtain ⟨hthr', ⟨w, heng⟩, hfr⟩ := State.goesOn (c := v.countAlone e t) (e := e) (t := t)
    (by rw [hthr]; exact ⟨hi.queue, hi.haltReq, hi.stepping⟩) (by rw [hthr]; exact hl) none pc
  rw [hthr] at hthr'
  dsimp only
  generalize (((v.countAlone e t).advance e t none pc).leaveIter e t).boundary e t = s' at *
  generalize v.countAlone e t = c at *
  have hv : ∀ r, v.rd r = s.rd r := fun r => (State.rd_congr (by rw [hf]) r).trans (s.rd_useSlot e t r)
  have hrd : ∀ r, s'.rd r = c.rd r := State.rd_congr (by rw [hfr])
  have hc : c.engine e = (s.useSlot e t).engine e := by rw [hfc, hf]; rfl
  refine ⟨hthr', by rw [hrd, hcount, hv], fun r hr => by rw [hrd, hregs r hr, hv], ?_, ?_⟩
  · rw [hc] at heng
    simpa [State.SlotUsed, heng] using s.slotUsed_useSlot e t
  · rw [hfr, hfc, hf, s.useSlot_frame]

end

/-- Settles O17: REP and REPI begin or skip their sequence, and a repetition does the operation and counts. -/
theorem repetitionsRun : Obligations.RepetitionsRun := by
  unfold Obligations.RepetitionsRun
  refine ⟨fun s e t k c hc h => ?_, fun s e t a b o r => ?_⟩
  · have hi : exec c.1 s = s.issue e t (.rep c.2 k) := by
      simp only [List.mem_cons, List.not_mem_nil, or_false] at hc
      rcases hc with rfl | rfl <;> rfl
    cases k with
    | imm n => exact ⟨answers_rep_begins hi h, answers_rep_skips hi h⟩
    | reg j => exact ⟨answers_rep_begins hi h, answers_rep_skips hi h⟩
  · intro x hs hi hr hpos hcust hd hl hq hhalt hstep hm ho hf hop _ hh hp hb
    have hidle : x.Idle := ⟨hq, hhalt, hstep⟩
    have hone : r.count ≤ 1 ↔ r.count = 1 := by omega
    have hia := hidle.afterAlu o a b
    have hafter := State.alone_leaves (s.onlyThread_repMany e t a b o r) ⟨hia.queue, hia.haltReq, hia.stepping⟩
      (Thread.loads_afterAlu hl o a b) ((if r.count ≤ 1 then none else some x.pc).getD (x.pc + 1))
    refine ⟨_, (exec_repeatIteration hs hi hr hcust).trans (congrArg _ (State.issueRep_alu hd hm hf hop hh hp hb ho)), ?_⟩
    obtain ⟨hthr, hrest⟩ := hafter
    refine ⟨by rw [hthr]; rfl, ?_, ?_, hrest⟩
    · rw [hthr]
      simp only [Rep.next, hone]
    · rw [hthr]
      simp only [hone]
      split <;> rfl

end Sys2Proof.Machine
end

section
/-! PROOFS. The words of the short-immediate group and of the branch groups (O55, O56; spec/04 R99, R101, R103 to R105). -/

namespace Sys2Proof.Machine

open Sys2Proof

/-! ### Fields -/

/-- The lowest field of a word. -/
theorem bitsOf_low (w n : Nat) : bitsOf w 0 n = w % 2 ^ n := by
  rw [bitsOf, Nat.pow_zero, Nat.div_one]

/-- A field that is read whole has its two's complement value. -/
theorem sext_of_lt {n x : Nat} (h : x < 2 ^ n) : sext n x = if x < 2 ^ (n - 1) then (x : Int) else (x : Int) - 2 ^ n := by
  rw [sext, Nat.mod_eq_of_lt h]

section
variable {w v : Nat}

/-! ### Group 01 (R101) -/

theorem decode14_short (h : w / 4096 = 1) : decode14 w v = decodeShort w := by
  have hw : w ≠ 0 := by omega
  have hg : bitsOf w 12 2 = 1 := by simp only [bitsOf]; omega
  rw [decode14, if_neg hw]
  simp only [hg]

theorem decodeShort_movi (h : w / 1024 % 4 = 0) : decodeShort w = .movi (w % 16) (sext 6 (w / 16 % 64)) := by
  have hg : bitsOf w 10 2 = 0 := h
  simp only [decodeShort, hg, bitsOf_low]
  rfl

theorem decodeShort_addi (h : w / 1024 % 4 = 1) : decodeShort w = .addi (w % 16) (sext 6 (w / 16 % 64)) := by
  have hg : bitsOf w 10 2 = 1 := h
  simp only [decodeShort, hg, bitsOf_low]
  rfl

theorem decodeShort_shift (h : w / 1024 % 4 = 2) :
    decodeShort w = .shift (shiftOf (w / 256 % 4)) (w % 16) (w / 16 % 16) := by
  have hg : bitsOf w 10 2 = 2 := h
  simp only [decodeShort, hg, bitsOf_low]
  rfl

theorem decodeShort_cmpi (h : w / 1024 % 4 = 3) : decodeShort w = .cmpi (cmpiOf (w / 256 % 4)) (w % 16)
    (if cmpiOf (w / 256 % 4) = .sltu then ((w / 16 % 16 : Nat) : Int) else sext 4 (w / 16 % 16)) := by
  have hg : bitsOf w 10 2 = 3 := h
  simp only [decodeShort, hg, bitsOf_low]
  rfl

/-! ### Group 11 (R99, R103, R105) -/

/-- A word of group 11 is read by its next four bits. -/
theorem decode14_group11 (h : w / 4096 = 3) : decode14 w v =
    if w / 256 % 16 < 4 then .branch (condOf (w / 256 % 16)) (w / 16 % 16) (w % 16) (sext 14 v)
    else if w / 256 % 16 < 8 then .bz (w / 256 % 16 ≥ 6) (w % 16) (sext 5 (w / 16 % 32))
    else if w / 256 % 16 < 12 then .branchI (condIOf (w / 256 % 16 - 8)) (w / 16 % 16) (sext 4 (w % 16)) (sext 14 v)
    else if w / 256 % 16 < 14 then
      .branchI (if w / 256 % 16 = 12 then .ltu else .geu) (w / 16 % 16) ((w % 16 : Nat) : Int) (sext 14 v)
    else if w / 256 % 16 = 14 then decodeEq (w / 16 % 16) (w % 16) (sext 14 v)
    else decodeSys (w % 256) v := by
  have hw : w ≠ 0 := by omega
  have hg : bitsOf w 12 2 = 3 := by simp only [bitsOf]; omega
  rw [decode14, if_neg hw]
  simp only [hg, bitsOf_low]
  rfl

theorem decode14_branch (h : w / 1024 = 12) :
    decode14 w v = .branch (condOf (w / 256 % 4)) (w / 16 % 16) (w % 16) (sext 14 v) := by
  have hg : w / 256 % 16 = w / 256 % 4 := by omega
  rw [decode14_group11 (by omega), hg, if_pos (by omega)]

theorem decode14_bz (h : w / 1024 = 13) :
    decode14 w v = .bz (decide (w / 512 % 2 = 1)) (w % 16) (sext 5 (w / 16 % 32)) := by
  have hb : w / 256 % 16 ≥ 6 ↔ w / 512 % 2 = 1 := by omega
  rw [decode14_group11 (by omega), if_neg (by omega), if_pos (by omega), decide_eq_decide.2 hb]

theorem decode14_branchI (h : w / 1024 = 14) :
    decode14 w v = .branchI (condIOf (w / 256 % 4)) (w / 16 % 16) (sext 4 (w % 16)) (sext 14 v) := by
  have hc : w / 256 % 16 - 8 = w / 256 % 4 := by omega
  rw [decode14_group11 (by omega), if_neg (by omega), if_neg (by omega), if_pos (by omega), hc]

theorem decode14_branchI_unsigned (h : w / 512 = 30) :
    decode14 w v = .branchI (if w / 256 % 2 = 0 then .ltu else .geu) (w / 16 % 16) ((w % 16 : Nat) : Int) (sext 14 v) := by
  have hu : w / 256 % 16 = 12 ↔ w / 256 % 2 = 0 := by omega
  rw [decode14_group11 (by omega), if_neg (by omega), if_neg (by omega), if_neg (by omega), if_pos (by omega)]
  simp only [hu]

theorem decode14_equality (h : w / 256 = 62) : decode14 w v = decodeEq (w / 16 % 16) (w % 16) (sext 14 v) := by
  rw [decode14_group11 (by omega), if_neg (by omega), if_neg (by omega), if_neg (by omega), if_neg (by omega), if_pos (by omega)]

end

/-- Settles O55: each group's decoder, row by row, with the fields read as the tables read them. -/
theorem shortGroupsDecode : Obligations.ShortGroupsDecode := by
  unfold Obligations.ShortGroupsDecode
  refine ⟨fun w v _ => ?_, by decide⟩
  have hrow : w / 16 % 64 / 16 = w / 256 % 4 := by omega
  have hlow : w / 16 % 64 % 16 = w / 16 % 16 := by omega
  have hoff : w / 16 % 64 % 32 = w / 16 % 32 := by omega
  have h6 := sext_of_lt (n := 6) (x := w / 16 % 64) (by omega)
  have h4 := sext_of_lt (n := 4) (x := w / 16 % 16) (by omega)
  have h5 := sext_of_lt (n := 5) (x := w / 16 % 32) (by omega)
  dsimp only
  rw [hrow, hlow, hoff]
  refine ⟨fun h => ?_, fun h => ?_⟩
  · rw [decode14_short h]
    refine ⟨fun hg => ?_, fun hg => ?_, fun hg => ?_, fun hg => ?_⟩
    · rw [decodeShort_movi hg, h6]
      rfl
    · rw [decodeShort_addi hg, h6]
      rfl
    · rw [decodeShort_shift hg]
      refine ⟨fun hr => ?_, fun hr => ?_, fun hr => ?_, fun hr => ?_⟩ <;> rw [hr] <;> rfl
    · rw [decodeShort_cmpi hg, h4]
      refine ⟨fun hr => ?_, fun hr => ?_, fun hr => ?_, fun hr => ?_⟩ <;> rw [hr] <;> rfl
  · rw [decode14_bz h, h5]
    refine ⟨fun hz => ?_, fun hz => ?_⟩ <;> rw [hz] <;> rfl

section
variable {a b : Nat} {off : Int}

/-- The words of BEQ, the lower register first (R104). -/
theorem encode14_beq : (encode14 (.branch .eq a b off)).1 = 0x3E00 + 16 * min a b + max a b := by
  simp only [encode14, Nat.add_assoc]

/-- BNE of two registers, the higher one first (R104). -/
theorem encode14_bne (h : a ≠ b) : (encode14 (.branch .ne a b off)).1 = 0x3E00 + 16 * max a b + min a b := by
  simp only [encode14, if_neg h, Nat.add_assoc]

/-- BNE of one register with itself is written as BLT of it (R104). -/
theorem encode14_bne_self : encode14 (.branch .ne a a off) = encode14 (.branch .lt a a off) := by
  simp only [encode14, if_pos]

theorem encode14_blt_group (ha : a < 16) (hb : b < 16) : (encode14 (.branch .lt a b off)).1 / 1024 = 12 := by
  simp only [encode14]
  omega

variable {s : State} {e t : Nat}

/-- No register differs from itself. -/
theorem answers_bne_self (h : s.Clear e t (.branch .ne a a off)) :
    Answers (.bne e t a a off) s (s.Retires e t id (s.after e t (.branch .ne a a off))) :=
  (answers_branch rfl h fun _ _ => bne_iff_ne).2 (not_not_intro rfl)

/-- No register is less than itself. -/
theorem answers_blt_self (h : s.Clear e t (.branch .lt a a off)) :
    Answers (.blt e t a a off) s (s.Retires e t id (s.after e t (.branch .lt a a off))) :=
  (answers_branch rfl h condHolds_lt).2 (Int.lt_irrefl _)

end

/-- Settles O56: each group's decoder by the codes of its conditions, the encoder's rows, and the branches never taken. -/
theorem branchGroupsDecode : Obligations.BranchGroupsDecode := by
  unfold Obligations.BranchGroupsDecode
  refine ⟨fun w v _ hv => ?_, fun a b off ha hb => ⟨encode14_beq, encode14_bne, encode14_bne_self, encode14_blt_group ha ha⟩,
    encode14_beq, fun s e t a off => ⟨answers_bne_self, answers_blt_self⟩⟩
  have h14 := sext_of_lt hv
  have h4 := sext_of_lt (n := 4) (x := w % 16) (by omega)
  refine ⟨fun h => ?_, fun h => ?_, fun h => ?_, fun h => ?_⟩
  · rw [decode14_branch h, h14]
    refine ⟨fun hc => ?_, fun hc => ?_, fun hc => ?_, fun hc => ?_⟩ <;> rw [hc] <;> rfl
  · rw [decode14_branchI h, h14, h4]
    refine ⟨fun hc => ?_, fun hc => ?_, fun hc => ?_, fun hc => ?_⟩ <;> rw [hc] <;> rfl
  · have hu : w / 256 % 4 % 2 = w / 256 % 2 := by omega
    rw [decode14_branchI_unsigned h, h14, hu]
    refine ⟨fun hc => ?_, fun hc => ?_⟩ <;> rw [hc] <;> rfl
  · rw [decode14_equality h, decodeEq, h14]
    exact ⟨fun hab => if_pos hab, fun hab => if_neg (Nat.not_le.2 hab)⟩

end Sys2Proof.Machine
end

section
/-! PROOFS. Custom instructions whose micro-ops are register operations (O24; spec/04 R113, R115, R116, R118). -/

namespace Sys2Proof.Machine

open Sys2Proof

/-! ### Where the custom instruction stands -/

/-- Nothing is left of an entry that is erased behind its insertion. -/
theorem SMap.erase_insert {V : Type} (m : SMap V) (k : Nat) (v : V) : SMap.erase (m.insert k v) k = m.erase k := by
  induction m with
  | nil => simp [SMap.insert, SMap.erase]
  | cons c m ih =>
    unfold SMap.insert
    split
    · simp [SMap.erase]
    · simp only [SMap.erase, ih]

/-- Of two writes to a key the second stands. -/
theorem SMap.put_put {V : Type} [DecidableEq V] (m : SMap V) (k : Nat) (v w d : V) : (m.put k v d).put k w d = m.put k w d := by
  have he : (m.put k v d).erase k = m.erase k := by
    have hm : (m.erase k).erase k = m.erase k := by simp [SMap.erase_eq_filter]
    unfold SMap.put
    split
    · exact hm
    · rw [SMap.erase_insert, hm]
  rw [SMap.put, he, SMap.put]

theorem State.modThread_modThread (s : State) (e t : Nat) (f g : Thread → Thread) :
    (s.modThread e t f).modThread e t g = s.modThread e t fun x => g (f x) := by
  rw [State.modThread, s.thread_modThread_self, State.modThread, State.setThread, State.setThread, SMap.put_put]
  rfl

/-- The place behind micro-op `k`: at the next one, or none at the entry's end (R118). -/
def State.placeBehind (s : State) (e : Nat) (c : Cust) : Option Cust :=
  if c.k + 1 < s.custLen e c.n then some { c with k := c.k + 1 } else none

/-- A count of issues leaves the lengths of the entries. -/
theorem State.custLen_countAlone (s : State) (e t n : Nat) : (s.countAlone e t).custLen e n = s.custLen e n := by
  obtain ⟨-, -, hrd, -⟩ := s.countAlone_counts e t
  refine State.fld_of_rd (hrd _ ?_) _
  simp only [List.mem_singleton, forall_eq, Reg.key]
  omega

theorem State.modThread_comm (s : State) (e t : Nat) {f g : Thread → Thread} (h : ∀ x, g (f x) = f (g x)) :
    (s.modThread e t f).modThread e t g = (s.modThread e t g).modThread e t f := by
  simp only [State.modThread_modThread, h]

/-- The place in the entry and the count of the issue do not meet. -/
theorem State.custNext_countAlone (s : State) (e t : Nat) (c : Cust) :
    (s.countAlone e t).custNext e t c = (s.custNext e t c).countAlone e t := by
  rw [State.custNext, s.custLen_countAlone]
  have hx := s.modThread_comm e t (f := fun x => { x with pair := none, midPair := false })
    (g := fun x => { x with cust := s.placeBehind e c }) fun _ => rfl
  exact congrArg (fun u => State.incWrap u (.engIssuecnt e) F.engIssuecnt.issue) hx

theorem State.onlyThread_custNext (s : State) (e t : Nat) (y : Thread) (c : Cust) :
    (s.useSlot e t).OnlyThread e t { y with cust := s.placeBehind e c } (((s.useSlot e t).setThread e t y).custNext e t c) := by
  have hlen : ((s.useSlot e t).setThread e t y).custLen e c.n = s.custLen e c.n := s.fld_useSlot e t _ _
  have hx := ((s.useSlot e t).onlyThread_setThread e t y).trans
    (State.onlyThread_modThread _ e t fun x => { x with cust := s.placeBehind e c })
  rw [State.thread_setThread_self] at hx
  rwa [State.custNext, hlen]

/-! ### The slot of a micro-op -/

/-- What a micro-op's slot leaves whose effect makes its thread `y`: the issue is counted, and the thread stays at the first
word of the custom instruction, or goes on behind both at its end. -/
def State.afterMicro (s : State) (e t : Nat) (y : Thread) (c : Cust) : State :=
  let v := ((s.useSlot e t).setThread e t y).custNext e t c
  let pc := (s.thread e t).pc
  (((v.countAlone e t).advance e t none (if (s.placeBehind e c).isSome then pc else pc + 2)).leaveIter e t).boundary e t

theorem State.thread_custNext_countAlone (s : State) (e t : Nat) (y : Thread) (c : Cust) :
    (((((s.useSlot e t).setThread e t y).custNext e t c).countAlone e t).thread e t) =
      { y with cust := s.placeBehind e c, pair := none, midPair := false } := by
  obtain ⟨hx, -, -⟩ := s.onlyThread_custNext e t y c
  rw [(State.countAlone_counts _ e t).1, hx]

section
variable {s : State} {e t p q : Nat} {o : Alu} {c : Cust} (hm : s.micro e c = .op (.alu o p q)) (ho : o ≠ .mov)
  (hh : (s.thread e t).hazard (.alu o p q) = false) (hp : (s.thread e t).parityError (.alu o p q) = false)
  (hb : (s.thread e t).bites (.alu o p q) = false)
include hm ho hh hp hb

/-- A micro-op behaves as the register operation it names (R116). -/
theorem State.attempt_micro_alu (pc : Word) : let u := s.useSlot e t
    u.attempt e t (u.micro e c).asOp (u.performMicro e t (u.micro e c) pc) =
      .done (u.setThread e t ((s.thread e t).afterAlu o p q)) none none := by
  have hm' : (s.useSlot e t).micro e c = .op (.alu o p q) := by rw [State.micro, s.rd_useSlot, ← hm, State.micro]
  simp only [hm', State.performMicro, State.runOp_alu_useSlot ho, Micro.asOp, State.attempt, State.thread_useSlot, hh, hp, hb]
  rfl

/-- The first micro-op's slot. -/
theorem State.issueCust_alu (hd : (s.thread e t).drain = none)
    (hf : (s.useSlot e t).fetchInstr e t (.reserved 2) (s.thread e t).pc (s.wordsOf e t (.reserved 2) (s.thread e t).pc) =
      (.ok, s.useSlot e t)) : s.issueCust e t c = s.afterMicro e t ((s.thread e t).afterAlu o p q) c := by
  have hw : (s.useSlot e t).wordsOf e t (.reserved 2) (s.thread e t).pc = s.wordsOf e t (.reserved 2) (s.thread e t).pc := by
    simp only [State.wordsOf, State.thread_useSlot]
  unfold State.issueCust
  simp only [State.thread_useSlot, hd, hw, hf, State.attempt_micro_alu hm ho hh hp hb, State.custNext_countAlone,
    State.thread_custNext_countAlone]
  rfl

/-- The slot of a following one. -/
theorem State.issueMicro_alu (hr : (s.thread e t).rep = none) :
    s.issueMicro e t c = s.afterMicro e t ((s.thread e t).afterAlu o p q) c := by
  have hrep : ((s.thread e t).afterAlu o p q).rep = none := hr
  unfold State.issueMicro
  simp only [State.thread_useSlot, State.attempt_micro_alu hm ho hh hp hb, State.custNext_countAlone,
    State.thread_custNext_countAlone, hrep]
  cases hc : s.placeBehind e c <;> simp [State.afterMicro, hc]

end

section
variable {s : State} {e t : Nat} {c : Cust}

theorem exec_cust {n a b k : Nat} (hs : s.Live) (hi : s.canIssue e t = true) (hw : (Op.cust n a b k).wf = true)
    (hr : (s.thread e t).rep = none) (hc : (s.thread e t).cust = none) (hl : 0 < s.custLen e n) :
    exec (.cust e t n a b k) s = .next (s.issueCust e t ⟨n, a, b, k, 0⟩) := by
  have hx : exec (.cust e t n a b k) s =
      .next (if s.custLen e n = 0 then s.issueOp e t (.reserved 2) else s.issueCust e t ⟨n, a, b, k, 0⟩) :=
    State.run_next (g := s.canIssue e t && (Op.cust n a b k).wf && (s.thread e t).rep.isNone && (s.thread e t).cust.isNone)
      (fun s => if s.custLen e n = 0 then s.issueOp e t (.reserved 2) else s.issueCust e t ⟨n, a, b, k, 0⟩)
      hs.1 hs.2 (by simp [hi, hw, hr, hc])
  rw [hx, if_neg (Nat.ne_of_gt hl)]

theorem exec_customMicroOp (hs : s.Live) (hi : s.canIssue e t = true) (hc : (s.thread e t).cust = some c) :
    exec (.customMicroOp e t) s = .next (s.issueMicro e t c) := by
  have hx : execCustomMicroOp e t s = s.run (s.canIssue e t) fun s => s.issueMicro e t c := by
    simp only [execCustomMicroOp, hc]
  exact hx.trans (State.run_next _ hs.1 hs.2 hi)

end

/-- Settles O24: the slots of the first micro-op and of a following one leave the same. -/
theorem customInstructions : Obligations.CustomInstructions := by
  unfold Obligations.CustomInstructions
  intro s e t n a b c k p q x op hs hi hr hd hl hq hhalt hstep hk hm hh hp hb after
  have hidle : x.Idle := ⟨hq, hhalt, hstep⟩
  have hregs : (x.afterAlu .add p q).regs = (x.setReg p (x.regs.get p + x.regs.get q) false).regs := by
    rw [Thread.afterAlu, aluResult_add, Thread.stick_zero]
  have hafter : after (s.afterMicro e t (x.afterAlu .add p q) ⟨n, a, b, c, k⟩) := by
    have hia := hidle.afterAlu .add p q
    obtain ⟨hthr, hrest⟩ := State.alone_leaves (s.onlyThread_custNext e t (x.afterAlu .add p q) ⟨n, a, b, c, k⟩)
      ⟨hia.queue, hia.haltReq, hia.stepping⟩ (Thread.loads_afterAlu hl .add p q)
      (if (s.placeBehind e ⟨n, a, b, c, k⟩).isSome then x.pc else x.pc + 2)
    refine ⟨?_, ?_, ?_, hrest⟩
    · exact (congrArg Thread.regs hthr).trans hregs
    · exact congrArg Thread.cust hthr
    · refine (congrArg Thread.pc hthr).trans ?_
      simp only [State.placeBehind]
      split <;> rfl
  refine ⟨fun hk0 hc hw hf => ?_, fun hc => ?_⟩
  · subst hk0
    exact ⟨_, (exec_cust hs hi hw hr hc hk).trans (congrArg _ (State.issueCust_alu hm nofun hh hp hb hd hf)), hafter⟩
  · exact ⟨_, (exec_customMicroOp hs hi hc).trans (congrArg _ (State.issueMicro_alu hm nofun hh hp hb hr)), hafter⟩

end Sys2Proof.Machine
end

section
/-! PROOFS. What the statements about shore time and the lanes share: alarms that are queued, the units' maps beside the one
written, pins that follow to an instant, and whole writes of the tick-clocked registers (spec/01 R7; spec/19 R496). -/

namespace Sys2Proof.Machine

open Sys2Proof

/-! ### Alarms -/

theorem joinAlarm_raised (l : List Alarm) (code : Nat) (d : BitVec 32) (t : Time) :
    ∃ a ∈ joinAlarm l code d t, a.code = code := by
  unfold joinAlarm
  split
  · rename_i h
    obtain ⟨a, ha, hc⟩ := List.any_eq_true.1 h
    rw [beq_iff_eq] at hc
    exact ⟨_, List.mem_map_of_mem ha, by simp [hc]⟩
  · exact ⟨_, List.mem_append_right _ (List.mem_singleton_self _), rfl⟩

theorem joinAlarm_keeps {l : List Alarm} {c : Nat} (h : ∃ a ∈ l, a.code = c) (code : Nat) (d : BitVec 32) (t : Time) :
    ∃ a ∈ joinAlarm l code d t, a.code = c := by
  obtain ⟨a, ha, hc⟩ := h
  unfold joinAlarm
  split
  · refine ⟨_, List.mem_map_of_mem ha, ?_⟩
    split <;> exact hc
  · exact ⟨a, List.mem_append_left _ ha, hc⟩

theorem State.alarms_of_dropTraces (s : State) (n : Nat) : (s.dropTraces n).outlet.alarms = s.outlet.alarms := by
  unfold State.dropTraces
  split
  · rfl
  · rfl

/-- The storm test keeps what is queued. -/
theorem State.Alarmed.stormTest {s : State} {c : Nat} (h : s.Alarmed c) : s.stormTest.Alarmed c := by
  unfold State.stormTest
  dsimp only
  split
  · rw [State.Alarmed, State.alarms_of_dropTraces]
    exact joinAlarm_keeps h _ _ _
  · exact h

/-- The alarm just raised is queued. -/
theorem State.alarmed_alarm (s : State) (code : Nat) (d : BitVec 32) : (s.alarm code d).Alarmed code :=
  State.Alarmed.stormTest (joinAlarm_raised _ _ _ _)

/-! ### Units -/

theorem State.core_setCore_ne (s : State) {c c' : Nat} (x : Core) (h : c' ≠ c) : (s.setCore c x).core c' = s.core c' :=
  SMap.get_put_ne x _ _ h

@[simp] theorem State.lane_modLane_self (s : State) (p : Nat) (f : Lane → Lane) : (s.modLane p f).lane p = f (s.lane p) :=
  s.lane_setLane_self p _

theorem State.lane_modLane_ne (s : State) {p q : Nat} (f : Lane → Lane) (h : q ≠ p) : (s.modLane p f).lane q = s.lane q :=
  s.lane_setLane_ne _ h

@[simp] theorem State.lane_wr (s : State) (r : Reg) (v : BitVec 32) (p : Nat) : (s.wr r v).lane p = s.lane p := rfl

@[simp] theorem State.lane_setFld (s : State) (r : Reg) (f : Fld) (v p : Nat) : (s.setFld r f v).lane p = s.lane p := rfl

@[simp] theorem State.lane_incSat (s : State) (r : Reg) (f : Fld) (p : Nat) : (s.incSat r f).lane p = s.lane p := rfl

/-- Of two writes of a lane the second stays. -/
theorem State.setLane_setLane (s : State) (p : Nat) (x y : Lane) : (s.setLane p x).setLane p y = s.setLane p y := by
  simp only [State.setLane, SMap.put_put]

/-- Changes of one lane in turn are one change. -/
theorem State.modLane_modLane (s : State) (p : Nat) (f g : Lane → Lane) :
    (s.modLane p f).modLane p g = s.setLane p (g (f (s.lane p))) := by
  rw [State.modLane, s.lane_modLane_self, State.modLane, s.setLane_setLane]

/-- A lane is read from the lanes alone. -/
theorem State.lane_congr {s t : State} (h : t.lanes = s.lanes) (p : Nat) : t.lane p = s.lane p := by
  simp only [State.lane, h]

/-! ### Pins that follow to an instant -/

theorem State.OnlyPins.refl (s : State) : s.OnlyPins s := ⟨rfl, fun _ => rfl⟩

theorem State.OnlyPins.lane {s t : State} (h : s.OnlyPins t) (p : Nat) : (s.lane p).Follows (t.lane p) := h.2 p

theorem State.OnlyPins.trans {s t u : State} (h : s.OnlyPins t) (h' : t.OnlyPins u) : s.OnlyPins u := by
  refine ⟨?_, fun p => (h.lane p).trans (h'.lane p)⟩
  obtain ⟨ht, -⟩ := h
  obtain ⟨hu, -⟩ := h'
  rw [hu, ht]

theorem State.onlyPins_setStep (s : State) (n : Nat) : s.OnlyPins (s.setShore { s.shore with step := n }) := ⟨rfl, fun _ => rfl⟩

theorem State.onlyPins_follow (n : Nat) (s : State) : s.OnlyPins (s.follow n) := by
  induction n generalizing s with
  | zero => exact .refl s
  | succ n ih => exact ((s.onlyPins_setStep _).trans (State.follows_settleAt _ _).onlyPins).trans (ih _)

theorem State.onlyPins_settleTo (s : State) (t : Nat) : s.OnlyPins (s.settleTo t) := s.onlyPins_follow _

/-- Pins settle behind a change of registers: the rest is as without it. -/
theorem State.onlyPins_settle_regs {v m : State} (h : v = { m with regs := v.regs }) :
    State.OnlyPins { m with regs := v.settle.regs } v.settle := by
  have hr : v.settle.regs = v.regs := by simp
  rw [hr, ← h]
  exact v.follows_settle.onlyPins

/-! ### Whole writes of tick-clocked registers -/

/-- A command that writes a tick-clocked register with its unit's rule takes the write, and what the rule makes of it. -/
theorem State.Takes.of_rule {s t : State} {c : Instr} {w : Who} {r : Reg} {d : BitVec 32} {P : State → Prop} {g : Bool}
    (hw : s.Writer w) (hc : exec c s = s.run g fun s => s.access ⟨w, r.key, d, whole⟩ r fun s => unitRule s ⟨w, r.key, d, whole⟩ r)
    (hg : g = true)
    (hp : ∀ y, s.performWrite ⟨w, r.key, d, whole⟩ y = s.perform ⟨w, r.key, d, whole⟩ r fun s => unitRule s ⟨w, r.key, d, whole⟩ r)
    (hr : unitRule s ⟨w, r.key, d, whole⟩ r = (t, false)) (hP : P t) : s.Takes c w r d false P := by
  obtain ⟨hl, hsec, hhost⟩ := hw
  have hperf : s.performWrite ⟨w, r.key, d, whole⟩ false = t := by
    rw [hp, State.perform, hr, State.filtered_of_secure (x := ⟨w, r.key, d, whole⟩) hsec r]
    rfl
  have hb : (isHost w && !s.accepting && !bootWindow r.key) = false := by
    rcases hhost with h | h <;> simp [h]
  have hs : (⟨w, r.key, d, whole⟩ : Wr).strb ≠ 0 := (by decide : whole ≠ 0)
  refine ⟨?_, by rw [hperf]; exact hP⟩
  rw [hc, State.run_next _ hl.1 hl.2 hg, State.access, State.accept, if_neg hs, hb, hp]
  rfl

/-- An array's entry is found at its address. -/
theorem arrayAt_entry {base stride n i : Nat} (hs : 0 < stride) (hi : i < n) :
    arrayAt base stride n (base + stride * i) = some i := by
  have h : base + stride * i - base = stride * i := by omega
  rw [arrayAt, h, Nat.mul_mod_right, Nat.mul_div_cancel_left i hs, if_pos ⟨by omega, rfl, hi⟩]

/-- A register of another column of a window is no entry of the array. -/
theorem arrayAt_column {base stride n i k : Nat} (hk : 0 < k) (hks : k < stride) :
    arrayAt base stride n (base + k + stride * i) = none := by
  have h : base + k + stride * i - base = k + stride * i := by omega
  rw [arrayAt, h, Nat.add_mul_mod_self_left, Nat.mod_eq_of_lt hks, if_neg]
  omega

section
variable {q : Nat} (hq : q < 264)
include hq

theorem regAt_laneCtrl : regAt ((Reg.laneCtrl q).key / 4 * 4) = some (.laneCtrl q) := by
  have hk : (Reg.laneCtrl q).key / 4 * 4 = 0x720000 + 0x40 * q := by simp only [Reg.key]; omega
  have hd : (0x720000 + 0x40 * q) / 0x10000 = 0x72 := by omega
  rw [hk, regAt, hd]
  simp only [regLane, arrayAt_entry (by decide : 0 < 0x40) hq, Option.map_some, firstSome]

theorem regAt_laneM2 : regAt ((Reg.laneM2 q).key / 4 * 4) = some (.laneM2 q) := by
  have hk : (Reg.laneM2 q).key / 4 * 4 = 0x720018 + 0x40 * q := by simp only [Reg.key]; omega
  have hd : (0x720018 + 0x40 * q) / 0x10000 = 0x72 := by omega
  have hc : ∀ base k, 0 < k → k < 0x40 → base + k = 0x720018 → arrayAt base 0x40 264 (0x720018 + 0x40 * q) = none :=
    fun base k h0 h1 h => h ▸ arrayAt_column h0 h1
  rw [hk, regAt, hd]
  simp only [regLane, hc 0x720000 0x18 (by decide) (by decide) rfl, hc 0x720004 0x14 (by decide) (by decide) rfl,
    hc 0x720008 0x10 (by decide) (by decide) rfl, hc 0x72000c 0xc (by decide) (by decide) rfl,
    hc 0x720010 0x8 (by decide) (by decide) rfl, hc 0x720014 0x4 (by decide) (by decide) rfl,
    arrayAt_entry (by decide : 0 < 0x40) hq, Option.map_none, Option.map_some, firstSome]

theorem State.performWrite_laneCtrl (s : State) (w : Who) (d : BitVec 32) (y : Bool) :
    s.performWrite ⟨w, (Reg.laneCtrl q).key, d, whole⟩ y =
      s.perform ⟨w, (Reg.laneCtrl q).key, d, whole⟩ (.laneCtrl q) fun s => writeLaneCtrl s ⟨w, (Reg.laneCtrl q).key, d, whole⟩ q := by
  simp only [State.performWrite, regAt_laneCtrl hq]
  rfl

theorem State.performWrite_laneM2 (s : State) (w : Who) (d : BitVec 32) (y : Bool) :
    s.performWrite ⟨w, (Reg.laneM2 q).key, d, whole⟩ y =
      s.perform ⟨w, (Reg.laneM2 q).key, d, whole⟩ (.laneM2 q) fun s => writeLaneM s ⟨w, (Reg.laneM2 q).key, d, whole⟩ q 2 := by
  simp only [State.performWrite, regAt_laneM2 hq]
  rfl

end

end Sys2Proof.Machine
end

section
/-! PROOFS. Shore time (O31): the multiplier, the calibrator, the synchronisation, and the shore that runs again (spec/06 R147 to
R156, R174; spec/18 R482). -/

namespace Sys2Proof.Machine

open Sys2Proof

theorem State.RegsBut.trans {s t u : State} {l : List Reg} (h : s.RegsBut l t) (h' : t.RegsBut l u) : s.RegsBut l u :=
  fun r hr => (h' r hr).trans (h r hr)

theorem State.RegsBut.mono {s t : State} {l l' : List Reg} (h : s.RegsBut l t) (hl : l ⊆ l') : s.RegsBut l' t :=
  fun r hr => h r fun q hq => hr q (hl hq)

/-- What a field of a register other than the outlet's reads behind an alarm. -/
theorem State.fld_alarm (s : State) (code : Nat) (d : BitVec 32) {r : Reg} (h : ∀ q ∈ [Reg.outStat, .outCnt], r.key ≠ q.key) (f : Fld) :
    (s.alarm code d).fld r f = s.fld r f := State.fld_of_rd ((s.alarms_alarm code d).2 r h) f

/-! ### The multiplier -/

section
variable {s : State} (hs : s.Live)
include hs

theorem answers_holdoverEntry (hr : s.shoreRuns = true) (hk : s.fld .laneShstat F.laneShstat.lock = 1) :
    Answers .holdoverEntry s fun t =>
      t.fld .laneShstat F.laneShstat.holdover = 1 ∧ t.fld .laneShstat F.laneShstat.lock = 0 ∧
      t.fld .laneShstat F.laneShstat.locklost = 1 ∧ (∃ a ∈ t.outlet.alarms, a.code = 0x08) ∧
      s.RegsBut [.laneShstat, .outStat, .outCnt] t ∧ t = { s with regs := t.regs, outlet := t.outlet } := by
  let a := s.setFld .laneShstat F.laneShstat.holdover 1
  let b := a.setFld .laneShstat F.laneShstat.lock 0
  let c := b.setFld .laneShstat F.laneShstat.locklost 1
  have hc : s.OnlyRegs [.laneShstat] c :=
    ((s.onlyRegs_setFld (by simp) _ _).trans (a.onlyRegs_setFld (by simp) _ _)).trans (b.onlyRegs_setFld (by simp) _ _)
  obtain ⟨hf, hreg⟩ := c.alarms_alarm 0x08 0
  have hfld := fun f => c.fld_alarm 0x08 0 (r := .laneShstat) (by decide) f
  have hlock : s.bit .laneShstat F.laneShstat.lock = true := (s.bit_eq_true _ rfl).2 hk
  refine Answers.of_run (g := s.shoreRuns && s.bit .laneShstat F.laneShstat.lock) (f := fun _ => c.alarm 0x08 0) rfl hs
    (by rw [hr, hlock]; rfl) ⟨?_, ?_, ?_, c.alarmed_alarm _ _, ?_, ?_⟩
  · rw [hfld, b.fld_setFld_apart _ rfl rfl rfl, a.fld_setFld_apart _ rfl rfl rfl]
    exact s.fld_setFld_self _ rfl 1
  · rw [hfld, b.fld_setFld_apart _ rfl rfl rfl]
    exact a.fld_setFld_self _ rfl 0
  · rw [hfld]
    exact b.fld_setFld_self _ rfl 1
  · exact (State.RegsBut.mono hc.2 (by simp)).trans (State.RegsBut.mono hreg (by simp))
  · rw [hf, hc.1]

theorem answers_multiplierRelock (hh : s.fld .laneShstat F.laneShstat.holdover = 1) : Answers .multiplierRelock s fun t =>
      t.fld .laneShstat F.laneShstat.holdover = 0 ∧ t.fld .laneShstat F.laneShstat.lock = 1 ∧
      t.fld .laneShstat F.laneShstat.locklost = s.fld .laneShstat F.laneShstat.locklost ∧ s.OnlyRegs [.laneShstat] t := by
  let a := s.setFld .laneShstat F.laneShstat.holdover 0
  refine Answers.of_run (f := fun _ => a.setFld .laneShstat F.laneShstat.lock 1) rfl hs ((s.bit_eq_true _ rfl).2 hh)
    ⟨?_, a.fld_setFld_self _ rfl 1, ?_, (s.onlyRegs_setFld (by simp) _ _).trans (a.onlyRegs_setFld (by simp) _ _)⟩
  · rw [a.fld_setFld_apart _ rfl rfl rfl]
    exact s.fld_setFld_self _ rfl 0
  · rw [a.fld_setFld_apart _ rfl rfl rfl, s.fld_setFld_apart _ rfl rfl rfl]

end

/-! ### Calibration -/

theorem State.alarms_calibrate_failed (s : State) {core line taps : Nat} (h : ¬(36 ≤ taps ∧ taps ≤ 120)) :
    let x := s.core core
    let n := SMap.get x.fails line 0 + 1
    let v := s.setCore core { x with fails := SMap.put x.fails line n 0, spans := SMap.put x.spans line 0 0,
                                     calfail := x.calfail || decide (3 ≤ n) }
    s.calibrate core line taps =
      if n = 3 then (v.setFld .laneShstat F.laneShstat.calfailany 1).alarm 0x09 (BitVec.ofNat 32 core) else v := by
  dsimp only
  rw [State.calibrate, if_neg h]

theorem Core.inService_flip (x : Core) {line : Nat} (hl : line < 4) (h : x.inService line = false) :
    ({ x with second := x.second ^^^ BitVec.ofNat 2 (2 ^ (line / 2)) } : Core).inService line = true := by
  have hb : ∀ (v : BitVec 2) (l : Fin 4), (v.getLsbD (l.val / 2) == (l.val % 2 == 1)) = false →
      ((v ^^^ BitVec.ofNat 2 (2 ^ (l.val / 2))).getLsbD (l.val / 2) == (l.val % 2 == 1)) = true := by decide
  exact hb x.second ⟨line, hl⟩ h

section
variable {s : State} (hs : s.Live) {core line taps : Nat} (hcore : core < 264) (hline : line < 4)
include hs

theorem exec_delayLineCalibration_inService (h : (s.core core).inService line = true) :
    exec (.delayLineCalibration core line taps) s = .next s :=
  State.run_guarded (g := decide (core < 264 ∧ line < 4) && s.shoreRuns && !(s.core core).inService line)
    (fun s => s.calibrate core line taps) hs.1 (by simp [h])

include hcore hline

theorem exec_delayLineCalibration (hr : s.shoreRuns = true) (h : (s.core core).inService line = false) :
    exec (.delayLineCalibration core line taps) s = .next (s.calibrate core line taps) :=
  State.run_next (fun s => s.calibrate core line taps) hs.1 hs.2 (by simp [hcore, hline, hr, h])

theorem answers_delayLineCalibration_good (hr : s.shoreRuns = true) (h : (s.core core).inService line = false)
    (hlo : 36 ≤ taps) (hhi : taps ≤ 120) : Answers (.delayLineCalibration core line taps) s fun t =>
      SMap.get (t.core core).spans line 0 = taps ∧ SMap.get (t.core core).fails line 0 = 0 ∧
      (t.core core).done.getLsbD line = true ∧
      t.fld (.laneCal core) F.laneCal.calcnt = (s.fld (.laneCal core) F.laneCal.calcnt + 1) % 256 ∧
      (∀ c, c ≠ core → t.core c = s.core c) ∧ s.RegsBut [.laneCal core, .laneShstat] t ∧
      t = { s with regs := t.regs, cores := t.cores } := by
  let x := s.core core
  let y : Core := { x with fails := SMap.put x.fails line 0 0, spans := SMap.put x.spans line taps 0,
                           done := x.done ||| BitVec.ofNat 4 (2 ^ line) }
  let a := s.setCore core y
  let b := a.incWrap (.laneCal core) F.laneCal.calcnt
  have hb : a.OnlyRegs [.laneCal core, .laneShstat] b := a.onlyRegs_setFld (by simp) _ _
  have hbcal : b.fld (.laneCal core) F.laneCal.calcnt = (s.fld (.laneCal core) F.laneCal.calcnt + 1) % 256 :=
    a.fld_setFld_self _ rfl _
  obtain ⟨hv, hcal⟩ : a.OnlyRegs [.laneCal core, .laneShstat] (s.calibrate core line taps) ∧
      (s.calibrate core line taps).fld (.laneCal core) F.laneCal.calcnt = b.fld (.laneCal core) F.laneCal.calcnt := by
    rw [State.calibrate, if_pos ⟨hlo, hhi⟩]
    dsimp only
    split
    · refine ⟨hb.trans (b.onlyRegs_setFld (by simp) _ _), b.fld_setFld_ne _ _ _ ?_⟩
      simp only [Reg.key]
      omega
    · exact ⟨hb, rfl⟩
  have hcores : ∀ c, (s.calibrate core line taps).core c = a.core c := fun c => by rw [hv.1]; rfl
  have hself : (s.calibrate core line taps).core core = y := (hcores core).trans (s.core_setCore_self core y)
  refine ⟨_, exec_delayLineCalibration hs hcore hline hr h, ?_, ?_, ?_, hcal.trans hbcal, fun c hc => ?_, fun r hq => hv.2 r hq, ?_⟩
  · rw [hself]
    exact SMap.get_put_self x.spans line taps 0
  · rw [hself]
    exact SMap.get_put_self x.fails line 0 0
  · have hd : ∀ (v : BitVec 4) (l : Fin 4), (v ||| BitVec.ofNat 4 (2 ^ l.val)).getLsbD l = true := by decide
    rw [hself]
    exact hd x.done ⟨line, hline⟩
  · rw [hcores, s.core_setCore_ne y hc]
  · rw [hv.1]
    rfl

theorem answers_delayLineCalibration_bad (hr : s.shoreRuns = true) (h : (s.core core).inService line = false)
    (ht : taps < 36 ∨ 120 < taps) : Answers (.delayLineCalibration core line taps) s fun t =>
      let n := SMap.get (s.core core).fails line 0
      SMap.get (t.core core).fails line 0 = n + 1 ∧ SMap.get (t.core core).spans line 0 = 0 ∧
      (∀ l, l ≠ line → SMap.get (t.core core).spans l 0 = SMap.get (s.core core).spans l 0) ∧
      (t.core core).calfail = ((s.core core).calfail || decide (2 ≤ n)) ∧
      (n = 2 → t.fld .laneShstat F.laneShstat.calfailany = 1 ∧ ∃ a ∈ t.outlet.alarms, a.code = 0x09) ∧
      (n ≠ 2 → t.regs = s.regs ∧ t.outlet = s.outlet) ∧ t = { s with regs := t.regs, cores := t.cores, outlet := t.outlet } := by
  let x := s.core core
  let n := SMap.get x.fails line 0
  let y : Core := { x with fails := SMap.put x.fails line (n + 1) 0, spans := SMap.put x.spans line 0 0,
                           calfail := x.calfail || decide (3 ≤ n + 1) }
  let v := s.setCore core y
  let u := v.setFld .laneShstat F.laneShstat.calfailany 1
  obtain ⟨hf, -⟩ := u.alarms_alarm 0x09 (BitVec.ofNat 32 core)
  have hself : v.core core = y := s.core_setCore_self core y
  obtain ⟨hfails, hspan, hother, hfail⟩ : SMap.get y.fails line 0 = n + 1 ∧ SMap.get y.spans line 0 = 0 ∧
      (∀ l, l ≠ line → SMap.get y.spans l 0 = SMap.get x.spans l 0) ∧ y.calfail = (x.calfail || decide (2 ≤ n)) :=
    ⟨SMap.get_put_self x.fails line (n + 1) 0, SMap.get_put_self x.spans line 0 0,
      fun l hl => SMap.get_put_ne (m := x.spans) 0 0 0 hl, by simp [y]⟩
  refine ⟨_, exec_delayLineCalibration hs hcore hline hr h, ?_⟩
  rw [State.alarms_calibrate_failed s (by omega)]
  by_cases hn : n = 2
  · rw [if_pos (by show n + 1 = 3; omega)]
    have hcore' : (u.alarm 0x09 (BitVec.ofNat 32 core)).core core = y := by rw [hf]; exact hself
    dsimp only
    rw [hcore']
    refine ⟨hfails, hspan, hother, hfail, fun _ => ⟨?_, u.alarmed_alarm _ _⟩, fun hne => absurd hn hne, ?_⟩
    · rw [u.fld_alarm _ _ (by decide)]
      exact v.fld_setFld_self _ rfl 1
    · rw [hf]
      rfl
  · rw [if_neg (by show ¬n + 1 = 3; omega)]
    dsimp only
    rw [hself]
    exact ⟨hfails, hspan, hother, hfail, fun h2 => absurd h2 hn, fun _ => ⟨rfl, rfl⟩, rfl⟩

theorem answers_calibrationExchange (hr : s.shoreRuns = true) (hspan : SMap.get (s.core core).spans line 0 ≠ 0)
    (h : (s.core core).inService line = false) (h0 : s.shore.step = 0)
    (hq : ∀ p, s.laneOfCore core = some p → s.quietLane p = true) : Answers (.calibrationExchange core line) s fun t =>
      (t.core core).inService line = true ∧
      t.fld (.laneCal core) (if line < 2 then F.laneCal.outTaps else F.laneCal.inTaps) =
        SMap.get (s.core core).spans line 0 % 256 ∧ SMap.get (t.core core).spans line 0 = 0 ∧
      s.RegsBut [.laneCal core] t ∧ t = { s with regs := t.regs, cores := t.cores } := by
  let x := s.core core
  let y : Core := { x with spans := SMap.put x.spans line 0 0, second := x.second ^^^ BitVec.ofNat 2 (2 ^ (line / 2)) }
  let a := s.setCore core y
  let f := if line < 2 then F.laneCal.outTaps else F.laneCal.inTaps
  have hf : f.ok = true ∧ f.width = 8 := by
    by_cases hl : line < 2
    · simp only [f, if_pos hl]
      exact ⟨rfl, rfl⟩
    · simp only [f, if_neg hl]
      exact ⟨rfl, rfl⟩
  have hself : (a.setFld (.laneCal core) f (SMap.get x.spans line 0)).core core = y := s.core_setCore_self core y
  refine Answers.of_run (f := fun _ => a.setFld (.laneCal core) f (SMap.get x.spans line 0)) rfl hs ?_
    ⟨?_, ?_, ?_, (a.onlyRegs_setFld (by simp) _ _).2, rfl⟩
  · simp only [hcore, hline, hr, bne_iff_ne.2 hspan, h, h0, and_self, decide_true, Bool.not_false, BEq.rfl, Bool.and_self, Bool.true_and]
    split
    · exact hq _ ‹_›
    · rfl
  · rw [hself]
    exact x.inService_flip hline h
  · have := a.fld_setFld_self (.laneCal core) hf.1 (SMap.get x.spans line 0)
    rwa [hf.2] at this
  · rw [hself]
    exact SMap.get_put_self x.spans line 0 0

end

/-! ### Synchronisation -/

section
variable {s : State} (hs : s.Live)
include hs

theorem answers_ppsEdge {step : Nat} (load : Bool) (hstep : step < 32) (hr : s.shoreRuns = true) (hn : s.shore.load = none) :
    Answers (.ppsEdge step load) s fun t =>
      t.shore.pps = s.tickTime + BitVec.ofNat 64 step ∧
      t.rd .lanePpscap = (s.tickTime + BitVec.ofNat 64 step).setWidth 32 ∧ t.fld .laneSync F.laneSync.ppsseen = 1 ∧
      t.shore.load = (if load || s.bit .laneSync F.laneSync.arm then
        some ⟨s.rd .laneNexthi ++ (s.rd .laneNextlo &&& 0xFFFFFFE0), step, s.ticks⟩ else none) ∧
      t.fld .laneSync F.laneSync.arm = 0 ∧
      s.RegsBut [.lanePpscap, .laneSync] t ∧ t = { s with regs := t.regs, shore := t.shore } := by
  let time : Time := s.tickTime + BitVec.ofNat 64 step
  let a := s.wr .lanePpscap (BitVec.ofNat 32 time.toNat)
  let b := a.setFld .laneSync F.laneSync.ppsseen 1
  let v := b.setShore { s.shore with pps := time }
  let c := v.setFld .laneSync F.laneSync.arm 0
  have ha : s.OnlyRegs [.lanePpscap, .laneSync] b := (s.onlyRegs_wr (by simp) _).trans (a.onlyRegs_setFld (by simp) _ _)
  have hc : b.RegsBut [.lanePpscap, .laneSync] c := (v.onlyRegs_setFld (by simp) _ _).2
  have hcap : ∀ u : State, u.rd .lanePpscap = a.rd .lanePpscap → u.rd .lanePpscap = time.setWidth 32 := fun u hu =>
    hu.trans ((s.rd_wr_self _ _).trans (BitVec.eq_of_toNat_eq (by simp)))
  have hseen : b.fld .laneSync F.laneSync.ppsseen = 1 := a.fld_setFld_self _ rfl 1
  have hnext : ∀ r ∈ [Reg.laneNexthi, .laneNextlo], c.rd r = s.rd r := fun r hr => by
    have hk : ∀ q ∈ [Reg.lanePpscap, .laneSync], r.key ≠ q.key := by
      revert r
      decide
    exact (hc r hk).trans (ha.2 r hk)
  have hx : execPpsEdge step load s = _ := State.run_next _ hs.1 hs.2 (by simp [hstep, hr])
  refine ⟨_, hx, ?_⟩
  dsimp only
  by_cases hl : (load || s.bit .laneSync F.laneSync.arm) = true
  · simp only [hl, hn, Option.isNone_none, Bool.and_self, if_true]
    refine ⟨rfl, hcap _ ((v.rd_setFld_ne _ _ (by decide)).trans (a.rd_setFld_ne _ _ (by decide))), ?_, ?_, v.fld_setFld_self _ rfl 0,
      State.RegsBut.trans ha.2 hc, rfl⟩
    · exact (v.fld_setFld_apart _ rfl rfl rfl 0).trans hseen
    · have h1 := hnext .laneNexthi (by simp)
      have h2 := hnext .laneNextlo (by simp)
      show some (SyncLoad.mk (c.rd .laneNexthi ++ (c.rd .laneNextlo &&& 0xFFFFFFE0)) step s.ticks) = _
      rw [h1, h2]
  · obtain ⟨-, harm⟩ := Bool.or_eq_false_iff.1 (Bool.eq_false_iff.2 hl)
    simp only [hl, Bool.false_and, if_false, Bool.false_eq_true]
    refine ⟨rfl, hcap _ (a.rd_setFld_ne _ _ (by decide)), hseen, hn, ?_, ha.2, rfl⟩
    have h0 : b.fld .laneSync F.laneSync.arm = s.fld .laneSync F.laneSync.arm :=
      (a.fld_setFld_apart _ rfl rfl rfl 1).trans (State.fld_of_rd (s.rd_wr_ne _ (by decide)) _)
    refine h0.trans ?_
    simpa [State.bit] using harm

theorem exec_syncLoadApply {x : SyncLoad} (hx : s.shore.load = some x) (hr : s.shoreRuns = true) (hd : x.tick + 4 ≤ s.ticks) :
    exec .syncLoadApply s = .next (s.applyLoad x) := by
  have h : execSyncLoadApply s = s.run s.loadDue fun s => s.applyLoad x := by
    unfold execSyncLoadApply
    rw [hx]
  exact h.trans (State.run_next _ hs.1 hs.2 (by simp [State.loadDue, hx, hr, hd]))

theorem answers_syncLoadApply {x : SyncLoad} (hx : s.shore.load = some x) (hr : s.shoreRuns = true) (hd : x.tick + 4 ≤ s.ticks) :
    Answers .syncLoadApply s fun t =>
      t.shore.load = none ∧ t.fld .laneSync F.laneSync.arm = s.fld .laneSync F.laneSync.arm ∧
      (s.allDisarmed = false → t.fld .laneSync F.laneSync.refused = 1 ∧ t.time = s.time ∧ s.RegsBut [.laneSync] t ∧
        t = { s with regs := t.regs, shore := t.shore }) ∧
      (s.allDisarmed = true → t.fld .laneSync F.laneSync.loaded = 1 ∧ t.fld .laneSync F.laneSync.res = x.step % 32 ∧
        t.time = x.next + (if x.step < 16 then 128 else 96) ∧
        t.shore.pps = (if x.step < 16 then x.next + BitVec.ofNat 64 x.step else x.next - BitVec.ofNat 64 (32 - x.step)) ∧
        s.RegsBut [.laneSync, .lanePpscap] t ∧ t = { s with time := t.time, regs := t.regs, shore := t.shore }) := by
  refine ⟨_, exec_syncLoadApply hs hx hr hd, ?_⟩
  let v := s.setShore { s.shore with load := none }
  cases hall : s.allDisarmed with
  | false =>
    have ht : s.applyLoad x = v.setFld .laneSync F.laneSync.refused 1 := if_neg (by rw [show v.allDisarmed = false from hall]; simp)
    rw [ht]
    exact ⟨rfl, v.fld_setFld_apart _ rfl rfl rfl 1, fun _ => ⟨v.fld_setFld_self _ rfl 1, rfl, (v.onlyRegs_setFld (by simp) _ _).2, rfl⟩,
      nofun⟩
  | true =>
    let edge : Time := if x.step < 16 then x.next + BitVec.ofNat 64 x.step else x.next - BitVec.ofNat 64 (32 - x.step)
    let a : State := { v with time := x.next + BitVec.ofNat 64 (32 * (if x.step < 16 then 4 else 3)) }
    let b := a.setFld .laneSync F.laneSync.res x.step
    let c := b.setFld .laneSync F.laneSync.loaded 1
    let e := c.wr .lanePpscap (BitVec.ofNat 32 edge.toNat)
    have ht : s.applyLoad x = e.setShore { v.shore with pps := edge } := if_pos (show v.allDisarmed = true from hall)
    have he : ∀ f, e.fld .laneSync f = c.fld .laneSync f := State.fld_of_rd (c.rd_wr_ne _ (by decide))
    have hregs : a.OnlyRegs [.laneSync, .lanePpscap] e :=
      ((a.onlyRegs_setFld (by simp) _ _).trans (b.onlyRegs_setFld (by simp) _ _)).trans (c.onlyRegs_wr (by simp) _)
    rw [ht]
    refine ⟨rfl, (he _).trans ((b.fld_setFld_apart _ rfl rfl rfl 1).trans (a.fld_setFld_apart _ rfl rfl rfl _)), nofun,
      fun _ => ⟨(he _).trans (b.fld_setFld_self _ rfl 1), ?_, ?_, rfl, hregs.2, rfl⟩⟩
    · exact (he _).trans ((b.fld_setFld_apart _ rfl rfl rfl 1).trans (a.fld_setFld_self _ rfl _))
    · show x.next + BitVec.ofNat 64 (32 * (if x.step < 16 then 4 else 3)) = _
      split <;> rfl

end

/-! ### The shore runs again -/

/-- MIRROR lane `p` in bypass switches to timed operation (spec/06 R174). -/
def State.timeMirror (s : State) (p : Nat) : State :=
  if (s.lane p).bypass then
    (s.modLane p fun x => { x with bypass := false, hold := s.now + 32 * (Config.mirrorHold p s.ticks % 4) }).incSat
      (.laneErr p) F.laneErr.erra
  else s

theorem State.mirrors_nodup (s : State) : s.mirrors.Nodup := List.nodup_range.filter _

theorem State.mirrors_congr {s t : State} (h : ∀ p, p < 256 → t.rd (.laneCtrl p) = s.rd (.laneCtrl p) ∧
    t.rd (.laneStat p) = s.rd (.laneStat p)) : t.mirrors = s.mirrors := by
  refine List.filter_congr fun p hp => ?_
  obtain ⟨hc, hs⟩ := h p (List.mem_range.1 hp)
  simp only [State.mode, State.laneOn, State.fld, hc, hs]

/-- Of lanes `l`, those in bypass have switched: they alone have changed, with their ERRA, and none has entered bypass. -/
structure State.Times (l : List Nat) (s t : State) : Prop where
  frame : t = { s with regs := t.regs, lanes := t.lanes }
  bypass : ∀ p, (t.lane p).bypass = true → (s.lane p).bypass = true
  lane : ∀ p, ¬(p ∈ l ∧ (s.lane p).bypass = true) → t.lane p = s.lane p
  rd : ∀ r : Reg, (∀ p, p ∈ l ∧ (s.lane p).bypass = true → r.key ≠ (Reg.laneErr p).key) → t.rd r = s.rd r

theorem State.Times.refl (l : List Nat) (s : State) : s.Times l s := ⟨rfl, fun _ h => h, fun _ _ => rfl, fun _ _ => rfl⟩

theorem State.Times.trans {l : List Nat} {s t u : State} (h : s.Times l t) (h' : t.Times l u) : s.Times l u where
  frame := by rw [h'.frame, h.frame]
  bypass p hp := h.bypass p (h'.bypass p hp)
  lane p hp := (h'.lane p fun ⟨hm, hb⟩ => hp ⟨hm, h.bypass p hb⟩).trans (h.lane p hp)
  rd r hr := (h'.rd r fun p ⟨hm, hb⟩ => hr p ⟨hm, h.bypass p hb⟩).trans (h.rd r hr)

theorem State.lane_timeMirror_ne (s : State) {p q : Nat} (h : q ≠ p) : (s.timeMirror p).lane q = s.lane q := by
  unfold State.timeMirror
  split
  · rw [State.lane_incSat, s.lane_modLane_ne _ h]
  · rfl

theorem State.lane_timeMirror (s : State) {p : Nat} (h : (s.lane p).bypass = true) : (s.timeMirror p).lane p =
    { s.lane p with bypass := false, hold := s.now + 32 * (Config.mirrorHold p s.ticks % 4) } := by
  rw [State.timeMirror, if_pos h, State.lane_incSat, s.lane_modLane_self]

theorem State.times_timeMirror (s : State) {l : List Nat} {p : Nat} (hp : p ∈ l) : s.Times l (s.timeMirror p) := by
  by_cases hb : (s.lane p).bypass = true
  · refine ⟨by rw [State.timeMirror, if_pos hb]; rfl, fun q hq => ?_, fun q hq => s.lane_timeMirror_ne ?_, fun r hr => ?_⟩
    · by_cases h : q = p
      · rwa [h]
      · rwa [s.lane_timeMirror_ne h] at hq
    · rintro rfl
      exact hq ⟨hp, hb⟩
    · rw [State.timeMirror, if_pos hb]
      exact State.rd_setFld_ne (s.modLane p _) _ _ (hr p ⟨hp, hb⟩)
  · rw [State.timeMirror, if_neg hb]
    exact .refl l s

theorem State.times_timeMirrors (s : State) (l : List Nat) : s.Times l (l.foldl State.timeMirror s) :=
  foldl_related (.refl l) .trans (fun s _ hp => s.times_timeMirror hp) s

/-- A lane that switches: what it holds, and its ERRA. -/
theorem State.timed_timeMirrors (s : State) {l : List Nat} (hn : l.Nodup) {p : Nat} (hp : p ∈ l) (hb : (s.lane p).bypass = true) :
    (l.foldl State.timeMirror s).lane p =
      { s.lane p with bypass := false, hold := s.now + 32 * (Config.mirrorHold p s.ticks % 4) } ∧
    (l.foldl State.timeMirror s).fld (.laneErr p) F.laneErr.erra =
      satInc F.laneErr.erra.width (s.fld (.laneErr p) F.laneErr.erra) := by
  have hstep : ∀ s : State, (s.lane p).bypass = true → (s.timeMirror p).fld (.laneErr p) F.laneErr.erra =
      satInc F.laneErr.erra.width (s.fld (.laneErr p) F.laneErr.erra) := fun s h => by
    rw [State.timeMirror, if_pos h, State.fld_incSat _ _ rfl]
    rfl
  have hother : ∀ (s : State) q, q ≠ p → (s.timeMirror q).fld (.laneErr p) F.laneErr.erra =
      s.fld (.laneErr p) F.laneErr.erra := fun s q hq => by
    refine State.fld_of_rd ((s.times_timeMirror (List.mem_singleton_self q)).rd _ fun q' ⟨hq', _⟩ => ?_) _
    rw [List.mem_singleton.1 hq']
    simp only [Reg.key]
    omega
  have hticks : ∀ (s : State) q, (s.timeMirror q).ticks = s.ticks := fun s q => by
    rw [(s.times_timeMirror (List.mem_singleton_self q)).frame]
  have h := foldl_at (f := State.timeMirror) (p := p) (fun s => (s.lane p, s.fld (.laneErr p) F.laneErr.erra))
    (fun s => (s.lane p, s.fld (.laneErr p) F.laneErr.erra, s.ticks)) hn
    (fun s q hq => by rw [s.lane_timeMirror_ne hq.symm, hother s q hq])
    (fun s q hq => by rw [s.lane_timeMirror_ne hq.symm, hother s q hq, hticks]) ?_ s
  · rw [if_pos hp, s.lane_timeMirror hb, hstep s hb] at h
    exact Prod.ext_iff.1 h
  · intro s t e
    simp only [Prod.mk.injEq] at e ⊢
    obtain ⟨hlane, herr, htick⟩ := e
    by_cases h : (s.lane p).bypass = true
    · rw [s.lane_timeMirror h, t.lane_timeMirror (hlane ▸ h), hstep s h, hstep t (hlane ▸ h), hlane, herr]
      simp only [State.now, htick, and_self]
    · simp only [State.timeMirror, if_neg (hlane ▸ h), hlane, herr, and_self]

theorem answers_shoreRestart {s : State} (hs : s.Live) (hr : s.shoreRuns = false) (hb : s.booted = true) (hp : s.powerState = 0) :
    Answers .shoreRestart s fun t =>
      let timed := fun p => p ∈ s.mirrors ∧ (s.lane p).bypass = true
      t.fld .laneShstat F.laneShstat.gap = 1 ∧ (∀ p, ¬ timed p → t.lane p = s.lane p) ∧
      (∀ p, timed p → t.lane p = { s.lane p with bypass := false, hold := (t.lane p).hold } ∧
        s.now ≤ (t.lane p).hold ∧ (t.lane p).hold ≤ s.now + 96 ∧
        t.fld (.laneErr p) F.laneErr.erra = satInc F.laneErr.erra.width (s.fld (.laneErr p) F.laneErr.erra)) ∧
      (∀ r : Reg, r.key ≠ Reg.laneShstat.key → (∀ p, timed p → r.key ≠ (Reg.laneErr p).key) → t.rd r = s.rd r) ∧
      t = { s with regs := t.regs, lanes := t.lanes, shoreRuns := true } := by
  let a : State := { s with shoreRuns := true }
  let v := a.setFld .laneShstat F.laneShstat.gap 1
  have hrd : ∀ r : Reg, r.key ≠ Reg.laneShstat.key → v.rd r = s.rd r := fun r h => a.rd_setFld_ne _ _ h
  have hmir : v.mirrors = s.mirrors := State.mirrors_congr fun p _ =>
    ⟨hrd (.laneCtrl p) (by simp only [Reg.key]; omega), hrd (.laneStat p) (by simp only [Reg.key]; omega)⟩
  have hv := v.times_timeMirrors s.mirrors
  refine ⟨s.mirrors.foldl State.timeMirror v, ?_, ?_, hv.lane, fun p ht => ?_, fun r h1 h2 => (hv.rd r h2).trans (hrd r h1), ?_⟩
  · rw [← hmir]
    exact State.run_next (fun s => (({ s with shoreRuns := true } : State).setFld .laneShstat F.laneShstat.gap 1).timeMirrors)
      hs.1 hs.2 (by simp [hr, hb, hp])
  · refine (State.fld_of_rd (hv.rd _ fun p _ => ?_) _).trans (a.fld_setFld_self _ rfl 1)
    simp only [Reg.key]
    omega
  · obtain ⟨hlane, herr⟩ := v.timed_timeMirrors s.mirrors_nodup ht.1 ht.2
    have hhold : ((s.mirrors.foldl State.timeMirror v).lane p).hold = s.now + 32 * (Config.mirrorHold p s.ticks % 4) := by
      rw [hlane]
      rfl
    refine ⟨?_, ?_, ?_, herr.trans ?_⟩
    · rw [hhold, hlane]
      rfl
    · omega
    · omega
    · rw [State.fld_of_rd (hrd (.laneErr p) (by simp only [Reg.key]; omega))]
  · rw [hv.frame]
    rfl

/-- Settles O31: each event's clause from the event's own lemma. -/
theorem shoreEvents : Obligations.ShoreEvents := by
  unfold Obligations.ShoreEvents
  intro s hs
  refine ⟨answers_holdoverEntry hs, answers_multiplierRelock hs, answers_shoreRestart hs, fun core line taps hc hl => ?_,
    fun step load h hr hn => answers_ppsEdge hs load h hr hn, fun x hx hr hd => answers_syncLoadApply hs hx hr hd⟩
  exact ⟨exec_delayLineCalibration_inService hs, fun hr h hlo hhi => answers_delayLineCalibration_good hs hc hl hr h hlo hhi,
    fun hr h ht => answers_delayLineCalibration_bad hs hc hl hr h ht,
    fun hr hspan h h0 hq => answers_calibrationExchange hs hc hl hr hspan h h0 hq⟩

end Sys2Proof.Machine
end

section
/-! PROOFS. STREAM lanes send and receive words (O34; spec/06 R167 to R169, R176; spec/19 R505). -/

namespace Sys2Proof.Machine

open Sys2Proof

/-! ### What a transmitting lane sends -/

section
variable {s : State} {p : Nat}

theorem State.peekWord_fifo {v : Word} {l : List Word} (h : (s.lane p).fifo = v :: l) : s.peekWord p = .fifo v := by
  rw [State.peekWord, h]

theorem State.peekWord_filler (h : (s.lane p).fifo = []) (he : s.exporting p = true) (ha : s.asleep = false) :
    s.peekWord p = .filler := by
  simp [State.peekWord, h, he, ha]

theorem State.peekWord_again {v : Word} (h : (s.lane p).fifo = []) (he : s.exporting p = false)
    (hr : s.fld (.streamM3 p) F.streamM3.replast = 1) (hv : (s.lane p).txWord = some v) : s.peekWord p = .again v := by
  simp [State.peekWord, h, he, (s.bit_eq_true _ (by rfl)).2 hr, hv]

theorem State.peekWord_idle (h : (s.lane p).fifo = []) (he : s.exporting p = false)
    (hr : s.fld (.streamM3 p) F.streamM3.replast = 0) : s.peekWord p = .idle := by
  simp [State.peekWord, h, he, State.bit, hr]

/-- Lane `p` has taken the word `v`, whose first bit starts at `t`. -/
def State.takeWord (s : State) (p t : Nat) (v : Word) : State :=
  s.setLane p { s.lane p with started := true, fifo := (s.lane p).fifo.tail, txWord := some v, txStart := t }

theorem State.nextWord_sent (t : Nat) (h : s.peekWord p ≠ .idle) : s.nextWord p t = s.takeWord p t (s.wordBits p (s.peekWord p)) := by
  unfold State.nextWord
  dsimp only
  split
  · exact absurd ‹_› h
  · rfl

theorem State.nextWord_idle (t : Nat) (h : s.peekWord p = .idle) :
    s.nextWord p t = (s.takeWord p t (s.wordBits p .idle)).incSat (.laneErr p) F.laneErr.erra := by
  rw [State.nextWord, h]
  rfl

/-- A word that is taken leaves what follows it in the FIFO. -/
theorem State.sendsWord_of {c : Instr} {t : Nat} {v : Word} {l : List Word} (hx : exec c s = .next (s.nextWord p t).settle)
    (hi : s.peekWord p ≠ .idle) (hv : s.wordBits p (s.peekWord p) = v) (hl : (s.lane p).fifo.tail = l) : s.SendsWord c p t v l := by
  refine ⟨_, hx, ?_⟩
  rw [State.nextWord_sent t hi, hv, State.takeWord, hl]
  exact (State.follows_settle _).onlyPins

/-- The next word in each of its four cases (spec/06 R169; spec/19 R505). -/
theorem State.sendsNext_of {c : Instr} {t : Nat} (hx : exec c s = .next (s.nextWord p t).settle) : s.SendsNext c p t := by
  refine ⟨fun v l hf => ?_, fun hf he ha => ?_, fun hf he hr v hv => ?_, fun hf he hr => ⟨_, hx, ?_⟩⟩
  · have h := State.peekWord_fifo hf
    exact State.sendsWord_of hx (by simp [h]) (by rw [h]; rfl) (by rw [hf]; rfl)
  · have h := State.peekWord_filler hf he ha
    exact State.sendsWord_of hx (by simp [h]) (by rw [h]; rfl) (by rw [hf]; rfl)
  · have h := State.peekWord_again hf he hr hv
    exact State.sendsWord_of hx (by simp [h]) (by rw [h]; rfl) (by rw [hf]; rfl)
  · rw [State.nextWord_idle t (State.peekWord_idle hf he hr)]
    let v := s.takeWord p t (s.wordBits p .idle)
    have hv : v = s.setLane p { s.lane p with started := true, txStart := t, txWord := some (s.wordBits p .idle) } := by
      show State.takeWord s p t _ = _
      rw [State.takeWord, hf, List.tail_nil, ← hf]
    refine ⟨?_, fun r hr => ?_, State.onlyPins_settle_regs (v := v.incSat (.laneErr p) F.laneErr.erra) ?_⟩
    · rw [State.Counts, State.fld_settle, State.fld_incSat _ _ rfl]
      rfl
    · rw [State.rd_settle]
      exact State.rd_setFld_ne v _ _ (hr _ (by simp))
    · rw [hv]
      rfl

end

/-! ### What a receiving lane samples -/

/-- A bit that is not set in a word is added to it without a carry. -/
theorem BitVec.getLsbD_add_twoPow {w : Nat} {v : BitVec w} {i : Nat} (h : v.getLsbD i = false) (j : Nat) :
    (v + BitVec.twoPow w i).getLsbD j = (v.getLsbD j || decide (i = j) && decide (i < w)) := by
  have ha : v &&& BitVec.twoPow w i = 0#w := by
    refine BitVec.eq_of_getLsbD_eq fun k hk => ?_
    rw [BitVec.getLsbD_and, BitVec.getLsbD_twoPow, BitVec.getLsbD_zero]
    by_cases hik : i = k
    · rw [← hik, h, Bool.false_and]
    · simp [hik]
  rw [BitVec.add_eq_or_of_and_eq_zero _ _ ha, BitVec.getLsbD_or, BitVec.getLsbD_twoPow, Bool.and_comm]

/-- Bits set one by one at distinct places of a word. -/
theorem getLsbD_setBits (c : Nat → Bool) {pos : Nat → Nat} {n : Nat} (hinj : ∀ i j, i < n → j < n → pos i = pos j → i = j)
    (j : Nat) (hj : j < 16) :
    (BitVec.ofNat 16 ((List.range n).foldl (fun v k => if c k then v + 2 ^ pos k else v) 0)).getLsbD j =
      (List.range n).any fun k => decide (pos k = j) && c k := by
  induction n generalizing j with
  | zero => simp
  | succ n ih =>
    have ih := ih fun i j hi hj => hinj i j (by omega) (by omega)
    rw [List.range_succ, List.foldl_append, List.any_append, List.foldl_cons, List.foldl_nil]
    simp only [List.any_cons, List.any_nil, Bool.or_false]
    by_cases hc : c n = true
    · have hclear : (BitVec.ofNat 16 ((List.range n).foldl (fun v k => if c k then v + 2 ^ pos k else v) 0)).getLsbD (pos n) =
          false := by
        by_cases hp : pos n < 16
        · rw [ih _ hp, List.any_eq_false]
          intro k hk
          have hk := List.mem_range.1 hk
          have hne : pos k ≠ pos n := fun h => by
            have := hinj k n (by omega) (by omega) h
            omega
          simp [hne]
        · exact BitVec.getLsbD_of_ge _ _ (by omega)
      have hadd : ∀ v, BitVec.ofNat 16 (v + 2 ^ pos n) = BitVec.ofNat 16 v + BitVec.twoPow 16 (pos n) := fun v =>
        BitVec.eq_of_toNat_eq (by simp [BitVec.toNat_twoPow])
      rw [if_pos hc, hadd, BitVec.getLsbD_add_twoPow hclear, ih j hj, hc, Bool.and_true]
      by_cases hp : pos n = j <;> simp [hp, hj]
    · simp only [hc, Bool.and_false, Bool.or_false]
      exact ih j hj

/-- Bit `k` of a sampled word is the level at its bit's instant behind INV_IN, with MSBF from the top (spec/06 R168). -/
theorem State.getLsbD_sampleWord (s : State) (p : Nat) (lvl : Bool) (edges : List Nat) {k : Nat} (hk : k < 16) :
    (s.sampleWord p lvl edges).getLsbD (if s.bit (.streamM0 p) F.streamM0.msbf then 15 - k else k) =
      xor (lineLevel lvl edges (k * s.bitPeriod p + s.fld (.streamM0 p) F.streamM0.phase % s.bitPeriod p))
        (s.bit (.laneIo p) F.laneIo.invIn) := by
  let pos := fun k => if s.bit (.streamM0 p) F.streamM0.msbf then 15 - k else k
  have hinj : ∀ i j, i < 16 → j < 16 → pos i = pos j → i = j := fun i j hi hj h => by
    dsimp only [pos] at h
    split at h <;> omega
  have hpos : pos k < 16 := by
    dsimp only [pos]
    split <;> omega
  rw [State.sampleWord]
  refine (getLsbD_setBits _ hinj _ hpos).trans ?_
  rw [Bool.eq_iff_iff, List.any_eq_true]
  constructor
  · rintro ⟨i, hi, h⟩
    obtain ⟨hik, hc⟩ := Bool.and_eq_true_iff.1 h
    rwa [hinj i k (List.mem_range.1 hi) hk (of_decide_eq_true hik)] at hc
  · intro hc
    exact ⟨k, List.mem_range.2 hk, by simp [hc]⟩

/-- A word received where the FIFO has room. -/
theorem State.receiveWord_room (s : State) {p : Nat} (w : Word) (h : (s.lane p).fifo.length < 16) : s.receiveWord p w =
    s.setLane p { s.lane p with txStart := (s.lane p).txStart + 16 * s.bitPeriod p, fifo := (s.lane p).fifo ++ [w] } := by
  unfold State.receiveWord
  dsimp only
  rw [s.lane_modLane_self, if_neg (by simpa using h), s.modLane_modLane]

theorem State.receiveWord_full (s : State) {p : Nat} (w : Word) (h : 16 ≤ (s.lane p).fifo.length) : s.receiveWord p w =
    (s.setLane p { s.lane p with txStart := (s.lane p).txStart + 16 * s.bitPeriod p }).incSat (.laneErr p) F.laneErr.erra := by
  unfold State.receiveWord
  dsimp only
  rw [s.lane_modLane_self, if_pos (by simpa using h)]
  rfl

/-! ### The commands -/

theorem State.transmits_of_dir {s : State} {p : Nat} (hd : s.fld (.streamM0 p) F.streamM0.dir = 0) : s.transmits p = true := by
  simp [State.transmits, State.bit, hd]

theorem State.receives_of_dir {s : State} {p : Nat} (hd : s.fld (.streamM0 p) F.streamM0.dir = 1) : s.transmits p = false := by
  simp [State.transmits, State.bit, hd]

section
variable {s : State} {p : Nat} (hs : s.Live) (hp : p < 256)
include hs hp

theorem exec_streamStart (h : s.streamDue p = true) : exec (.streamStart p) s = .next (s.startStream p) :=
  State.run_next (g := decide (p < 256) && s.streamDue p) (fun s => s.startStream p) hs.1 hs.2 (by simp [hp, h])

theorem sendsNext_streamStart (h : s.streamDue p = true) (hd : s.fld (.streamM0 p) F.streamM0.dir = 0) :
    s.SendsNext (.streamStart p) p (32 * s.streamTick p) := by
  refine State.sendsNext_of ((exec_streamStart hs hp h).trans ?_)
  rw [State.startStream, if_pos (State.transmits_of_dir hd)]

theorem exec_streamStart_receives (h : s.streamDue p = true) (hd : s.fld (.streamM0 p) F.streamM0.dir = 1) :
    exec (.streamStart p) s = .next (s.setLane p { s.lane p with started := true, txStart := 32 * s.streamTick p }) := by
  rw [exec_streamStart hs hp h, State.startStream, State.receives_of_dir hd]
  rfl

theorem sendsNext_streamTxWordBoundary (h : s.wordDue p = true) (hd : s.fld (.streamM0 p) F.streamM0.dir = 0) :
    s.SendsNext (.streamTxWordBoundary p) p ((s.lane p).txStart + 16 * s.bitPeriod p) :=
  State.sendsNext_of (State.run_next (g := decide (p < 256) && s.wordDue p && s.transmits p)
    (fun s => (s.nextWord p ((s.lane p).txStart + 16 * s.bitPeriod p)).settle) hs.1 hs.2
    (by simp [hp, h, State.transmits_of_dir hd]))

theorem exec_streamRxWord (lvl : Bool) (edges : List Nat) (h : s.wordDue p = true) (hd : s.fld (.streamM0 p) F.streamM0.dir = 1) :
    exec (.streamRxWord p ⟨lvl, edges⟩) s =
      .next ((s.receiveWord p (s.sampleWord p lvl edges)).setLaneIn p (xor lvl (edges.length % 2 == 1)) s.here) :=
  State.run_next (g := decide (p < 256) && s.wordDue p && !s.transmits p)
    (fun s => (s.receiveWord p (s.sampleWord p lvl edges)).setLaneIn p (xor lvl (edges.length % 2 == 1)) s.here) hs.1 hs.2
    (by simp [hp, h, State.receives_of_dir hd])

end

/-! ### M2 (spec/06 R176) -/

section
variable {s : State} {w : Who} {q : Nat} {d : BitVec 32}

theorem State.modeReg_streamM2 (hm : s.mode q = modeStream) : s.modeReg q 2 = some (.streamM2 q) := by
  unfold State.modeReg
  rw [hm]
  rfl

/-- What a write of M2 of a STREAM lane without a conduit makes of its FIFO. -/
theorem writeLaneM_streamM2 (hwin : s.laneWindow q = true) (hm : s.mode q = modeStream)
    (hc : s.fld (.streamM0 q) F.streamM0.cden = 0) {k : Nat} : writeLaneM s ⟨w, k, d, whole⟩ q 2 =
      (if (s.lane q).fifo.length < 16 then s.setLane q { s.lane q with fifo := (s.lane q).fifo ++ [d.setWidth 16] } else s, false) := by
  have hany : (⟨w, k, d, whole⟩ : Wr).any F.streamM2.data = true := Wr.any_whole w k d (by decide)
  have hcden : s.bit (.streamM0 q) F.streamM0.cden = false := by simp [State.bit, hc]
  have hval : BitVec.ofNat 16 (F.streamM2.data.get d) = d.setWidth 16 := by
    refine BitVec.eq_of_toNat_eq ?_
    simp [Fld.get, F.streamM2.data, Fld.width]
  simp only [writeLaneM, hwin, State.modeReg_streamM2 hm, writeStreamData, hcden, hany, Wr.bits_whole, hval]
  by_cases hf : (s.lane q).fifo.length < 16
  · have hn : ¬16 ≤ (s.lane q).fifo.length := by omega
    simp [hf, hn, State.modLane]
  · have hn : 16 ≤ (s.lane q).fifo.length := by omega
    simp [hf, hn]

theorem writeLaneM_closed (hwin : s.laneWindow q = false) (x : Wr) (i : Nat) : writeLaneM s x q i = (s, false) := by
  simp [writeLaneM, hwin]

theorem takes_streamFifoWrite {t : State} (hw : s.Writer w) (hq : q < 264)
    (h : writeLaneM s ⟨w, (Reg.laneM2 q).key, d, whole⟩ q 2 = (t, false)) :
    s.Takes (.streamFifoWrite w q d whole) w (.laneM2 q) d false fun u => u = t :=
  State.Takes.of_rule (g := decide (q < 264)) hw rfl (decide_eq_true hq) (fun y => s.performWrite_laneM2 hq w d y) h rfl

theorem State.readLaneM_streamM2 (hwin : s.laneWindow q = true) (hm : s.mode q = modeStream) :
    s.readLaneM q 2 whole = s.readStreamData q := by
  simp only [State.readLaneM, hwin, State.modeReg_streamM2 hm]
  rfl

theorem State.readLaneM_closed (hwin : s.laneWindow q = false) (i : Nat) (strb : BitVec 4) : s.readLaneM q i strb = (0, s) := by
  simp [State.readLaneM, hwin]

theorem exec_streamFifoRead (hs : s.Live) (hq : q < 264) : exec (.streamFifoRead w q whole) s =
    .next { (s.readLaneM q 2 whole).2 with rdata := (s.readLaneM q 2 whole).1 } :=
  State.run_next (g := decide (q < 264)) (fun s => { (s.readLaneM q 2 whole).2 with rdata := (s.readLaneM q 2 whole).1 })
    hs.1 hs.2 (decide_eq_true hq)

end

/-- Settles O34: the four cases of a word sent, the word sampled bit by bit, and M2's two directions. -/
theorem streamLanesSendAndReceive : Obligations.StreamLanesSendAndReceive := by
  unfold Obligations.StreamLanesSendAndReceive
  intro s w p d hs hp
  refine ⟨sendsNext_streamStart hs hp, exec_streamStart_receives hs hp, sendsNext_streamTxWordBoundary hs hp,
    fun lvl edges h hd => ⟨fun hf => ?_, fun hf => ?_⟩, fun q hq => ⟨fun hwin => ⟨fun hw => ?_, ?_⟩, fun hwin hm hc => ⟨?_, ?_, ?_, ?_⟩⟩⟩
  · refine ⟨_, exec_streamRxWord hs hp lvl edges h hd, s.sampleWord p lvl edges, ?_, fun k hk => s.getLsbD_sampleWord p lvl edges hk⟩
    rw [s.receiveWord_room _ hf]
  · rw [exec_streamRxWord hs hp lvl edges h hd, s.receiveWord_full _ hf]
  · exact takes_streamFifoWrite hw hq (writeLaneM_closed hwin _ 2)
  · rw [exec_streamFifoRead hs hq, State.readLaneM_closed hwin]
  · intro hw hf
    exact takes_streamFifoWrite hw hq ((writeLaneM_streamM2 hwin hm hc).trans (by rw [if_pos hf]))
  · intro hw hf
    exact takes_streamFifoWrite hw hq ((writeLaneM_streamM2 hwin hm hc).trans (by rw [if_neg (by omega)]))
  · intro v l hf
    rw [exec_streamFifoRead hs hq, State.readLaneM_streamM2 hwin hm, State.readStreamData, if_neg (by simp [State.bit, hc]), hf]
    rfl
  · intro hf
    rw [exec_streamFifoRead hs hq, State.readLaneM_streamM2 hwin hm, State.readStreamData, if_neg (by simp [State.bit, hc]), hf]

end Sys2Proof.Machine
end

section
/-! PROOFS. The dispatcher and the lane cores (O33; spec/06 R178, R181 to R184; spec/07 R199; spec/05 R511). -/

namespace Sys2Proof.Machine

open Sys2Proof

/-! ### An entry is read from the table -/

/-- Only the outlet and registers of the integrity and outlet windows have changed. -/
structure State.CountsRead (s t : State) : Prop where
  frame : t = { s with regs := t.regs, outlet := t.outlet }
  rd : ∀ r : Reg, r.key < 0x780000 → t.rd r = s.rd r

theorem State.CountsRead.refl (s : State) : s.CountsRead s := ⟨rfl, fun _ _ => rfl⟩

theorem State.CountsRead.trans {s t u : State} (h : s.CountsRead t) (h' : t.CountsRead u) : s.CountsRead u where
  frame := by rw [h'.frame, h.frame]
  rd r hr := (h'.rd r hr).trans (h.rd r hr)

theorem State.CountsRead.lane {s t : State} (h : s.CountsRead t) (p : Nat) : t.lane p = s.lane p :=
  State.lane_congr (by rw [h.frame]) p

theorem State.countsRead_setFld (s : State) {r : Reg} (h : 0x780000 ≤ r.key) (f : Fld) (v : Nat) : s.CountsRead (s.setFld r f v) :=
  ⟨rfl, fun _ hq => s.rd_setFld_ne f v (by omega)⟩

theorem State.countsRead_alarm (s : State) (code : Nat) (d : BitVec 32) : s.CountsRead (s.alarm code d) := by
  obtain ⟨hf, hr⟩ := s.alarms_alarm code d
  refine ⟨hf, fun r hk => hr r fun q hq => ?_⟩
  have hout : 0x780000 ≤ q.key := by
    revert q
    decide
  omega

theorem State.countsRead_bucketAdd (s : State) : s.CountsRead (s.bucketAdd 53) := by
  unfold State.bucketAdd
  dsimp only
  have h := s.countsRead_setFld (r := .memLb 53) (by decide) F.memLb.level (satInc 8 (s.fld (.memLb 53) F.memLb.level))
  split
  · exact ((h.trans (State.countsRead_setFld _ (by decide) _ _)).trans (State.countsRead_setFld _ (by decide) _ _)).trans
      (State.countsRead_alarm _ _ _)
  · exact h

theorem State.countsRead_readEntry (s : State) (e : Entry) : s.CountsRead (s.readEntry e).2 := by
  unfold State.readEntry
  split
  · exact .refl s
  · exact s.countsRead_bucketAdd
  · exact s.countsRead_setFld (by decide) _ _
  · exact (((((s.countsRead_setFld (by decide) _ _).trans (State.countsRead_setFld _ (by decide) _ _)).trans
      (State.countsRead_setFld _ (by decide) _ _)).trans (State.countsRead_setFld _ (by decide) _ _)).trans
      (State.countsRead_setFld _ (by decide) _ _)).trans (State.countsRead_alarm _ _ _)

/-- Whether an entry's word is good depends on the entry alone. -/
theorem State.readEntry_good (s t : State) (e : Entry) : (s.readEntry e).1 = (t.readEntry e).1 := by
  unfold State.readEntry
  split <;> rfl

/-- A word whose check bits are right is read without being counted. -/
theorem State.readEntry_clean (s : State) {e : Entry} (h : e.syn = 0) : s.readEntry e = (true, s) := by
  have hc : (eccDecode 0 ((0 : BitVec 16).extractLsb' 8 8) ((0 : BitVec 16).extractLsb' 0 8) 0xFF).1 = .clean := by decide
  unfold State.readEntry
  rw [h, hc]

/-! ### The dispatcher -/

section
variable {s : State} {p : Nat} {e : Entry}

theorem State.dispatchOne_none (h : s.dispatchNext = none) : s.dispatchOne = s := by
  unfold State.dispatchOne
  rw [h]

/-- The entry `e` has been taken from the queue of lane `p`, and the dispatcher's pointer and count go on. -/
def State.takeFirst (s : State) (p : Nat) (e : Entry) : State :=
  (s.setShore { s.shore with dispPtr := (p + 1) % 256, dispTick := s.ticks, dispCount := 9 - s.dispatchesLeft }).modLane p
    fun x => { x with queue := x.queue.erase e }

/-- The entry moves into its core: its word is good and the lane is ON in EDGE mode (spec/06 R184). -/
def State.moves (s : State) (p : Nat) (e : Entry) : Bool := (s.readEntry e).1 && s.laneOn p && s.mode p == modeEdge

theorem State.dispatchOne_some (h : s.dispatchNext = some (p, e)) : s.dispatchOne =
    let u := ((s.takeFirst p e).readEntry e).2
    if ((s.takeFirst p e).readEntry e).1 && u.laneOn p && u.mode p == modeEdge then
      u.modLane p fun x => { x with core := insertCore x.core ({ e with syn := 0 }, u.ticks) }
    else u.incSat (.laneErr p) F.laneErr.erra := by
  unfold State.dispatchOne
  rw [h]
  rfl

/-- A dispatch changes the dispatcher, the lanes, registers and the outlet. -/
theorem State.dispatchOne_frame (h : s.dispatchNext = some (p, e)) : s.dispatchOne =
    { s with shore := { s.shore with dispPtr := (p + 1) % 256, dispTick := s.ticks, dispCount := 9 - s.dispatchesLeft }
             lanes := s.dispatchOne.lanes
             regs := s.dispatchOne.regs
             outlet := s.dispatchOne.outlet } := by
  have hu := ((s.takeFirst p e).countsRead_readEntry e).frame
  rw [State.dispatchOne_some h]
  dsimp only
  split
  · rw [hu]
    rfl
  · rw [hu]
    rfl

theorem State.dispatchesLeft_le (s : State) : s.dispatchesLeft ≤ 8 := Nat.sub_le _ _

theorem State.dispatchesLeft_dispatchOne (h : s.dispatchNext = some (p, e)) :
    s.dispatchOne.dispatchesLeft = s.dispatchesLeft - 1 := by
  have hle := s.dispatchesLeft_le
  rw [State.dispatchOne_frame h]
  show 8 - (if s.ticks = s.ticks then 9 - s.dispatchesLeft else 0) = _
  rw [if_pos rfl]
  omega

/-- Where nothing is due the dispatcher rests. -/
theorem State.dispatches_none (h : s.dispatchNext = none) (l : List Nat) : l.foldl (fun s _ => s.dispatchOne) s = s := by
  induction l with
  | nil => rfl
  | cons a l ih => rw [List.foldl_cons, State.dispatchOne_none h, ih]

/-- Dispatches end where nothing is due, or have taken from what the tick has left one each. -/
theorem State.dispatches_end (l : List Nat) (s : State) :
    (l.foldl (fun s _ => s.dispatchOne) s).dispatchesLeft = s.dispatchesLeft - l.length ∨
      (l.foldl (fun s _ => s.dispatchOne) s).dispatchNext = none := by
  induction l generalizing s with
  | nil => exact .inl rfl
  | cons a l ih =>
    cases h : s.dispatchNext with
    | none =>
      rw [State.dispatches_none h]
      exact .inr h
    | some x =>
      rw [List.foldl_cons]
      refine (ih s.dispatchOne).imp_left fun hl => ?_
      rw [hl, State.dispatchesLeft_dispatchOne (p := x.1) (e := x.2) h, List.length_cons]
      omega

/-- What the entry meets in its lane is what the lane was. -/
theorem State.fld_takeFirst {r : Reg} (hr : r.key < 0x780000) (f : Fld) :
    ((s.takeFirst p e).readEntry e).2.fld r f = s.fld r f :=
  State.fld_of_rd (((s.takeFirst p e).countsRead_readEntry e).rd r hr) f

section
variable (hp : p < 256)
include hp

theorem State.dispatchOne_moves (h : s.dispatchNext = some (p, e)) : s.dispatchOne =
    let u := ((s.takeFirst p e).readEntry e).2
    if s.moves p e then u.modLane p fun x => { x with core := insertCore x.core ({ e with syn := 0 }, u.ticks) }
    else u.incSat (.laneErr p) F.laneErr.erra := by
  have hm : s.moves p e = (((s.takeFirst p e).readEntry e).1 && ((s.takeFirst p e).readEntry e).2.laneOn p &&
      ((s.takeFirst p e).readEntry e).2.mode p == modeEdge) := by
    simp only [State.moves, State.laneOn, State.mode]
    rw [State.fld_takeFirst (by simp only [Reg.key]; omega), State.fld_takeFirst (by simp only [Reg.key]; omega),
      s.readEntry_good (s.takeFirst p e)]
  rw [State.dispatchOne_some h, hm]

theorem State.lane_dispatchOne (h : s.dispatchNext = some (p, e)) : s.dispatchOne.lane p =
    { s.lane p with
      queue := (s.lane p).queue.erase e
      core := if s.moves p e then insertCore (s.lane p).core ({ e with syn := 0 }, s.ticks) else (s.lane p).core } := by
  have hu := (s.takeFirst p e).countsRead_readEntry e
  have hl : ((s.takeFirst p e).readEntry e).2.lane p = { s.lane p with queue := (s.lane p).queue.erase e } :=
    (hu.lane p).trans (State.lane_modLane_self _ _ _)
  have ht : ((s.takeFirst p e).readEntry e).2.ticks = s.ticks := by
    rw [hu.frame]
    rfl
  rw [State.dispatchOne_moves hp h]
  dsimp only
  split
  · rw [State.lane_modLane_self, hl, ht]
  · rw [State.lane_incSat, hl]

theorem State.lane_dispatchOne_ne (h : s.dispatchNext = some (p, e)) {q : Nat} (hq : q ≠ p) :
    s.dispatchOne.lane q = s.lane q := by
  have hu := (s.takeFirst p e).countsRead_readEntry e
  have hl : ((s.takeFirst p e).readEntry e).2.lane q = s.lane q :=
    (hu.lane q).trans (State.lane_modLane_ne (s.setShore _) _ hq)
  rw [State.dispatchOne_moves hp h]
  dsimp only
  split
  · rw [State.lane_modLane_ne _ _ hq, hl]
  · rw [State.lane_incSat, hl]

/-- An entry that does not move is counted (spec/06 R184). -/
theorem State.counts_dispatchOne (h : s.dispatchNext = some (p, e)) (hm : s.moves p e = false) :
    s.Counts (.laneErr p) F.laneErr.erra s.dispatchOne := by
  rw [State.dispatchOne_moves hp h, State.Counts]
  dsimp only
  rw [hm, if_neg (by simp), State.fld_incSat _ _ rfl, State.fld_takeFirst (by simp only [Reg.key]; omega)]

/-- A dispatch that reads a clean word counts nothing but an entry discarded. -/
theorem State.dispatchOne_clean (h : s.dispatchNext = some (p, e)) (he : e.syn = 0) :
    (s.moves p e = true → s.dispatchOne.regs = s.regs) ∧ s.RegsBut [.laneErr p] s.dispatchOne ∧
      s.dispatchOne = { s with shore := s.dispatchOne.shore, lanes := s.dispatchOne.lanes, regs := s.dispatchOne.regs } := by
  have hu : ((s.takeFirst p e).readEntry e).2 = s.takeFirst p e := by rw [State.readEntry_clean _ he]
  rw [State.dispatchOne_moves hp h]
  dsimp only
  rw [hu]
  split
  · exact ⟨fun _ => rfl, fun _ _ => rfl, rfl⟩
  · exact ⟨fun hm => absurd hm ‹_›, (State.onlyRegs_setFld _ (by simp) _ _).2, rfl⟩

end

theorem exec_entryDispatch (hs : s.Live) (hr : s.shoreRuns = true) (hl : 0 < s.dispatchesLeft) :
    exec .entryDispatch s = .next s.dispatchAll :=
  State.run_next (g := s.shoreRuns && decide (0 < s.dispatchesLeft)) (fun s => s.dispatchAll) hs.1 hs.2 (by simp [hr, hl])

/-- The dispatcher has nothing to move, or has moved all that the tick lets it (spec/06 R182). -/
theorem exec_entryDispatch_idle (hs : s.Live) (h : s.dispatchesLeft = 0 ∨ s.dispatchNext = none) :
    exec .entryDispatch s = .next s := by
  cases hg : s.shoreRuns && decide (0 < s.dispatchesLeft) with
  | false => exact State.run_guarded (g := s.shoreRuns && decide (0 < s.dispatchesLeft)) (fun s => s.dispatchAll) hs.1 hg
  | true =>
    obtain ⟨hr, hl⟩ := Bool.and_eq_true_iff.1 hg
    have hl := of_decide_eq_true hl
    rw [exec_entryDispatch hs hr hl, State.dispatchAll, State.dispatches_none (h.resolve_left (by omega))]

theorem answers_entryDispatch_end (hs : s.Live) (hr : s.shoreRuns = true) :
    Answers .entryDispatch s fun t => t.dispatchesLeft = 0 ∨ t.dispatchNext = none := by
  by_cases hl : 0 < s.dispatchesLeft
  · refine ⟨_, exec_entryDispatch hs hr hl, (s.dispatches_end (List.range s.dispatchesLeft)).imp_left fun h => ?_⟩
    rw [State.dispatchAll, h, List.length_range, Nat.sub_self]
  · exact ⟨s, exec_entryDispatch_idle hs (.inl (by omega)), .inl (by omega)⟩

/-- Where just one entry is due the dispatcher takes it, and rests. -/
theorem exec_entryDispatch_one (hs : s.Live) (hr : s.shoreRuns = true) (hl : 0 < s.dispatchesLeft)
    (hn : s.dispatchOne.dispatchNext = none) : exec .entryDispatch s = .next s.dispatchOne := by
  rw [exec_entryDispatch hs hr hl, State.dispatchAll]
  obtain ⟨n, hn'⟩ : ∃ n, s.dispatchesLeft = n + 1 := ⟨s.dispatchesLeft - 1, by omega⟩
  rw [hn', List.range_succ_eq_map, List.foldl_cons, State.dispatches_none hn]

end

/-! ### The core executes an entry -/

theorem Lane.Follows.takeEntry {x y : Lane} (h : x.Follows y) (n : Nat) : (x.takeEntry n).Follows (y.takeEntry n) := by
  unfold Lane.Follows at *
  rw [h]
  rfl

theorem Lane.Follows.level {x y : Lane} (h : x.Follows y) : y.lvl = x.lvl ∧ y.oe = x.oe :=
  have h : y = _ := h
  ⟨(congrArg Lane.lvl h).trans rfl, (congrArg Lane.oe h).trans rfl⟩

theorem Lane.Follows.setLevel {x y : Lane} (h : x.Follows y) (v : Bool × Bool) :
    ({ x with lvl := v.1, oe := v.2 } : Lane).Follows { y with lvl := v.1, oe := v.2 } := by
  unfold Lane.Follows at *
  rw [h]

/-- A thread event by role reads the roles, the takeover and the threads alone (spec/05 R511). -/
theorem State.roleEvt_congr {s b : State} (ht : b.threads = s.threads) (hc : b.cont = s.cont)
    (hr : ∀ e, e < 9 → b.rd (.engStat e) = s.rd (.engStat e)) (r t n : Nat) :
    b.roleEvt r t n = { b with threads := (s.roleEvt r t n).threads } := by
  have htake : b.takingOver r = s.takingOver r := by simp only [State.takingOver, hc]
  unfold State.roleEvt
  rw [htake, State.engineOf_congr hr]
  split
  · rw [← ht]
  · split
    · have hth : ∀ e t, b.thread e t = s.thread e t := State.thread_congr ht
      simp only [State.setEvt, State.modThread, State.setThread, ht, hth]
    · rw [← ht]

/-- The threads after an entry has acted: a MARK raises the weir's window event (spec/07 R199). -/
def State.entryThreads (s : State) (p : Nat) (e : Entry) : SMap Thread :=
  if e.act = 5 then
    (s.roleEvt (s.fld (.weirWin p) F.weirWin.role) (s.fld (.weirWin p) F.weirWin.thread) (10 + e.arg % 2)).threads
  else s.threads

/-- The level and enable after an entry has acted. -/
def State.entryLevel (s : State) (p : Nat) (e : Entry) : Bool × Bool := actOn e.act e.arg ((s.lane p).lvl, (s.lane p).oe)

/-- The entry has left the core of lane `p`: the pins have followed, and it may have been counted late. -/
structure State.Ran (s : State) (p : Nat) (b : State) : Prop where
  frame : b = { s with regs := b.regs, outlet := b.outlet, lanes := b.lanes, shore := { s.shore with step := b.shore.step } }
  lane : ((s.lane p).takeEntry s.ticks).Follows (b.lane p)
  others : ∀ q, q ≠ p → (s.lane q).Follows (b.lane q)
  rd : s.RegsBut [.laneSchrej, .outStat, .outCnt] b

theorem State.ran_modLane {s u : State} (h : s.OnlyPins u) (p : Nat) : s.Ran p (u.modLane p fun x => x.takeEntry s.ticks) where
  frame := by
    rw [h.1]
    rfl
  lane := by
    rw [u.lane_modLane_self]
    exact (h.lane p).takeEntry _
  others q hq := by
    rw [u.lane_modLane_ne _ hq]
    exact h.lane q
  rd r _ := State.rd_congr (by rw [h.1]; rfl) r

section
variable {s a : State} {p : Nat} (h : s.Ran p a)
include h

/-- A late entry is counted in LATEX, with an alarm (spec/06 R183). -/
theorem State.Ran.countLate (hregs : a.regs = s.regs) : s.Ran p (a.countLate p) ∧
    s.Counts .laneSchrej F.laneSchrej.latex (a.countLate p) ∧ (a.countLate p).Alarmed 0x0A := by
  let v := a.incSat .laneSchrej F.laneSchrej.latex
  obtain ⟨hf, hr⟩ := v.alarms_alarm 0x0A (BitVec.ofNat 32 p)
  have hc : a.countLate p = { a with regs := (a.countLate p).regs, outlet := (a.countLate p).outlet } := hf
  have hrd : a.RegsBut [.laneSchrej, .outStat, .outCnt] (a.countLate p) :=
    State.RegsBut.trans (State.RegsBut.mono (a.onlyRegs_setFld (List.mem_singleton_self _) _ _).2 (by simp))
      (State.RegsBut.mono hr (by simp))
  have hcount : s.Counts .laneSchrej F.laneSchrej.latex (a.countLate p) := by
    rw [State.Counts, State.countLate, v.fld_alarm _ _ (by decide), State.fld_incSat _ _ rfl, State.fld_congr hregs]
  have halarm : (a.countLate p).Alarmed 0x0A := v.alarmed_alarm _ _
  generalize a.countLate p = b at *
  have hl : ∀ q, b.lane q = a.lane q := State.lane_congr (by rw [hc])
  refine ⟨⟨by rw [hc, h.frame], hl p ▸ h.lane, fun q hq => hl q ▸ h.others q hq, State.RegsBut.trans h.rd hrd⟩, hcount, halarm⟩

/-- A state in which lane `p` has changed further, with registers, threads and the outlet. -/
theorem State.Ran.onlyPins {x : Lane} {th : SMap Thread} {b : State} (hx : x.Follows (b.lane p))
    (hl : ∀ q, q ≠ p → b.lane q = a.lane q)
    (hf : b = { a with lanes := b.lanes, threads := th, regs := b.regs, outlet := b.outlet }) :
    State.OnlyPins { s.setLane p x with threads := th, regs := b.regs, outlet := b.outlet } b := by
  refine ⟨by rw [hf, h.frame]; rfl, fun q => ?_⟩
  by_cases hq : q = p
  · rw [hq]
    exact (s.lane_setLane_self p x).symm ▸ hx
  · rw [hl q hq]
    exact (s.lane_setLane_ne x hq).symm ▸ h.others q hq

/-- An entry that takes effect (spec/06 R178). -/
theorem State.Ran.acts (hp : p < 256) (e : Entry) : State.OnlyPins
    { s.setLane p { (s.lane p).takeEntry s.ticks with lvl := (s.entryLevel p e).1, oe := (s.entryLevel p e).2 } with
      threads := s.entryThreads p e, regs := a.regs, outlet := a.outlet } (a.applyEntry p e) := by
  have hth : a.threads = s.threads := by rw [h.frame]
  by_cases ha : e.act = 5
  · have hrd : ∀ r : Reg, (r.key < 0x729000 ∨ 0x730000 ≤ r.key ∧ r.key < 0x7a0000) → a.rd r = s.rd r := fun r hk =>
      h.rd r fun q hq => by
        have hout : q.key = 0x729004 ∨ q.key = 0x7a0004 ∨ q.key = 0x7a0020 := by
          revert q
          decide
        omega
    have hwin : ∀ f, a.fld (.weirWin p) f = s.fld (.weirWin p) f :=
      State.fld_of_rd (hrd _ (by simp only [Reg.key]; omega))
    have hacts : a.applyEntry p e = { a with threads := s.entryThreads p e } := by
      rw [State.applyEntry, if_pos ha, State.entryThreads, if_pos ha, hwin, hwin]
      exact State.roleEvt_congr hth (by rw [h.frame]) (fun e he => hrd _ (by simp only [Reg.key]; omega)) _ _ _
    rw [hacts]
    refine State.Ran.onlyPins h (x := _) ?_ (fun _ _ => rfl) rfl
    have hlevel : s.entryLevel p e = ((s.lane p).lvl, (s.lane p).oe) := by rw [State.entryLevel, ha]; rfl
    rw [hlevel]
    exact h.lane
  · have hacts : a.applyEntry p e = a.modLane p fun x => { x with lvl := (s.entryLevel p e).1, oe := (s.entryLevel p e).2 } := by
      obtain ⟨hlvl, hoe⟩ := h.lane.level
      have hv : (a.lane p).lvl = (s.lane p).lvl ∧ (a.lane p).oe = (s.lane p).oe := ⟨hlvl, hoe⟩
      rw [State.applyEntry, if_neg ha, hv.1, hv.2]
      rfl
    rw [hacts, State.entryThreads, if_neg ha]
    refine State.Ran.onlyPins h (b := a.modLane p _) ?_ (fun q hq => a.lane_modLane_ne _ hq) (by rw [← hth]; rfl)
    rw [a.lane_modLane_self]
    exact h.lane.setLevel _

end

section
variable {s : State} {p : Nat} {e : Entry}

/-- The entry has left its core where it is executed. -/
def State.pop (s : State) (p : Nat) (e : Entry) : State :=
  (s.settleTo ((s.effectAt e).getD s.now)).modLane p fun x => x.takeEntry s.ticks

theorem State.ran_pop : s.Ran p (s.pop p e) := State.ran_modLane (s.onlyPins_settleTo _) p

theorem State.regs_pop : (s.pop p e).regs = s.regs := by
  show (s.settleTo _).regs = _
  rw [(s.onlyPins_settleTo _).1]

theorem State.effectAt_congr {u : State} (h : u.ticks = s.ticks) : u.effectAt e = s.effectAt e := by
  simp only [State.effectAt, State.now, h]

theorem State.executeEntry_eq : s.executeEntry p e =
    let b := if e.tick = s.ticks then s.pop p e else (s.pop p e).countLate p
    match s.effectAt e with
    | some _ => b.applyEntry p e
    | none => b.incSat (.laneErr p) F.laneErr.erra := by
  have ht : (s.settleTo ((s.effectAt e).getD s.now)).ticks = s.ticks := by rw [(s.onlyPins_settleTo _).1]
  unfold State.executeEntry
  dsimp only
  rw [State.effectAt_congr ht]
  simp only [State.modLane_frame, ht]
  rfl

/-- The executed entry acts where its tick is the present one, or the one before (spec/06 R183). -/
theorem State.executeEntry_onTime (h : e.tick = s.ticks) : s.executeEntry p e = (s.pop p e).applyEntry p e := by
  have he : s.effectAt e = some e.due := if_pos h
  rw [State.executeEntry_eq, he]
  dsimp only
  rw [if_pos h]

theorem State.executeEntry_late (h : e.tick + 1 = s.ticks) :
    s.executeEntry p e = ((s.pop p e).countLate p).applyEntry p e := by
  have hn : e.tick ≠ s.ticks := by omega
  have he : s.effectAt e = some s.now := by rw [State.effectAt, if_neg hn, if_pos h]
  rw [State.executeEntry_eq, he]
  dsimp only
  rw [if_neg hn]

theorem State.executeEntry_missed (h : e.tick + 1 < s.ticks) :
    s.executeEntry p e = ((s.pop p e).countLate p).incSat (.laneErr p) F.laneErr.erra := by
  have hn : e.tick ≠ s.ticks := by omega
  have he : s.effectAt e = none := by rw [State.effectAt, if_neg hn, if_neg (by omega)]
  rw [State.executeEntry_eq, he]
  dsimp only
  rw [if_neg hn]

/-- What executing an entry leaves: in its own tick, late by one tick, and later (spec/06 R183). -/
theorem State.executes (hp : p < 256) {c : Instr} (hx : exec c s = .next (s.executeEntry p e)) :
    s.Executes c p e (s.entryLevel p e) (s.entryThreads p e) := by
  have hran := s.ran_pop (p := p) (e := e)
  obtain ⟨hlate, hcount, halarm⟩ := hran.countLate s.regs_pop
  refine ⟨fun ht => ⟨_, hx, ?_⟩, fun ht => ⟨_, hx, ?_⟩, fun ht => ⟨_, hx, ?_⟩⟩
  · have h := hran.acts hp e
    have ho : (s.pop p e).outlet = s.outlet := by
      show (s.settleTo _).outlet = _
      rw [(s.onlyPins_settleTo _).1]
    rw [State.executeEntry_onTime ht]
    rw [s.regs_pop, ho] at h
    exact h
  · have h := hlate.acts hp e
    have hregs : (((s.pop p e).countLate p).applyEntry p e).regs = ((s.pop p e).countLate p).regs := by rw [h.1]
    have hout : (((s.pop p e).countLate p).applyEntry p e).outlet = ((s.pop p e).countLate p).outlet := by rw [h.1]
    rw [State.executeEntry_late ht]
    refine ⟨(State.fld_congr hregs _ _).trans hcount, ?_, fun r hr => (State.rd_congr hregs r).trans (hlate.rd r hr), ?_⟩
    · rw [State.Alarmed, hout]
      exact halarm
    · rw [hregs, hout]
      exact h
  · rw [State.executeEntry_missed ht]
    generalize (s.pop p e).countLate p = b at hlate hcount halarm
    have hkey : ∀ q ∈ [Reg.laneSchrej, .outStat, .outCnt], (Reg.laneErr p).key ≠ q.key := fun q hq => by
      have hout : 0x729004 ≤ q.key := by
        revert q
        decide
      simp only [Reg.key] at hout ⊢
      omega
    refine ⟨(b.fld_setFld_ne _ _ _ (hkey _ (by simp)).symm).trans hcount, halarm, ?_, fun r hr => ?_, ?_⟩
    · rw [State.Counts, State.fld_incSat _ _ rfl, State.fld_of_rd (hlate.rd _ hkey)]
    · exact (b.rd_setFld_ne _ _ (hr _ (by simp))).trans (hlate.rd r fun q hq => hr q (by
        simp only [List.mem_cons] at hq ⊢
        tauto))
    · have hth : b.threads = s.threads := by rw [hlate.frame]
      have h := hlate.onlyPins (b := b.incSat (.laneErr p) F.laneErr.erra) (th := s.threads) hlate.lane (fun _ _ => rfl)
        (by rw [← hth]; rfl)
      exact h

theorem State.entryThreads_level (h : e.act ≠ 5) : s.entryThreads p e = s.threads := if_neg h

/-- The command of the action of the core's first entry executes it. -/
theorem exec_runEntry {l : List Entry} (hs : s.Live) (h : s.executable p = e :: l) :
    s.runEntry p e.act = .next (s.executeEntry p e) := by
  unfold State.runEntry
  rw [h]
  exact State.run_next (fun s => s.executeEntry p e) hs.1 hs.2 (by simp)

/-- The command of an action executes the core's first entry, which sets the level and the enable its action names. -/
theorem State.executes_action (hs : s.Live) (hp : p < 256) {l : List Entry} (h : s.executable p = e :: l) {c : Instr} {n : Nat}
    (hc : exec c s = s.runEntry p n) (hn : e.act = n) {v : Bool × Bool} {th : SMap Thread}
    (hv : actOn n e.arg ((s.lane p).lvl, (s.lane p).oe) = v) (ht : s.entryThreads p e = th) : s.Executes c p e v th := by
  subst hn
  have hx := s.executes hp (hc.trans (exec_runEntry hs h))
  rwa [State.entryLevel, hv, ht] at hx

/-- A MARK raises no event while no engine holds the role, or a takeover of it goes on (spec/05 R511). -/
theorem State.entryThreads_lost (ha : e.act = 5) (h : s.takingOver (s.fld (.weirWin p) F.weirWin.role) = true ∨
    s.engineOf (s.fld (.weirWin p) F.weirWin.role) = none) : s.entryThreads p e = s.threads := by
  rw [State.entryThreads, if_pos ha, State.roleEvt]
  split
  · rfl
  · rw [h.resolve_left ‹_›]

theorem State.entryThreads_raised (ha : e.act = 5) {k : Nat} (ht : s.takingOver (s.fld (.weirWin p) F.weirWin.role) = false)
    (hk : s.engineOf (s.fld (.weirWin p) F.weirWin.role) = some k) : s.entryThreads p e =
      (s.modThread k (s.fld (.weirWin p) F.weirWin.thread) fun y =>
        Thread.waitTest { y with evt := y.evt ||| evtBit (10 + e.arg % 2) }).threads := by
  rw [State.entryThreads, if_pos ha, State.roleEvt, ht, hk]
  rfl

end

/-- Settles O33: the dispatcher's end and its one entry, then each action's command. -/
theorem scheduledEntriesTakeEffect : Obligations.ScheduledEntriesTakeEffect := by
  unfold Obligations.ScheduledEntriesTakeEffect
  intro s p hs hp
  refine ⟨answers_entryDispatch_end hs, exec_entryDispatch_idle hs, fun e hr hl hd hn => ?_, fun e l h => ?_⟩
  · refine ⟨_, exec_entryDispatch_one hs hr hl hn, State.lane_dispatchOne hp hd, fun q hq => State.lane_dispatchOne_ne hp hd hq, ?_,
      State.counts_dispatchOne hp hd, State.dispatchOne_clean hp hd⟩
    rw [State.dispatchOne_frame hd]
  · have hact := fun {c n v th} => State.executes_action hs hp h (c := c) (n := n) (v := v) (th := th)
    refine ⟨fun ha => hact rfl ha rfl ?_, fun ha => hact rfl ha rfl ?_, fun ha => hact rfl ha rfl ?_, fun ha => hact rfl ha rfl ?_,
      fun ha => hact rfl ha rfl ?_, fun ha hlost => hact rfl ha rfl (State.entryThreads_lost ha hlost),
      fun k ha ht hk => hact rfl ha rfl (State.entryThreads_raised ha ht hk)⟩
    all_goals exact State.entryThreads_level (by omega)

end Sys2Proof.Machine
end

section
/-! PROOFS. The life-cycle of a lane as its registers hold it, and LANE_CTRL under a writer with every right (spec/06 R161 to
R163; spec/01 R15, R20; spec/16 R439). -/

namespace Sys2Proof.Machine

open Sys2Proof

/-! ### Bits of the lanes' ports -/

/-- One bit of a port takes a level. -/
theorem getLsbD_setBit (x : BitVec 256) {p q : Nat} (hq : q < 256) (v : Bool) :
    (if v then x ||| BitVec.ofNat 256 (2 ^ p) else x &&& ~~~BitVec.ofNat 256 (2 ^ p)).getLsbD q =
      if q = p then v else x.getLsbD q := by
  have hb : (BitVec.ofNat 256 (2 ^ p)).getLsbD q = decide (q = p) := by
    rw [BitVec.getLsbD_ofNat, Nat.testBit_two_pow, decide_eq_true hq, Bool.true_and]
    exact decide_eq_decide.2 eq_comm
  cases v with
  | true =>
    rw [if_pos rfl, BitVec.getLsbD_or, hb]
    split <;> simp [*]
  | false =>
    rw [if_neg (by simp), BitVec.getLsbD_and, BitVec.getLsbD_not, hb]
    split <;> simp [*]

theorem answers_laneSafeChange {s : State} {p : Nat} (lvl : Bool) (hs : s.Live) (hp : p < 256) :
    Answers (.laneSafeChange p lvl) s fun t => ({ s with ports := t.ports } : State).OnlyPins t ∧
      t.ports = { s.ports with laneSafe := t.ports.laneSafe } ∧
      ∀ q, q < 256 → t.ports.laneSafe.getLsbD q = if q = p then lvl else s.ports.laneSafe.getLsbD q := by
  let ports : Ports := { s.ports with laneSafe := if lvl then s.ports.laneSafe ||| BitVec.ofNat 256 (2 ^ p)
                                                  else s.ports.laneSafe &&& ~~~BitVec.ofNat 256 (2 ^ p) }
  let v := s.setPorts ports
  have hports : v.settle.ports = ports := by simp [v]
  refine Answers.of_run (g := decide (p < 256)) (f := fun _ => v.settle) rfl hs (decide_eq_true hp) ?_
  rw [hports]
  exact ⟨v.follows_settle.onlyPins, rfl, fun q hq => getLsbD_setBit _ hq lvl⟩

/-! ### The life-cycle -/

theorem laneStat_key_ne (p : Nat) : (Reg.laneStat p).key ≠ (Reg.laneCtrl p).key := by simp only [Reg.key]; omega

theorem State.laneLife_fits (s : State) (p : Nat) : (s.laneLife p).Fits := s.life_fits _ _ rfl

theorem State.laneLife_setLaneLife (s : State) {p : Nat} {l : Life} (hl : l.Fits) : (s.setLaneLife p l).laneLife p = l :=
  s.life_setLife (laneStat_key_ne p) rfl rfl hl

theorem State.onlyRegs_setLaneLife (s : State) (p : Nat) (l : Life) : s.OnlyRegs [.laneStat p, .laneCtrl p] (s.setLaneLife p l) :=
  s.onlyRegs_setLife (by simp) (by simp) _ l

theorem State.laneLife_of_rd {s t : State} {p : Nat} (hs : t.rd (.laneStat p) = s.rd (.laneStat p))
    (hc : t.rd (.laneCtrl p) = s.rd (.laneCtrl p)) : t.laneLife p = s.laneLife p := by
  simp only [State.laneLife, State.fld, hs, hc]

@[simp] theorem State.laneLife_settle (s : State) (p : Nat) : s.settle.laneLife p = s.laneLife p :=
  State.laneLife_of_rd (s.rd_settle _) (s.rd_settle _)

/-- The fields of LANE_CTRL beside EN stay. -/
theorem State.fld_setLaneLife (s : State) (p : Nat) (l : Life) {f : Fld} (hf : f.ok = true) (ha : F.laneCtrl.en.apart f = true) :
    (s.setLaneLife p l).fld (.laneCtrl p) f = s.fld (.laneCtrl p) f :=
  s.fld_setLife_ctrl l (laneStat_key_ne p) rfl hf ha

theorem State.mode_setLaneLife (s : State) (p : Nat) (l : Life) : (s.setLaneLife p l).mode p = s.mode p :=
  s.fld_setLaneLife p l rfl rfl

theorem State.moveLane_stays {s : State} {p : Nat} {l : Life} (h : (s.laneLife p).st = l.st) :
    s.moveLane p l = (s.setLaneLife p l).settle := by
  rw [State.moveLane, if_pos h]

theorem State.moveLane_enters {s : State} {p : Nat} {l : Life} (h : (s.laneLife p).st ≠ l.st) :
    s.moveLane p l = ((s.setLaneLife p l).laneEntered p l).settle := by
  rw [State.moveLane, if_neg h]

/-! ### Fields that a write leaves -/

/-- A field written with its own value leaves the register. -/
theorem Fld.put_get {f : Fld} (h : f.ok = true) (x : BitVec 32) : f.put x (f.get x) = x := by
  refine BitVec.eq_of_getLsbD_eq fun i _ => ?_
  rw [Fld.put_getLsbD h, Fld.get_testBit]
  split
  · rename_i hi
    have hw : i - f.lo < f.width := by simp only [Fld.width]; omega
    rw [decide_eq_true hw, Bool.true_and, Nat.add_sub_cancel' hi.1]
  · rfl

theorem State.rd_setFld_same (s : State) {r : Reg} {f : Fld} (hf : f.ok = true) {v : Nat} (h : v = s.fld r f) :
    (s.setFld r f v).rd r = s.rd r := by
  rw [State.setFld, State.rd_wr_self, h]
  exact Fld.put_get hf _

section
variable {s : State} {w : Who} {d : BitVec 32} (hw : s.rights w = .secure)
include hw

/-- A plain field takes a whole write. -/
theorem State.take_whole_rw {k : Nat} (r : Reg) {f : Fld} (hf : f.mask ≠ 0) (ha : f.acc = .rw) :
    s.take ⟨w, k, d, whole⟩ r f = s.setFld r f (f.get d) := by
  have hm : s.may ⟨w, k, d, whole⟩ r f = true := State.may_of_secure hw r f
  simp [State.take, hm, Wr.any_whole w k d hf, ha, Wr.val_whole]

/-- A whole write would change a field where it names another value. -/
theorem State.changes_whole {k : Nat} (r : Reg) {f : Fld} (hf : f.mask ≠ 0) :
    s.changes ⟨w, k, d, whole⟩ r f = (f.get d != s.fld r f) := by
  have hm : s.may ⟨w, k, d, whole⟩ r f = true := State.may_of_secure hw r f
  simp [State.changes, hm, Wr.any_whole w k d hf, Wr.val_whole]

/-- A write that names the domain a lane is in leaves it there (spec/01 R15). -/
theorem State.takeDomain_kept {k p : Nat} (hv : F.laneCtrl.domv.get d = s.fld (.laneCtrl p) F.laneCtrl.domv)
    (hd : F.laneCtrl.dom.get d = s.fld (.laneCtrl p) F.laneCtrl.dom) :
    ∃ y, s.takeDomain ⟨w, k, d, whole⟩ (.laneCtrl p) F.laneCtrl.domv F.laneCtrl.dom = (y, false) ∧
      s.OnlyRegs [.laneCtrl p] y ∧ y.rd (.laneCtrl p) = s.rd (.laneCtrl p) := by
  let a := s.setFld (.laneCtrl p) F.laneCtrl.domv (F.laneCtrl.domv.get d)
  let y := a.setFld (.laneCtrl p) F.laneCtrl.dom (F.laneCtrl.dom.get d)
  have ha : a.rd (.laneCtrl p) = s.rd (.laneCtrl p) := s.rd_setFld_same rfl hv
  have hy : y.rd (.laneCtrl p) = s.rd (.laneCtrl p) := (a.rd_setFld_same rfl (hd.trans (State.fld_of_rd ha _).symm)).trans ha
  refine ⟨y, ?_, (s.onlyRegs_setFld (by simp) _ _).trans (a.onlyRegs_setFld (by simp) _ _), hy⟩
  have ht : (s.take ⟨w, k, d, whole⟩ (.laneCtrl p) F.laneCtrl.domv).take ⟨w, k, d, whole⟩ (.laneCtrl p) F.laneCtrl.dom = y := by
    rw [State.take_whole hw _ (by decide) rfl]
    exact State.take_whole (s := a) hw _ (by decide) rfl
  simp only [State.takeDomain, ht, State.bit, State.fld, hy, true_and, or_true, if_true]

end

/-! ### LANE_CTRL -/

/-- What LANE_CTRL makes of an OFF lane's MODE and QUOTA, and of TOTAL (spec/06 R161, R180). -/
def State.ctrlTaken (a : State) (p : Nat) (d : BitVec 32) (total : Nat) : State :=
  let c := (a.setFld (.laneCtrl p) F.laneCtrl.mode (F.laneCtrl.mode.get d)).setFld (.laneCtrl p) F.laneCtrl.quota
    (F.laneCtrl.quota.get d)
  if F.laneCtrl.quota.get d != a.fld (.laneCtrl p) F.laneCtrl.quota then c.setFld .laneSchquota F.laneSchquota.total total else c

section
variable (a : State) (p : Nat) (d : BitVec 32) (total : Nat)

theorem laneSchquota_key_ne (p : Nat) : Reg.laneSchquota.key ≠ (Reg.laneCtrl p).key := by simp only [Reg.key]; omega

theorem State.onlyRegs_ctrlTaken : a.OnlyRegs [.laneCtrl p, .laneSchquota] (a.ctrlTaken p d total) := by
  unfold State.ctrlTaken
  dsimp only
  split
  · exact ((a.onlyRegs_setFld (by simp) _ _).trans (State.onlyRegs_setFld _ (by simp) _ _)).trans
      (State.onlyRegs_setFld _ (by simp) _ _)
  · exact (a.onlyRegs_setFld (by simp) _ _).trans (State.onlyRegs_setFld _ (by simp) _ _)

theorem State.onlyRegs_ctrlTaken_same (h : F.laneCtrl.quota.get d = a.fld (.laneCtrl p) F.laneCtrl.quota) :
    a.OnlyRegs [.laneCtrl p] (a.ctrlTaken p d total) := by
  rw [State.ctrlTaken, if_neg (by simp [h])]
  exact (a.onlyRegs_setFld (by simp) _ _).trans (State.onlyRegs_setFld _ (by simp) _ _)

theorem State.rd_ctrlTaken : (a.ctrlTaken p d total).rd (.laneCtrl p) =
    ((a.setFld (.laneCtrl p) F.laneCtrl.mode (F.laneCtrl.mode.get d)).setFld (.laneCtrl p) F.laneCtrl.quota
      (F.laneCtrl.quota.get d)).rd (.laneCtrl p) := by
  unfold State.ctrlTaken
  dsimp only
  split
  · exact State.rd_setFld_ne _ _ _ (laneSchquota_key_ne p).symm
  · rfl

theorem State.quota_ctrlTaken : (a.ctrlTaken p d total).fld (.laneCtrl p) F.laneCtrl.quota = F.laneCtrl.quota.get d :=
  (State.fld_of_rd (a.rd_ctrlTaken p d total) _).trans
    ((State.fld_setFld_self _ _ rfl _).trans (Nat.mod_eq_of_lt (Fld.get_lt _ _)))

theorem State.mode_ctrlTaken : (a.ctrlTaken p d total).mode p = F.laneCtrl.mode.get d :=
  (State.fld_of_rd (a.rd_ctrlTaken p d total) _).trans ((State.fld_setFld_apart _ _ rfl rfl rfl _).trans
    ((State.fld_setFld_self _ _ rfl _).trans (Nat.mod_eq_of_lt (Fld.get_lt _ _))))

theorem State.en_ctrlTaken : (a.ctrlTaken p d total).fld (.laneCtrl p) F.laneCtrl.en = a.fld (.laneCtrl p) F.laneCtrl.en :=
  (State.fld_of_rd (a.rd_ctrlTaken p d total) _).trans ((State.fld_setFld_apart _ _ rfl rfl rfl _).trans
    (a.fld_setFld_apart _ rfl rfl rfl _))

theorem State.total_ctrlTaken (hle : total ≤ 65536)
    (ht : F.laneCtrl.quota.get d = a.fld (.laneCtrl p) F.laneCtrl.quota → a.fld .laneSchquota F.laneSchquota.total = total) :
    (a.ctrlTaken p d total).fld .laneSchquota F.laneSchquota.total = total := by
  by_cases hq : F.laneCtrl.quota.get d = a.fld (.laneCtrl p) F.laneCtrl.quota
  · exact (State.fld_of_rd ((a.onlyRegs_ctrlTaken_same p d total hq).2 _ (by simpa using laneSchquota_key_ne p)) _).trans (ht hq)
  · rw [State.ctrlTaken, if_pos (by simpa using hq), State.fld_setFld_self _ _ rfl]
    exact Nat.mod_eq_of_lt (by simp only [Fld.width, F.laneSchquota.total]; omega)

end

/-- LANE_CTRL of an OFF lane once its domain is taken: MODE, QUOTA and TOTAL, then EN. -/
theorem writeLaneCtrl_eq {s a : State} {w : Who} {p k total : Nat} {d : BitVec 32} (hwin : s.laneWindow p = true) (hn : s.shore.swap = none)
    (hst : s.fld (.laneStat p) F.laneStat.state = 0)
    (hta : s.takeDomain ⟨w, k, d, whole⟩ (.laneCtrl p) F.laneCtrl.domv F.laneCtrl.dom = (a, false)) (haw : a.rights w = .secure)
    (ht : total = a.fld .laneSchquota F.laneSchquota.total + F.laneCtrl.quota.get d - a.fld (.laneCtrl p) F.laneCtrl.quota)
    (hle : total ≤ 65536) : writeLaneCtrl s ⟨w, k, d, whole⟩ p =
      let y := a.ctrlTaken p d total
      (if p < 256 then y.moveLane p ((y.laneLife p).request (F.laneCtrl.en.get d)) else y, false) := by
  let b := a.setFld (.laneCtrl p) F.laneCtrl.mode (F.laneCtrl.mode.get d)
  have hbq : b.fld (.laneCtrl p) F.laneCtrl.quota = a.fld (.laneCtrl p) F.laneCtrl.quota := a.fld_setFld_apart _ rfl rfl rfl _
  have hbt : b.fld .laneSchquota F.laneSchquota.total = a.fld .laneSchquota F.laneSchquota.total :=
    State.fld_of_rd (a.rd_setFld_ne _ _ (laneSchquota_key_ne p)) _
  have hbw : b.rights w = .secure := (State.rights_congr rfl w).trans haw
  have hoff : ((s.laneLife p).st == 0 && !s.swapStop p) = true := by simp [State.laneLife, hst, State.swapStop, hn]
  have hchg : b.changes ⟨w, k, d, whole⟩ (.laneCtrl p) F.laneCtrl.quota =
      (F.laneCtrl.quota.get d != a.fld (.laneCtrl p) F.laneCtrl.quota) := by
    rw [State.changes_whole hbw _ (by decide), hbq]
  have hmode : a.take ⟨w, k, d, whole⟩ (.laneCtrl p) F.laneCtrl.mode = b := State.take_whole_rw haw _ (by decide) rfl
  have hquota : b.take ⟨w, k, d, whole⟩ (.laneCtrl p) F.laneCtrl.quota = _ := State.take_whole hbw _ (by decide) rfl
  have hany : (⟨w, k, d, whole⟩ : Wr).any F.laneCtrl.en = true := Wr.any_whole w k d (by decide)
  simp only [writeLaneCtrl, hwin, hoff, hta, State.takeIf, hmode, hquota, hchg, hbt, hbq, Wr.val_whole, Wr.bits_whole, ← ht, hle,
    hany, if_true, decide_true, Bool.true_and, Bool.and_true, Bool.not_true, Bool.false_eq_true, if_false, decide_eq_true_eq]
  rfl

section
variable {s : State} {w : Who} {p : Nat} {d : BitVec 32} (hw : s.rights w = .secure) (hwin : s.laneWindow p = true)
  (hv : F.laneCtrl.domv.get d = s.fld (.laneCtrl p) F.laneCtrl.domv)
  (hd : F.laneCtrl.dom.get d = s.fld (.laneCtrl p) F.laneCtrl.dom)
include hw hwin hv hd

/-- LANE_CTRL takes MODE and QUOTA of an OFF lane, and TOTAL follows; then its EN (spec/06 R161, R162, R180). -/
theorem writeLaneCtrl_off {k total : Nat} (hn : s.shore.swap = none) (hst : s.fld (.laneStat p) F.laneStat.state = 0)
    (ht : total = s.fld .laneSchquota F.laneSchquota.total + F.laneCtrl.quota.get d - s.fld (.laneCtrl p) F.laneCtrl.quota)
    (hle : total ≤ 65536) : ∃ y, writeLaneCtrl s ⟨w, k, d, whole⟩ p =
        (if p < 256 then y.moveLane p ((y.laneLife p).request (F.laneCtrl.en.get d)) else y, false) ∧
      s.OnlyRegs [.laneCtrl p, .laneSchquota] y ∧
      (F.laneCtrl.quota.get d = s.fld (.laneCtrl p) F.laneCtrl.quota → s.OnlyRegs [.laneCtrl p] y) ∧
      y.mode p = F.laneCtrl.mode.get d ∧ y.fld (.laneCtrl p) F.laneCtrl.quota = F.laneCtrl.quota.get d ∧
      y.fld (.laneCtrl p) F.laneCtrl.en = s.fld (.laneCtrl p) F.laneCtrl.en ∧ y.fld .laneSchquota F.laneSchquota.total = total := by
  obtain ⟨a, hta, ha, hra⟩ := State.takeDomain_kept (k := k) hw hv hd
  have haw : a.rights w = .secure := (State.rights_congr (by rw [ha.1]) w).trans hw
  have haq : a.fld (.laneCtrl p) F.laneCtrl.quota = s.fld (.laneCtrl p) F.laneCtrl.quota := State.fld_of_rd hra _
  have hat : a.fld .laneSchquota F.laneSchquota.total = s.fld .laneSchquota F.laneSchquota.total :=
    State.fld_of_rd (ha.2 _ (by simpa using laneSchquota_key_ne p)) _
  refine ⟨a.ctrlTaken p d total, writeLaneCtrl_eq hwin hn hst hta haw (by rw [haq, hat]; exact ht) hle,
    (ha.mono (by simp)).trans (a.onlyRegs_ctrlTaken p d total),
    fun hq => ha.trans (a.onlyRegs_ctrlTaken_same p d total (hq.trans haq.symm)), a.mode_ctrlTaken p d total,
    a.quota_ctrlTaken p d total, (a.en_ctrlTaken p d total).trans (State.fld_of_rd hra _), a.total_ctrlTaken p d total hle fun hq => ?_⟩
  rw [hat, ht, hq, haq, Nat.add_sub_cancel]

/-- A lane that is not OFF takes EN alone of a LANE_CTRL that names its MODE and QUOTA (spec/06 R161). -/
theorem writeLaneCtrl_kept {k : Nat} (hp : p < 256) (hst : s.fld (.laneStat p) F.laneStat.state ≠ 0)
    (hm : F.laneCtrl.mode.get d = s.mode p) (hq : F.laneCtrl.quota.get d = s.fld (.laneCtrl p) F.laneCtrl.quota) :
    ∃ y, writeLaneCtrl s ⟨w, k, d, whole⟩ p = (y.moveLane p ((s.laneLife p).request (F.laneCtrl.en.get d)), false) ∧
      s.OnlyRegs [.laneCtrl p] y ∧ y.rd (.laneCtrl p) = s.rd (.laneCtrl p) := by
  obtain ⟨a, hta, ha, hra⟩ := State.takeDomain_kept (k := k) hw hv hd
  have haw : a.rights w = .secure := (State.rights_congr (by rw [ha.1]) w).trans hw
  have hoff : ((s.laneLife p).st == 0 && !s.swapStop p) = false := by simp [State.laneLife, hst]
  have hmode : a.changes ⟨w, k, d, whole⟩ (.laneCtrl p) F.laneCtrl.mode = false := by
    rw [State.changes_whole haw _ (by decide), State.fld_of_rd hra]
    exact bne_eq_false_iff_eq.2 hm
  have hquota : a.changes ⟨w, k, d, whole⟩ (.laneCtrl p) F.laneCtrl.quota = false := by
    rw [State.changes_whole haw _ (by decide), State.fld_of_rd hra]
    exact bne_eq_false_iff_eq.2 hq
  have hlife : a.laneLife p = s.laneLife p :=
    State.laneLife_of_rd (ha.2 _ (by simpa using laneStat_key_ne p)) hra
  have hany : (⟨w, k, d, whole⟩ : Wr).any F.laneCtrl.en = true := Wr.any_whole w k d (by decide)
  refine ⟨a, ?_, ha, hra⟩
  simp [writeLaneCtrl, hwin, hoff, hta, State.takeIf, hmode, hquota, Wr.bits_whole, hany, hp, hlife]

end

end Sys2Proof.Machine
end

section
/-! PROOFS. Lanes asked to start and to stop by LANE_CTRL, and the ends of their starts and stops (spec/06 R161 to R163,
R184; spec/01 R7, R20). -/

namespace Sys2Proof.Machine

open Sys2Proof

/-! ### Lanes that move -/

theorem State.lane_setLane_lane (s : State) (p q : Nat) : (s.setLane p (s.lane p)).lane q = s.lane q := by
  by_cases hq : q = p
  · rw [hq, s.lane_setLane_self]
  · exact s.lane_setLane_ne _ hq

/-- Pins that settle over a lane written with what it holds. -/
theorem State.onlyPins_setLane_lane {s t : State} {p : Nat} : (s.setLane p (s.lane p)).OnlyPins t ↔ s.OnlyPins t := by
  refine ⟨fun h => ⟨h.1, fun q => ?_⟩, fun h => ⟨h.1, fun q => ?_⟩⟩
  · have hq := h.lane q
    rw [s.lane_setLane_lane] at hq
    exact hq
  · rw [s.lane_setLane_lane]
    exact h.lane q

/-- Lane `p` has moved to `l` from `y`, and holds `x` where it held what it does in `s`; the pins have settled. -/
structure State.LaneMoved (s y : State) (p : Nat) (l : Life) (x : Lane) (t : State) : Prop where
  rd   : ∀ q, t.rd q = (y.setLaneLife p l).rd q
  pins : State.OnlyPins { s.setLane p x with regs := t.regs } t

section
variable {s y t : State} {p : Nat} {l : Life} {x : Lane}

theorem State.LaneMoved.life (h : s.LaneMoved y p l x t) (hl : l.Fits) : t.laneLife p = l :=
  (State.laneLife_of_rd (h.rd _) (h.rd _)).trans (y.laneLife_setLaneLife hl)

theorem State.LaneMoved.regsBut {r : List Reg} (h : s.LaneMoved y p l x t) (hy : s.OnlyRegs r y) (hs : .laneStat p ∈ r)
    (hc : .laneCtrl p ∈ r) : s.RegsBut r t := fun q hq =>
  (h.rd q).trans ((hy.trans ((y.onlyRegs_setLaneLife p l).mono (by simp [hs, hc]))).2 q hq)

theorem State.LaneMoved.fld_ctrl (h : s.LaneMoved y p l x t) {f : Fld} (hf : f.ok = true) (ha : F.laneCtrl.en.apart f = true) :
    t.fld (.laneCtrl p) f = y.fld (.laneCtrl p) f :=
  (State.fld_of_rd (h.rd _) f).trans (y.fld_setLaneLife p l hf ha)

theorem State.LaneMoved.fld_ne (h : s.LaneMoved y p l x t) {r : Reg} (hs : r.key ≠ (Reg.laneStat p).key)
    (hc : r.key ≠ (Reg.laneCtrl p).key) (f : Fld) : t.fld r f = y.fld r f :=
  (State.fld_of_rd (h.rd _) f).trans (State.fld_of_rd ((y.onlyRegs_setLaneLife p l).2 _ (by simp [hs, hc])) f)

variable {r : List Reg} (hy : s.OnlyRegs r y) (hs : .laneStat p ∈ r) (hc : .laneCtrl p ∈ r)
include hy hs hc

/-- A lane whose state stays takes the request alone. -/
theorem State.laneMoved_stays (hst : (y.laneLife p).st = l.st) : s.LaneMoved y p l (s.lane p) (y.moveLane p l) := by
  have hv : s.OnlyRegs r (y.setLaneLife p l) := hy.trans ((y.onlyRegs_setLaneLife p l).mono (by simp [hs, hc]))
  rw [State.moveLane_stays hst]
  exact ⟨fun q => State.rd_settle _ q, State.onlyPins_setLane_lane.2 hv.onlyPins_settle⟩

/-- A lane whose state changes takes what the new state makes of it. -/
theorem State.laneMoved_enters (hst : (y.laneLife p).st ≠ l.st)
    (hx : ∀ v, s.OnlyRegs r v → v.mode p = y.mode p → v.laneEntered p l = v.setLane p x) :
    s.LaneMoved y p l x (y.moveLane p l) := by
  have hv : s.OnlyRegs r (y.setLaneLife p l) := hy.trans ((y.onlyRegs_setLaneLife p l).mono (by simp [hs, hc]))
  rw [State.moveLane_enters hst, hx _ hv (y.mode_setLaneLife p l)]
  refine ⟨fun q => State.rd_settle _ q, State.onlyPins_settle_regs ?_⟩
  generalize y.setLaneLife p l = v at hv
  rw [hv.1]
  rfl

end

/-- What a lane of mode `m` holds that enters STARTING (spec/06 R170). -/
def State.startingLane (s : State) (p m : Nat) : Lane :=
  { s.lane p with since := s.ticks, capture := if m = modeCapture then [] else (s.lane p).capture }

/-- What a lane holds that enters STOPPING (spec/06 R163, R184). -/
def State.stoppingLane (s : State) (p : Nat) : Lane := { s.lane p with queue := [], core := [], since := s.wordEnd p }

theorem State.laneEntered_start {v : State} {p : Nat} {l : Life} (h : l.st = 1) :
    v.laneEntered p l = v.setLane p (v.startingLane p (v.mode p)) := by
  rw [State.laneEntered, h]
  rfl

theorem State.laneEntered_stop {v : State} {p : Nat} {l : Life} (h : l.st = 3) :
    v.laneEntered p l = v.setLane p (v.stoppingLane p) := by
  rw [State.laneEntered, h]
  exact v.modLane_modLane p _ _

theorem State.startingLane_congr {s v : State} {p m : Nat} (hl : v.lanes = s.lanes) (hk : v.ticks = s.ticks) :
    v.startingLane p m = s.startingLane p m := by
  simp only [State.startingLane, State.lane_congr hl, hk]

theorem en_get (d : BitVec 32) : F.laneCtrl.en.get d = 0 ∨ F.laneCtrl.en.get d = 1 := by
  have h : F.laneCtrl.en.get d < 2 := Fld.get_lt _ _
  omega

/-- The end of a word is read from the lane's registers, its word in progress and the tick. -/
theorem State.wordEnd_congr {s t : State} {p : Nat} (hm : t.mode p = s.mode p) (hs : (t.lane p).started = (s.lane p).started)
    (ht : (t.lane p).txStart = (s.lane p).txStart) (hk : t.ticks = s.ticks) (hb : t.bitPeriod p = s.bitPeriod p) :
    t.wordEnd p = s.wordEnd p := by
  simp only [State.wordEnd, hm, hs, ht, hk, hb]

/-! ### LANE_CTRL -/

section
variable {s : State} {w : Who} {p : Nat} {d : BitVec 32} (hw : s.Writer w)
  (hv : F.laneCtrl.domv.get d = s.fld (.laneCtrl p) F.laneCtrl.domv)
  (hd : F.laneCtrl.dom.get d = s.fld (.laneCtrl p) F.laneCtrl.dom)
include hw

theorem takes_laneEnWrite {t : State} {P : State → Prop} (hq : p < 264)
    (h : writeLaneCtrl s ⟨w, (Reg.laneCtrl p).key, d, whole⟩ p = (t, false)) (hP : P t) :
    s.Takes (.laneEnWrite w p d whole) w (.laneCtrl p) d false P :=
  State.Takes.of_rule (g := decide (p < 264)) hw rfl (decide_eq_true hq) (fun y => s.performWrite_laneCtrl hq w d y) h hP

include hv hd

theorem takes_laneEnWrite_off {total : Nat} (hp : p < 256) (hn : s.shore.swap = none)
    (hst : s.fld (.laneStat p) F.laneStat.state = 0)
    (ht : total = s.fld .laneSchquota F.laneSchquota.total + F.laneCtrl.quota.get d - s.fld (.laneCtrl p) F.laneCtrl.quota)
    (hle : total ≤ 65536) : s.Takes (.laneEnWrite w p d whole) w (.laneCtrl p) d false fun t =>
      t.fld (.laneStat p) F.laneStat.state = F.laneCtrl.en.get d ∧ t.fld (.laneCtrl p) F.laneCtrl.en = F.laneCtrl.en.get d ∧
      t.mode p = F.laneCtrl.mode.get d ∧ t.fld (.laneCtrl p) F.laneCtrl.quota = F.laneCtrl.quota.get d ∧
      t.fld .laneSchquota F.laneSchquota.total = total ∧ s.RegsBut [.laneStat p, .laneCtrl p, .laneSchquota] t ∧
      State.OnlyPins { s.setLane p (if F.laneCtrl.en.get d = 0 then s.lane p else s.startingLane p (F.laneCtrl.mode.get d)) with regs := t.regs } t := by
  have hwin : s.laneWindow p = true := by simp [State.laneWindow, hp]
  obtain ⟨y, hwr, hr, -, hm, hq, he, htot⟩ := writeLaneCtrl_off (k := (Reg.laneCtrl p).key) hw.2.1 hwin hv hd hn hst ht hle
  rw [if_pos hp] at hwr
  have hr' := hr.mono (l' := [.laneStat p, .laneCtrl p, .laneSchquota]) (by simp)
  have hkey : (Reg.laneStat p).key ≠ Reg.laneSchquota.key := by simp only [Reg.key]; omega
  have hkey' : (Reg.laneCtrl p).key ≠ Reg.laneSchquota.key := by simp only [Reg.key]; omega
  have hst' : (y.laneLife p).st = 0 :=
    (State.fld_of_rd (hr.2 _ (by simpa using ⟨laneStat_key_ne p, hkey⟩)) _).trans hst
  have hlf := (y.laneLife_fits p).request (Fld.get_lt F.laneCtrl.en d)
  suffices h : ((y.laneLife p).request (F.laneCtrl.en.get d)).st = F.laneCtrl.en.get d ∧
      ((y.laneLife p).request (F.laneCtrl.en.get d)).en = F.laneCtrl.en.get d ∧ s.LaneMoved y p _ (if F.laneCtrl.en.get d = 0 then
        s.lane p else s.startingLane p (F.laneCtrl.mode.get d)) (y.moveLane p ((y.laneLife p).request (F.laneCtrl.en.get d))) by
    obtain ⟨hls, hle', hmv⟩ := h
    have hlife := hmv.life hlf
    exact takes_laneEnWrite hw (by omega) hwr ⟨(congrArg Life.st hlife).trans hls, (congrArg Life.en hlife).trans hle',
      (hmv.fld_ctrl rfl rfl).trans hm, (hmv.fld_ctrl rfl rfl).trans hq, (hmv.fld_ne hkey.symm hkey'.symm _).trans htot,
      hmv.regsBut hr' (by simp) (by simp), hmv.pins⟩
  obtain h | h := en_get d
  · have hl : (y.laneLife p).request 0 = { y.laneLife p with en := 0 } := by simp [Life.request, hst']
    rw [h, hl, if_pos rfl]
    exact ⟨hst', rfl, State.laneMoved_stays hr' (by simp) (by simp) rfl⟩
  · have hl : (y.laneLife p).request 1 = { y.laneLife p with st := 1, en := 1 } := by simp [Life.request, hst']
    rw [h, hl, if_neg Nat.one_ne_zero]
    refine ⟨rfl, rfl, State.laneMoved_enters hr' (by simp) (by simp) (by simp [hst']) fun v hv hvm => ?_⟩
    have hlanes : v.lanes = s.lanes := by rw [hv.1]
    have hticks : v.ticks = s.ticks := by rw [hv.1]
    rw [State.laneEntered_start rfl, hvm, hm, State.startingLane_congr hlanes hticks]

/-- A core that serves no pin takes MODE and QUOTA, and no EN (spec/06 R160). -/
theorem takes_laneEnWrite_spare (hp : 256 ≤ p) (hp' : p < 264) (hwin : s.laneWindow p = true)
    (hst : s.fld (.laneStat p) F.laneStat.state = 0) (hn : s.shore.swap = none)
    (hq : F.laneCtrl.quota.get d = s.fld (.laneCtrl p) F.laneCtrl.quota)
    (hle : s.fld .laneSchquota F.laneSchquota.total ≤ 65536) :
    s.Takes (.laneEnWrite w p d whole) w (.laneCtrl p) d false fun t => t.mode p = F.laneCtrl.mode.get d ∧
      t.fld (.laneCtrl p) F.laneCtrl.en = s.fld (.laneCtrl p) F.laneCtrl.en ∧ s.OnlyRegs [.laneCtrl p] t := by
  obtain ⟨y, hwr, -, hr, hm, -, he, -⟩ := writeLaneCtrl_off (k := (Reg.laneCtrl p).key) hw.2.1 hwin hv hd hn hst rfl
    (by rw [hq, Nat.add_sub_cancel]; exact hle)
  rw [if_neg (by omega)] at hwr
  exact takes_laneEnWrite hw hp' hwr ⟨hm, he, hr hq⟩

variable (hm : F.laneCtrl.mode.get d = s.mode p) (hq : F.laneCtrl.quota.get d = s.fld (.laneCtrl p) F.laneCtrl.quota)
  (hp : p < 256)
include hm hq hp

theorem takes_laneEnWrite_on (hst : s.fld (.laneStat p) F.laneStat.state = 2) (hen : F.laneCtrl.en.get d = 0) :
    s.Takes (.laneEnWrite w p d whole) w (.laneCtrl p) d false fun t =>
      t.fld (.laneStat p) F.laneStat.state = 3 ∧ t.fld (.laneCtrl p) F.laneCtrl.en = 0 ∧ t.mode p = s.mode p ∧
      s.RegsBut [.laneStat p, .laneCtrl p] t ∧ State.OnlyPins { s.setLane p (s.stoppingLane p) with regs := t.regs } t := by
  have hwin : s.laneWindow p = true := by simp [State.laneWindow, hp]
  obtain ⟨y, hwr, hr, hrd⟩ := writeLaneCtrl_kept (k := (Reg.laneCtrl p).key) hw.2.1 hwin hv hd hp (by omega) hm hq
  have hr' := hr.mono (l' := [.laneStat p, .laneCtrl p]) (by simp)
  have hys : y.rd (.laneStat p) = s.rd (.laneStat p) := hr.2 _ (by simpa using laneStat_key_ne p)
  have hst' : (s.laneLife p).st = 2 := hst
  have hl : (s.laneLife p).request (F.laneCtrl.en.get d) = { s.laneLife p with st := 3, en := 0 } := by
    simp [Life.request, hst', hen]
  rw [hl] at hwr
  have hfit : ({ s.laneLife p with st := 3, en := 0 } : Life).Fits := hl ▸ (s.laneLife_fits p).request (Fld.get_lt F.laneCtrl.en d)
  have hmv : s.LaneMoved y p { s.laneLife p with st := 3, en := 0 } (s.stoppingLane p) _ :=
    State.laneMoved_enters hr' (by simp) (by simp) (by simp [State.laneLife_of_rd hys hrd, hst']) fun v hv hvm => by
      have hlane : v.lane p = s.lane p := State.lane_congr (by rw [hv.1]) p
      have hticks : v.ticks = s.ticks := by rw [hv.1]
      have hm0 : v.bitPeriod p = s.bitPeriod p := by
        simp only [State.bitPeriod, State.fld_of_rd (hv.2 (.streamM0 p) (by simp [Reg.key]; omega))]
      have hend := State.wordEnd_congr (hvm.trans (State.fld_of_rd hrd F.laneCtrl.mode)) (by rw [hlane]) (by rw [hlane]) hticks hm0
      rw [State.laneEntered_stop rfl, State.stoppingLane, hlane, hend, State.stoppingLane]
  exact takes_laneEnWrite hw (by omega) hwr ⟨congrArg Life.st (hmv.life hfit), congrArg Life.en (hmv.life hfit),
    (hmv.fld_ctrl rfl rfl).trans (State.fld_of_rd hrd _), hmv.regsBut hr' (by simp) (by simp), hmv.pins⟩

/-- A lane between two states latches the request (spec/01 R20). -/
theorem takes_laneEnWrite_between {st : Nat} (hm13 : st ∈ [1, 3]) (hst : s.fld (.laneStat p) F.laneStat.state = st) :
    s.Takes (.laneEnWrite w p d whole) w (.laneCtrl p) d false fun t =>
      t.laneLife p = ⟨st, if (st = 1 ∧ F.laneCtrl.en.get d = 0) ∨ (st = 3 ∧ F.laneCtrl.en.get d = 1) then 1 else 0,
        F.laneCtrl.en.get d⟩ ∧
      s.RegsBut [.laneStat p, .laneCtrl p] t ∧ State.OnlyPins { s with regs := t.regs } t := by
  have hst0 : st = 1 ∨ st = 3 := by simpa using hm13
  have hwin : s.laneWindow p = true := by simp [State.laneWindow, hp]
  obtain ⟨y, hwr, hr, hrd⟩ := writeLaneCtrl_kept (k := (Reg.laneCtrl p).key) hw.2.1 hwin hv hd hp (by omega) hm hq
  have hr' := hr.mono (l' := [.laneStat p, .laneCtrl p]) (by simp)
  have hys : y.rd (.laneStat p) = s.rd (.laneStat p) := hr.2 _ (by simpa using laneStat_key_ne p)
  have hst' : (s.laneLife p).st = st := hst
  have hl : (s.laneLife p).request (F.laneCtrl.en.get d) = ⟨st, if (st = 1 ∧ F.laneCtrl.en.get d = 0) ∨
      (st = 3 ∧ F.laneCtrl.en.get d = 1) then 1 else 0, F.laneCtrl.en.get d⟩ := by
    obtain rfl | rfl := hst0 <;> obtain h | h := en_get d <;> simp [Life.request, hst', h]
  rw [hl] at hwr
  have hfit := hl ▸ (s.laneLife_fits p).request (Fld.get_lt F.laneCtrl.en d)
  have hmv := State.laneMoved_stays (l := ⟨st, if (st = 1 ∧ F.laneCtrl.en.get d = 0) ∨
      (st = 3 ∧ F.laneCtrl.en.get d = 1) then 1 else 0, F.laneCtrl.en.get d⟩) hr' (by simp) (by simp)
    ((congrArg Life.st (State.laneLife_of_rd hys hrd)).trans hst')
  exact takes_laneEnWrite hw (by omega) hwr ⟨hmv.life hfit, hmv.regsBut hr' (by simp) (by simp),
    State.onlyPins_setLane_lane.1 hmv.pins⟩

end

/-! ### The end of a start or a stop -/

/-- Pins that settle behind one more change of registers. -/
theorem State.Follows.settle_regs {s u v : State} (h : s.Follows u) (hv : v = { u with regs := v.regs }) :
    State.Follows { s with regs := v.settle.regs } v.settle := by
  have hr : v.settle.regs = v.regs := by simp
  have hu : State.Follows { s with regs := v.regs } { u with regs := v.regs } := by
    refine ⟨?_, h.lane⟩
    obtain ⟨hu, -⟩ := h
    rw [hu]
  rw [hr]
  exact hu.trans (hv ▸ v.follows_settle)

section
variable {s : State} {p : Nat} {l : Life} (hl : (s.laneLife p).arrive = l)
include hl

/-- A sequence that ends with nothing latched is one move: the lane holds what its new state makes of it. -/
theorem State.laneArrive_spec {u : State} (hne : (s.laneLife p).st ≠ l.st) (ho : l.onward = l)
    (hu : (s.setLaneLife p l).laneEntered p l = u) (hul : u.laneLife p = l) : (s.laneArrive p).laneLife p = l ∧
      u.RegsBut [.laneStat p, .laneCtrl p] (s.laneArrive p) ∧
      State.Follows { u with regs := (s.laneArrive p).regs } (s.laneArrive p) := by
  have hfit : l.Fits := hl ▸ (s.laneLife_fits p).arrive
  have hmove : s.moveLane p l = u.settle := by rw [State.moveLane_enters hne, hu]
  have hlife : u.settle.laneLife p = l := (u.laneLife_settle p).trans hul
  have harr : s.laneArrive p = (u.settle.setLaneLife p l).settle := by
    rw [State.laneArrive, hl, hmove, hlife, ho, State.moveLane_stays (congrArg Life.st hlife)]
  have hreg := u.settle.onlyRegs_setLaneLife p l
  rw [harr]
  refine ⟨?_, fun q hq => ?_, u.follows_settle.settle_regs hreg.1⟩
  · rw [State.laneLife_settle, State.laneLife_setLaneLife _ hfit]
  · rw [State.rd_settle, hreg.2 q hq, State.rd_settle]

end

/-- Pins that settle over a lane just written. -/
theorem State.Follows.lane_setLane {s t : State} {p : Nat} {x : Lane} {R : SMap (BitVec 32)}
    (h : State.Follows { s.setLane p x with regs := R } t) : x.Follows (t.lane p) := by
  have hx := h.lane p
  have he : State.lane { s.setLane p x with regs := R } p = (s.setLane p x).lane p := rfl
  rw [he, s.lane_setLane_self] at hx
  exact hx

theorem State.Follows.lane_setLane_ne {s t : State} {p q : Nat} {x : Lane} {R : SMap (BitVec 32)}
    (h : State.Follows { s.setLane p x with regs := R } t) (hq : q ≠ p) : (s.lane q).Follows (t.lane q) := by
  have hx := h.lane q
  have he : State.lane { s.setLane p x with regs := R } q = (s.setLane p x).lane q := rfl
  rw [he, s.lane_setLane_ne _ hq] at hx
  exact hx

/-! ### Lanes that reach ON -/

/-- Lane `x` with what reaching ON at level and enable `v` in the state `s` gives it (spec/06 R164, R168, R175). -/
def Lane.reach (x : Lane) (s : State) (p : Nat) (v : Bool × Bool) : Lane :=
  { x with lvl := v.1, oe := v.2, next := none, passed := v.1, passedAt := s.now, cut := false, grant := false,
           onAt := s.ticks, filt := s.behindInv p (s.inputPin p), cand := none, echo := [],
           bypass := !s.shoreRuns && s.mode p == modeMirror, hold := 0,
           started := false, txWord := none, clkAt := s.ticks, clkLost := false }

/-- A lane reaches ON, and the units beside its position unit follow no more than the lanes. -/
theorem State.reachOnLane_eq (s : State) (p : Nat) :
    s.reachOnLane p = (s.startUnit p).setLane p (((s.startUnit p).lane p).reach s p (s.initLevel p)) := rfl

@[simp] theorem State.posUnit_wr (s : State) (r : Reg) (v : BitVec 32) (u : Nat) : (s.wr r v).posUnit u = s.posUnit u := rfl

@[simp] theorem State.posUnit_setFld (s : State) (r : Reg) (f : Fld) (v u : Nat) : (s.setFld r f v).posUnit u = s.posUnit u := rfl

/-- Only the A lane of a position unit starts it (spec/08 R231). -/
theorem State.startUnit_else {s : State} {p : Nat} (h : s.mode p ≠ modeQuad) : s.startUnit p = s :=
  if_pos (.inl h)

/-- The start of a position unit changes the unit's speed and state. -/
theorem State.startUnit_frame (s : State) (p : Nat) : let n := s.fld (.quadM0 p) F.quadM0.posu
    s.RegsBut [.posSpeed n, .posStat n] (s.startUnit p) ∧
      s.startUnit p = { s with regs := (s.startUnit p).regs, posUnits := (s.startUnit p).posUnits } := by
  intro n
  unfold State.startUnit
  dsimp only
  split
  · exact ⟨fun _ _ => rfl, rfl⟩
  · refine ⟨fun q hq => ?_, rfl⟩
    obtain ⟨hq1, hq2⟩ := by simpa using hq
    simp only [List.foldl_cons, List.foldl_nil]
    repeat rw [State.rd_setFld_ne _ _ _ hq2]
    exact State.rd_wr_ne _ _ hq1

/-- What the A lane of a position unit starts it with. -/
theorem State.startUnit_started {s : State} {p : Nat} (hm : s.mode p = modeQuad) (he : p % 2 = 0)
    (hr : s.fld (.quadM0 p) F.quadM0.role = 0) : let n := s.fld (.quadM0 p) F.quadM0.posu
    ((s.startUnit p).posUnit n).pos = some (s.rd (.posPos n)) ∧ ((s.startUnit p).posUnit n).raw = s.rd (.posPos n) ∧
      (s.startUnit p).rd (.posSpeed n) = 0 ∧ (s.startUnit p).fld (.posStat n) F.posStat.still = 1 := by
  intro n
  have hc : ¬(s.mode p ≠ modeQuad ∨ s.fld (.quadM0 p) F.quadM0.role ≠ 0 ∨ p % 2 = 1) := by simp [hm, hr, he]
  have hkey : (Reg.posSpeed n).key ≠ (Reg.posStat n).key := by simp only [Reg.key]; omega
  rw [State.startUnit, if_neg hc]
  refine ⟨?_, ?_, ?_, State.fld_setFld_self _ _ rfl _⟩
  · simp [n]
  · simp [n]
  · simp only [List.foldl_cons, List.foldl_nil]
    repeat rw [State.rd_setFld_ne _ _ _ hkey]
    exact State.rd_wr_self _ _ _

/-- The first level and enable are read from the lane's registers and the ports. -/
theorem State.initLevel_of_rd {s t : State} {p : Nat} (hm : t.mode p = s.mode p) (hports : t.ports = s.ports)
    (hrd : ∀ r ∈ [Reg.edgeM0 p, .timerM0 p, .mirrorM0 p, .laneIo p], t.rd r = s.rd r) : t.initLevel p = s.initLevel p := by
  obtain ⟨h1, h2, h3, h4⟩ := by simpa only [List.forall_mem_cons, List.not_mem_nil, false_implies, implies_true, and_true] using hrd
  simp only [State.initLevel, State.mirrorLevel, State.mirrorInv, State.behindInv, State.inputPin, State.bit, State.fld, hm,
    hports, h1, h2, h3, h4]

/-- What reaching ON changes of a state whose lane starts no position unit. -/
theorem State.enterOn_else {s : State} {p : Nat} (h : s.mode p ≠ modeQuad) : s.enterOn p =
    (s.setWeir p { s.weir p with periods := [] }).setLane p ((s.lane p).reach s p (s.initLevel p)) := by
  have h' : (s.setWeir p { s.weir p with periods := [] }).mode p ≠ modeQuad := h
  rw [State.enterOn, State.reachOnLane_eq, State.startUnit_else h']
  rfl

theorem State.regsBut_enterOn (s : State) (p : Nat) : let n := s.fld (.quadM0 p) F.quadM0.posu
    s.RegsBut [.posSpeed n, .posStat n] (s.enterOn p) :=
  ((s.setWeir p { s.weir p with periods := [] }).startUnit_frame p).1

section
variable {s : State} {p : Nat} (hs : s.Live) (hp : p < 256) (hr : s.shoreRuns = true) (hn : s.shore.swap = none)
  (hpend : s.fld (.laneStat p) F.laneStat.pend = 0) (hd : (s.lane p).since + 4 ≤ s.ticks)
include hs hp hr hn hpend hd

theorem answers_laneStopDone (hst : s.fld (.laneStat p) F.laneStat.state = 3) : Answers (.laneStopDone p) s fun t =>
    t.fld (.laneStat p) F.laneStat.state = 0 ∧ s.RegsBut [.laneStat p, .laneCtrl p] t ∧
    State.OnlyPins { s with regs := t.regs } t := by
  have hst' : (s.laneLife p).st = 3 := hst
  have hpend' : (s.laneLife p).pend = 0 := hpend
  have hl : (s.laneLife p).arrive = { s.laneLife p with st := 0 } := by simp [Life.arrive, hst']
  have hfit : ({ s.laneLife p with st := 0 } : Life).Fits := hl ▸ (s.laneLife_fits p).arrive
  have hreg := s.onlyRegs_setLaneLife p { s.laneLife p with st := 0 }
  obtain ⟨hlife, hbut, hpins⟩ := State.laneArrive_spec hl (by simp [hst']) (by simp [Life.onward, hpend']) rfl
    (s.laneLife_setLaneLife hfit)
  refine Answers.of_run (g := decide (p < 256) && s.laneStopDue p) (f := fun s => s.laneArrive p) rfl hs
    (by simp [hp, State.laneStopDue, hr, hst', State.swapStop, hn, hd]) ⟨congrArg Life.st hlife, fun q hq => ?_, ?_⟩
  · exact (hbut q hq).trans (hreg.2 q hq)
  · have hu : (s.setLaneLife p { s.laneLife p with st := 0 }).laneEntered p { s.laneLife p with st := 0 } =
        s.setLaneLife p { s.laneLife p with st := 0 } := rfl
    rw [hu, hreg.1] at hpins
    exact hpins.onlyPins

/-- A start that ends leaves what reaching ON makes of the lane. -/
theorem answers_laneStartDone (hst : s.fld (.laneStat p) F.laneStat.state = 1) (hprim : s.primed p = true) {P : State → Prop}
    (hP : ∀ v t, s.OnlyRegs [.laneStat p, .laneCtrl p] v → v.mode p = s.mode p → t.fld (.laneStat p) F.laneStat.state = 2 →
      (v.enterOn p).RegsBut [.laneStat p, .laneCtrl p] t → State.Follows { v.enterOn p with regs := t.regs } t → P t) :
    Answers (.laneStartDone p) s P := by
  have hst' : (s.laneLife p).st = 1 := hst
  have hpend' : (s.laneLife p).pend = 0 := hpend
  let l : Life := { s.laneLife p with st := 2 }
  have hl : (s.laneLife p).arrive = l := by simp [Life.arrive, hst', l]
  have hfit : l.Fits := hl ▸ (s.laneLife_fits p).arrive
  let v := s.setLaneLife p l
  have hv : s.OnlyRegs [.laneStat p, .laneCtrl p] v := s.onlyRegs_setLaneLife p l
  have hul : (v.enterOn p).laneLife p = l := by
    have hbut := v.regsBut_enterOn p
    refine (State.laneLife_of_rd (hbut _ ?_) (hbut _ ?_)).trans (s.laneLife_setLaneLife hfit)
    · simp only [List.forall_mem_cons, List.not_mem_nil, false_implies, implies_true, and_true, Reg.key]; omega
    · simp only [List.forall_mem_cons, List.not_mem_nil, false_implies, implies_true, and_true, Reg.key]; omega
  obtain ⟨hlife, hbut, hpins⟩ := State.laneArrive_spec hl (by simp [hst', l]) (by simp [Life.onward, hpend', l]) rfl hul
  exact Answers.of_run (g := decide (p < 256) && s.laneStartDue p) (f := fun s => s.laneArrive p) rfl hs
    (by simp [hp, State.laneStartDue, hr, hst', State.swapStop, hn, hprim, hd])
    (hP v _ hv (s.mode_setLaneLife p l) (congrArg Life.st hlife) hbut hpins)

theorem answers_laneStartDone_lane (hst : s.fld (.laneStat p) F.laneStat.state = 1) (hprim : s.primed p = true)
    (hm : s.mode p ≠ modeQuad) : Answers (.laneStartDone p) s fun t => t.fld (.laneStat p) F.laneStat.state = 2 ∧
      ((t.lane p).lvl, (t.lane p).oe) = s.initLevel p ∧ (t.lane p).onAt = s.ticks ∧ (t.lane p).started = false ∧
      (t.weir p).periods = [] ∧ (∀ q, q ≠ p → (t.lane q).lvl = (s.lane q).lvl ∧ (t.lane q).oe = (s.lane q).oe) ∧
      s.RegsBut [.laneStat p, .laneCtrl p] t ∧ t = { s with regs := t.regs, lanes := t.lanes, weirs := t.weirs } := by
  refine answers_laneStartDone hs hp hr hn hpend hd hst hprim fun v t hv hvm hs2 hbut hpins => ?_
  rw [State.enterOn_else (hvm ▸ hm)] at hbut hpins
  have hinit : v.initLevel p = s.initLevel p := State.initLevel_of_rd hvm (by rw [hv.1]) fun r hr => hv.2 r (by
    simp only [List.mem_cons, List.not_mem_nil, or_false] at hr
    obtain rfl | rfl | rfl | rfl := hr <;> simp [Reg.key] <;> omega)
  have hlane := hpins.lane_setLane
  have hother := fun q => hpins.lane_setLane_ne (q := q)
  rw [hinit] at hlane
  obtain ⟨hlvl, hoe⟩ := hlane.level
  have hframe : t = { v with regs := t.regs, lanes := t.lanes, weirs := (v.setWeir p { v.weir p with periods := [] }).weirs } :=
    hpins.frame
  have hlanes : v.lanes = s.lanes := by rw [hv.1]
  refine ⟨hs2, ?_, ?_, ?_, ?_, fun q hq => ?_, fun q hq => (hbut q hq).trans (hv.2 q hq), ?_⟩
  · rw [hlvl, hoe]
    rfl
  · exact (congrArg Lane.onAt hlane).trans (by rw [Lane.reach, hv.1])
  · exact congrArg Lane.started hlane
  · have hw : t.weir p = (v.setWeir p { v.weir p with periods := [] }).weir p := by rw [hframe]; rfl
    rw [hw, State.weir_setWeir, if_pos rfl]
  · exact State.lane_congr hlanes q ▸ (hother q hq).level
  · rw [hframe, hv.1]

theorem answers_laneStartDone_quad (hst : s.fld (.laneStat p) F.laneStat.state = 1) (hm : s.mode p = modeQuad) :
    Answers (.laneStartDone p) s fun t => t.fld (.laneStat p) F.laneStat.state = 2 ∧ (t.lane p).onAt = s.ticks ∧
      (p % 2 = 0 → s.fld (.quadM0 p) F.quadM0.role = 0 → let u := s.fld (.quadM0 p) F.quadM0.posu
        t.position u = s.rd (.posPos u) ∧ (t.posUnit u).raw = s.rd (.posPos u) ∧ t.rd (.posSpeed u) = 0 ∧
        t.fld (.posStat u) F.posStat.still = 1) := by
  have hprim : s.primed p = true := by simp [State.primed, hm, modeQuad, modeStream]
  refine answers_laneStartDone hs hp hr hn hpend hd hst hprim fun v t hv hvm hs2 hbut hpins => ?_
  refine ⟨hs2, ?_, fun he hrole => ?_⟩
  · rw [State.enterOn, State.reachOnLane_eq] at hpins
    exact (congrArg Lane.onAt hpins.lane_setLane).trans (by rw [Lane.reach, hv.1]; rfl)
  · intro u
    have hm0 : v.rd (.quadM0 p) = s.rd (.quadM0 p) := hv.2 _ (by simp [Reg.key]; omega)
    have hpos : v.rd (.posPos u) = s.rd (.posPos u) := hv.2 _ (by simp [Reg.key]; omega)
    let y := v.setWeir p { v.weir p with periods := [] }
    have hu : y.fld (.quadM0 p) F.quadM0.posu = u := State.fld_of_rd hm0 _
    have hstart := State.startUnit_started (s := y) (hvm.trans hm) he ((State.fld_of_rd hm0 _).trans hrole)
    rw [hu] at hstart
    obtain ⟨hpu, hraw, hspeed, hstill⟩ := hstart
    have hunit : t.posUnit u = (y.startUnit p).posUnit u := by rw [State.posUnit, hpins.frame]; rfl
    have hrd : ∀ r : Reg, r = .posSpeed u ∨ r = .posStat u → t.rd r = (y.startUnit p).rd r := fun r hr =>
      hbut r (by obtain rfl | rfl := hr <;> simp [Reg.key] <;> omega)
    refine ⟨?_, ?_, (hrd _ (.inl rfl)).trans hspeed, (State.fld_of_rd (hrd _ (.inr rfl)) _).trans hstill⟩
    · rw [State.position, hunit, hpu]
      exact hpos
    · rw [hunit, hraw]
      exact hpos

end

end Sys2Proof.Machine
end

section
/-! PROOFS. Spare swaps and lane resets, and the statement about the life-cycle of a lane (spec/06 R158, R159, R187; spec/18
R484). -/

namespace Sys2Proof.Machine

open Sys2Proof

/-! ### A spare swap starts -/

/-- The copy into a retired spare's window (spec/06 R159). -/
def State.swapCopy (s : State) (p : Nat) : State :=
  if 256 ≤ s.coreOf p then (s.copyWindow p (s.coreOf p)).setFld (.laneCtrl (s.coreOf p)) F.laneCtrl.en 0 else s

/-- TOTAL and the lane's core at a spare swap's start (spec/06 R159, R187). -/
def State.swapAssigned (s : State) (p c : Nat) : State :=
  ((s.swapCopy p).setFld .laneSchquota F.laneSchquota.total (s.fld .laneSchquota F.laneSchquota.total +
    s.fld (.laneCtrl p) F.laneCtrl.quota - s.fld (.laneCtrl c) F.laneCtrl.quota)).setFld (.laneXbar p) F.laneXbar.core c

/-- The registers of a spare swap's start: a lane that is not OFF starts again on the spare. -/
def State.swapRegs (s : State) (p c : Nat) : State :=
  if (s.laneLife p).st = 0 then s.swapAssigned p c else (s.swapAssigned p c).setFld (.laneStat p) F.laneStat.state 1

/-- The windows a spare swap copies into. -/
def State.swapWindow (s : State) (p : Nat) : List Reg := if 256 ≤ s.coreOf p then windowRegs (s.coreOf p) else []

/-- The cores of a spare swap's start: the spare serves, and the former core is retired (spec/06 R158). -/
def State.swapCores (s : State) (p c : Nat) : State :=
  let b := s.setCore c { s.core c with used := true }
  b.setCore (s.coreOf p) { b.core (s.coreOf p) with retired := true, used := false }

/-- The swap in progress from its start. -/
def State.swapOf (s : State) (p : Nat) : Swap := ⟨p, s.coreOf p, (s.laneLife p).st, s.ticks⟩

/-- A spare swap's start before the pins settle. -/
def State.swapped (s : State) (p c : Nat) : State :=
  { s with regs := (s.swapRegs p c).regs
           cores := (s.swapCores p c).cores
           shore := { s.shore with swap := some (s.swapOf p) } }

section
variable (s : State) (p c : Nat)

/-- The copy of a window changes the registers of the former core's window. -/
theorem State.onlyRegs_copyWindow (old : Nat) : s.OnlyRegs (windowRegs old) (s.copyWindow p old) := by
  exact foldl_related (.refl · _) .trans (fun s x hx => s.onlyRegs_wr (List.of_mem_zip hx).2 _) s

theorem State.onlyRegs_swapCopy : s.OnlyRegs (s.swapWindow p) (s.swapCopy p) := by
  unfold State.swapCopy State.swapWindow
  split
  · exact (s.onlyRegs_copyWindow p _).trans (State.onlyRegs_setFld _ (by simp [windowRegs]) _ _)
  · exact .refl _ _

theorem State.onlyRegs_swapAssigned : s.OnlyRegs (.laneXbar p :: .laneSchquota :: s.swapWindow p) (s.swapAssigned p c) :=
  (((s.onlyRegs_swapCopy p).mono (List.subset_cons_of_subset _ (List.subset_cons_self _ _))).trans
    (State.onlyRegs_setFld _ (by simp) _ _)).trans (State.onlyRegs_setFld _ (by simp) _ _)

theorem State.onlyRegs_swapRegs :
    s.OnlyRegs (.laneStat p :: .laneXbar p :: .laneSchquota :: s.swapWindow p) (s.swapRegs p c) := by
  have h := (s.onlyRegs_swapAssigned p c).mono (List.subset_cons_self (.laneStat p) _)
  unfold State.swapRegs
  split
  · exact h
  · exact h.trans (State.onlyRegs_setFld _ (by simp) _ _)

theorem State.startSwap_eq : s.startSwap p c = (s.swapped p c).settle := by
  have hcopy : (if 256 ≤ s.coreOf p then (s.copyWindow p (s.coreOf p)).setFld (.laneCtrl (s.coreOf p)) F.laneCtrl.en 0 else s) =
      s.swapCopy p := rfl
  obtain ⟨R, hR⟩ : ∃ R, s.swapCopy p = { s with regs := R } := ⟨_, (s.onlyRegs_swapCopy p).1⟩
  unfold State.startSwap State.swapped State.swapRegs State.swapAssigned
  dsimp only
  rw [hcopy, hR]
  by_cases h : (s.laneLife p).st = 0
  · rw [if_pos h, if_pos h]
    rfl
  · rw [if_neg h, if_neg h]
    rfl

theorem State.coreOf_swapRegs (hc : c < 512) : (s.swapRegs p c).coreOf p = c := by
  have hk : (Reg.laneXbar p).key ≠ (Reg.laneStat p).key := by simp only [Reg.key]; omega
  have h : (s.swapAssigned p c).coreOf p = c := (State.fld_setFld_self _ _ rfl _).trans (Nat.mod_eq_of_lt hc)
  unfold State.swapRegs
  split
  · exact h
  · exact (State.fld_of_rd (State.rd_setFld_ne _ _ _ hk) _).trans h

/-- The lane restarts on the spare, unless it was OFF. -/
theorem State.laneState_swapRegs (hp : p < 256) : ((s.swapRegs p c).laneLife p).st = if (s.laneLife p).st = 0 then 0 else 1 := by
  unfold State.swapRegs
  split
  · rename_i h
    refine (State.fld_of_rd ((s.onlyRegs_swapAssigned p c).2 (.laneStat p) fun q hq => ?_) _).trans h
    simp only [State.swapWindow, windowRegs, List.mem_cons, List.mem_ite_nil_right, List.not_mem_nil, or_false] at hq
    obtain rfl | rfl | ⟨-, rfl | rfl | rfl | rfl⟩ := hq <;> simp only [Reg.key] <;> omega
  · exact State.fld_setFld_self _ _ rfl _

theorem State.core_swapCores (h : c ≠ s.coreOf p) : ((s.swapCores p c).core c).used = true ∧
    ((s.swapCores p c).core (s.coreOf p)).retired = true ∧ ((s.swapCores p c).core (s.coreOf p)).used = false := by
  have hc : (s.swapCores p c).core c = { s.core c with used := true } :=
    (State.core_setCore_ne _ _ h).trans (s.core_setCore_self c _)
  have ho : (s.swapCores p c).core (s.coreOf p) = _ := State.core_setCore_self _ _ _
  exact ⟨congrArg Core.used hc, congrArg Core.retired ho, congrArg Core.used ho⟩

end

/-- A pin in a spare swap is inert (spec/01 R10, spec/06 R159). -/
theorem State.pin_of_swapping {t : State} {p : Nat} (h : t.swapping p = true) : t.pin p = t.inert p := by
  have hr : t.rank p = 1 := by simp [State.rank, h]
  simp [State.pin, State.pinAt, hr]

section
variable {s : State} {w : Who} {p : Nat} {d : BitVec 32} (hw : s.Writer w) (hp : p < 256) (hn : s.shore.swap = none)
  (hne : F.laneXbar.core.get d ≠ s.coreOf p)
include hw hp hn hne

/-- LANE_XBAR assigns an unused spare and nothing else. -/
theorem exec_laneSpareSwap : exec (.laneSpareSwap w p d whole) s = .next
    (if s.isSpare (F.laneXbar.core.get d) then s.startSwap p (F.laneXbar.core.get d)
      else s.violate w 3 (Reg.laneXbar p).key true) := by
  have hclk : tickClocked (Reg.laneXbar p).key = false := by simp [tickClocked, Reg.key]; omega
  have hchg : s.changes ⟨w, (Reg.laneXbar p).key, d, whole⟩ (.laneXbar p) F.laneXbar.core = true := by
    rw [State.changes_whole hw.2.1 _ (by decide)]
    exact bne_iff_ne.2 hne
  refine (State.run_next (g := decide (p < 256)) (fun s => s.access ⟨w, (Reg.laneXbar p).key, d, whole⟩ (.laneXbar p)
    fun s => writeLaneXbar s ⟨w, (Reg.laneXbar p).key, d, whole⟩ p) hw.1.1 hw.1.2 (decide_eq_true hp)).trans (congrArg _ ?_)
  rw [State.access_whole hw _ _ hclk]
  cases h : s.isSpare (F.laneXbar.core.get d) <;> simp [writeLaneXbar, hchg, Wr.val_whole, hn, h]

theorem answers_laneSpareSwap (hs : s.isSpare (F.laneXbar.core.get d) = true) : Answers (.laneSpareSwap w p d whole) s fun t =>
    t.coreOf p = F.laneXbar.core.get d ∧ (t.core (F.laneXbar.core.get d)).used = true ∧
    (t.core (s.coreOf p)).retired = true ∧ (t.core (s.coreOf p)).used = false ∧
    t.shore = { s.shore with swap := some (s.swapOf p) } ∧
    (t.laneLife p).st = (if (s.laneLife p).st = 0 then 0 else 1) ∧ t.swapStop p = true ∧
    ({ t with ticks := s.ticks + 1 } : State).pin p = t.inert p ∧
    (s.coreOf p < 256 → s.RegsBut [.laneXbar p, .laneStat p, .laneSchquota] t) ∧
    ({ s with regs := t.regs, cores := t.cores, shore := t.shore } : State).OnlyPins t := by
  refine ⟨s.startSwap p (F.laneXbar.core.get d), by rw [exec_laneSpareSwap hw hp hn hne, if_pos hs], ?_⟩
  let c := F.laneXbar.core.get d
  let v := s.swapped p c
  have hregs : v.regs = (s.swapRegs p c).regs := rfl
  obtain ⟨husedc, hret, hused⟩ := s.core_swapCores p c hne
  have hcores : v.settle.cores = (s.swapCores p c).cores := by simp [v, State.swapped]
  have hcore : ∀ n, v.settle.core n = (s.swapCores p c).core n := fun n => by simp only [State.core, hcores]
  have hshore : v.settle.shore = { s.shore with swap := some (s.swapOf p) } := by simp [v, State.swapped]
  have hrd : ∀ q, v.settle.rd q = (s.swapRegs p c).rd q := fun q => v.rd_settle q
  rw [State.startSwap_eq]
  refine ⟨?_, ?_, ?_, ?_, hshore, ?_, ?_, ?_, fun hold q hq => ?_, ?_⟩
  · exact (State.fld_of_rd (hrd _) _).trans (s.coreOf_swapRegs p c (Fld.get_lt F.laneXbar.core d))
  · rw [hcore, husedc]
  · rw [hcore, hret]
  · rw [hcore, hused]
  · exact (State.fld_of_rd (hrd _) _).trans (s.laneState_swapRegs p c hp)
  · simp [State.swapStop, State.swapped, State.swapOf]
  · exact State.pin_of_swapping (by simp [State.swapping, State.swapped, State.swapOf])
  · refine (hrd q).trans ((s.onlyRegs_swapRegs p c).2 q fun r hr => ?_)
    rw [State.swapWindow, if_neg (by omega)] at hr
    exact hq r (by simp only [List.mem_cons, List.not_mem_nil, or_false] at hr ⊢; tauto)
  · have hfol := v.follows_settle.onlyPins
    have hv : v = { s with regs := v.settle.regs, cores := v.settle.cores, shore := v.settle.shore } := by
      simp only [State.settle_frame]
      rfl
    exact (congrArg (fun u => State.OnlyPins u v.settle) hv).mp hfol

end

/-! ### A spare swap completes -/

/-- Lane `p` has its entries, and beside its life-cycle's registers, its units and the shore stay as they are. -/
structure State.KeepsEntries (s : State) (p : Nat) (t : State) : Prop where
  shore : t.shore = s.shore
  queue : (t.lane p).queue = (s.lane p).queue
  core  : (t.lane p).core = (s.lane p).core
  regs  : s.RegsBut [.laneStat p, .laneCtrl p] t

section
variable {s t u : State} {p : Nat}

theorem State.KeepsEntries.trans (h : s.KeepsEntries p t) (h' : t.KeepsEntries p u) : s.KeepsEntries p u :=
  ⟨h'.shore.trans h.shore, h'.queue.trans h.queue, h'.core.trans h.core, h.regs.trans h'.regs⟩

theorem State.keepsEntries_settle (s : State) (p : Nat) : s.KeepsEntries p s.settle :=
  ⟨by simp, by simp, by simp, fun q _ => s.rd_settle q⟩

theorem State.keepsEntries_setLaneLife (s : State) (p : Nat) (l : Life) : s.KeepsEntries p (s.setLaneLife p l) :=
  ⟨rfl, rfl, rfl, (s.onlyRegs_setLaneLife p l).2⟩

theorem State.keepsEntries_reachOnLane {s : State} (h : s.mode p ≠ modeQuad) : s.KeepsEntries p (s.reachOnLane p) := by
  rw [State.reachOnLane_eq, State.startUnit_else h]
  refine ⟨rfl, ?_, ?_, fun _ _ => rfl⟩
  · rw [s.lane_setLane_self]
    rfl
  · rw [s.lane_setLane_self]
    rfl

/-- What a swap's end discards of a lane's entries, and what it counts. -/
theorem State.discardPassed_eq (s : State) (p : Nat) : s.discardPassed p =
    (s.setFld (.laneErr p) F.laneErr.erra (min 0xFFFF (s.fld (.laneErr p) F.laneErr.erra +
      (((s.lane p).core.map (·.1) ++ (s.lane p).queue).filter fun e => decide (e.due < s.now)).length))).setLane p
      { s.lane p with
        core := []
        queue := ((s.lane p).core.map (·.1) ++ (s.lane p).queue).filter fun e => !decide (e.due < s.now) } := rfl

variable {old st tick : Nat}

@[simp] theorem State.laneLife_setLane (s : State) (p q : Nat) (x : Lane) : (s.setLane p x).laneLife q = s.laneLife q := rfl

@[simp] theorem State.rd_setLane (s : State) (p : Nat) (x : Lane) (r : Reg) : (s.setLane p x).rd r = s.rd r := rfl

/-- A lane that was neither OFF nor STOPPING reaches ON on the spare. -/
theorem State.endSwap_else (h0 : st ≠ 0) (h3 : st ≠ 3) : s.endSwap ⟨p, old, st, tick⟩ =
    let a := (s.setShore { s.shore with swap := none }).discardPassed p
    let b := ((a.setLaneLife p (a.laneLife p).arrive).reachOnLane p).settle
    b.moveLane p (b.laneLife p).onward := by
  unfold State.endSwap
  split
  · rename_i h
    exact absurd h h0
  · rename_i h
    exact absurd h h3
  · rfl

/-- The states in which a swap leaves its lane: the one it had while OFF, OFF from STOPPING, and ON else. -/
theorem State.endSwap_keeps {a : State} (ha : (s.setShore { s.shore with swap := none }).discardPassed p = a)
    (hlife : a.laneLife p = s.laneLife p) (hmode : a.mode p = s.mode p)
    (h : st = 0 ∨ (s.laneLife p).st = 1 ∧ (s.laneLife p).pend = 0 ∧ s.mode p ≠ modeQuad) :
    a.KeepsEntries p (s.endSwap ⟨p, old, st, tick⟩) ∧
      ((s.endSwap ⟨p, old, st, tick⟩).laneLife p).st = if st = 0 then (s.laneLife p).st else if st = 3 then 0 else 2 := by
  by_cases h0 : st = 0
  · have he : s.endSwap ⟨p, old, st, tick⟩ = a.settle := by
      rw [← ha, h0]
      rfl
    rw [he, if_pos h0, State.laneLife_settle, hlife]
    exact ⟨a.keepsEntries_settle p, rfl⟩
  · obtain ⟨hst, hpend, hm⟩ := h.resolve_left h0
    rw [← hlife] at hst hpend
    have hfit := a.laneLife_fits p
    rw [if_neg h0]
    by_cases h3 : st = 3
    · have he : s.endSwap ⟨p, old, st, tick⟩ = (a.setLaneLife p { a.laneLife p with st := 0, pend := 0 }).settle := by
        have hmv : a.moveLane p ⟨if (a.laneLife p).pend = 1 then 1 else 0, 0, (a.laneLife p).en⟩ =
            (a.setLaneLife p { a.laneLife p with st := 0, pend := 0 }).settle := by
          rw [if_neg (by omega), State.moveLane_enters (by simp [hst])]
          rfl
        rw [← hmv, ← ha, h3]
        rfl
      have hl : ({ a.laneLife p with st := 0, pend := 0 } : Life).Fits := ⟨by simp, by simp, hfit.en⟩
      rw [he, if_pos h3, State.laneLife_settle, a.laneLife_setLaneLife hl]
      exact ⟨(a.keepsEntries_setLaneLife p _).trans (State.keepsEntries_settle _ p), rfl⟩
    · let l : Life := { a.laneLife p with st := 2 }
      let b := ((a.setLaneLife p l).reachOnLane p).settle
      have hl : l.Fits := ⟨by simp [l], hfit.pend, hfit.en⟩
      have harr : (a.laneLife p).arrive = l := by simp [Life.arrive, hst, l]
      have hon : (a.setLaneLife p l).mode p ≠ modeQuad := by rw [State.mode_setLaneLife, hmode]; exact hm
      have hb : b.laneLife p = l := by
        refine (State.laneLife_settle _ p).trans ?_
        rw [State.reachOnLane_eq, State.startUnit_else hon, State.laneLife_setLane, a.laneLife_setLaneLife hl]
      have he : s.endSwap ⟨p, old, st, tick⟩ = (b.setLaneLife p l).settle := by
        have hmv : b.moveLane p (b.laneLife p).onward = (b.setLaneLife p l).settle := by
          have ho : l.onward = l := by simp [Life.onward, l, hpend]
          rw [hb, ho, State.moveLane_stays (congrArg Life.st hb)]
        rw [← hmv, State.endSwap_else h0 h3, ha]
        dsimp only
        rw [harr]
      rw [he, if_neg h3, State.laneLife_settle, b.laneLife_setLaneLife hl]
      exact ⟨(((a.keepsEntries_setLaneLife p l).trans (State.keepsEntries_reachOnLane hon)).trans
        (State.keepsEntries_settle _ p)).trans ((b.keepsEntries_setLaneLife p l).trans (State.keepsEntries_settle _ p)), rfl⟩

theorem answers_spareSwapComplete (hs : s.Live) (hx : s.shore.swap = some ⟨p, old, st, tick⟩)
    (hd : s.swapDue ⟨p, old, st, tick⟩ = true)
    (h : st = 0 ∨ (s.laneLife p).st = 1 ∧ (s.laneLife p).pend = 0 ∧ s.mode p ≠ modeQuad) : Answers .spareSwapComplete s fun t =>
      let held := (s.lane p).core.map (·.1) ++ (s.lane p).queue
      t.shore = { s.shore with swap := none } ∧
      (t.lane p).core = [] ∧ (t.lane p).queue = held.filter (fun e => !decide (e.due < s.now)) ∧
      t.fld (.laneErr p) F.laneErr.erra =
        min 0xFFFF (s.fld (.laneErr p) F.laneErr.erra + (held.filter fun e => decide (e.due < s.now)).length) ∧
      (t.laneLife p).st = (if st = 0 then (s.laneLife p).st else if st = 3 then 0 else 2) ∧
      s.RegsBut [.laneErr p, .laneStat p, .laneCtrl p] t := by
  have hexec : exec .spareSwapComplete s = s.run (s.swapDue ⟨p, old, st, tick⟩) fun s => s.endSwap ⟨p, old, st, tick⟩ := by
    show execSpareSwapComplete s = _
    rw [execSpareSwapComplete, hx]
  let held := (s.lane p).core.map (·.1) ++ (s.lane p).queue
  let n := min 0xFFFF (s.fld (.laneErr p) F.laneErr.erra + (held.filter fun e => decide (e.due < s.now)).length)
  let b := (s.setShore { s.shore with swap := none }).setFld (.laneErr p) F.laneErr.erra n
  let a := b.setLane p { s.lane p with core := [], queue := held.filter fun e => !decide (e.due < s.now) }
  have ha : (s.setShore { s.shore with swap := none }).discardPassed p = a := State.discardPassed_eq _ p
  have hab : s.RegsBut [.laneErr p] a := fun q hq => by
    rw [State.rd_setLane]
    exact State.rd_setFld_ne _ _ _ (hq _ (by simp))
  have hsk : (Reg.laneStat p).key ≠ (Reg.laneErr p).key := by simp only [Reg.key]; omega
  have hck : (Reg.laneCtrl p).key ≠ (Reg.laneErr p).key := by simp only [Reg.key]; omega
  have hstat := hab (.laneStat p) (by simpa using hsk)
  have hctrl := hab (.laneCtrl p) (by simpa using hck)
  obtain ⟨hk, hst⟩ := State.endSwap_keeps (old := old) (tick := tick) ha (State.laneLife_of_rd hstat hctrl)
    (State.fld_of_rd hctrl _) h
  have hx : a.lane p = _ := State.lane_setLane_self _ p _
  refine Answers.of_run hexec hs hd ⟨hk.shore, ?_, ?_, ?_, hst, ?_⟩
  · rw [hk.core, hx]
  · rw [hk.queue, hx]
  · refine (State.fld_of_rd (hk.regs (.laneErr p) (by simpa using ⟨hsk.symm, hck.symm⟩)) _).trans ?_
    have hn : n < 2 ^ F.laneErr.erra.width := by simp only [Fld.width, F.laneErr.erra, n]; omega
    exact (State.fld_setFld_self _ (.laneErr p) rfl n).trans (Nat.mod_eq_of_lt hn)
  · exact (hab.mono (by simp)).trans (hk.regs.mono (by simp))

end

/-! ### Lane resets -/

/-- What a reset leaves of a lane (spec/18 R484). -/
def Lane.afterReset (x : Lane) : Lane :=
  { x with queue := [], core := [], fifo := [], capture := [], compares := [], txWord := none, started := false,
           grant := false, next := none, cand := none, echo := [], bypass := false }

section
variable {s : State} {w : Who} {p : Nat} {d : BitVec 32}

theorem Lane.Follows.holds {x y : Lane} (h : x.Follows y) :
    y.queue = x.queue ∧ y.core = x.core ∧ y.fifo = x.fifo ∧ y.capture = x.capture :=
  ⟨(congrArg Lane.queue h).trans rfl, (congrArg Lane.core h).trans rfl, (congrArg Lane.fifo h).trans rfl,
    (congrArg Lane.capture h).trans rfl⟩

theorem State.resetLane_eq (s : State) (p : Nat) : s.resetLane p =
    (((s.setLaneLife p ⟨0, 0, 0⟩).wr (.laneErr p) 0).setLane p (s.lane p).afterReset).settle := by
  have h : ((s.setLaneLife p ⟨0, 0, 0⟩).dropEntries p).modLane p (fun x => { x with
      fifo := [], capture := [], compares := [], txWord := none, started := false, grant := false, next := none, cand := none
      echo := [], bypass := false }) = (s.setLaneLife p ⟨0, 0, 0⟩).setLane p (s.lane p).afterReset := State.modLane_modLane _ p _ _
  simp only [State.resetLane, h]
  rfl

theorem State.actSoon_resetLane (hn : s.shore.swap = none) : s.actSoon (.resetLane p) = s.resetLane p := by
  show s.orderLaneReset p = _
  simp only [State.orderLaneReset, hn]

theorem exec_laneReset (hw : s.Writer w) (hp : p < 256) (hk : F.engRst.kind.get d = 3) (ht : F.engRst.target.get d = p) :
    exec (.laneReset w d whole) s =
      .next (if s.shoreRuns || s.asleep then s.later (.resetLane p) else s.actSoon (.resetLane p)) := by
  have hclk : tickClocked Reg.engRst.key = false := by decide
  have hm : s.may ⟨w, Reg.engRst.key, d, whole⟩ .engRst F.engRst.kind = true := State.may_of_secure hw.2.1 _ _
  refine (State.run_next (g := true) (fun s => s.access ⟨w, Reg.engRst.key, d, whole⟩ .engRst
    fun s => writeEngRst s ⟨w, Reg.engRst.key, d, whole⟩) hw.1.1 hw.1.2 rfl).trans (congrArg _ ?_)
  have hr : writeEngRst s ⟨w, Reg.engRst.key, d, whole⟩ = (s.askLaneReset p, false) := by
    simp [writeEngRst, hm, Wr.full_whole, Wr.bits_whole, hk, ht, hp]
  rw [State.access_whole hw _ _ hclk, hr]
  rfl

theorem resetLane_resets (hn : s.shore.swap = none) : let t := s.actSoon (.resetLane p)
    t.laneLife p = ⟨0, 0, 0⟩ ∧ t.rd (.laneErr p) = 0 ∧ t.mode p = s.mode p ∧ (t.lane p).queue = [] ∧ (t.lane p).core = [] ∧
    (t.lane p).fifo = [] ∧ (t.lane p).capture = [] ∧ s.RegsBut [.laneStat p, .laneCtrl p, .laneErr p] t ∧
    (∀ q, q ≠ p → (t.lane q).queue = (s.lane q).queue ∧ (t.lane q).core = (s.lane q).core ∧
      (t.lane q).fifo = (s.lane q).fifo ∧ (t.lane q).lvl = (s.lane q).lvl ∧ (t.lane q).oe = (s.lane q).oe) ∧
    t = { s with regs := t.regs, lanes := t.lanes } := by
  intro t
  let v := (s.setLaneLife p ⟨0, 0, 0⟩).wr (.laneErr p) 0
  have hv : s.OnlyRegs [.laneStat p, .laneCtrl p, .laneErr p] v :=
    ((s.onlyRegs_setLaneLife p ⟨0, 0, 0⟩).mono (by simp)).trans (State.onlyRegs_wr _ (by simp) 0)
  have ht : t = (v.setLane p (s.lane p).afterReset).settle := (State.actSoon_resetLane hn).trans (s.resetLane_eq p)
  have hf : State.Follows (v.setLane p (s.lane p).afterReset) t := ht ▸ State.follows_settle _
  have hrd : ∀ q, t.rd q = v.rd q := fun q => by rw [ht, State.rd_settle, State.rd_setLane]
  have hctrl : v.rd (.laneCtrl p) = (s.setLaneLife p ⟨0, 0, 0⟩).rd (.laneCtrl p) :=
    State.rd_wr_ne _ _ (by simp only [Reg.key, ne_eq]; omega)
  have hstat : v.rd (.laneStat p) = (s.setLaneLife p ⟨0, 0, 0⟩).rd (.laneStat p) :=
    State.rd_wr_ne _ _ (by simp only [Reg.key, ne_eq]; omega)
  have hlanes : v.lanes = s.lanes := by rw [hv.1]
  have hself : (s.lane p).afterReset.Follows (t.lane p) := by
    have h := hf.lane p
    rw [v.lane_setLane_self] at h
    exact h
  have hother : ∀ q, q ≠ p → (s.lane q).Follows (t.lane q) := fun q hq => by
    have h := hf.lane q
    rw [v.lane_setLane_ne _ hq, State.lane_congr hlanes] at h
    exact h
  obtain ⟨hqueue, hcore, hfifo, hcapture⟩ := hself.holds
  refine ⟨?_, ?_, ?_, ?_, ?_, ?_, ?_, fun q hq => (hrd q).trans (hv.2 q hq), fun q hq => ?_, ?_⟩
  · exact (State.laneLife_of_rd ((hrd _).trans hstat) ((hrd _).trans hctrl)).trans (s.laneLife_setLaneLife ⟨by simp, by simp, by simp⟩)
  · exact (hrd _).trans (State.rd_wr_self _ _ _)
  · exact (State.fld_of_rd ((hrd _).trans hctrl) _).trans (s.mode_setLaneLife p _)
  · exact hqueue
  · exact hcore
  · exact hfifo
  · exact hcapture
  · have h := hother q hq
    obtain ⟨hqueue, hcore, hfifo, -⟩ := h.holds
    exact ⟨hqueue, hcore, hfifo, h.level⟩
  · have hr : t.regs = v.regs := (congrArg State.regs hf.frame).trans rfl
    rw [hr]
    exact hf.frame.trans (congrArg (fun u : State => { u with lanes := t.lanes }) hv.1)

end

/-- Settles O32: lane_safe, LANE_CTRL in each state of the lane, the ends of its starts and stops, the start and the end of
a spare swap, and the lane reset. -/
theorem lanesInTheirLifeCycle : Obligations.LanesInTheirLifeCycle := by
  unfold Obligations.LanesInTheirLifeCycle
  intro s w p d lvl hp x en
  refine ⟨fun hs => answers_laneSafeChange lvl hs hp, fun hw hn hv hd => ?_, fun q hq hq' hw => ⟨fun hwin => ?_, fun hwin hst hn hv hd hquota hle => ?_⟩,
    fun hs hr hn hpend hd => ⟨fun hst hprim hm => ?_, fun hst hm => ?_, fun hst => ?_⟩, fun hw hn hne => ?_,
    fun old st tick hs hx hd h => answers_spareSwapComplete hs hx hd h, fun hw hk ht => exec_laneReset hw hp hk ht,
    fun hn => resetLane_resets hn⟩
  · intro total same
    refine ⟨fun hst hle => takes_laneEnWrite_off hw hv hd hp hn hst rfl hle, fun hst hen h => ?_, fun st hst' hst h => ?_⟩
    · obtain ⟨hm, hq⟩ := h
      exact takes_laneEnWrite_on hw hv hd hm hq hp hst hen
    · obtain ⟨hm, hq⟩ := h
      exact takes_laneEnWrite_between hw hv hd hm hq hp hst' hst
  · exact takes_laneEnWrite hw hq' (by simp [writeLaneCtrl, hwin]) rfl
  · exact takes_laneEnWrite_spare hw hv hd hq hq' hwin hst hn hquota hle
  · obtain ⟨t, hx, hs2, hlvl, hon, hstart, hper, hother, hbut, hframe⟩ :=
      answers_laneStartDone_lane hs hp hr hn hpend hd hst hprim hm
    have hmode : ∀ a b, s.initLevel p = (a, b) → (t.lane p).lvl = a ∧ (t.lane p).oe = b := fun a b h =>
      Prod.mk.inj (hlvl.trans h)
    refine ⟨t, hx, hs2, fun h => hmode _ _ ?_, fun h => hmode _ _ ?_, fun h => hmode _ _ ?_, hon, hstart, hper, hother, hbut, hframe⟩
    · rw [State.initLevel, h]
      rfl
    · rw [State.initLevel, h]
      rfl
    · rw [State.initLevel, h]
      rfl
  · exact answers_laneStartDone_quad hs hp hr hn hpend hd hst hm
  · exact answers_laneStopDone hs hp hr hn hpend hd hst
  · intro c
    refine ⟨fun hs => answers_laneSpareSwap hw hp hn hne hs, fun hs => ?_⟩
    rw [exec_laneSpareSwap hw hp hn hne, if_neg (by simp [hs, c])]

end Sys2Proof.Machine
end

section
/-! PROOFS. What the fabric and the pins that follow leave of a state while an input changes: the lanes but for their pins,
the units that run on shore time, and the registers outside the fabric, the power controller, the memory and the outlet
(spec/10 R255 to R271). -/

namespace Sys2Proof.Machine

open Sys2Proof

/-! ### Compares that wait -/

/-- Every lane's waiting compares stay at the head of its list. -/
def State.KeepsCompares (s t : State) : Prop := ∀ p, (s.lane p).compares <+: (t.lane p).compares

theorem State.KeepsCompares.refl (s : State) : s.KeepsCompares s := fun _ => List.prefix_refl _

theorem State.KeepsCompares.trans {s t u : State} (h : s.KeepsCompares t) (h' : t.KeepsCompares u) : s.KeepsCompares u :=
  fun p => (h p).trans (h' p)

theorem State.KeepsCompares.setLane {s : State} {p : Nat} {x : Lane} (h : (s.lane p).compares <+: x.compares) :
    s.KeepsCompares (s.setLane p x) := fun q => by
  by_cases hq : q = p
  · rw [hq, s.lane_setLane_self]
    exact h
  · rw [s.lane_setLane_ne _ hq]

theorem Lane.compares_pass (x : Lane) (lvl : Bool) (minpw t : Nat) : (x.pass lvl minpw t).compares = x.compares := by
  unfold Lane.pass
  split <;> rfl

theorem Lane.compares_limit (x : Lane) (maxon t : Nat) : (x.limit maxon t).compares = x.compares := by
  unfold Lane.limit
  split <;> rfl

theorem State.keepsCompares_recordPin (s : State) (p t : Nat) : s.KeepsCompares (s.recordPin p t) := by
  refine .setLane ?_
  dsimp only
  split
  · exact List.prefix_append _ _
  · exact List.prefix_refl _

theorem State.keepsCompares_settleAt (s : State) (t : Nat) : s.KeepsCompares (s.settleAt t) := by
  have pass : ∀ (s : State) p, s.KeepsCompares (if s.limited p then s.passLevel p t else s) := fun s p => by
    split
    · exact .setLane (by rw [Lane.compares_limit, Lane.compares_pass])
    · exact .refl s
  have release : ∀ (s : State) p, s.KeepsCompares (s.releaseGrant p t) := fun s p => by
    unfold State.releaseGrant
    split
    · exact .setLane (List.prefix_refl _)
    · exact .refl s
  have take : ∀ (s : State) p, s.KeepsCompares (s.takeGrant p t) := fun s p => by
    unfold State.takeGrant
    split
    · exact .setLane (List.prefix_refl _)
    · exact .refl s
  exact ((foldl_related .refl .trans (fun s p _ => pass s p) s).trans
    (foldl_related .refl .trans (fun s p _ => (release s p).trans (State.keepsCompares_recordPin _ p t)) _)).trans
    (foldl_related .refl .trans (fun s p _ => (take s p).trans (State.keepsCompares_recordPin _ p t)) _)

/-! ### What the fabric can change -/

/-- A register outside the windows of the power controller, the fabric, the locks, the memory and the outlet. -/
def Reg.offFabric (r : Reg) : Prop := r.key < 0x719400 ∨ 0x720000 ≤ r.key ∧ r.key < 0x760000 ∨ 0x1000000 ≤ r.key

/-- The fabric, the pins that follow, the power controller and the outlet have acted, and inputs may have changed: the lanes but
for their pins, and the registers of the units on shore time, are as before. -/
structure State.Shares (s t : State) : Prop where
  frame : t = { s with regs := t.regs, outlet := t.outlet, integ := t.integ, channels := t.channels, lanes := t.lanes
                       shore := { s.shore with step := t.shore.step }, power := t.power, ports := t.ports }
  regs  : ∀ r : Reg, r.offFabric → t.rd r = s.rd r
  lane  : ∀ p, (s.lane p).Follows (t.lane p)
  compares : s.KeepsCompares t

theorem State.Shares.trans {s t u : State} (h : s.Shares t) (h' : t.Shares u) : s.Shares u where
  frame := by
    have ht := h.frame
    have hu := h'.frame
    rw [hu, ht]
  regs r hr := (h'.regs r hr).trans (h.regs r hr)
  lane p := (h.lane p).trans (h'.lane p)
  compares := h.compares.trans h'.compares

/-- They have acted, and the level of every input is as before. -/
structure State.Senses (s t : State) : Prop extends State.Shares s t where
  input : t.ports.laneIn = s.ports.laneIn

namespace State.Senses

variable {s t u : Machine.State}

theorem refl (s : State) : s.Senses s := ⟨⟨rfl, fun _ _ => rfl, fun _ => .refl _, .refl s⟩, rfl⟩

theorem trans (h : s.Senses t) (h' : t.Senses u) : s.Senses u :=
  ⟨h.toShares.trans h'.toShares, h'.input.trans h.input⟩

theorem of_regs {l : List Reg} (h : s.OnlyRegs l t) (hl : ∀ q ∈ l, ¬q.offFabric) : s.Senses t := by
  have hlane : ∀ p, t.lane p = s.lane p := fun p => State.lane_congr (by rw [h.1]) p
  refine ⟨⟨?_, fun r hr => h.2 r fun q hq hk => hl q hq (by rw [Reg.offFabric, ← hk]; exact hr), fun p => ?_, fun p => ?_⟩,
    by rw [h.1]⟩
  · rw [h.1]
  · rw [hlane]
    exact .refl _
  · rw [hlane]

theorem setFld (s : State) {r : Reg} (f : Fld) (v : Nat) (h : ¬r.offFabric) : s.Senses (s.setFld r f v) :=
  of_regs (s.onlyRegs_setFld (List.mem_singleton_self r) f v) (by simpa using h)

theorem setChannel (s : State) (c : Nat) (x : Channel) : s.Senses (s.setChannel c x) :=
  ⟨⟨rfl, fun _ _ => rfl, fun _ => .refl _, .refl _⟩, rfl⟩

theorem setPower (s : State) (x : Power) : s.Senses (s.setPower x) := ⟨⟨rfl, fun _ _ => rfl, fun _ => .refl _, .refl _⟩, rfl⟩

theorem setInteg (s : State) (x : Integrity) : s.Senses (s.setInteg x) := ⟨⟨rfl, fun _ _ => rfl, fun _ => .refl _, .refl _⟩, rfl⟩

theorem setPorts {x : Machine.Ports} (h : x.laneIn = s.ports.laneIn) : s.Senses (s.setPorts x) :=
  ⟨⟨rfl, fun _ _ => rfl, fun _ => .refl _, .refl _⟩, h⟩

theorem of_alarms (h : s.Alarms t) : s.Senses t := by
  have hlane : ∀ p, t.lane p = s.lane p := fun p => State.lane_congr (by rw [h.1]) p
  refine ⟨⟨?_, fun r hr => h.2 r fun q hq hk => ?_, fun p => ?_, fun p => ?_⟩, by rw [h.1]⟩
  · rw [h.1]
  · simp only [List.mem_cons, List.not_mem_nil, or_false] at hq
    rw [Reg.offFabric, hk] at hr
    obtain rfl | rfl := hq
    · exact absurd hr (by decide)
    · exact absurd hr (by decide)
  · rw [hlane]
    exact .refl _
  · rw [hlane]

theorem settleAt (s : State) (t : Nat) : s.Senses (s.settleAt t) := by
  have h := s.follows_settleAt t
  have hf := h.frame
  refine ⟨⟨?_, fun r _ => State.rd_congr (by rw [hf]) r, h.lane, s.keepsCompares_settleAt t⟩, by rw [hf]⟩
  rw [hf]

theorem settle (s : State) : s.Senses s.settle := settleAt s _

theorem follow (n : Nat) (s : State) : s.Senses (s.follow n) := by
  induction n generalizing s with
  | zero => exact .refl s
  | succ n ih =>
    have hstep : s.Senses (s.setShore { s.shore with step := s.shore.step + 1 }) :=
      ⟨⟨rfl, fun _ _ => rfl, fun _ => .refl _, .refl _⟩, rfl⟩
    exact (hstep.trans (settleAt _ _)).trans (ih _)

theorem settleTo (s : State) (t : Nat) : s.Senses (s.settleTo t) := follow _ s

theorem foldl {α : Type} {l : List α} {f : State → α → State} (h : ∀ s, ∀ a ∈ l, State.Senses s (f s a)) (s : State) :
    s.Senses (l.foldl f s) := foldl_related .refl .trans h s

end State.Senses

end Sys2Proof.Machine
end

section
/-! PROOFS. What the fabric's consumers, its channels and a wake event leave of a state (spec/10 R255 to R271; spec/18 R480 to
R482). -/

namespace Sys2Proof.Machine

open Sys2Proof

/-! ### A wake event -/

section
variable (s : State)

theorem memBstat_on {n : Nat} (h : n < 32) : ¬(Reg.memBstat n).offFabric := by simp [Reg.offFabric, Reg.key]; omega

theorem memBctl_on {n : Nat} (h : n < 32) : ¬(Reg.memBctl n).offFabric := by simp [Reg.offFabric, Reg.key]; omega

theorem State.senses_setBankLife {n : Nat} (h : n < 32) (l : Life) : s.Senses (s.setBankLife n l) :=
  ((State.Senses.setFld s _ _ (memBstat_on h)).trans (.setFld _ _ _ (memBstat_on h))).trans (.setFld _ _ _ (memBctl_on h))

theorem State.senses_bgtAbort (bank : Nat) : s.Senses (s.bgtAbort bank) := by
  unfold State.bgtAbort
  dsimp only
  split
  · exact (State.Senses.setFld s _ _ (by unfold Reg.offFabric; decide)).trans (.setInteg _ _)
  · exact .refl s

theorem State.senses_retFollow (n : Nat) : s.Senses (s.retFollow n) := by
  unfold State.retFollow
  dsimp only
  split
  · split
    · exact .refl s
    · exact .setPorts rfl
  · exact .setPorts rfl
  · exact .refl s

theorem State.senses_moveBank {n : Nat} (h : n < 32) (l : Life) : s.Senses (s.moveBank n l) := by
  unfold State.moveBank
  dsimp only
  split
  · exact ((s.senses_setBankLife h l).trans (State.senses_bgtAbort _ _)).trans (State.senses_retFollow _ n)
  · exact (s.senses_setBankLife h l).trans (State.senses_retFollow _ n)

theorem State.senses_wakeTarn : s.Senses s.wakeTarn := by
  unfold State.wakeTarn
  split
  · exact .setPorts rfl
  · exact .refl s

theorem State.senses_wakeSlots : s.Senses s.wakeSlots := by
  have hslots := State.Senses.foldl (l := List.range 32) (f := fun s n =>
    if (s.bankLife n).en = 1 ∧ ((s.bankLife n).st = 0 ∨ (s.bankLife n).st = 3) then s.moveBank n ((s.bankLife n).request 1)
    else s) (fun s n hn => by
      split
      · exact s.senses_moveBank (List.mem_range.1 hn) _
      · exact .refl s) s
  exact hslots.trans (State.senses_wakeTarn _)

theorem State.senses_requestPower (tgt : Nat) : s.Senses (s.requestPower tgt) := by
  unfold State.requestPower
  split
  · exact .setPower s _
  · have hports : s.Senses (s.setPorts { s.ports with pwrReq := true, pwrTgt := tgt }) := .setPorts rfl
    exact hports.trans (.setFld _ _ _ (by unfold Reg.offFabric; decide))

theorem State.senses_wakeBlock (cause wch : Nat) : s.Senses (s.wakeBlock cause wch) := by
  have hstat : ∀ (s : State) (f : Fld) (v : Nat), s.Senses (s.setFld .engPwrstat f v) := fun s f v =>
    .setFld s f v (by unfold Reg.offFabric; decide)
  have hch : ∀ s : State, s.Senses (if cause = 1 then s.setFld .engPwrstat F.engPwrstat.wch wch else s) := fun s => by
    split
    · exact hstat s _ _
    · exact .refl s
  unfold State.wakeBlock
  dsimp only
  split
  · exact (((((hstat s _ _).trans (hch _)).trans (.setFld _ _ _ (by unfold Reg.offFabric; decide))).trans (.setPower _ _)).trans
      (State.senses_wakeSlots _)).trans (State.senses_requestPower _ 0)
  · split
    · exact (hch s).trans (State.senses_requestPower _ 0)
    · exact .refl s

end

/-! ### Consumers -/

section
variable (s : State)

theorem State.senses_trace (kind index : Nat) (r : Record) : s.Senses (s.trace kind index r) := by
  unfold State.trace
  split
  · exact .refl s
  · split
    · exact .of_alarms (s.alarms_dropTraces 1)
    · exact .of_alarms (s.alarms_setOutlet _)

theorem fabCst_on {c : Nat} (h : c < 136) : ¬(Reg.fabCst c).offFabric := by simp [Reg.offFabric, Reg.key]; omega

theorem State.senses_setEvout (m : Nat) (v : Bool) : s.Senses (s.setEvout m v) := .setPorts rfl

variable {c : Nat} (hc : c < 136)
include hc

theorem State.senses_fabCst (f : Fld) (v : Nat) : s.Senses (s.setFld (.fabCst c) f v) := .setFld s f v (fabCst_on hc)

theorem State.senses_overrun : s.Senses (s.overrun c) := (State.senses_fabCst s hc _ _).trans (State.senses_fabCst _ hc _ _)

theorem State.senses_consumeTrip {row : Nat} (hr : row < 64) : s.Senses (s.consumeTrip c row) := by
  unfold State.consumeTrip
  split
  · exact s.senses_overrun hc
  · have htrip : s.Senses (s.setTrip row) := .of_regs (s.onlyRegs_wr (List.mem_singleton_self _) _) (by
      simp [Reg.offFabric, Reg.key]; omega)
    exact (htrip.trans (.of_alarms (State.alarms_alarm _ _ _))).trans (.settle _)

theorem State.senses_consumeWake (row : Nat) : s.Senses (s.consumeWake c row) := by
  have hover : ∀ b : Bool, s.Senses (if b then s.overrun c else s) := fun b => by
    split
    · exact s.senses_overrun hc
    · exact .refl s
  exact (hover _).trans (.setChannel _ c _)

theorem State.senses_consumeBank : s.Senses (s.consumeBank c) := by
  unfold State.consumeBank
  split
  · exact s.senses_overrun hc
  · exact .setChannel s c _

theorem State.senses_consumeEvout (row : Nat) : s.Senses (s.consumeEvout c row) := by
  unfold State.consumeEvout
  dsimp only
  split
  · exact s.senses_setEvout _ _
  · exact .refl s
  · split
    · exact s.senses_overrun hc
    · exact (s.senses_setEvout _ _).trans (.setChannel _ c _)

theorem State.rowOf_lt : s.rowOf c < 136 := by
  unfold State.rowOf
  split
  · have h : s.fld (.fabSpmap (c - 128)) F.fabSpmap.tgt < 2 ^ 7 := s.fld_lt _ _
    omega
  · exact hc

theorem State.senses_consume (t : Nat) : s.Senses (s.consume c t) := by
  unfold State.consume
  dsimp only
  have hrow := s.rowOf_lt hc
  split
  · exact s.senses_consumeTrip hc ‹_›
  · split
    · exact s.senses_consumeWake hc _
    · split
      · exact s.senses_consumeBank hc
      · split
        · exact s.senses_consumeEvout hc _
        · split
          · exact .setFld s _ _ (by simp [Reg.offFabric, Reg.key]; omega)
          · exact .refl s

end

/-! ### The passing of events -/

theorem State.coincides_lt {s : State} {c t c' : Nat} (h : s.coincides c t = some c') : c' < 136 := by
  unfold State.coincides at h
  split at h
  · cases h
  · exact List.mem_range.1 (List.mem_of_find?_eq_some h)

theorem mem_insertNum {l : List Nat} {n m : Nat} (h : m ∈ insertNum l n) : m = n ∨ m ∈ l := by
  induction l with
  | nil => exact .inl (List.mem_singleton.1 h)
  | cons k l ih =>
    unfold insertNum at h
    split at h
    · exact List.mem_cons.1 h
    · split at h
      · exact .inr h
      · obtain rfl | h := List.mem_cons.1 h
        · exact .inr (List.mem_cons_self ..)
        · exact (ih h).imp_right (List.mem_cons_of_mem _)

theorem mem_foldl_insertNum {l acc : List Nat} {m : Nat} (h : m ∈ l.foldl insertNum acc) : m ∈ l ∨ m ∈ acc := by
  induction l generalizing acc with
  | nil => exact .inr h
  | cons k l ih =>
    obtain h | h := ih h
    · exact .inl (List.mem_cons_of_mem _ h)
    · exact (mem_insertNum h).imp_left fun h => List.mem_cons.2 (.inl h)

/-- A fold that collects the numbers at which a step says so collects none but those it visits. -/
theorem State.senses_collect {f : State → Nat → State × Bool} {l : List Nat} (h : ∀ s : State, ∀ c ∈ l, s.Senses (f s c).1)
    (s : State) (acc : List Nat) :
    let x := l.foldl (fun x c => let y := f x.1 c; (y.1, if y.2 then x.2 ++ [c] else x.2)) (s, acc)
    s.Senses x.1 ∧ ∀ c ∈ x.2, c ∈ acc ∨ c ∈ l := by
  induction l generalizing s acc with
  | nil => exact ⟨.refl s, fun c hc => .inl hc⟩
  | cons a l ih =>
    obtain ⟨hs, hm⟩ := ih (fun s c hc => h s c (List.mem_cons_of_mem _ hc)) (f s a).1 (if (f s a).2 then acc ++ [a] else acc)
    refine ⟨(h s a (List.mem_cons_self ..)).trans hs, fun c hc => ?_⟩
    have hcons : ∀ {c}, c ∈ l → c ∈ a :: l := List.mem_cons_of_mem _
    obtain hc | hc := hm c hc
    · split at hc
      · obtain hc | hc := List.mem_append.1 hc
        · exact .inl hc
        · exact .inr (List.mem_cons.2 (.inl (List.mem_singleton.1 hc)))
      · exact .inl hc
    · exact .inr (hcons hc)

section
variable (s : State) {c : Nat} (hc : c < 136)
include hc

theorem State.senses_passEvent (t : Nat) : s.Senses (s.passEvent c t) := by
  have hwake : ∀ (s : State) (b : Bool), s.Senses (if b then s.wakeBlock 1 c else s) := fun s b => by
    split
    · exact s.senses_wakeBlock 1 c
    · exact .refl s
  have hmeet : ∀ s : State, s.Senses (match s.coincides c t with
      | some c' => (s.setFld (.fabCst c) F.fabCst.coinc 1).setFld (.fabCst c') F.fabCst.coinc 1
      | none => s.consume c t) := fun s => by
    split
    · rename_i c' h
      exact (s.senses_fabCst hc _ _).trans (State.senses_fabCst _ (State.coincides_lt h) _ _)
    · exact s.senses_consume hc t
  exact ((((s.senses_fabCst hc _ _).trans (State.senses_trace _ _ _ _)).trans (hwake _ _)).trans (hmeet _)).trans
    (.setChannel _ c _)

theorem State.senses_loopPass (t : Nat) : s.Senses (s.loopPass c t).1 := by
  have hstop : ∀ s : State, s.Senses (s.setFld (.fabCst c) F.fabCst.disabled 1) := fun s => s.senses_fabCst hc _ _
  have hcount : s.Senses (s.countLoop c).1 := .setChannel s c _
  unfold State.loopPass
  dsimp only
  split
  · exact s.senses_passEvent hc t
  · split
    · exact hstop s
    · split
      · have hring := hcount.trans ((State.senses_fabCst (s.countLoop c).1 hc F.fabCst.ring 1).trans
          (.of_alarms (State.alarms_alarm _ 0x0C (BitVec.ofNat 32 c))))
        split
        · exact hring.trans (hstop _)
        · exact hring.trans (State.senses_passEvent _ hc t)
      · exact hcount.trans (State.senses_passEvent _ hc t)

theorem State.senses_edge (t : Nat) : s.Senses (s.edge c t).1 := by
  unfold State.edge
  split
  · exact .refl s
  · split
    · split
      · exact s.senses_fabCst hc _ _
      · exact .setChannel s c _
    · exact s.senses_loopPass hc t

end

theorem State.senses_ripple (t : Nat) {n : Nat} {cs : List Nat} (hcs : ∀ c ∈ cs, c < 136) (s : State) :
    s.Senses (s.ripple t n cs) := by
  induction n generalizing s cs with
  | zero => exact .refl s
  | succ n ih =>
    cases cs with
    | nil => exact .refl s
    | cons c cs =>
      refine (State.senses_collect (fun s c hc => s.senses_edge (hcs c hc) t) s []).1.trans (ih (fun c hc => ?_) _)
      obtain hc | hc := mem_foldl_insertNum hc
      · obtain ⟨c', -, hc⟩ := List.mem_flatMap.1 hc
        exact List.mem_range.1 (List.mem_filter.1 hc).1
      · cases hc

theorem State.senses_endRefractory (s : State) (c t : Nat) : s.Senses (s.endRefractory c t) := by
  unfold State.endRefractory
  dsimp only
  split
  · rename_i h
    have hc : c < 136 := by
      simp only [State.connected, Bool.and_eq_true, decide_eq_true_eq] at h
      exact h.2.1
    exact (State.Senses.setChannel s c _).trans (State.senses_ripple _ (by simpa using hc) _)
  · exact .setChannel s c _

theorem State.senses_endRefractories (s : State) (t : Nat) : s.Senses (s.endRefractories t) :=
  .foldl (fun s c _ => by
    split
    · exact s.senses_endRefractory c _
    · exact .refl s) s

theorem State.senses_seeLevel (s : State) (c : Nat) : s.Senses (s.seeLevel c).1 := by
  unfold State.seeLevel
  dsimp only
  split
  · exact (s.senses_setEvout _ _).trans (.setChannel _ c _)
  · exact .setChannel s c _

/-- What a look at every combined level leaves of a state. -/
theorem State.senses_scanFabric (s : State) (t : Nat) : s.Senses (s.scanFabric t) := by
  obtain ⟨hs, hm⟩ := State.senses_collect (fun s c _ => s.senses_seeLevel c) (l := (s.endRefractories t).liveChannels)
    (s.endRefractories t) []
  refine ((s.senses_endRefractories t).trans hs).trans (State.senses_ripple t (fun c hc => ?_) _)
  exact List.mem_range.1 (List.mem_filter.1 ((hm c hc).resolve_left List.not_mem_nil)).1

/-- A fabric that is still passes nothing. -/
theorem State.scanFabric_still {s : State} (h : s.FabricStill) (t : Nat) : s.scanFabric t = s := by
  obtain ⟨hlive, hrefr⟩ := h
  have hend : s.endRefractories t = s := by
    have hover : ∀ c, s.refrOver c t = false := fun c => by simp [State.refrOver, hrefr]
    unfold State.endRefractories
    induction s.channels.map (·.1) with
    | nil => rfl
    | cons c l ih => rw [List.foldl_cons, if_neg (by simp [hover]), ih]
  simp only [State.scanFabric, hend, hlive, List.foldl_nil]
  rfl

end Sys2Proof.Machine
end

section
/-! PROOFS. A level seen at an input, and the filter of the lane it belongs to (spec/06 R171; spec/10 R258). -/

namespace Sys2Proof.Machine

open Sys2Proof

/-! ### What stays while an input takes a level -/

/-- The registers of lane `p` that say what it does with its input. -/
def inputRegs (p : Nat) : List Reg :=
  [.laneCtrl p, .laneStat p, .laneIo p, .laneErr p, .captureM0 p, .mirrorM0 p, .decimateM0 p, .decimateM1 p]

theorem offFabric_inputRegs {p : Nat} (hp : p < 256) {r : Reg} (hr : r ∈ inputRegs p) : r.offFabric := by
  simp only [inputRegs, List.mem_cons, List.not_mem_nil, or_false] at hr
  obtain rfl | rfl | rfl | rfl | rfl | rfl | rfl | rfl := hr <;> simp only [Reg.offFabric, Reg.key] <;> omega

/-- The lanes that hold a decimator are read from their registers. -/
theorem State.decConflict_of_rd {s t : State} {p : Nat}
    (h : ∀ q, q ≤ p → ∀ r ∈ [Reg.laneCtrl q, .laneStat q, .decimateM0 q], t.rd r = s.rd r) : t.decConflict p = s.decConflict p := by
  have hq : ∀ q, q ≤ p → t.mode q = s.mode q ∧ t.laneOn q = s.laneOn q ∧
      t.fld (.decimateM0 q) F.decimateM0.dec = s.fld (.decimateM0 q) F.decimateM0.dec := fun q hq =>
    ⟨State.fld_of_rd (h q hq _ (by simp)) _, congrArg (· == lifeOn) (State.fld_of_rd (h q hq _ (by simp)) F.laneStat.state),
      State.fld_of_rd (h q hq _ (by simp)) _⟩
  obtain ⟨-, -, hdec⟩ := hq p le_rfl
  unfold State.decConflict
  rw [Bool.eq_iff_iff, List.any_eq_true, List.any_eq_true]
  refine exists_congr fun q => and_congr_right fun hmem => ?_
  obtain ⟨hm, ho, hd⟩ := hq q (List.mem_range.1 hmem).le
  rw [hm, ho, hd, hdec]

section
variable {s t : State} (h : s.Shares t)
include h

theorem State.Shares.ticks : t.ticks = s.ticks := by rw [h.frame]

theorem State.Shares.shoreRuns : t.shoreRuns = s.shoreRuns := by rw [h.frame]

theorem State.Shares.inlets : t.inlets = s.inlets := by rw [h.frame]

theorem State.Shares.timeAt (u : Nat) : t.timeAt u = s.timeAt u := by rw [h.frame]; rfl

theorem State.Shares.swapStop (p : Nat) : t.swapStop p = s.swapStop p := by
  rw [State.swapStop, h.frame]
  rfl

theorem State.Shares.cand (p : Nat) : (t.lane p).cand = (s.lane p).cand := (congrArg Lane.cand (h.lane p : t.lane p = _)).trans rfl

theorem State.Shares.filt (p : Nat) : (t.lane p).filt = (s.lane p).filt := (congrArg Lane.filt (h.lane p : t.lane p = _)).trans rfl

theorem State.Shares.hold (p : Nat) : (t.lane p).hold = (s.lane p).hold := (congrArg Lane.hold (h.lane p : t.lane p = _)).trans rfl

theorem State.Shares.echo (p : Nat) : (t.lane p).echo = (s.lane p).echo := (congrArg Lane.echo (h.lane p : t.lane p = _)).trans rfl

variable {p : Nat} (hp : p < 256)
include hp

theorem State.Shares.fld {r : Reg} (hr : r ∈ inputRegs p) (f : Fld) : t.fld r f = s.fld r f :=
  State.fld_of_rd (h.regs r (offFabric_inputRegs hp hr)) f

theorem State.Shares.mode : t.mode p = s.mode p := h.fld hp (by simp [inputRegs]) _

theorem State.Shares.laneOn : t.laneOn p = s.laneOn p := by
  rw [State.laneOn, h.fld hp (by simp [inputRegs])]
  rfl

theorem State.Shares.filtTime : t.filtTime p = s.filtTime p := by
  rw [State.filtTime, h.fld hp (by simp [inputRegs])]
  rfl

theorem State.Shares.laneDomain : t.laneDomain p = s.laneDomain p :=
  State.laneDomain_of_rd (h.regs _ (offFabric_inputRegs hp (by simp [inputRegs])))

theorem State.Shares.decConflict : t.decConflict p = s.decConflict p :=
  State.decConflict_of_rd fun q hq r hr => h.regs r (offFabric_inputRegs (p := q) (by omega) (by
    simp only [List.mem_cons, List.not_mem_nil, or_false] at hr
    obtain rfl | rfl | rfl := hr <;> simp [inputRegs]))

end

/-! ### An input takes a level -/

/-- An input at a level, before the fabric looks at it. -/
def State.withInput (s : State) (p : Nat) (v : Bool) : State :=
  s.setPorts { s.ports with laneIn := if v then s.ports.laneIn ||| BitVec.ofNat 256 (2 ^ p)
                                      else s.ports.laneIn &&& ~~~BitVec.ofNat 256 (2 ^ p) }

/-- What a fabric that may pass something looks at is in the registers, the channels and the event outputs. -/
theorem State.FabricStill.congr {s t : State} (h : s.FabricStill) (hr : t.regs = s.regs) (hc : t.channels = s.channels)
    (he : t.ports.evout = s.ports.evout) : t.FabricStill := by
  have hchan : ∀ c, t.channel c = s.channel c := fun c => by rw [State.channel, hc]; rfl
  have hfld : ∀ r f, t.fld r f = s.fld r f := fun r f => State.fld_congr hr r f
  refine ⟨?_, fun c => (congrArg Channel.refr (hchan c)).trans (h.2 c)⟩
  have hrow : ∀ c, t.rowOf c = s.rowOf c := fun c => by simp [State.rowOf, State.bit, hfld]
  have hout : ∀ c, t.levelOut c = s.levelOut c := fun c => by simp [State.levelOut, hrow, hfld]
  have hlive : t.liveChannels = s.liveChannels := by simp [State.liveChannels, State.holdsOut, hout, hfld, hchan, he]
  exact hlive.trans h.1

section
variable (s : State) (p : Nat) (v : Bool) (t : Nat)

theorem State.shares_withInput : s.Shares (s.withInput p v) := ⟨rfl, fun _ _ => rfl, fun _ => .refl _, .refl _⟩

theorem State.senses_setLaneIn : (s.withInput p v).Senses (s.setLaneIn p v t) := State.senses_scanFabric _ t

theorem State.shares_setLaneIn : s.Shares (s.setLaneIn p v t) :=
  (s.shares_withInput p v).trans (s.senses_setLaneIn p v t).toShares

theorem State.laneIn_withInput {q : Nat} (hq : q < 256) :
    (s.withInput p v).ports.laneIn.getLsbD q = if q = p then v else s.ports.laneIn.getLsbD q := getLsbD_setBit _ hq v

theorem State.laneIn_setLaneIn {q : Nat} (hq : q < 256) :
    (s.setLaneIn p v t).ports.laneIn.getLsbD q = if q = p then v else s.ports.laneIn.getLsbD q := by
  rw [(s.senses_setLaneIn p v t).input, s.laneIn_withInput p v hq]

/-- The pins follow to an instant, and an input takes a level at it. -/
theorem State.shares_seen : s.Shares ((s.settleTo t).setLaneIn p v t) :=
  (State.Senses.settleTo s t).toShares.trans (State.shares_setLaneIn _ p v t)

theorem State.laneIn_seen {q : Nat} (hq : q < 256) :
    ((s.settleTo t).setLaneIn p v t).ports.laneIn.getLsbD q = if q = p then v else s.ports.laneIn.getLsbD q := by
  rw [State.laneIn_setLaneIn _ p v t hq, (State.Senses.settleTo s t).input]

/-- With a fabric that passes nothing the level is all that changes. -/
theorem State.seen_still (h : s.FabricStill) : let seen := (s.settleTo t).setLaneIn p v t
    s.LaneIn p v seen ∧ ({ s with ports := seen.ports } : State).OnlyPins seen := by
  have hpins := s.onlyPins_settleTo t
  have hframe := hpins.1
  have hstill : ((s.settleTo t).withInput p v).FabricStill := h.congr (by rw [hframe]; rfl) (by rw [hframe]; rfl) (by rw [hframe]; rfl)
  have hseen : (s.settleTo t).setLaneIn p v t = (s.settleTo t).withInput p v := State.scanFabric_still hstill t
  intro seen
  refine ⟨⟨?_, fun q hq => s.laneIn_seen p v t hq⟩, ?_, fun q => ?_⟩
  · simp only [seen, hseen]
    rw [hframe]
    rfl
  · simp only [seen, hseen]
    rw [hframe]
    rfl
  · simp only [seen, hseen]
    exact hpins.lane q

end

end Sys2Proof.Machine
end

section
/-! PROOFS. The filter of a lane that takes edges, and what the modes make of an edge it accepts (spec/06 R170, R171, R173). -/

namespace Sys2Proof.Machine

open Sys2Proof

section
variable (s : State) (p : Nat)

/-- A lane that has looked at its input in the present tick. -/
def State.looked (s : State) (p : Nat) : Lane := { s.lane p with inTick := s.ticks + 1 }

/-- A lane that accepts level `v`, an edge that was at the pin at `c` (spec/06 R171). -/
def Lane.accept (x : Lane) (v : Bool) (c : Nat × Time) : Lane := { x with filt := v, accAt := c, cand := none }

/-- A lane that holds no change accepts one without clearing it. -/
theorem Lane.accept_of_none {x : Lane} (h : x.cand = none) (v : Bool) (c : Nat × Time) :
    x.accept v c = { x with filt := v, accAt := c } := by
  rw [Lane.accept, ← h]

@[simp] theorem State.fld_setLane (x : Lane) (r : Reg) (f : Fld) : (s.setLane p x).fld r f = s.fld r f := rfl

/-! ### Acceptance -/

theorem State.acceptance_setLane {x : Lane} (h : x.cand = (s.lane p).cand) (t : Nat) :
    (s.setLane p x).acceptance p t = s.acceptance p t := by
  simp only [State.acceptance, s.lane_setLane_self, h]
  rfl

variable {s p} {t : Nat}

theorem State.acceptance_none (h : (s.lane p).cand = none) : s.acceptance p t = none := by simp [State.acceptance, h]

theorem State.acceptance_early {c : Nat × Time} (h : (s.lane p).cand = some c) (ht : t < c.1 + s.filtTime p) :
    s.acceptance p t = none := by
  simp only [State.acceptance, h]
  exact if_neg (by omega)

theorem State.acceptance_late {c : Nat × Time} (h : (s.lane p).cand = some c) (ht : c.1 + s.filtTime p ≤ t) :
    s.acceptance p t = some (c.1 + s.filtTime p) := by
  simp only [State.acceptance, h]
  exact if_pos ht

theorem State.acceptBy_none (h : s.acceptance p t = none) : s.acceptBy p t = s := by simp [State.acceptBy, h]

theorem State.acceptBy_late {c : Nat × Time} (h : (s.lane p).cand = some c) (ht : c.1 + s.filtTime p ≤ t) :
    s.acceptBy p t = s.acceptEdge p (!(s.lane p).filt) c.1 c.2 (c.1 + s.filtTime p) := by
  simp only [State.acceptBy, State.acceptance_late h ht, h]

/-! ### A level that reaches the filter -/

section
variable {v : Bool} (hacc : s.acceptance p t = none)
include hacc

theorem State.acceptBy_looked : (s.setLane p (s.looked p)).acceptBy p t = s.setLane p (s.looked p) :=
  State.acceptBy_none ((s.acceptance_setLane p (x := s.looked p) rfl t).trans hacc)

/-- What the filter makes of a level where it accepts none it held. -/
theorem State.feedFilter_eq : s.feedFilter p v t =
    if v = (s.lane p).filt then
      if (s.lane p).cand.isSome then
        if s.mode p = modeCapture ∨ s.mode p = modeQuad then
          (s.setLane p { s.looked p with cand := none }).incSat (.laneErr p) F.laneErr.errb
        else s.setLane p { s.looked p with cand := none }
      else s.setLane p (s.looked p)
    else if (s.lane p).cand.isSome then s.setLane p (s.looked p)
    else if s.filtTime p = 0 then (s.setLane p (s.looked p)).acceptEdge p v t (s.timeAt t) t
    else s.setLane p { s.looked p with cand := some (t, s.timeAt t) } := by
  have hset : ∀ f : Lane → Lane, (s.setLane p (s.looked p)).modLane p f = s.setLane p (f (s.looked p)) := fun f => by
    rw [State.modLane, s.lane_setLane_self, s.setLane_setLane]
  have hlook : s.modLane p (fun x => { x with inTick := s.ticks + 1 }) = s.setLane p (s.looked p) := rfl
  simp only [State.feedFilter, hlook, State.acceptBy_looked hacc, s.lane_setLane_self, hset]
  rfl

/-- The filter finds the level it has. -/
theorem State.feedFilter_same (hc : (s.lane p).cand = none) (hv : v = (s.lane p).filt) :
    s.feedFilter p v t = s.setLane p (s.looked p) := by
  rw [State.feedFilter_eq hacc, if_pos hv, if_neg (by simp [hc])]

/-- A change without a filter time is accepted at once. -/
theorem State.feedFilter_change (hc : (s.lane p).cand = none) (hv : v ≠ (s.lane p).filt) (hf : s.filtTime p = 0) :
    s.feedFilter p v t = (s.setLane p (s.looked p)).acceptEdge p v t (s.timeAt t) t := by
  rw [State.feedFilter_eq hacc, if_neg hv, if_neg (by simp [hc]), if_pos hf]

/-- A change with one is held. -/
theorem State.feedFilter_holds (hc : (s.lane p).cand = none) (hv : v ≠ (s.lane p).filt) (hf : s.filtTime p ≠ 0) :
    s.feedFilter p v t = s.setLane p { s.looked p with cand := some (t, s.timeAt t) } := by
  rw [State.feedFilter_eq hacc, if_neg hv, if_neg (by simp [hc]), if_neg hf]

/-- A change that ends before its time is a pulse removed and counted. -/
theorem State.feedFilter_pulse (hc : (s.lane p).cand ≠ none) (hv : v = (s.lane p).filt)
    (hm : s.mode p = modeCapture ∨ s.mode p = modeQuad) :
    s.feedFilter p v t = (s.setLane p { s.looked p with cand := none }).incSat (.laneErr p) F.laneErr.errb := by
  rw [State.feedFilter_eq hacc, if_pos hv, if_pos (Option.isSome_iff_ne_none.2 hc), if_pos hm]

end

/-! ### What the modes make of an accepted edge -/

section
variable {v : Bool} {u : Nat} {time : Time}

theorem State.acceptEdge_eq : s.acceptEdge p v u time t =
    let w := s.setLane p ((s.lane p).accept v (u, time))
    if s.mode p = modeCapture then w.captureEdge p v time else if s.mode p = modeMirror then w.mirrorEdge p v t else w := by
  have hw : s.modLane p (fun x => { x with filt := v, accAt := (u, time), cand := none }) =
      s.setLane p ((s.lane p).accept v (u, time)) := rfl
  have hm : (s.setLane p ((s.lane p).accept v (u, time))).mode p = s.mode p := rfl
  unfold State.acceptEdge
  dsimp only
  rw [hw, hm]
  split
  · exact (if_pos ‹_›).symm
  · rename_i h
    rw [h]
    rfl
  · rename_i h2 h4
    exact ((if_neg h2).trans (if_neg h4)).symm

theorem State.acceptEdge_capture (hm : s.mode p = modeCapture) :
    s.acceptEdge p v u time t = (s.setLane p ((s.lane p).accept v (u, time))).captureEdge p v time :=
  State.acceptEdge_eq.trans (if_pos hm)

theorem State.acceptEdge_mirror (hm : s.mode p = modeMirror) : s.acceptEdge p v u time t = s.setLane p
    { (s.lane p).accept v (u, time) with
      echo := (s.lane p).echo ++ [(if t < (s.lane p).hold then (s.lane p).hold else t + 96, s.mirrorInv p v)] } := by
  have h : s.acceptEdge p v u time t = (s.setLane p ((s.lane p).accept v (u, time))).mirrorEdge p v t :=
    State.acceptEdge_eq.trans ((if_neg (by rw [hm]; decide)).trans (if_pos hm))
  rw [h, State.mirrorEdge, State.modLane, s.lane_setLane_self, s.setLane_setLane]
  rfl

theorem State.acceptEdge_quad (hm : s.mode p = modeQuad) :
    s.acceptEdge p v u time t = s.setLane p ((s.lane p).accept v (u, time)) :=
  State.acceptEdge_eq.trans ((if_neg (by rw [hm]; decide)).trans (if_neg (by rw [hm]; decide)))

/-- An edge that EDGES selects enters the FIFO. -/
theorem State.captureEdge_room (hs : (s.fld (.captureM0 p) F.captureM0.edges).testBit (if v then 0 else 1) = true)
    (hl : (s.lane p).capture.length < 8) : s.captureEdge p v time =
      s.setLane p { s.lane p with capture := (s.lane p).capture ++ [(v, time.extractLsb' 0 48)] } := by
  rw [State.captureEdge, if_pos hs, if_neg (by omega)]
  rfl

/-- A full FIFO counts it. -/
theorem State.captureEdge_full (hs : (s.fld (.captureM0 p) F.captureM0.edges).testBit (if v then 0 else 1) = true)
    (hl : 8 ≤ (s.lane p).capture.length) : s.captureEdge p v time = s.incSat (.laneErr p) F.laneErr.erra := by
  rw [State.captureEdge, if_pos hs, if_pos hl]

theorem State.captureEdge_unselected (hs : (s.fld (.captureM0 p) F.captureM0.edges).testBit (if v then 0 else 1) = false) :
    s.captureEdge p v time = s := if_neg (by simp [hs])

end

end

end Sys2Proof.Machine
end

section
/-! PROOFS. CAPTURE, QUAD, MIRROR and DECIMATE lanes at work and the loopback compare (spec/06 R166 to R176; spec/09 R249,
R250). -/

namespace Sys2Proof.Machine

open Sys2Proof

/-! ### CAPTURE and QUAD lanes -/

section
variable {s : State} {p step : Nat} {lvl : Bool} (hs : s.Live) (hp : p < 256) (hstep : step < 32)

/-- The state in which a level at lane `q`'s input has been seen at instant `t`. -/
def State.seen (s : State) (q : Nat) (v : Bool) (t : Nat) : State := (s.settleTo t).setLaneIn q v t

theorem State.shares_seenAt (s : State) (q : Nat) (v : Bool) (t : Nat) : s.Shares (s.seen q v t) := s.shares_seen q v t

/-- The lane as it has looked at its input. -/
def State.seenLane (s : State) (p : Nat) (lvl : Bool) (step : Nat) : Lane :=
  { (s.seen p lvl (s.stepAt step)).lane p with inTick := s.ticks + 1 }

theorem State.looked_seen (s : State) (p : Nat) (lvl : Bool) (step : Nat) :
    (s.seen p lvl (s.stepAt step)).looked p = s.seenLane p lvl step := by
  rw [State.looked, (s.shares_seenAt p lvl _).ticks, State.seenLane]

/-- The level behind INV_IN. -/
theorem State.behindInv_seen (hp : p < 256) {q : Nat} (hq : q < 256) (v : Bool) (t : Nat) :
    (s.seen q v t).behindInv p q = xor v (s.bit (.laneIo p) F.laneIo.invIn) := by
  rw [State.behindInv, State.seen, State.laneIn_seen _ _ _ _ hq, if_pos rfl, State.bit,
    (s.shares_seen q v t).fld hp (by simp [inputRegs])]
  rfl

include hs hp hstep

theorem exec_captureEdge : exec (.captureEdge p lvl step) s = .next
    (if s.laneOn p && (s.mode p == modeCapture || s.mode p == modeQuad) && !s.swapStop p && s.shoreRuns then
      (s.seen p lvl (s.stepAt step)).feedFilter p (xor lvl (s.bit (.laneIo p) F.laneIo.invIn)) (s.stepAt step)
    else s.seen p lvl (s.stepAt step)) := by
  have h := s.shares_seen p lvl (s.stepAt step)
  have hlevel : (s.seen p lvl (s.stepAt step)).inputLevel p = _ := State.behindInv_seen hp hp _ _
  refine (State.run_next (g := decide (p < 256 ∧ step < 32)) (fun s =>
    let t := s.stepAt step
    let u := s.seen p lvl t
    if u.laneOn p && (u.mode p == modeCapture || u.mode p == modeQuad) && !u.swapStop p && u.shoreRuns then
      u.feedFilter p (u.inputLevel p) t else u) hs.1 hs.2 (decide_eq_true ⟨hp, hstep⟩)).trans (congrArg _ ?_)
  simp only [State.seen, h.laneOn hp, h.mode hp, h.swapStop, h.shoreRuns, hlevel] at hlevel ⊢

theorem exec_captureEdge_idle (h : s.laneOn p = false ∨ s.mode p ≠ modeCapture ∧ s.mode p ≠ modeQuad ∨ s.shoreRuns = false) :
    exec (.captureEdge p lvl step) s = .next (s.seen p lvl (s.stepAt step)) := by
  rw [exec_captureEdge hs hp hstep, if_neg]
  obtain h | ⟨h, h'⟩ | h := h
  · simp [h]
  · simp [h, h']
  · simp [h]

variable (hon : s.laneOn p = true) (hr : s.shoreRuns = true) (hn : s.swapStop p = false)
include hon hr hn

/-- A CAPTURE or QUAD lane that is ON feeds its filter. -/
theorem exec_captureEdge_feeds (hm : s.mode p = modeCapture ∨ s.mode p = modeQuad) : exec (.captureEdge p lvl step) s = .next
    ((s.seen p lvl (s.stepAt step)).feedFilter p (xor lvl (s.bit (.laneIo p) F.laneIo.invIn)) (s.stepAt step)) := by
  rw [exec_captureEdge hs hp hstep, if_pos]
  obtain h | h := hm
  · simp [h, hon, hr, hn]
  · simp [h, hon, hr, hn]

section
variable (hc : (s.lane p).cand = none) (hv : xor lvl (s.bit (.laneIo p) F.laneIo.invIn) ≠ (s.lane p).filt)
  (hf : 32 * s.fld (.laneIo p) F.laneIo.filt = 0)
include hc hv hf

/-- An edge without a filter time is accepted as it comes. -/
theorem exec_captureEdge_accepts (hm : s.mode p = modeCapture ∨ s.mode p = modeQuad) : exec (.captureEdge p lvl step) s = .next
    (((s.seen p lvl (s.stepAt step)).setLane p (s.seenLane p lvl step)).acceptEdge p
      (xor lvl (s.bit (.laneIo p) F.laneIo.invIn)) (s.stepAt step) (s.timeAt (s.stepAt step)) (s.stepAt step)) := by
  have h := s.shares_seenAt p lvl (s.stepAt step)
  have hcand := (h.cand p).trans hc
  rw [exec_captureEdge_feeds hs hp hstep hon hr hn hm, State.feedFilter_change (State.acceptance_none hcand) hcand (h.filt p ▸ hv)
    ((h.filtTime hp).trans hf), s.looked_seen, h.timeAt]

/-- A CAPTURE lane takes the edges it selects into its FIFO, or counts them. -/
theorem answers_captureEdge_accepts (hm : s.mode p = modeCapture) : Answers (.captureEdge p lvl step) s fun t =>
    let seen := s.seen p lvl (s.stepAt step)
    let v := xor lvl (s.bit (.laneIo p) F.laneIo.invIn)
    let time := s.timeAt (s.stepAt step)
    let selected := (s.fld (.captureM0 p) F.captureM0.edges).testBit (if v then 0 else 1)
    let z := { s.seenLane p lvl step with filt := v, accAt := (s.stepAt step, time) }
    (selected = true → (s.lane p).capture.length < 8 →
      t = seen.setLane p { z with capture := (s.lane p).capture ++ [(v, time.extractLsb' 0 48)] }) ∧
    (selected = true → 8 ≤ (s.lane p).capture.length → seen.Counts (.laneErr p) F.laneErr.erra t ∧ seen.RegsBut [.laneErr p] t ∧
      t = { seen.setLane p z with regs := t.regs }) ∧
    (selected = false → t = seen.setLane p z) := by
  have h := s.shares_seenAt p lvl (s.stepAt step)
  have hcand : (s.seenLane p lvl step).cand = none := (h.cand p).trans hc
  obtain ⟨-, -, -, hcap⟩ := (h.lane p).holds
  have hm' : ((s.seen p lvl (s.stepAt step)).setLane p (s.seenLane p lvl step)).mode p = modeCapture := (h.mode hp).trans hm
  have hedges := h.fld hp (r := .captureM0 p) (by simp [inputRegs]) F.captureM0.edges
  refine ⟨_, exec_captureEdge_accepts hs hp hstep hon hr hn hc hv hf (.inl hm), ?_⟩
  rw [State.acceptEdge_capture hm', State.lane_setLane_self, State.setLane_setLane, Lane.accept_of_none hcand]
  beta_reduce
  intro seen v time selected z
  have hz : (seen.setLane p z).lane p = z := seen.lane_setLane_self p z
  have hsel : ((seen.setLane p z).fld (.captureM0 p) F.captureM0.edges).testBit (if v then 0 else 1) = selected := by
    rw [seen.fld_setLane, hedges]
  have hlen : ((seen.setLane p z).lane p).capture = (s.lane p).capture := (congrArg Lane.capture hz).trans hcap
  refine ⟨fun hsl hl => ?_, fun hsl hl => ?_, fun hsl => ?_⟩
  · rw [State.captureEdge_room (hsel.trans hsl) (by rw [hlen]; exact hl), hlen, hz, State.setLane_setLane]
  · rw [State.captureEdge_full (hsel.trans hsl) (by rw [hlen]; exact hl)]
    exact ⟨State.fld_incSat _ _ rfl, fun q hq => State.rd_setFld_ne _ _ _ (hq _ (by simp)), rfl⟩
  · exact State.captureEdge_unselected (hsel.trans hsl)

/-- The position unit of a QUAD lane samples the edge. -/
theorem exec_captureEdge_quad (hm : s.mode p = modeQuad) : exec (.captureEdge p lvl step) s = .next
    ((s.seen p lvl (s.stepAt step)).setLane p { s.seenLane p lvl step with
      filt := xor lvl (s.bit (.laneIo p) F.laneIo.invIn)
      accAt := (s.stepAt step, s.timeAt (s.stepAt step)) }) := by
  have h := s.shares_seenAt p lvl (s.stepAt step)
  have hcand : (s.seenLane p lvl step).cand = none := (h.cand p).trans hc
  have hm' : ((s.seen p lvl (s.stepAt step)).setLane p (s.seenLane p lvl step)).mode p = modeQuad := (h.mode hp).trans hm
  rw [exec_captureEdge_accepts hs hp hstep hon hr hn hc hv hf (.inr hm), State.acceptEdge_quad hm', State.lane_setLane_self,
    State.setLane_setLane, Lane.accept_of_none hcand]

end

variable (hm : s.mode p = modeCapture ∨ s.mode p = modeQuad)
include hm

/-- A level the filter has is no edge. -/
theorem exec_captureEdge_same (hc : (s.lane p).cand = none) (hv : xor lvl (s.bit (.laneIo p) F.laneIo.invIn) = (s.lane p).filt) :
    exec (.captureEdge p lvl step) s = .next ((s.seen p lvl (s.stepAt step)).setLane p (s.seenLane p lvl step)) := by
  have h := s.shares_seenAt p lvl (s.stepAt step)
  have hcand := (h.cand p).trans hc
  rw [exec_captureEdge_feeds hs hp hstep hon hr hn hm, State.feedFilter_same (State.acceptance_none hcand) hcand
    (hv.trans (h.filt p).symm), s.looked_seen]

/-- The filter holds a change. -/
theorem exec_captureEdge_holds (hf : 0 < 32 * s.fld (.laneIo p) F.laneIo.filt) (hc : (s.lane p).cand = none)
    (hv : xor lvl (s.bit (.laneIo p) F.laneIo.invIn) ≠ (s.lane p).filt) :
    exec (.captureEdge p lvl step) s = .next ((s.seen p lvl (s.stepAt step)).setLane p { s.seenLane p lvl step with
      cand := some (s.stepAt step, s.timeAt (s.stepAt step)) }) := by
  have h := s.shares_seenAt p lvl (s.stepAt step)
  have hcand := (h.cand p).trans hc
  have hft : (s.seen p lvl (s.stepAt step)).filtTime p ≠ 0 := by
    rw [h.filtTime hp]
    exact hf.ne'
  rw [exec_captureEdge_feeds hs hp hstep hon hr hn hm, State.feedFilter_holds (State.acceptance_none hcand) hcand
    (h.filt p ▸ hv) hft, s.looked_seen, h.timeAt]

/-- A pulse that ends before its time is removed and counted. -/
theorem answers_captureEdge_pulse {c : Nat × Time} (hc : (s.lane p).cand = some c)
    (ht : s.stepAt step < c.1 + 32 * s.fld (.laneIo p) F.laneIo.filt)
    (hv : xor lvl (s.bit (.laneIo p) F.laneIo.invIn) = (s.lane p).filt) : Answers (.captureEdge p lvl step) s fun t =>
      let seen := s.seen p lvl (s.stepAt step)
      seen.Counts (.laneErr p) F.laneErr.errb t ∧ seen.RegsBut [.laneErr p] t ∧
        t = { seen.setLane p { s.seenLane p lvl step with cand := none } with regs := t.regs } := by
  have h := s.shares_seenAt p lvl (s.stepAt step)
  have hcand := (h.cand p).trans hc
  have hacc : (s.seen p lvl (s.stepAt step)).acceptance p (s.stepAt step) = none := State.acceptance_early hcand (by
    rw [h.filtTime hp]
    exact ht)
  refine ⟨_, exec_captureEdge_feeds hs hp hstep hon hr hn hm, ?_⟩
  rw [State.feedFilter_pulse hacc (by simp [hcand]) (hv.trans (h.filt p).symm) (by rw [h.mode hp]; exact hm), s.looked_seen]
  exact ⟨State.fld_incSat _ _ rfl, fun q hq => State.rd_setFld_ne _ _ _ (hq _ (by simp)), rfl⟩

end

section
variable {s : State} {p : Nat}

/-- A change that has lasted its time is accepted with the instant it had at the pin. -/
theorem State.acceptBy_captured {c : Nat × Time} {n : Nat} (hc : (s.lane p).cand = some c)
    (hn : c.1 + 32 * s.fld (.laneIo p) F.laneIo.filt ≤ n) (hm : s.mode p = modeCapture) (hl : (s.lane p).capture.length < 8)
    (hs : (s.fld (.captureM0 p) F.captureM0.edges).testBit (if !(s.lane p).filt then 0 else 1) = true) :
    s.acceptBy p n = s.setLane p { s.lane p with
      filt := !(s.lane p).filt
      accAt := c
      cand := none
      capture := (s.lane p).capture ++ [(!(s.lane p).filt, c.2.extractLsb' 0 48)] } := by
  have hx : (s.setLane p ((s.lane p).accept (!(s.lane p).filt) c)).lane p = (s.lane p).accept (!(s.lane p).filt) c :=
    s.lane_setLane_self p _
  rw [State.acceptBy_late hc hn, State.acceptEdge_capture hm,
    State.captureEdge_room (s := s.setLane p ((s.lane p).accept (!(s.lane p).filt) c)) hs (by rw [hx]; exact hl), hx,
    State.setLane_setLane]
  rfl

/-! ### Reads of a CAPTURE lane's FIFO -/

theorem State.readLaneM_captureM1 (hp : p < 256) (hm : s.mode p = modeCapture) : s.readLaneM p 1 whole = s.readCapture p whole := by
  have hwin : s.laneWindow p = true := by simp [State.laneWindow, hp]
  have hreg : s.modeReg p 1 = some (.captureM1 p) := by
    have hm : s.mode p = 2 := hm
    simp only [State.modeReg, hm]
  simp only [State.readLaneM, hwin, hreg]
  rfl

theorem exec_captureRead {w : Who} (hs : s.Live) (hp : p < 256) (hm : s.mode p = modeCapture) :
    exec (.captureRead w p whole) s = .next { (s.readCapture p whole).2 with rdata := (s.readCapture p whole).1 } := by
  rw [← State.readLaneM_captureM1 hp hm]
  exact State.run_next (g := decide (p < 264)) (fun s => { (s.readLaneM p 1 whole).2 with rdata := (s.readLaneM p 1 whole).1 })
    hs.1 hs.2 (decide_eq_true (by omega))

end

end Sys2Proof.Machine
end

section
/-! PROOFS. MIRROR and DECIMATE lanes and the loopback compare, and the statement about lanes that take edges (spec/06 R166,
R172 to R174; spec/09 R249, R250). -/

namespace Sys2Proof.Machine

open Sys2Proof

/-! ### MIRROR lanes -/

section
variable {s : State} {p step : Nat} {lvl : Bool}

theorem State.inputPin_mirror (hm : s.mode p = modeMirror) : s.inputPin p = s.fld (.mirrorM0 p) F.mirrorM0.src := if_pos hm

theorem mirrorSrc_lt (s : State) (p : Nat) : s.fld (.mirrorM0 p) F.mirrorM0.src < 256 := s.fld_lt _ F.mirrorM0.src

variable (hs : s.Live) (hp : p < 256) (hstep : step < 32) (hon : s.laneOn p = true) (hm : s.mode p = modeMirror)
  (hn : s.swapStop p = false)
include hs hp hstep hon hm hn

/-- A MIRROR lane copies an edge of its source: through its filter, or in bypass at once. -/
theorem exec_mirrorEdge : let src := s.fld (.mirrorM0 p) F.mirrorM0.src
    let seen := s.seen src lvl (s.stepAt step)
    let v := xor lvl (s.bit (.laneIo p) F.laneIo.invIn)
    exec (.mirrorEdge p ⟨lvl, step⟩) s = .next (if s.shoreRuns then seen.feedFilter p v (s.stepAt step)
      else (seen.setLane p { seen.lane p with lvl := xor v (s.bit (.mirrorM0 p) F.mirrorM0.inv), filt := v }).settle) := by
  intro src seen v
  have h : s.Shares seen := s.shares_seenAt src lvl _
  have hsrc : seen.inputPin p = src := by
    rw [State.inputPin_mirror ((h.mode hp).trans hm), h.fld hp (by simp [inputRegs])]
  have hlevel : seen.behindInv p src = v := State.behindInv_seen hp (mirrorSrc_lt s p) lvl _
  have hinv : seen.mirrorInv p v = xor v (s.bit (.mirrorM0 p) F.mirrorM0.inv) := by
    rw [State.mirrorInv, State.bit, h.fld hp (by simp [inputRegs])]
    rfl
  refine (State.run_next (g := decide (p < 256 ∧ step < 32) && s.laneOn p && s.mode p == modeMirror && !s.swapStop p) (fun s =>
    let t := s.stepAt step
    let u := s.seen (s.inputPin p) lvl t
    if u.shoreRuns then u.feedFilter p (u.behindInv p (u.inputPin p)) t
    else (u.setLane p { u.lane p with lvl := u.mirrorLevel p, filt := u.behindInv p (u.inputPin p) }).settle)
    hs.1 hs.2 (by simp [hp, hstep, hon, hm, hn])).trans (congrArg _ ?_)
  have hpin : s.seen (s.inputPin p) lvl (s.stepAt step) = seen := by rw [State.inputPin_mirror hm]
  simp only [hpin, State.mirrorLevel, hsrc, hlevel, hinv, h.shoreRuns]

theorem exec_mirrorEdge_timed (hr : s.shoreRuns = true) (hf : s.fld (.laneIo p) F.laneIo.filt = 0) (hc : (s.lane p).cand = none)
    (hv : xor lvl (s.bit (.laneIo p) F.laneIo.invIn) ≠ (s.lane p).filt) :
    let seen := s.seen (s.fld (.mirrorM0 p) F.mirrorM0.src) lvl (s.stepAt step)
    let v := xor lvl (s.bit (.laneIo p) F.laneIo.invIn)
    exec (.mirrorEdge p ⟨lvl, step⟩) s = .next (seen.setLane p { seen.lane p with
      inTick := s.ticks + 1
      filt := v
      accAt := (s.stepAt step, s.timeAt (s.stepAt step))
      echo := (s.lane p).echo ++ [(if s.stepAt step < (s.lane p).hold then (s.lane p).hold else s.stepAt step + 96,
        xor v (s.bit (.mirrorM0 p) F.mirrorM0.inv))] }) := by
  intro seen v
  have h : s.Shares seen := s.shares_seenAt _ lvl _
  have hcand : (seen.lane p).cand = none := (h.cand p).trans hc
  have hft : seen.filtTime p = 0 := (h.filtTime hp).trans (by rw [State.filtTime, hf])
  have hm' : (seen.setLane p (seen.looked p)).mode p = modeMirror := (h.mode hp).trans hm
  have hinv : (seen.setLane p (seen.looked p)).mirrorInv p v = xor v (s.bit (.mirrorM0 p) F.mirrorM0.inv) := by
    rw [State.mirrorInv, State.bit, seen.fld_setLane, h.fld hp (by simp [inputRegs])]
    rfl
  have hlook : (seen.looked p).accept v (s.stepAt step, s.timeAt (s.stepAt step)) = { seen.looked p with
      filt := v, accAt := (s.stepAt step, s.timeAt (s.stepAt step)) } :=
    Lane.accept_of_none (x := seen.looked p) hcand v _
  have hhold : (seen.looked p).hold = (s.lane p).hold := h.hold p
  have hecho : (seen.looked p).echo = (s.lane p).echo := h.echo p
  rw [exec_mirrorEdge hs hp hstep hon hm hn, if_pos hr, State.feedFilter_change (State.acceptance_none hcand) hcand (h.filt p ▸ hv)
    hft, State.acceptEdge_mirror hm', hinv, State.lane_setLane_self, State.setLane_setLane, h.timeAt, hhold, hecho, hlook,
    State.looked, h.ticks]

theorem answers_mirrorEdge_bypass (hr : s.shoreRuns = false) :
    let seen := s.seen (s.fld (.mirrorM0 p) F.mirrorM0.src) lvl (s.stepAt step)
    let v := xor lvl (s.bit (.laneIo p) F.laneIo.invIn)
    Answers (.mirrorEdge p ⟨lvl, step⟩) s
      (seen.setLane p { seen.lane p with lvl := xor v (s.bit (.mirrorM0 p) F.mirrorM0.inv), filt := v }).OnlyPins :=
  ⟨_, (exec_mirrorEdge hs hp hstep hon hm hn).trans (congrArg _ (if_neg (by simp [hr]))), (State.follows_settle _).onlyPins⟩

end

/-! ### DECIMATE lanes -/

/-- The state in which the data input and the clock input of decimator lane `p` have been seen at instant `t`. -/
def State.seenClocked (s : State) (p : Nat) (lvl rising : Bool) (t : Nat) : State :=
  ((s.settleTo t).setLaneIn p lvl t).setLaneIn (s.fld (.decimateM0 p) F.decimateM0.clklane) rising t

theorem State.shares_seenClocked (s : State) (p : Nat) (lvl rising : Bool) (t : Nat) : s.Shares (s.seenClocked p lvl rising t) :=
  (s.shares_seen p lvl t).trans (State.shares_setLaneIn _ _ rising t)

section
variable {s : State} {p step : Nat} {lvl rising : Bool} (hp : p < 256)
include hp

theorem State.inputLevel_seenClocked (t : Nat) : (s.seenClocked p lvl rising t).inputLevel p =
    xor (if s.fld (.decimateM0 p) F.decimateM0.clklane = p then rising else lvl) (s.bit (.laneIo p) F.laneIo.invIn) := by
  have hbit : (s.seenClocked p lvl rising t).ports.laneIn.getLsbD p =
      if s.fld (.decimateM0 p) F.decimateM0.clklane = p then rising else lvl := by
    rw [State.seenClocked, State.laneIn_setLaneIn _ _ _ _ hp, State.laneIn_seen _ _ _ _ hp, if_pos rfl]
    exact if_congr eq_comm rfl rfl
  rw [State.inputLevel, State.behindInv, hbit, State.bit, (s.shares_seenClocked p lvl rising t).fld hp (by simp [inputRegs])]
  rfl

variable (hs : s.Live) (hstep : step < 32) (hon : s.laneOn p = true) (hm : s.mode p = modeDecimate)
  (hn : s.swapStop p = false) (hr : s.shoreRuns = true)
include hs hstep hon hm hn hr

/-- A selected clock edge passes the bit. -/
theorem exec_decimateBit : let seen := s.seenClocked p lvl rising (s.stepAt step)
    let bit := xor (if s.fld (.decimateM0 p) F.decimateM0.clklane = p then rising else lvl) (s.bit (.laneIo p) F.laneIo.invIn)
    exec (.decimateBit p lvl ⟨rising, step⟩) s = .next (if rising = s.bit (.decimateM0 p) F.decimateM0.clkedge then seen
      else seen.decimate p bit (s.stepAt step)) := by
  intro seen bit
  have h : s.Shares seen := s.shares_seenClocked p lvl rising _
  have hlevel : seen.inputLevel p = bit := State.inputLevel_seenClocked hp _
  have hsel : seen.clockSelects p rising = (rising != s.bit (.decimateM0 p) F.decimateM0.clkedge) := by
    rw [State.clockSelects, State.bit, h.fld hp (by simp [inputRegs])]
    rfl
  refine (State.run_next (g := decide (p < 256 ∧ step < 32) && s.laneOn p && s.mode p == modeDecimate && !s.swapStop p &&
      s.shoreRuns) (fun s =>
    let t := s.stepAt step
    let u := s.seenClocked p lvl rising t
    if u.clockSelects p rising then u.decimate p (u.inputLevel p) t else u)
    hs.1 hs.2 (by simp [hp, hstep, hon, hm, hn, hr])).trans (congrArg _ ?_)
  show (if seen.clockSelects p rising then seen.decimate p (seen.inputLevel p) (s.stepAt step) else seen) = _
  rw [hsel, hlevel]
  by_cases he : rising = s.bit (.decimateM0 p) F.decimateM0.clkedge
  · simp [he]
  · simp [he]

end

/-- An inlet's registers lie outside the fabric's. -/
theorem offFabric_inlet {n : Nat} (hn : n < 64) {r : Reg} (hr : r = .inlStat n ∨ r = .inlDec n) : r.offFabric := by
  obtain rfl | rfl := hr <;> simp only [Reg.offFabric, Reg.key] <;> omega

theorem State.decInlet_lt (s : State) (p : Nat) : s.decInlet p < 64 := by
  have h : s.fld (.decimateM0 p) F.decimateM0.dec < 32 := s.fld_lt _ F.decimateM0.dec
  rw [State.decInlet]
  omega

theorem State.decConflict_setLane (s : State) (p q : Nat) (x : Lane) : (s.setLane p x).decConflict q = s.decConflict q := rfl

/-- What a bit makes of the filter of inlet `n` (spec/09 R249, R250). -/
def State.filtered1 (s : State) (n : Nat) (bit : Bool) : Sinc × Option (BitVec 16) :=
  (if (s.inlet n).owed then Sinc.init else (s.inlet n).sinc).step (s.osr n) (s.fld (.inlDec n) F.inlDec.shift) bit

theorem State.filterBit_none {s : State} {n : Nat} {bit : Bool} (t : Nat) (h : (s.filtered1 n bit).2 = none) :
    s.filterBit n bit t = s.setInlet n { s.inlet n with sinc := (s.filtered1 n bit).1, owed := false } := by
  rw [State.filtered1] at h
  simp only [State.filterBit, h]
  rfl

theorem State.filterBit_some {s : State} {n : Nat} {bit : Bool} (t : Nat) {r : BitVec 16} (h : (s.filtered1 n bit).2 = some r) :
    s.filterBit n bit t =
      (s.setInlet n { s.inlet n with sinc := (s.filtered1 n bit).1, owed := false }).takeSample n r 0 t := by
  rw [State.filtered1] at h
  simp only [State.filterBit, h]
  rfl

section
variable {s u : State} (h : s.Shares u)
include h

theorem State.Shares.inlet (n : Nat) : u.inlet n = s.inlet n := by rw [State.inlet, h.inlets]; rfl

theorem State.Shares.inlOn {n : Nat} (hn : n < 64) : u.inlOn n = s.inlOn n :=
  congrArg (· == lifeOn) (State.fld_of_rd (h.regs _ (offFabric_inlet hn (.inl rfl))) F.inlStat.state)

theorem State.Shares.filtered1 {n : Nat} (hn : n < 64) (bit : Bool) : u.filtered1 n bit = s.filtered1 n bit := by
  have hdec : ∀ f, u.fld (.inlDec n) f = s.fld (.inlDec n) f := State.fld_of_rd (h.regs _ (offFabric_inlet hn (.inr rfl)))
  simp only [State.filtered1, State.osr, h.inlet, hdec]

variable {p : Nat} (hp : p < 256)
include hp

theorem State.Shares.decInlet : u.decInlet p = s.decInlet p := by
  rw [State.decInlet, h.fld hp (by simp [inputRegs])]
  rfl

/-- A selected clock edge: the lowest lane that is ON passes its bit, every other counts it. -/
theorem State.Shares.decimate (bit : Bool) (t : Nat) : u.decimate p bit t =
    let w := u.setLane p { u.lane p with clkAt := s.ticks, clkLost := false }
    if s.decConflict p then w.incSat (.laneErr p) F.laneErr.errb
    else if s.inlOn (s.decInlet p) then w.filterBit (s.decInlet p) bit t else w := by
  have hw : u.modLane p (fun x => { x with clkAt := u.ticks, clkLost := false }) =
      u.setLane p { u.lane p with clkAt := s.ticks, clkLost := false } := by rw [h.ticks]; rfl
  simp only [State.decimate, hw, State.decConflict_setLane, h.decConflict hp]
  have hin : ∀ x, (u.setLane p x).decInlet p = s.decInlet p := fun _ => h.decInlet hp
  have hon : ∀ x, (u.setLane p x).inlOn (s.decInlet p) = s.inlOn (s.decInlet p) := fun _ => h.inlOn (s.decInlet_lt p)
  simp only [hin, hon]

end

/-! ### A clock that stops -/

section
variable {s : State} {p : Nat}

theorem answers_decimateClockLoss (hs : s.Live) (hp : p < 256) (hr : s.shoreRuns = true) (hon : s.laneOn p = true)
    (hm : s.mode p = modeDecimate) (hn : s.fld (.decimateM0 p) F.decimateM0.mclkTmo ≠ 0) (hl : (s.lane p).clkLost = false)
    (hd : (s.lane p).clkAt + 8 * s.fld (.decimateM0 p) F.decimateM0.mclkTmo ≤ s.ticks) :
    Answers (.decimateClockLoss p) s fun t =>
      t.fld (.decimateM1 p) F.decimateM1.clkloss = 1 ∧ s.Counts (.laneErr p) F.laneErr.erra t ∧
      t.lane p = { s.lane p with clkLost := true } ∧ s.RegsBut [.decimateM1 p, .laneErr p] t ∧
      (s.decConflict p = false → (t.inlet (s.decInlet p)).owed = true) ∧
      t = { s with regs := t.regs, lanes := t.lanes, inlets := t.inlets } := by
  have hdue : s.clockLost p = true := by simp [State.clockLost, hr, hon, hm, hn, hl, hd]
  let a := s.setFld (.decimateM1 p) F.decimateM1.clkloss 1
  let b := if a.decConflict p then a else a.modInlet (a.decInlet p) fun x => { x with owed := true }
  have hrd : ∀ q, q ≤ p → ∀ r ∈ [Reg.laneCtrl q, .laneStat q, .decimateM0 q], a.rd r = s.rd r := fun q hq r hr =>
    s.rd_setFld_ne _ _ (by
      simp only [List.mem_cons, List.not_mem_nil, or_false] at hr
      obtain rfl | rfl | rfl := hr <;> simp only [Reg.key] <;> omega)
  have hconf : a.decConflict p = s.decConflict p := State.decConflict_of_rd hrd
  have hin : a.decInlet p = s.decInlet p := by
    rw [State.decInlet, State.fld_of_rd (hrd p le_rfl _ (by simp))]
    rfl
  have hb : b = { a with inlets := b.inlets } := by
    simp only [b]
    split <;> rfl
  have howed : s.decConflict p = false → (b.inlet (s.decInlet p)).owed = true := fun hc => by
    have h : b = a.modInlet (s.decInlet p) fun x => { x with owed := true } := by simp [b, hconf, hc, hin]
    rw [h]
    exact congrArg Inlet.owed (SMap.get_put_self a.inlets _ _ _)
  have hregs : b.regs = a.regs := by rw [hb]
  have hlane : b.lane p = s.lane p := State.lane_congr (by rw [hb]; rfl) p
  have hkey : (Reg.decimateM1 p).key ≠ (Reg.laneErr p).key := by simp only [Reg.key]; omega
  have hloss : s.loseClock p = (b.setLane p { s.lane p with clkLost := true }).incSat (.laneErr p) F.laneErr.erra := by
    rw [← hlane]
    rfl
  have hberr : b.fld (.laneErr p) F.laneErr.erra = s.fld (.laneErr p) F.laneErr.erra :=
    (State.fld_congr hregs _ _).trans (State.fld_of_rd (s.rd_setFld_ne _ _ hkey.symm) _)
  refine Answers.of_run (g := decide (p < 256) && s.clockLost p) (f := fun s => s.loseClock p) rfl hs (by simp [hp, hdue]) ?_
  rw [hloss]
  refine ⟨?_, ?_, ?_, fun q hq => ?_, howed, ?_⟩
  · refine (State.fld_of_rd (State.rd_setFld_ne _ _ _ hkey) _).trans ?_
    exact (State.fld_congr (s := a) hregs _ _).trans (State.fld_setFld_self _ _ rfl _)
  · rw [State.Counts, State.fld_incSat _ _ rfl, State.fld_setLane, hberr]
  · rw [State.lane_incSat, State.lane_setLane_self]
  · obtain ⟨hq1, hq2⟩ := by simpa using hq
    exact (State.rd_setFld_ne _ _ _ hq2).trans ((State.rd_congr (s := a) hregs q).trans (s.rd_setFld_ne _ _ hq1))
  · rw [hb]
    rfl

end

end Sys2Proof.Machine
end

section
/-! PROOFS. The loopback compare, and the statement about lanes that take edges (spec/06 R166 to R176). -/

namespace Sys2Proof.Machine

open Sys2Proof

/-! ### The loopback compare -/

theorem State.laneDomain_lt {s : State} {p dom : Nat} (h : s.laneDomain p = some dom) : dom < 8 := by
  unfold State.laneDomain at h
  split at h
  · obtain rfl := Option.some.inj h
    exact s.fld_lt _ F.laneCtrl.dom
  · cases h

theorem offFabric_engDctl {m : Nat} (h : m < 8) : (Reg.engDctl m).offFabric := by simp only [Reg.offFabric, Reg.key]; omega

section
variable {s : State} {p : Nat} {b : Bool} {l : List (Bool × Nat)} {n : Nat}

/-- The state in which lane `p`'s oldest compare has been taken off, with its input seen at instant `t`. -/
def State.compared (s : State) (p : Nat) (lvl : Bool) (t : Nat) : State :=
  (s.seen p lvl t).setLane p { (s.seen p lvl t).lane p with compares := ((s.seen p lvl t).lane p).compares.tail }

/-- The oldest compare is the one that waited. -/
theorem State.head_seen (hx : (s.lane p).compares = (b, n) :: l) (lvl : Bool) (t : Nat) :
    ((s.seen p lvl t).lane p).compares.head? = some (b, n) := by
  obtain ⟨k, hk⟩ := (s.shares_seenAt p lvl t).compares p
  rw [← hk, hx]
  rfl

/-- What the oldest compare makes of the level. -/
theorem State.compare_seen (hp : p < 256) (hx : (s.lane p).compares = (b, n) :: l) (lvl : Bool) (t : Nat) :
    (s.seen p lvl t).compare p =
      let u := s.compared p lvl t
      let counted := u.incSat (.laneErr p) F.laneErr.errb
      if !(u.comparable p && (u.pin p).2) || lvl == b then u
      else match s.laneDomain p with
        | some dom => if s.bit (.engDctl dom) F.engDctl.loopflt then counted.laneFault p 7 else counted
        | none => counted := by
  have h := s.shares_seenAt p lvl t
  have hin : (s.seen p lvl t).ports.laneIn.getLsbD p = lvl := (s.laneIn_seen p lvl t hp).trans (if_pos rfl)
  have hdom : ((s.compared p lvl t).incSat (.laneErr p) F.laneErr.errb).laneDomain p = s.laneDomain p := by
    refine (State.laneDomain_of_rd (State.rd_setFld_ne _ _ _ ?_)).trans (h.laneDomain hp)
    simp only [Reg.key]
    omega
  have hflt : ∀ dom, s.laneDomain p = some dom →
      ((s.compared p lvl t).incSat (.laneErr p) F.laneErr.errb).bit (.engDctl dom) F.engDctl.loopflt =
        s.bit (.engDctl dom) F.engDctl.loopflt := fun dom hd => by
    have hlt := State.laneDomain_lt hd
    have hkey : (Reg.engDctl dom).key ≠ (Reg.laneErr p).key := by simp only [Reg.key]; omega
    exact congrArg (· != 0) ((State.fld_of_rd (State.rd_setFld_ne _ _ _ hkey) _).trans
      (State.fld_of_rd (h.regs _ (offFabric_engDctl hlt)) F.engDctl.loopflt))
  have hmod : (s.seen p lvl t).modLane p (fun x => { x with compares := x.compares.tail }) = s.compared p lvl t := rfl
  have hports : (s.compared p lvl t).ports = (s.seen p lvl t).ports := rfl
  simp only [State.compare, State.head_seen hx, hmod, hports, hin, hdom, Option.map_some, Option.getD_some]
  split
  · rfl
  · cases hd : s.laneDomain p with
    | none => rfl
    | some dom => simp only [hflt dom hd]

variable (hs : s.Live) (hp : p < 256) (hx : (s.lane p).compares = (b, n) :: l) (hr : s.shoreRuns = true)
  (hd : n + max 1 (s.fld (.laneIo p) F.laneIo.loopdly) ≤ s.ticks)
include hs hp hx hr hd

theorem exec_loopbackCompare (lvl : Bool) : exec (.loopbackCompare p lvl) s = .next ((s.seen p lvl (s.now + 31)).compare p) := by
  have hdue : s.compareDue p = true := by simp [State.compareDue, hr, hx, hd]
  exact State.run_next (g := decide (p < 256) && s.compareDue p) (fun s => (s.seen p lvl (s.now + 31)).compare p) hs.1 hs.2
    (by simp [hp, hdue])

end

/-- Settles O35: a level seen by the fabric, the filter's cases, reads of the FIFO, the mirror's two modes, the decimator's bit
and its clock, and the loopback compare. -/
theorem inputLanesTakeEdges : Obligations.InputLanesTakeEdges := by
  unfold Obligations.InputLanesTakeEdges
  intro s w p step lvl hs hp hstep x at_ time v seen
  refine ⟨fun h => s.seen_still p lvl at_ h, fun h => exec_captureEdge_idle hs hp hstep h, fun hon hr hn => ?_,
    fun c l hm hx => ?_, fun hm hx => ?_, fun hon hm hn => ?_, fun rising hon hm hn hr => ?_, ?_, fun b n l hx hr hd => ?_⟩
  · intro y filt selected
    refine ⟨fun hm hf hc hv => ?_, fun hm hf hc hv => ?_, fun hm hc hv => ?_, fun hm hf => ⟨fun hc hv => ?_, fun c hc ht hv => ?_⟩,
      fun c n hc hn hm hl hsel => ?_⟩
    · exact answers_captureEdge_accepts hs hp hstep hon hr hn hc hv hf hm
    · exact exec_captureEdge_quad hs hp hstep hon hr hn hc hv hf hm
    · exact exec_captureEdge_same hs hp hstep hon hr hn hm hc hv
    · exact exec_captureEdge_holds hs hp hstep hon hr hn hm hf hc hv
    · exact answers_captureEdge_pulse hs hp hstep hon hr hn hm hc ht hv
    · exact State.acceptBy_captured hc hn hm hl hsel
  · rw [exec_captureRead hs hp hm, State.readCapture, hx]
    rfl
  · rw [exec_captureRead hs hp hm, State.readCapture, hx]
  · intro src seen out
    exact ⟨fun hr hf hc hv => exec_mirrorEdge_timed hs hp hstep hon hm hn hr hf hc hv,
      fun hr => answers_mirrorEdge_bypass hs hp hstep hon hm hn hr⟩
  · intro seen z n bit f
    have hexec := exec_decimateBit (lvl := lvl) (rising := rising) hp hs hstep hon hm hn hr
    have hdec := (s.shares_seenClocked p lvl rising at_).decimate hp bit at_
    refine ⟨fun he => hexec.trans (congrArg _ (if_pos he)), fun he => ?_⟩
    replace hexec : exec (.decimateBit p lvl ⟨rising, step⟩) s = .next (seen.decimate p bit at_) :=
      hexec.trans (congrArg _ (if_neg he))
    rw [hexec]
    refine ⟨fun hc => ?_, fun hc ho => ?_, fun hc ho => ⟨_, hexec, ?_⟩⟩
    · exact congrArg _ (hdec.trans (if_pos hc))
    · exact congrArg _ (hdec.trans ((if_neg (by simp [hc])).trans (if_neg (by simp [n, ho, State.decInlet]))))
    · have hfilter : seen.decimate p bit at_ = (seen.setLane p z).filterBit n bit at_ :=
        hdec.trans ((if_neg (by simp [hc])).trans (if_pos ho))
      have hg : (seen.setLane p z).filtered1 n bit = s.filtered1 n bit :=
        (s.shares_seenClocked p lvl rising at_).filtered1 (s.decInlet_lt p) bit
      rw [hfilter]
      refine ⟨fun h => ?_, fun r h => ?_⟩
      · rw [State.filterBit_none at_ ((congrArg Prod.snd hg).trans h), hg]
        rfl
      · rw [State.filterBit_some at_ ((congrArg Prod.snd hg).trans h), hg]
        rfl
  · exact fun hr hon hm hn hl hd => answers_decimateClockLoss hs hp hr hon hm hn hl hd
  · intro end_ seen u
    have hexec : exec (.loopbackCompare p lvl) s = .next (seen.compare p) := exec_loopbackCompare hs hp hx hr hd lvl
    have hcmp := State.compare_seen hp hx lvl end_
    rw [hexec]
    refine ⟨fun he => ?_, fun he hno => ?_, fun he hyes => ?_⟩
    · exact congrArg _ (hcmp.trans (if_pos (by simp [he])))
    · exact congrArg _ (hcmp.trans (if_pos (Bool.or_eq_true_iff.2 (.inl (congrArg (!·) hno)))))
    · have hdiff := hcmp.trans (if_neg fun h => (Bool.or_eq_true_iff.1 h).elim
        (fun h => absurd ((congrArg (!·) hyes).symm.trans h) (by decide)) fun h => he (beq_iff_eq.1 h))
      refine ⟨fun hnone => congrArg _ (hdiff.trans ?_), fun dom hdom hflt => congrArg _ (hdiff.trans ?_)⟩
      · cases hdom : s.laneDomain p with
        | none => rfl
        | some dom => exact if_neg (by simp [hnone dom hdom])
      · rw [hdom]
        exact if_pos hflt

end Sys2Proof.Machine
end

section
/-! PROOFS. What the pins show and the limits read, while only pins change (spec/01 R10; spec/07 R203, R204). -/

namespace Sys2Proof.Machine

open Sys2Proof

/-! ### The lanes that hold anything -/

theorem mem_insertNum_iff {l : List Nat} {n m : Nat} : m ∈ insertNum l n ↔ m = n ∨ m ∈ l := by
  refine ⟨mem_insertNum, ?_⟩
  induction l with
  | nil => simp [insertNum]
  | cons a l ih =>
    unfold insertNum
    split
    · simp
    · split
      · simp_all
      · simp only [List.mem_cons]
        tauto

theorem rising_insertNum {l : List Nat} (h : l.Pairwise (· < ·)) (n : Nat) : (insertNum l n).Pairwise (· < ·) := by
  induction l with
  | nil => simp [insertNum]
  | cons a l ih =>
    obtain ⟨ha, hl⟩ := List.pairwise_cons.1 h
    unfold insertNum
    split
    · refine List.pairwise_cons.2 ⟨fun b hb => ?_, h⟩
      rcases List.mem_cons.1 hb with rfl | hb
      · assumption
      · exact Nat.lt_trans ‹_› (ha b hb)
    · split
      · exact h
      · refine List.pairwise_cons.2 ⟨fun b hb => ?_, ih hl⟩
        rcases mem_insertNum hb with rfl | hb
        · omega
        · exact ha b hb

theorem mem_foldl_insertNum_iff {l l' : List Nat} {m : Nat} : m ∈ l.foldl insertNum l' ↔ m ∈ l ∨ m ∈ l' := by
  induction l generalizing l' with
  | nil => simp
  | cons a l ih => rw [List.foldl_cons, ih, mem_insertNum_iff, List.mem_cons, or_assoc, or_left_comm]

theorem rising_foldl_insertNum (l : List Nat) {l' : List Nat} (h : l'.Pairwise (· < ·)) :
    (l.foldl insertNum l').Pairwise (· < ·) := by
  induction l generalizing l' with
  | nil => exact h
  | cons a l ih => exact ih (rising_insertNum h a)

/-- The lanes whose safe pattern has been written. -/
def State.safeLanes (s : State) : List Nat := s.regs.filterMap fun x => arrayAt (Reg.laneSafe 0).key 0x40 256 x.1

/-- The lanes that the state lists. -/
def State.listedLanes (s : State) : List Nat := s.lanes.map (·.1)

theorem State.mem_busyLanes {s : State} {p : Nat} :
    p ∈ s.busyLanes ↔ (p ∈ s.listedLanes ∨ p ∈ s.safeLanes) ∧ p < 256 := by
  simp only [State.busyLanes, mem_foldl_insertNum_iff, State.listedLanes, State.safeLanes, List.mem_filter, List.mem_append,
    decide_eq_true_eq, List.not_mem_nil, or_false]

theorem State.nodup_busyLanes (s : State) : s.busyLanes.Nodup :=
  (rising_foldl_insertNum _ List.Pairwise.nil).imp Nat.ne_of_lt

theorem SMap.get_of_unlisted {V : Type} {m : SMap V} {k : Nat} (d : V) (h : k ∉ m.map (·.1)) : m.get k d = d := by
  induction m with
  | nil => rfl
  | cons c m ih =>
    obtain ⟨hc, hm⟩ := not_or.1 (List.mem_cons.not.1 h)
    exact (if_neg fun e => hc e.symm).trans (ih hm)

/-- A lane that is not listed is as after reset. -/
theorem State.lane_of_unlisted {s : State} {p : Nat} (h : p ∉ s.listedLanes) : s.lane p = .init := SMap.get_of_unlisted _ h

theorem SMap.listed_of_put {V : Type} [DecidableEq V] {m : SMap V} {k j : Nat} {v d : V}
    (h : j ∈ (m.put k v d).map (·.1)) : j = k ∨ j ∈ m.map (·.1) := by
  have herase : ∀ c ∈ m.erase k, c ∈ m := fun c hc => (List.mem_filter.1 (SMap.erase_eq_filter m k ▸ hc)).1
  obtain ⟨c, hc, rfl⟩ := List.mem_map.1 h
  unfold SMap.put at hc
  split at hc
  · exact .inr (List.mem_map_of_mem (herase c hc))
  · rcases SMap.mem_insert.1 hc with rfl | hc
    · exact .inl rfl
    · exact .inr (List.mem_map_of_mem (herase c hc))

theorem State.listed_of_setLane {s : State} {p q : Nat} {x : Lane} (h : q ∈ (s.setLane p x).listedLanes) :
    q = p ∨ q ∈ s.listedLanes := SMap.listed_of_put h

/-! ### What is read where only pins have changed -/

section
variable {s t : State} (h : s.OnlyPins t)
include h

theorem State.OnlyPins.regs : t.regs = s.regs := by rw [h.1]

theorem State.OnlyPins.fld (r : Reg) (f : Fld) : t.fld r f = s.fld r f := State.fld_congr h.regs r f

theorem State.OnlyPins.bit (r : Reg) (f : Fld) : t.bit r f = s.bit r f := by simp only [State.bit, h.fld]

theorem State.OnlyPins.ticks : t.ticks = s.ticks := by rw [h.1]

theorem State.OnlyPins.shoreRuns : t.shoreRuns = s.shoreRuns := by rw [h.1]

theorem State.OnlyPins.now : t.now = s.now := congrArg (32 * ·) h.ticks

theorem State.OnlyPins.mode (p : Nat) : t.mode p = s.mode p := h.fld _ _

theorem State.OnlyPins.laneOn (p : Nat) : t.laneOn p = s.laneOn p := by simp only [State.laneOn, h.fld]

theorem State.OnlyPins.laneDomain (p : Nat) : t.laneDomain p = s.laneDomain p := by simp only [State.laneDomain, h.fld, h.bit]

theorem State.OnlyPins.swapStop (p : Nat) : t.swapStop p = s.swapStop p := by
  rw [h.1]
  rfl

theorem State.OnlyPins.holding (p : Nat) : t.holding p = s.holding p := by
  have hd : ∀ d, t.domain d = s.domain d := fun d => by
    rw [h.1]
    rfl
  simp only [State.holding, h.laneDomain, State.domainOn, State.sub, h.fld, h.bit, hd, h.laneOn, h.mode]

theorem State.OnlyPins.rank (p : Nat) : t.rank p = s.rank p := by
  have hs : t.swapping p = s.swapping p := by
    rw [h.1]
    rfl
  have hr : t.inReset = s.inReset ∧ t.test = s.test := by
    rw [h.1]
    exact ⟨rfl, rfl⟩
  simp only [State.rank, hs, hr, State.tripped, h.laneDomain, State.domainOn, State.sub, h.fld, h.holding]
  rfl

theorem State.OnlyPins.held (p : Nat) : (t.lane p).held = (s.lane p).held := (congrArg Lane.held (h.2 p)).trans rfl

theorem State.OnlyPins.level (p : Nat) : (t.lane p).lvl = (s.lane p).lvl ∧ (t.lane p).oe = (s.lane p).oe := (h.lane p).level

theorem State.OnlyPins.executable (p : Nat) : t.executable p = s.executable p := by
  have hc : (t.lane p).core = (s.lane p).core := (congrArg Lane.core (h.2 p)).trans rfl
  have hr : (t.lane p).ranTick = (s.lane p).ranTick := (congrArg Lane.ranTick (h.2 p)).trans rfl
  have hn : (t.lane p).ranCount = (s.lane p).ranCount := (congrArg Lane.ranCount (h.2 p)).trans rfl
  simp only [State.executable, State.runsLeft, h.shoreRuns, h.laneOn, h.mode, h.swapStop, h.ticks, hc, hr, hn]

theorem State.OnlyPins.streamLevel (p u : Nat) : t.streamLevel p u = s.streamLevel p u := by
  have hx : t.lane p = _ := h.2 p
  have htime : t.tick = s.tick ∧ t.asleep = s.asleep := by
    rw [h.1]
    exact ⟨rfl, rfl⟩
  simp only [State.streamLevel, State.wordAt, State.streamTick, State.bitPeriod, State.wordBits, State.peekWord, State.exporting,
    h.fld, h.bit, h.laneOn, h.mode, h.ticks, htime, congrArg Lane.started hx, congrArg Lane.txStart hx, congrArg Lane.txWord hx,
    congrArg Lane.fifo hx, congrArg Lane.onAt hx]
  rfl

theorem State.OnlyPins.wants (p u : Nat) : t.wants p u = s.wants p u := by
  have he : t.edgeLevel p u = s.edgeLevel p u := by
    simp only [State.edgeLevel, State.effectAt, h.executable, h.ticks, h.now, h.level]
  have hm : (t.lane p).mirrored u = (s.lane p).mirrored u := by
    simp only [Lane.mirrored, h.level, (congrArg Lane.echo (h.2 p)).trans rfl]
  simp only [State.wants, h.mode, he, h.streamLevel, hm, h.bit, h.level]

/-- What the limits process does not depend on the pins. -/
theorem State.OnlyPins.request (p u : Nat) : t.request p u = s.request p u := by
  simp only [State.request, h.holding, h.held, h.wants]

theorem State.OnlyPins.limited (p : Nat) : t.limited p = s.limited p := by
  simp only [State.limited, h.laneOn, h.mode, h.fld]

theorem State.OnlyPins.minpw (p : Nat) : t.minpw p = s.minpw p := h.fld _ _

theorem State.OnlyPins.maxon (p : Nat) : t.maxon p = s.maxon p := congrArg (32 * ·) (h.fld _ _)

theorem State.OnlyPins.deadt (p : Nat) : t.deadt p = s.deadt p := h.fld _ _

theorem State.OnlyPins.ownDecides (p : Nat) : t.ownDecides p = s.ownDecides p := by
  simp only [State.ownDecides, h.rank, h.held]

theorem State.OnlyPins.safeLanes : t.safeLanes = s.safeLanes := by simp only [State.safeLanes, h.regs]

/-- A lane asks to be on as before where its limited level is as before. -/
theorem State.OnlyPins.wantsOn {p : Nat} (hl : (t.lane p).limited = (s.lane p).limited) (u : Nat) :
    t.wantsOn p u = s.wantsOn p u := by
  simp only [State.wantsOn, h.limited, h.ownDecides, hl, h.request]

theorem State.OnlyPins.safeLevel (p : Nat) : t.safeLevel p = s.safeLevel p ∧ t.inert p = s.inert p := by
  have hp : t.ports = s.ports := by rw [h.1]
  simp only [State.safeLevel, State.inert, h.bit, hp, and_self]

/-- What a lane's pin shows follows the level that its limits and its grant let through, or does not depend on them. -/
theorem State.OnlyPins.modeOutput (p u : Nat) : t.modeOutput p u = s.modeOutput p u ∨
    t.modeOutput p u = (xor (t.shown p u).1 (s.bit (.laneIo p) F.laneIo.invOut), (t.shown p u).2) ∧
    s.modeOutput p u = (xor (s.shown p u).1 (s.bit (.laneIo p) F.laneIo.invOut), (s.shown p u).2) := by
  simp only [State.modeOutput, h.laneOn, h.mode, h.bit, h.safeLevel, h.wants]
  split
  · exact .inl rfl
  · generalize s.mode p = m
    match m with
    | 0 | 5 => exact .inr ⟨rfl, rfl⟩
    | 1 | 2 | 3 | 4 | _ + 6 => exact .inl rfl

theorem State.OnlyPins.pinAt_cases (p u : Nat) : t.pinAt p u = s.pinAt p u ∨
    t.pinAt p u = (xor (t.shown p u).1 (s.bit (.laneIo p) F.laneIo.invOut), (t.shown p u).2) ∧
    s.pinAt p u = (xor (s.shown p u).1 (s.bit (.laneIo p) F.laneIo.invOut), (s.shown p u).2) := by
  have hm := h.modeOutput p u
  simp only [State.pinAt, h.rank, h.safeLevel, State.safePattern, h.bit, h.held]
  generalize s.rank p = r
  match r with
  | 1 | 2 | 3 | 4 => exact .inl rfl
  | 5 =>
    cases (s.lane p).held.isSome
    · exact .inl rfl
    · exact hm
  | 0 | _ + 6 => exact hm

/-- A pin shows the same where its lane passes on the same level with the same grant. -/
theorem State.OnlyPins.pinAt {p u : Nat} (hs : t.shown p u = s.shown p u) : t.pinAt p u = s.pinAt p u :=
  (h.pinAt_cases p u).elim id fun ⟨ht, hs'⟩ => by rw [ht, hs', hs]

/-- A pin that is on stays on while its lane's limited level stays and its grant is not lost. -/
theorem State.OnlyPins.pinIsOn {p u : Nat} (hl : (t.lane p).limited = (s.lane p).limited)
    (hg : (s.lane p).grant = true → (t.lane p).grant = true) (ho : s.pinIsOn p u = true) : t.pinIsOn p u = true := by
  have h2 : (t.shown p u).2 = (s.shown p u).2 := by simp only [State.shown, h.request]
  have h1 : (s.shown p u).1 = true → (t.shown p u).1 = true := by
    simp only [State.shown, h.limited, h.request, hl]
    split
    · simp only [Bool.and_eq_true, Bool.or_eq_true]
      exact And.imp_right (Or.imp_left hg)
    · exact id
  simp only [State.pinIsOn, State.isOn, h.bit] at *
  rcases h.pinAt_cases p u with e | ⟨et, es⟩
  · rw [e]
    exact ho
  · rw [es] at ho
    rw [et, h2]
    revert h1 ho
    cases (s.shown p u).1 <;> cases (t.shown p u).1 <;> cases s.bit (.laneIo p) F.laneIo.invOut <;> simp

end

theorem State.here_settle (s : State) : s.settle.here = s.here := by
  have h : s.settle.ticks = s.ticks ∧ s.settle.shore = s.shore := by simp
  rw [State.here, State.now, h.1, h.2]
  rfl

end Sys2Proof.Machine
end

section
/-! PROOFS. The ends of MINPW, MAXON and the dead time (spec/07 R203, R204): what the pins that follow to an instant leave of the
limits of each lane, and which lanes hold their grant there. -/

namespace Sys2Proof.Machine

open Sys2Proof

/-- Where a step at one number leaves `P`, and steps at the others keep it, `P` holds behind a fold that visits the number. -/
theorem foldl_establishes {σ α : Type} {P : σ → Prop} {f : σ → α → σ} {l : List α} {a : α} (ha : a ∈ l)
    (hset : ∀ s, P (f s a)) (hkeep : ∀ s, ∀ b ≠ a, P s → P (f s b)) (s : σ) : P (l.foldl f s) := by
  have keeps : ∀ (l : List α) s, P s → P (l.foldl f s) := fun l => by
    induction l with
    | nil => exact fun _ h => h
    | cons b l ih =>
      intro s h
      by_cases hb : b = a
      · exact ih _ (hb ▸ hset s)
      · exact ih _ (hkeep s b hb h)
  obtain ⟨l₁, l₂, rfl⟩ := List.append_of_mem ha
  rw [List.foldl_append]
  exact keeps l₂ _ (hset _)

/-! ### The three passes over the lanes -/

/-- MINPW and MAXON of the lanes of `l` at instant `t`. -/
def State.passAll (s : State) (l : List Nat) (t : Nat) : State :=
  l.foldl (fun s p => if s.limited p then s.passLevel p t else s) s

/-- The lanes of `l` that no longer ask to be on lose their grants at instant `t`. -/
def State.releaseAll (s : State) (l : List Nat) (t : Nat) : State :=
  l.foldl (fun s p => (s.releaseGrant p t).recordPin p t) s

/-- Lane `p` takes its grant at instant `t` where it may, and its pin is recorded. -/
def State.grantPin (s : State) (p t : Nat) : State := (s.takeGrant p t).recordPin p t

/-- The lanes of `l` take their grants at instant `t`. -/
def State.grantAll (s : State) (l : List Nat) (t : Nat) : State := l.foldl (fun s p => s.grantPin p t) s

theorem State.settleAt_eq (s : State) (t : Nat) :
    s.settleAt t = ((s.passAll s.busyLanes t).releaseAll s.busyLanes t).grantAll s.busyLanes t := rfl

/-- What lane `x` has passed on: the level, since when, and whether MAXON has cut it. -/
def Lane.limits (x : Lane) : Bool × Nat × Bool := (x.passed, x.passedAt, x.cut)

theorem Lane.limited_of_limits {x y : Lane} (h : y.limits = x.limits) : y.limited = x.limited := by
  obtain ⟨h1, -, h3⟩ : y.passed = x.passed ∧ y.passedAt = x.passedAt ∧ y.cut = x.cut := by simpa [Lane.limits] using h
  simp only [Lane.limited, h1, h3]

/-- A change of one lane that leaves what it passes on leaves what every lane passes on. -/
theorem State.limits_setLane {s : State} {p : Nat} {x : Lane} (h : x.limits = (s.lane p).limits) (q : Nat) :
    ((s.setLane p x).lane q).limits = (s.lane q).limits := by
  by_cases e : q = p
  · rw [e, State.lane_setLane_self, h]
  · rw [State.lane_setLane_ne _ _ e]

theorem State.limits_recordPin (s : State) (p t q : Nat) : ((s.recordPin p t).lane q).limits = (s.lane q).limits := by
  refine State.limits_setLane ?_ q
  rfl

theorem State.limits_releaseGrant (s : State) (p t q : Nat) : ((s.releaseGrant p t).lane q).limits = (s.lane q).limits := by
  unfold State.releaseGrant
  split
  · refine State.limits_setLane ?_ q
    rfl
  · rfl

theorem State.limits_takeGrant (s : State) (p t q : Nat) : ((s.takeGrant p t).lane q).limits = (s.lane q).limits := by
  unfold State.takeGrant
  split
  · refine State.limits_setLane ?_ q
    rfl
  · rfl

theorem State.limits_grantAll (s : State) (l : List Nat) (t q : Nat) : ((s.grantAll l t).lane q).limits = (s.lane q).limits :=
  foldl_keeps (fun s => (s.lane q).limits)
    (fun s p _ => (State.limits_recordPin _ p t q).trans (s.limits_takeGrant p t q)) s

theorem State.limits_releaseAll (s : State) (l : List Nat) (t q : Nat) : ((s.releaseAll l t).lane q).limits = (s.lane q).limits :=
  foldl_keeps (fun s => (s.lane q).limits)
    (fun s p _ => (State.limits_recordPin _ p t q).trans (s.limits_releaseGrant p t q)) s

/-- Lane `p` behind MINPW and MAXON at instant `t` (spec/07 R203, orders 1 and 2). -/
def State.passedLane (s : State) (p t : Nat) : Lane :=
  ((s.lane p).pass (s.request p t).1 (s.minpw p) t).limit (s.maxon p) t

theorem State.onlyPins_pass (s : State) (p t : Nat) : s.OnlyPins (if s.limited p then s.passLevel p t else s) := by
  split
  · exact (s.follows_passLevel p t).onlyPins
  · exact .refl s

/-- Each lane's pass reads its own lane only. -/
theorem State.lane_passAll (s : State) {l : List Nat} (hn : l.Nodup) {p : Nat} (hl : s.limited p = true) (t : Nat) :
    (s.passAll l t).lane p = if p ∈ l then s.passedLane p t else s.lane p := by
  have other : ∀ (s : State) q, q ≠ p → (if s.limited q then s.passLevel q t else s).lane p = s.lane p := fun s q hq => by
    split
    · exact State.lane_setLane_ne _ _ hq.symm
    · rfl
  have self : ∀ s : State, (if s.limited p then s.passLevel p t else s).lane p =
      if s.limited p then s.passedLane p t else s.lane p := fun s => by
    split
    · exact State.lane_setLane_self _ _ _
    · rfl
  have h := foldl_at (f := fun s p => if s.limited p then s.passLevel p t else s) (p := p) (fun s => s.lane p)
    (fun s => (s.limited p, s.passedLane p t, s.lane p)) hn other (fun s q hq => ?_) (fun s u e => ?_) s
  · rwa [self s, if_pos hl] at h
  · have hp := s.onlyPins_pass q t
    simp only [State.passedLane, hp.limited, hp.request, hp.minpw, hp.maxon, other s q hq]
  · obtain ⟨e1, e2, e3⟩ : s.limited p = u.limited p ∧ s.passedLane p t = u.passedLane p t ∧ s.lane p = u.lane p := by
      simpa using e
    rw [self s, self u, e1, e2, e3]

/-- A lane as after reset whose limits act asks for 0, and passes on nothing else. -/
theorem State.passedLane_init {s : State} {p : Nat} (hl : s.limited p = true) (hx : s.lane p = .init) (t : Nat) :
    s.passedLane p t = .init := by
  have hmode : s.mode p = modeTimer ∨ s.mode p = modeEdge := by
    simp only [State.limited, Bool.and_eq_true, Bool.or_eq_true, beq_iff_eq] at hl
    exact hl.2.imp_right And.left
  have hreq : (s.request p t).1 = false := by
    have hw : (s.wants p t).1 = false := by
      rcases hmode with hm | hm
      · simp [State.wants, hm, modeTimer, hx, Lane.init]
      · simp [State.wants, hm, modeEdge, State.edgeLevel, State.executable, hx, Lane.init]
    simp only [State.request, hx]
    split
    · exact hw
    · exact hw
  rw [State.passedLane, hreq, hx]
  simp [Lane.pass, Lane.limit, Lane.init]

/-- The pins at an instant leave each lane whose limits act what MINPW and MAXON make of it there. -/
theorem State.limits_settleAt {s : State} {p : Nat} (hp : p < 256) (hl : s.limited p = true) (t : Nat) :
    ((s.settleAt t).lane p).limits = (s.passedLane p t).limits := by
  rw [s.settleAt_eq, State.limits_grantAll, State.limits_releaseAll, s.lane_passAll s.nodup_busyLanes hl]
  split
  · rfl
  · have hx : s.lane p = .init := State.lane_of_unlisted fun h => ‹p ∉ _› (State.mem_busyLanes.2 ⟨.inl h, hp⟩)
    rw [State.passedLane_init hl hx, hx]

/-! ### The pins follow, step by step -/

/-- The pins have followed one step further. -/
def State.stepPins (s : State) : State := State.settle (s.setShore { s.shore with step := s.shore.step + 1 })

theorem State.follow_succ (s : State) (n : Nat) : s.follow (n + 1) = s.stepPins.follow n := rfl

theorem State.onlyPins_stepPins (s : State) : s.OnlyPins s.stepPins :=
  (s.onlyPins_setStep _).trans (State.follows_settle _).onlyPins

theorem State.here_stepPins (s : State) : s.stepPins.here = s.here + 1 := by
  have hs : s.stepPins.shore.step = s.shore.step + 1 := by simp [State.stepPins, State.setShore]
  rw [State.here, s.onlyPins_stepPins.now, hs]
  rfl

theorem State.limits_stepPins {s : State} {p : Nat} (hp : p < 256) (hl : s.limited p = true) :
    (s.stepPins.lane p).limits = (s.passedLane p (s.here + 1)).limits :=
  State.limits_settleAt (s := s.setShore { s.shore with step := s.shore.step + 1 }) hp hl (s.here + 1)

theorem State.here_follow (n : Nat) (s : State) : (s.follow n).here = s.here + n := by
  induction n generalizing s with
  | zero => rfl
  | succ n ih => rw [s.follow_succ, ih, s.here_stepPins, Nat.add_right_comm, Nat.add_assoc]

/-- An instant of the present tick that the pins have not passed is where they follow to. -/
theorem State.settleTo_eq {s : State} {t : Nat} (hd : s.dueBy t = true) : s.settleTo t = s.follow (t - s.here) := by
  have h : t < s.now + 32 := of_decide_eq_true hd
  rw [State.settleTo, Nat.min_eq_left (by omega)]

theorem State.here_settleTo {s : State} {t : Nat} (hh : s.here ≤ t) (hd : s.dueBy t = true) : (s.settleTo t).here = t := by
  rw [State.settleTo_eq hd, State.here_follow]
  omega

/-! ### MINPW -/

/-- Before its MINPW has passed a lane keeps its level. -/
theorem Lane.pass_early {x : Lane} {lvl : Bool} {minpw t : Nat} (h : t < x.passedAt + minpw) : x.pass lvl minpw t = x :=
  if_pos (.inr h)

/-- Once it has passed the lane takes the level asked for. -/
theorem Lane.pass_due {x : Lane} {lvl : Bool} {minpw t : Nat} (h : x.passedAt + minpw ≤ t) :
    (x.pass lvl minpw t).passed = lvl ∧ (lvl ≠ x.passed → (x.pass lvl minpw t).passedAt = t) := by
  by_cases he : lvl = x.passed
  · rw [Lane.pass, if_pos (.inl he)]
    exact ⟨he.symm, fun hn => absurd he hn⟩
  · rw [Lane.pass, if_neg fun h' => h'.elim he (by omega)]
    exact ⟨rfl, fun _ => rfl⟩

/-- MAXON does not change when the level was passed on. -/
theorem Lane.passed_limit (x : Lane) (maxon t : Nat) :
    (x.limit maxon t).passed = x.passed ∧ (x.limit maxon t).passedAt = x.passedAt := by
  unfold Lane.limit
  split <;> exact ⟨rfl, rfl⟩

/-- The level passed on, and since when. -/
theorem State.passed_stepPins {s : State} {p : Nat} (hp : p < 256) (hl : s.limited p = true) :
    let x := (s.lane p).pass (s.request p (s.here + 1)).1 (s.minpw p) (s.here + 1)
    (s.stepPins.lane p).passed = x.passed ∧ (s.stepPins.lane p).passedAt = x.passedAt := by
  have h := State.limits_stepPins hp hl
  obtain ⟨h1, h2⟩ := Lane.passed_limit ((s.lane p).pass (s.request p (s.here + 1)).1 (s.minpw p) (s.here + 1)) (s.maxon p)
    (s.here + 1)
  exact ⟨(congrArg Prod.fst h).trans h1, (congrArg (fun y => y.2.1) h).trans h2⟩

/-- Pins that follow to the end of MINPW give the lane the level it asks for there. -/
theorem State.passed_follow {p : Nat} (hp : p < 256) (n : Nat) (s : State) (hl : s.limited p = true)
    (hn : s.here + (n + 1) = (s.lane p).passedAt + s.minpw p) :
    let t := s.here + (n + 1)
    ((s.follow (n + 1)).lane p).passed = (s.request p t).1 ∧
      ((s.request p t).1 ≠ (s.lane p).passed → ((s.follow (n + 1)).lane p).passedAt = t) := by
  induction n generalizing s with
  | zero =>
    obtain ⟨h1, h2⟩ := State.passed_stepPins hp hl
    obtain ⟨d1, d2⟩ := Lane.pass_due (x := s.lane p) (lvl := (s.request p (s.here + 1)).1) (minpw := s.minpw p)
      (t := s.here + 1) (by omega)
    exact ⟨h1.trans d1, fun hne => h2.trans (d2 hne)⟩
  | succ n ih =>
    have hs := s.onlyPins_stepPins
    obtain ⟨h1, h2⟩ := State.passed_stepPins hp hl
    rw [Lane.pass_early (by omega)] at h1 h2
    have ht : s.stepPins.here + (n + 1) = s.here + (n + 1 + 1) := by rw [s.here_stepPins]; omega
    have h := ih s.stepPins (by rw [hs.limited, hl]) (by rw [ht, h2, hs.minpw, hn])
    simp only [ht, hs.request, h1] at h
    exact h

section
variable {s : State} (hs : s.Live) {p : Nat} (hp : p < 256) (hr : s.shoreRuns = true)
include hs hp hr

theorem answers_minpwExpiry (hl : s.limited p = true) {t : Nat} (ht : (s.lane p).passedAt + s.minpw p = t) (hh : s.here < t)
    (hd : s.dueBy t = true) : Answers (.minpwExpiry p) s fun u => (u.lane p).passed = (s.request p t).1 ∧
      ((s.request p t).1 ≠ (s.lane p).passed → (u.lane p).passedAt = t) ∧ u.here = t ∧ s.OnlyPins u := by
  have hexec : exec (.minpwExpiry p) s = .next (s.settleTo t) := by
    subst ht
    exact State.run_next (fun s' => s'.settleTo ((s.lane p).passedAt + s.minpw p)) hs.1 hs.2 (by simp [hp, hr, hl, hh, hd])
  obtain ⟨n, hn⟩ : ∃ n, t - s.here = n + 1 := ⟨t - s.here - 1, by omega⟩
  have hend : s.here + (n + 1) = t := by omega
  obtain ⟨h1, h2⟩ := State.passed_follow hp n s hl (hend.trans ht.symm)
  have hto : s.settleTo t = s.follow (n + 1) := by rw [State.settleTo_eq hd, hn]
  rw [hend, ← hto] at h1 h2
  exact ⟨_, hexec, h1, h2, State.here_settleTo (Nat.le_of_lt hh) hd, s.onlyPins_settleTo t⟩

end

/-! ### MAXON -/

/-- A level of 1 that stays asked for stays passed on. -/
theorem State.passedLane_high {s : State} {p t : Nat} (hx : (s.lane p).passed = true) (hq : (s.request p t).1 = true) :
    s.passedLane p t = (s.lane p).limit (s.maxon p) t := by
  rw [State.passedLane, Lane.pass, if_pos (.inl (hq.trans hx.symm))]

theorem State.passed_high_follow {p : Nat} (hp : p < 256) (n : Nat) (s : State) (hl : s.limited p = true)
    (hx : (s.lane p).passed = true) (hq : ∀ u, s.here ≤ u → u ≤ s.here + n → (s.request p u).1 = true) :
    ((s.follow n).lane p).passed = true ∧ ((s.follow n).lane p).passedAt = (s.lane p).passedAt := by
  induction n generalizing s with
  | zero => exact ⟨hx, rfl⟩
  | succ n ih =>
    have hs := s.onlyPins_stepPins
    obtain ⟨h1, h2⟩ := State.passed_stepPins hp hl
    rw [Lane.pass, if_pos (.inl ((hq _ (by omega) (by omega)).trans hx.symm))] at h1 h2
    obtain ⟨i1, i2⟩ := ih s.stepPins (by rw [hs.limited, hl]) (h1.trans hx) fun u h3 h4 => by
      rw [s.here_stepPins] at h3 h4
      rw [hs.request]
      exact hq u (by omega) (by omega)
    exact ⟨i1, i2.trans h2⟩

section
variable {s : State} (hs : s.Live) {p : Nat} (hp : p < 256) (hr : s.shoreRuns = true)
include hs hp hr

theorem answers_maxonExpiry (hl : s.limited p = true) (hm : s.maxon p ≠ 0) (hx : (s.lane p).limited = true) {t : Nat}
    (ht : (s.lane p).passedAt + s.maxon p = t) (hh : s.here ≤ t) (hd : s.dueBy t = true) : Answers (.maxonExpiry p) s fun u =>
      ((∀ i, s.here ≤ i → i ≤ t → (s.request p i).1 = true) → (u.lane p).cut = true ∧ (u.lane p).limited = false) ∧
      u.here = t ∧ s.OnlyPins u := by
  have hexec : exec (.maxonExpiry p) s = .next (s.settleTo t).settle := by
    subst ht
    exact State.run_next (fun s' => (s'.settleTo ((s.lane p).passedAt + s.maxon p)).settle) hs.1 hs.2
      (by simp [hp, hr, hl, hm, hx, hh, hd])
  have hto := s.onlyPins_settleTo t
  have hhere := State.here_settleTo hh hd
  refine ⟨_, hexec, fun hq => ?_, (State.here_settle _).trans hhere, hto.trans (State.follows_settle _).onlyPins⟩
  obtain ⟨h1, h2⟩ := State.passed_high_follow hp (t - s.here) s hl (Bool.and_eq_true_iff.1 hx).1
    fun i hi hi' => hq i hi (by omega)
  rw [← State.settleTo_eq hd] at h1 h2
  have hlim := State.limits_settleAt hp (hto.limited p ▸ hl) (s.settleTo t).here
  rw [hhere, State.passedLane_high h1 (by rw [hto.request]; exact hq t hh (Nat.le_refl t)), hto.maxon, Lane.limit,
    if_pos ⟨hm, h1, by rw [h2, ht]⟩] at hlim
  have hcut : ((s.settleTo t).settle.lane p).cut = true := by
    rw [State.settle, hhere]
    exact congrArg (fun y => y.2.2) hlim
  exact ⟨hcut, by rw [Lane.limited, hcut, Bool.not_true, Bool.and_false]⟩

end

/-! ### Dead time -/

/-- While lanes take grants at instant `t`: nothing changes but pins, no lane loses its grant, and a lane that goes off does so
at `t`. -/
structure State.Rises (t : Nat) (a b : State) : Prop where
  pins   : a.OnlyPins b
  limits : ∀ q, (b.lane q).limits = (a.lane q).limits
  grant  : ∀ q, (a.lane q).grant = true → (b.lane q).grant = true
  offAt  : ∀ q, (b.lane q).offAt = (a.lane q).offAt ∨ (b.lane q).offAt = some t

theorem State.Rises.refl (t : Nat) (s : State) : State.Rises t s s := ⟨.refl s, fun _ => rfl, fun _ h => h, fun _ => .inl rfl⟩

theorem State.Rises.trans {t : Nat} {a b c : State} (h : State.Rises t a b) (h' : State.Rises t b c) : State.Rises t a c where
  pins := h.pins.trans h'.pins
  limits q := (h'.limits q).trans (h.limits q)
  grant q hq := h'.grant q (h.grant q hq)
  offAt q := (h'.offAt q).elim (fun e => e ▸ h.offAt q) .inr

theorem State.rises_setLane {t : Nat} {s : State} {p : Nat} {x : Lane} (hf : (s.lane p).Follows x)
    (hl : x.limits = (s.lane p).limits) (hg : (s.lane p).grant = true → x.grant = true)
    (ho : x.offAt = (s.lane p).offAt ∨ x.offAt = some t) : State.Rises t s (s.setLane p x) where
  pins := (State.Follows.setLane hf).onlyPins
  limits := State.limits_setLane hl
  grant q := by
    by_cases e : q = p
    · rw [e, State.lane_setLane_self]
      exact hg
    · rw [State.lane_setLane_ne _ _ e]
      exact id
  offAt q := by
    by_cases e : q = p
    · rw [e, State.lane_setLane_self]
      exact ho
    · rw [State.lane_setLane_ne _ _ e]
      exact .inl rfl

theorem State.rises_recordPin (s : State) (p t : Nat) : State.Rises t s (s.recordPin p t) :=
  State.rises_setLane rfl rfl id (by dsimp only; split <;> simp)

theorem State.rises_grantPin (s : State) (p t : Nat) : State.Rises t s (s.grantPin p t) := by
  refine .trans ?_ (State.rises_recordPin _ p t)
  unfold State.takeGrant
  split
  · exact State.rises_setLane rfl rfl (fun _ => rfl) (.inl rfl)
  · exact .refl t s

theorem State.rises_grantAll (s : State) (l : List Nat) (t : Nat) : State.Rises t s (s.grantAll l t) :=
  foldl_related (.refl t) .trans (fun s p _ => s.rises_grantPin p t) s

theorem State.Rises.pinIsOn {t : Nat} {a b : State} (h : State.Rises t a b) {q : Nat} (ho : a.pinIsOn q t = true) :
    b.pinIsOn q t = true :=
  h.pins.pinIsOn (Lane.limited_of_limits (h.limits q)) (h.grant q) ho

/-- Dead time that lets a lane turn on at the end has let it before. -/
theorem State.Rises.deadTimeOk {t : Nat} {a b : State} (h : State.Rises t a b) {p : Nat} (hb : b.deadTimeOk p t = true) :
    a.deadTimeOk p t = true := by
  unfold State.deadTimeOk at *
  rw [h.pins.bit, h.pins.deadt] at hb
  split at hb
  · rw [if_pos ‹_›]
  · rename_i hc
    rw [if_neg hc]
    obtain ⟨hoff, hat⟩ := Bool.and_eq_true_iff.1 hb
    have hd : 0 < a.deadt p := by
      have : a.deadt p ≠ 0 := fun e => hc (by simp [e])
      omega
    refine Bool.and_eq_true_iff.2 ⟨?_, ?_⟩
    · cases hon : a.pinIsOn (partner p) t with
      | false => rfl
      | true => simp [h.pinIsOn hon] at hoff
    · rcases h.offAt (partner p) with e | e
      · rwa [e] at hat
      · rw [e] at hat
        have := of_decide_eq_true hat
        omega

/-- The pin of lane `q` is recorded as it is at instant `t`. -/
def State.Recorded (s : State) (t q : Nat) : Prop := (s.lane q).pinOe = (s.pinAt q t).2

theorem State.shown_of_lane {s u : State} (h : s.OnlyPins u) {q : Nat} (hl : (u.lane q).limits = (s.lane q).limits)
    (hg : (u.lane q).grant = (s.lane q).grant) (t : Nat) : u.shown q t = s.shown q t := by
  simp only [State.shown, h.request, h.limited, Lane.limited_of_limits hl, hg]

theorem State.recorded_recordPin (s : State) (q t : Nat) : (s.recordPin q t).Recorded t q := by
  have hx : ((s.recordPin q t).lane q).pinOe = (s.pinAt q t).2 := by
    rw [State.recordPin, State.lane_setLane_self]
  have hg : ((s.recordPin q t).lane q).grant = (s.lane q).grant := by
    rw [State.recordPin, State.lane_setLane_self]
  have hf := (s.follows_recordPin q t).onlyPins
  rw [State.Recorded, hx, hf.pinAt (State.shown_of_lane hf (s.limits_recordPin q t q) hg t)]

theorem State.Recorded.grantPin {s : State} {t q : Nat} (h : s.Recorded t q) {p : Nat} (hq : q ≠ p) :
    (s.grantPin p t).Recorded t q := by
  have hlane : (s.grantPin p t).lane q = s.lane q := by
    have ht : (s.takeGrant p t).lane q = s.lane q := by
      unfold State.takeGrant
      split
      · exact State.lane_setLane_ne _ _ hq
      · rfl
    exact (State.lane_setLane_ne _ _ hq).trans ht
  have hp := (s.rises_grantPin p t).pins
  rw [State.Recorded, hlane, hp.pinAt (State.shown_of_lane hp (by rw [hlane]) (by rw [hlane]) t)]
  exact h

/-- Every lane that has been asked has its pin recorded. -/
theorem State.recorded_grantAll (s : State) {l : List Nat} {q : Nat} (hq : q ∈ l) (t : Nat) : (s.grantAll l t).Recorded t q :=
  foldl_establishes (P := fun s => s.Recorded t q) hq (fun _ => State.recorded_recordPin _ q t)
    (fun _ _ hb h => h.grantPin hb.symm) s

/-- A lane whose recorded pin is on is listed. -/
theorem State.Recorded.listed {s : State} {t q : Nat} (h : s.Recorded t q) (ho : s.pinIsOn q t = true) : q ∈ s.listedLanes := by
  by_contra hn
  have hoe : (s.pinAt q t).2 = true := (Bool.and_eq_true_iff.1 ho).1
  rw [State.Recorded, State.lane_of_unlisted hn, hoe] at h
  exact absurd h (by decide)

/-- Overlap that lets a lane turn on at the end has let it before, where every lane listed before has its pin recorded. -/
theorem State.Rises.overlapOk {t : Nat} {a b : State} (h : State.Rises t a b) {p : Nat}
    (hrec : ∀ q, q < 256 → q ∈ a.listedLanes → b.Recorded t q) (hb : b.overlapOk p t = true) : a.overlapOk p t = true := by
  unfold State.overlapOk at *
  rw [h.pins.bit] at hb
  refine (Bool.or_eq_true_iff.1 hb).elim (fun h1 => Bool.or_eq_true_iff.2 (.inl h1)) fun h2 => Bool.or_eq_true_iff.2 (.inr ?_)
  rw [Bool.not_eq_true'] at h2 ⊢
  rw [List.any_eq_false] at h2 ⊢
  intro q hq hcond
  obtain ⟨hrest, hon⟩ := Bool.and_eq_true_iff.1 hcond
  have hon' := h.pinIsOn hon
  obtain ⟨hl, hlt⟩ := State.mem_busyLanes.1 hq
  have hbusy : q ∈ b.busyLanes :=
    State.mem_busyLanes.2 ⟨hl.imp (fun hl => (hrec q hlt hl).listed hon') fun hs => h.pins.safeLanes ▸ hs, hlt⟩
  refine h2 q hbusy ?_
  simp only [h.pins.bit, h.pins.fld]
  exact Bool.and_eq_true_iff.2 ⟨hrest, hon'⟩

/-- The lanes listed are those before and those of the passes. -/
theorem State.listed_grantPin {s : State} {p t q : Nat} (h : q ∈ (s.grantPin p t).listedLanes) : q = p ∨ q ∈ s.listedLanes := by
  refine (State.listed_of_setLane h).elim .inl fun h => ?_
  unfold State.takeGrant at h
  split at h
  · exact State.listed_of_setLane h
  · exact .inr h

theorem State.listed_releasePin {s : State} {p t q : Nat} (h : q ∈ ((s.releaseGrant p t).recordPin p t).listedLanes) :
    q = p ∨ q ∈ s.listedLanes := by
  refine (State.listed_of_setLane h).elim .inl fun h => ?_
  unfold State.releaseGrant at h
  split at h
  · exact State.listed_of_setLane h
  · exact .inr h

theorem State.listed_pass {s : State} {p t q : Nat} (h : q ∈ (if s.limited p then s.passLevel p t else s).listedLanes) :
    q = p ∨ q ∈ s.listedLanes := by
  split at h
  · exact State.listed_of_setLane h
  · exact .inr h

/-- A fold whose steps list no lane but their own lists those before and those it visits. -/
theorem listed_foldl {f : State → Nat → State}
    (hf : ∀ {s : State} {p q : Nat}, q ∈ (f s p).listedLanes → q = p ∨ q ∈ s.listedLanes) (l : List Nat) {s : State}
    {q : Nat} (h : q ∈ (l.foldl f s).listedLanes) : q ∈ l ∨ q ∈ s.listedLanes := by
  induction l generalizing s with
  | nil => exact .inr h
  | cons p l ih =>
    rcases ih h with h | h
    · exact .inl (List.mem_cons_of_mem p h)
    · exact (hf h).imp_left fun e => by simp [e]

/-- A lane that asks to be on when every lane has been asked, and that dead time and overlap let, holds its grant. -/
theorem State.grant_grantAll {m : State} {l : List Nat} {p t : Nat} (hp : p < 256)
    (hlist : ∀ q, q < 256 → q ∈ m.listedLanes → q ∈ l) (hw : (m.grantAll l t).wantsOn p t = true)
    (hd : (m.grantAll l t).deadTimeOk p t = true) (ho : (m.grantAll l t).overlapOk p t = true) :
    ((m.grantAll l t).lane p).grant = true := by
  have hmem : p ∈ l := by
    by_contra hn
    have hx : (m.grantAll l t).lane p = .init :=
      State.lane_of_unlisted fun h => hn ((listed_foldl State.listed_grantPin l h).elim id (hlist p hp))
    simp [State.wantsOn, hx, Lane.limited, Lane.init] at hw
  obtain ⟨l₁, l₂, hl⟩ := List.append_of_mem hmem
  have hsplit : m.grantAll l t = ((m.grantAll l₁ t).grantPin p t).grantAll l₂ t := by
    rw [hl]
    exact List.foldl_append
  have hrec : ∀ q, q < 256 → q ∈ (m.grantAll l₁ t).listedLanes → (m.grantAll l t).Recorded t q := fun q hq h =>
    m.recorded_grantAll ((listed_foldl State.listed_grantPin l₁ h).elim (fun h => by simp [hl, h]) (hlist q hq)) t
  rw [hsplit] at hw hd ho hrec ⊢
  have hstep := (m.grantAll l₁ t).rises_grantPin p t
  have hrest := ((m.grantAll l₁ t).grantPin p t).rises_grantAll l₂ t
  have hall := hstep.trans hrest
  have hwants : (m.grantAll l₁ t).wantsOn p t = true :=
    (hall.pins.wantsOn (Lane.limited_of_limits (hall.limits p)) t).symm.trans hw
  have hdead := hall.deadTimeOk hd
  have hover := hall.overlapOk hrec ho
  refine hrest.grant p ((State.rises_recordPin _ p t).grant p ?_)
  unfold State.takeGrant
  cases hg : ((m.grantAll l₁ t).lane p).grant with
  | true => simp [hg]
  | false => simp [hwants, hdead, hover]

/-- A lane that asks to be on at an instant, and that dead time and overlap let, holds its grant. -/
theorem State.grant_settleAt {s : State} {p t : Nat} (hp : p < 256) (hw : (s.settleAt t).wantsOn p t = true)
    (hd : (s.settleAt t).deadTimeOk p t = true) (ho : (s.settleAt t).overlapOk p t = true) :
    ((s.settleAt t).lane p).grant = true := by
  have hlist : ∀ q, q < 256 → q ∈ ((s.passAll s.busyLanes t).releaseAll s.busyLanes t).listedLanes → q ∈ s.busyLanes :=
    fun q hq h => by
      rcases listed_foldl State.listed_releasePin _ h with h | h
      · exact h
      · exact (listed_foldl State.listed_pass _ h).elim id fun h => State.mem_busyLanes.2 ⟨.inl h, hq⟩
  rw [s.settleAt_eq] at hw hd ho ⊢
  exact State.grant_grantAll hp hlist hw hd ho

theorem answers_deadTimeExpiry {s : State} (hs : s.Live) {p o : Nat} (hp : p < 256) (hr : s.shoreRuns = true)
    (ho : (s.lane (partner p)).offAt = some o) (hh : s.here ≤ o + s.deadt p) (hd : s.dueBy (o + s.deadt p) = true) :
    Answers (.deadTimeExpiry p) s fun t =>
      (t.wantsOn p (o + s.deadt p) = true → t.deadTimeOk p (o + s.deadt p) = true → t.overlapOk p (o + s.deadt p) = true →
        (t.lane p).grant = true) ∧ t.here = o + s.deadt p ∧ s.OnlyPins t := by
  have hexec : exec (.deadTimeExpiry p) s = .next (s.settleTo (o + s.deadt p)).settle := by
    have harm : exec (.deadTimeExpiry p) s = execDeadTimeExpiry p s := rfl
    rw [harm, execDeadTimeExpiry, ho]
    exact State.run_next (fun s' => (s'.settleTo (o + s'.deadt p)).settle) hs.1 hs.2 (by simp [hp, hr, hh, hd])
  have hhere := State.here_settleTo hh hd
  have hsettle : (s.settleTo (o + s.deadt p)).settle = (s.settleTo (o + s.deadt p)).settleAt (o + s.deadt p) := by
    rw [State.settle, hhere]
  refine ⟨_, hexec, fun hw hdead hover => ?_, ?_, (s.onlyPins_settleTo _).trans (State.follows_settle _).onlyPins⟩
  · rw [hsettle] at hw hdead hover ⊢
    exact State.grant_settleAt hp hw hdead hover
  · rw [State.here_settle, hhere]

end Sys2Proof.Machine
end

section
/-! PROOFS. Stages of weirs (spec/07 R188, R193, R194, R197): a stage written, and the stages that a strobe discards. -/

namespace Sys2Proof.Machine

open Sys2Proof

/-! ### A stage is emptied -/

section
variable (s : State) (p : Nat)

/-- The two registers of a stage, and the counter beside them. -/
theorem weirStage_ne : (Reg.weirStage p).key ≠ (Reg.weirStat p).key ∧ (Reg.weirStage p).key ≠ (Reg.weirCnt p).key ∧
    (Reg.weirStat p).key ≠ (Reg.weirCnt p).key := by
  simp only [Reg.key]
  omega

theorem State.onlyRegs_clearStage : s.OnlyRegs [.weirStage p, .weirStat p, .weirCnt p] (s.clearStage p) :=
  ((s.onlyRegs_wr (by simp) 0).trans (State.onlyRegs_setFld _ (by simp) _ 0)).trans (State.onlyRegs_setFld _ (by simp) _ 0)

theorem State.onlyRegs_discardStage : s.OnlyRegs [.weirStage p, .weirStat p, .weirCnt p] (s.discardStage p) :=
  (s.onlyRegs_clearStage p).trans (State.onlyRegs_setFld _ (by simp) _ _)

theorem State.stage_clearStage : (s.clearStage p).rd (.weirStage p) = 0 := by
  obtain ⟨h, -, -⟩ := weirStage_ne p
  rw [State.clearStage, State.rd_setFld_ne _ _ _ h, State.rd_setFld_ne _ _ _ h, State.rd_wr_self]

theorem State.valid_clearStage : (s.clearStage p).fld (.weirStat p) F.weirStat.valid = 0 := by
  rw [State.clearStage, State.fld_setFld_apart _ _ rfl rfl rfl, State.fld_setFld_self _ _ rfl]
  rfl

/-- The fields of WEIR_STAT beside VALID and POISON stay. -/
theorem State.stat_clearStage {f : Fld} (hf : f.ok = true) (hv : F.weirStat.valid.apart f = true)
    (hp : F.weirStat.poison.apart f = true) : (s.clearStage p).fld (.weirStat p) f = s.fld (.weirStat p) f := by
  rw [State.clearStage, State.fld_setFld_apart _ _ rfl hf hp, State.fld_setFld_apart _ _ rfl hf hv,
    State.fld_of_rd (State.rd_wr_ne _ _ (weirStage_ne p).1.symm)]

theorem State.cnt_clearStage : (s.clearStage p).rd (.weirCnt p) = s.rd (.weirCnt p) := by
  obtain ⟨-, h, h'⟩ := weirStage_ne p
  rw [State.clearStage, State.rd_setFld_ne _ _ _ h'.symm, State.rd_setFld_ne _ _ _ h'.symm, State.rd_wr_ne _ _ h.symm]

/-- The word of WEIR_STAT beside an emptied stage. -/
def emptied (stat : BitVec 32) : BitVec 32 := F.weirStat.poison.put (F.weirStat.valid.put stat 0) 0

/-- The word of WEIR_CNT with one more stage in STALE. -/
def staleCounted (cnt : BitVec 32) : BitVec 32 :=
  F.weirCnt.stale.put cnt (satInc F.weirCnt.stale.width (F.weirCnt.stale.get cnt))

theorem State.rd_discardStage : (s.discardStage p).rd (.weirStage p) = 0 ∧
    (s.discardStage p).rd (.weirStat p) = emptied (s.rd (.weirStat p)) ∧
    (s.discardStage p).rd (.weirCnt p) = staleCounted (s.rd (.weirCnt p)) := by
  obtain ⟨h1, h2, h3⟩ := weirStage_ne p
  refine ⟨(State.rd_setFld_ne _ _ _ h2).trans (s.stage_clearStage p), (State.rd_setFld_ne _ _ _ h3).trans ?_, ?_⟩
  · rw [State.clearStage, State.setFld, State.rd_wr_self, State.setFld, State.rd_wr_self, State.rd_wr_ne _ _ h1.symm]
    rfl
  · rw [State.discardStage, State.incSat, State.setFld, State.rd_wr_self, State.fld, s.cnt_clearStage]
    rfl

theorem valid_emptied (stat : BitVec 32) : F.weirStat.valid.get (emptied stat) = 0 := by
  rw [emptied, Fld.get_put_apart rfl rfl rfl, Fld.get_put_self rfl]
  rfl

theorem stale_staleCounted (cnt : BitVec 32) :
    F.weirCnt.stale.get (staleCounted cnt) = satInc F.weirCnt.stale.width (F.weirCnt.stale.get cnt) := by
  rw [staleCounted, Fld.get_put_self rfl, Nat.mod_eq_of_lt]
  unfold satInc
  split
  · assumption
  · exact Nat.sub_one_lt (by decide)

end

/-! ### A stage is written -/

/-- A field that takes a whole register holds what is written. -/
theorem Fld.put_get_full {f : Fld} (hl : f.lo = 0) (hh : f.hi = 31) (x d : BitVec 32) : f.put x (f.get d) = d := by
  have hok : f.ok = true := by simp [Fld.ok, hl, hh]
  refine BitVec.eq_of_getLsbD_eq fun i hi => ?_
  rw [Fld.put_getLsbD hok, if_pos (by omega), Fld.get_testBit, Fld.width, hl, hh, Nat.zero_add, Nat.sub_zero]
  simp [hi]

section
variable {s : State} {w : Who} {p : Nat} {d : BitVec 32} {poison : Bool}

theorem regAt_weirStage (hp : p < 256) : regAt ((Reg.weirStage p).key / 4 * 4) = some (.weirStage p) := by
  have hk : (Reg.weirStage p).key / 4 * 4 = 0x730004 + 0x40 * p := by simp only [Reg.key]; omega
  have hd : (0x730004 + 0x40 * p) / 0x10000 = 0x73 := by omega
  have hc : arrayAt 0x730000 0x40 256 (0x730004 + 0x40 * p) = none := 
    arrayAt_column (base := 0x730000) (k := 4) (by decide) (by decide)
  rw [hk, regAt, hd]
  simp only [regWeir, hc, arrayAt_entry (by decide : 0 < 0x40) hp, Option.map_none, Option.map_some, firstSome]

/-- A command that writes a stage takes the write, and what the weir's rule makes of it (spec/07 R193). -/
theorem State.Takes.of_stage {t : State} {refused : Bool} {P : State → Prop} (hw : s.Writer w) (hp : p < 256)
    (hr : writeWeirStage s ⟨w, (Reg.weirStage p).key, d, whole⟩ p poison = (t, refused))
    (hP : P (if refused then t.violate w 3 (Reg.weirStage p).key true else t)) :
    s.Takes (.stageWrite w p d whole poison) w (.weirStage p) d poison P := by
  obtain ⟨hl, hsec, hhost⟩ := hw
  have hrule : s.performWrite ⟨w, (Reg.weirStage p).key, d, whole⟩ poison =
      s.perform ⟨w, (Reg.weirStage p).key, d, whole⟩ (.weirStage p)
        fun s => writeWeirStage s ⟨w, (Reg.weirStage p).key, d, whole⟩ p poison := by
    simp only [State.performWrite, regAt_weirStage hp]
  have hperf : s.performWrite ⟨w, (Reg.weirStage p).key, d, whole⟩ poison =
      if refused then t.violate w 3 (Reg.weirStage p).key true else t := by
    rw [hrule, State.perform, hr, State.filtered_of_secure (x := ⟨w, (Reg.weirStage p).key, d, whole⟩) hsec _]
    rfl
  have hb : (isHost w && !s.accepting && !bootWindow (Reg.weirStage p).key) = false := by
    rcases hhost with h | h <;> simp [h]
  have hs : (⟨w, (Reg.weirStage p).key, d, whole⟩ : Wr).strb ≠ 0 := (by decide : whole ≠ 0)
  have hexec : exec (.stageWrite w p d whole poison) s =
      .next (s.accept ⟨w, (Reg.weirStage p).key, d, whole⟩ (.weirStage p) poison
        fun s => writeWeirStage s ⟨w, (Reg.weirStage p).key, d, whole⟩ p poison) :=
    State.run_next (fun s => s.accept ⟨w, (Reg.weirStage p).key, d, whole⟩ (.weirStage p) poison
      fun s => writeWeirStage s ⟨w, (Reg.weirStage p).key, d, whole⟩ p poison) hl.1 hl.2 (decide_eq_true hp)
  refine ⟨?_, by rw [hperf]; exact hP⟩
  rw [hexec, State.accept, if_neg hs, hb, hrule]
  rfl

/-- OVWR is set where the stage still holds a value (spec/07 R193). -/
def State.markStage (s : State) (p : Nat) : State :=
  if s.bit (.weirStat p) F.weirStat.valid then s.setFld (.weirStat p) F.weirStat.ovwr 1 else s

/-- The registers of a stage that takes `d`, or drains poisoned (spec/07 R193, R197). -/
def State.fillStage (s : State) (p : Nat) (d : BitVec 32) (poison : Bool) : State :=
  ((if poison then s.markStage p else (s.markStage p).setFld (.weirStage p) F.weirStage.value (F.weirStage.value.get d)).setFld
    (.weirStat p) F.weirStat.valid 1).setFld (.weirStat p) F.weirStat.poison (if poison then 1 else 0)

/-- The weir's lane is ON in EDGE mode, and no spare swap is in progress. -/
theorem State.weirActive_of_still (hn : s.shore.swap = none) (p : Nat) :
    s.weirActive p = (s.mode p == modeEdge && s.laneOn p) := by
  rw [State.weirActive, hn, Bool.or_false]

theorem writeWeirStage_off (x : Wr) (h : ∀ dom, s.laneDomain p = some dom → s.domainOn dom = false) :
    writeWeirStage s x p poison = (s.incSat (.weirCnt p) F.weirCnt.stale, false) := by
  unfold writeWeirStage
  cases hd : s.laneDomain p with
  | none => rfl
  | some dom =>
    dsimp only
    rw [h dom hd]
    rfl

section
variable {dom : Nat} (hd : s.laneDomain p = some dom) (hon : s.domainOn dom = true) (hn : s.shore.swap = none)
include hd hon hn

theorem writeWeirStage_refused (x : Wr) (h : s.takesStages p = false ∨ s.laneOn p = false ∨ s.mode p ≠ modeEdge) :
    writeWeirStage s x p poison = (s, true) := by
  have hc : (!s.takesStages p || !s.weirActive p) = true := by
    rw [State.weirActive_of_still hn]
    rcases h with h | h | h <;> simp [h]
  unfold writeWeirStage
  rw [hd]
  dsimp only
  rw [hon, hc]
  rfl

theorem writeWeirStage_taken (hw : s.rights w = .secure) {k : Nat} (ht : s.takesStages p = true) (hl : s.laneOn p = true)
    (hm : s.mode p = modeEdge) : writeWeirStage s ⟨w, k, d, whole⟩ p poison =
      ((s.fillStage p d poison).setWeir p { s.weir p with acc := s.ticks - 1 }, false) := by
  have hc : (!s.takesStages p || !s.weirActive p) = false := by
    rw [State.weirActive_of_still hn, ht, hl, hm]
    rfl
  have hu : (s.markStage p).rights w = .secure := by
    unfold State.markStage
    split <;> exact hw
  have hmay : (s.markStage p).may ⟨w, k, d, whole⟩ (.weirStage p) F.weirStage.value = true := State.may_of_secure hu _ _
  have htake : (s.markStage p).take ⟨w, k, d, whole⟩ (.weirStage p) F.weirStage.value =
      (s.markStage p).setFld (.weirStage p) F.weirStage.value (F.weirStage.value.get d) := by
    rw [State.take, hmay, Wr.any_whole w k d (by decide),
      ← Wr.val_whole w k d F.weirStage.value ((s.markStage p).rd (.weirStage p))]
    rfl
  have hkept : (s.fillStage p d poison).weir p = s.weir p ∧ (s.fillStage p d poison).ticks = s.ticks := by
    unfold State.fillStage State.markStage
    split <;> split <;> exact ⟨rfl, rfl⟩
  rw [← hkept.1, ← hkept.2, State.fillStage, ← htake]
  unfold writeWeirStage
  rw [hd]
  dsimp only
  rw [hon, hc]
  rfl

end

theorem State.onlyRegs_markStage : s.OnlyRegs [.weirStage p, .weirStat p] (s.markStage p) := by
  unfold State.markStage
  split
  · exact s.onlyRegs_setFld (by simp) _ 1
  · exact .refl s _

theorem State.onlyRegs_fillStage : s.OnlyRegs [.weirStage p, .weirStat p] (s.fillStage p d poison) := by
  refine (.trans ?_ (State.onlyRegs_setFld _ (by simp) _ _) : s.OnlyRegs _ _).trans (State.onlyRegs_setFld _ (by simp) _ _)
  split
  · exact s.onlyRegs_markStage
  · exact s.onlyRegs_markStage.trans (State.onlyRegs_setFld _ (by simp) _ _)

theorem State.stage_fillStage : (s.fillStage p d poison).rd (.weirStage p) = if poison then s.rd (.weirStage p) else d := by
  obtain ⟨h, -, -⟩ := weirStage_ne p
  rw [State.fillStage, State.rd_setFld_ne _ _ _ h, State.rd_setFld_ne _ _ _ h]
  split
  · unfold State.markStage
    split
    · exact State.rd_setFld_ne _ _ _ h
    · rfl
  · exact (State.rd_wr_self _ _ _).trans (Fld.put_get_full rfl rfl _ d)

theorem State.valid_fillStage : (s.fillStage p d poison).fld (.weirStat p) F.weirStat.valid = 1 := by
  rw [State.fillStage, State.fld_setFld_apart _ _ rfl rfl rfl, State.fld_setFld_self _ _ rfl]
  rfl

theorem State.poison_fillStage : (s.fillStage p d poison).fld (.weirStat p) F.weirStat.poison = if poison then 1 else 0 := by
  rw [State.fillStage, State.fld_setFld_self _ _ rfl]
  cases poison <;> rfl

theorem State.ovwr_fillStage : (s.fillStage p d poison).fld (.weirStat p) F.weirStat.ovwr =
    if s.bit (.weirStat p) F.weirStat.valid then 1 else s.fld (.weirStat p) F.weirStat.ovwr := by
  have hm : (s.markStage p).fld (.weirStat p) F.weirStat.ovwr =
      if s.bit (.weirStat p) F.weirStat.valid then 1 else s.fld (.weirStat p) F.weirStat.ovwr := by
    unfold State.markStage
    split
    · exact State.fld_setFld_self _ _ rfl 1
    · rfl
  rw [State.fillStage, State.fld_setFld_apart _ _ rfl rfl rfl, State.fld_setFld_apart _ _ rfl rfl rfl, ← hm]
  split
  · rfl
  · exact State.fld_setFld_ne _ _ _ _ (weirStage_ne p).1.symm

end

/-! ### A strobe discards stages -/

/-- The weirs whose stages a strobe of the tick before discards (spec/07 R194). -/
def State.staleWeirs (s : State) (g : Nat) : List Nat :=
  (List.range 256).filter fun p => s.groupOf p == g && s.bit (.weirStat p) F.weirStat.valid && decide ((s.weir p).acc < s.ticks)

theorem State.discardStale_eq (s : State) (g : Nat) : s.discardStale g = (s.staleWeirs g).foldl State.discardStage s := rfl

theorem State.mem_staleWeirs {s : State} {g p : Nat} : p ∈ s.staleWeirs g ↔
    p < 256 ∧ s.groupOf p = g ∧ s.fld (.weirStat p) F.weirStat.valid = 1 ∧ (s.weir p).acc < s.ticks := by
  simp only [State.staleWeirs, List.mem_filter, List.mem_range, Bool.and_eq_true, beq_iff_eq,
    s.bit_eq_true _ (f := F.weirStat.valid) rfl, decide_eq_true_eq, and_assoc]

theorem State.frame_discardStages (s : State) (l : List Nat) :
    l.foldl State.discardStage s = { s with regs := (l.foldl State.discardStage s).regs } :=
  foldl_related (R := fun s t => t = { s with regs := t.regs }) (fun _ => rfl) (fun h h' => by rw [h', h])
    (fun s p _ => (s.onlyRegs_discardStage p).1) s

/-- The registers that the discard of a stage changes. -/
def State.stageRegs (s : State) (p : Nat) : BitVec 32 × BitVec 32 × BitVec 32 :=
  (s.rd (.weirStage p), s.rd (.weirStat p), s.rd (.weirCnt p))

/-- What the discard of several stages leaves of each weir's: that of its own discard, or all as it was. -/
theorem State.rd_discardStages (s : State) {l : List Nat} (hn : l.Nodup) (p : Nat) : (l.foldl State.discardStage s).stageRegs p =
    if p ∈ l then (0, emptied (s.rd (.weirStat p)), staleCounted (s.rd (.weirCnt p))) else s.stageRegs p := by
  have other : ∀ (s : State) q, q ≠ p → (s.discardStage q).stageRegs p = s.stageRegs p := fun s q hq => by
    obtain ⟨-, hrd⟩ := s.onlyRegs_discardStage q
    refine Prod.ext (hrd _ fun r hr => ?_) (Prod.ext (hrd _ fun r hr => ?_) (hrd _ fun r hr => ?_)) <;>
    · simp only [List.mem_cons, List.not_mem_nil, or_false] at hr
      rcases hr with rfl | rfl | rfl <;> simp only [Reg.key] <;> omega
  have own : ∀ s : State, (s.discardStage p).stageRegs p = (0, emptied (s.rd (.weirStat p)), staleCounted (s.rd (.weirCnt p))) :=
      fun s => by
    obtain ⟨h1, h2, h3⟩ := s.rd_discardStage p
    exact Prod.ext h1 (Prod.ext h2 h3)
  have h := foldl_at (f := State.discardStage) (p := p) (fun s => s.stageRegs p) (fun s => s.stageRegs p) hn other other
    (fun s u e => by
      obtain ⟨-, h2, h3⟩ := by simpa only [State.stageRegs, Prod.mk.injEq] using e
      rw [own s, own u, h2, h3]) s
  rwa [own s] at h

theorem State.nodup_staleWeirs (s : State) (g : Nat) : (s.staleWeirs g).Nodup := List.nodup_range.filter _

section
variable {s : State} (hs : s.Live) {g n : Nat} (hg : g < 32) (hn : (s.group g).strobe = some n)
include hs hg hn

theorem answers_stageStaleDiscard (hl : s.groupLive g = true) (hb : s.byStrobe g = true)
    (ht : s.ticks = n - s.fld (.weirCgld g) F.weirCgld.stboff + 1) : Answers (.stageStaleDiscard g) s fun t =>
      (∀ q, q < 256 →
        if s.groupOf q = g ∧ s.fld (.weirStat q) F.weirStat.valid = 1 ∧
            (s.weir q).acc ≤ n - s.fld (.weirCgld g) F.weirCgld.stboff then
          t.fld (.weirStat q) F.weirStat.valid = 0 ∧ t.rd (.weirStage q) = 0 ∧ s.Counts (.weirCnt q) F.weirCnt.stale t
        else t.rd (.weirStat q) = s.rd (.weirStat q) ∧ t.rd (.weirStage q) = s.rd (.weirStage q) ∧
          t.rd (.weirCnt q) = s.rd (.weirCnt q)) ∧ t = { s with regs := t.regs } := by
  have hdue : s.staleDue g = true := by
    simp [State.staleDue, State.strobeTick, hl, hb, hn, ht]
  have hexec : exec (.stageStaleDiscard g) s = .next (s.discardStale g) := by
    have harm : exec (.stageStaleDiscard g) s = execStageStaleDiscard g s := rfl
    rw [harm, execStageStaleDiscard]
    cases hc : (List.range 256).any fun p => s.groupOf p == g && s.bit (.weirStat p) F.weirStat.valid with
    | true => exact State.run_next _ hs.1 hs.2 (by simp [hg, hdue])
    | false =>
      have hnil : s.staleWeirs g = [] := by
        rw [State.staleWeirs, List.filter_eq_nil_iff]
        intro p hp h
        exact List.any_eq_false.1 hc p hp (Bool.and_eq_true_iff.1 h).1
      rw [State.run_guarded _ hs.1 (by simp), State.discardStale_eq, hnil]
      rfl
  refine ⟨_, hexec, fun q hq => ?_, s.frame_discardStages _⟩
  have hrd := s.rd_discardStages (s.nodup_staleWeirs g) q
  simp only [State.mem_staleWeirs, hq, true_and, ht, Nat.lt_add_one_iff] at hrd
  split
  · rw [if_pos ‹_›] at hrd
    obtain ⟨h1, h2, h3⟩ := by simpa only [State.stageRegs, Prod.mk.injEq] using hrd
    refine ⟨(congrArg _ h2).trans (valid_emptied _), h1, (congrArg _ h3).trans (stale_staleCounted _)⟩
  · rw [if_neg ‹_›] at hrd
    obtain ⟨h1, h2, h3⟩ := by simpa only [State.stageRegs, Prod.mk.injEq] using hrd
    exact ⟨h2, h1, h3⟩

end

end Sys2Proof.Machine
end

section
/-! PROOFS. Deadlines (spec/07 R195, R196, R199 to R202): what a weir that decides leaves behind, and what a group with no such
weir, or with one LEVEL weir, leaves. -/

namespace Sys2Proof.Machine

open Sys2Proof

/-! ### The entries of a period -/

/-- Weir `p` has opened a period, or withdrawn entries: of the registers only those have changed that count entries refused. -/
structure State.Opens (p : Nat) (s t : State) : Prop where
  frame : t = { s with regs := t.regs, lanes := t.lanes, weirs := t.weirs }
  rd    : s.RegsBut [.laneSchrej, .laneErr p] t

theorem State.Opens.refl (p : Nat) (s : State) : State.Opens p s s := ⟨rfl, fun _ _ => rfl⟩

theorem State.Opens.trans {p : Nat} {s t u : State} (h : State.Opens p s t) (h' : State.Opens p t u) : State.Opens p s u where
  frame := by rw [h'.frame, h.frame]
  rd := h.rd.trans h'.rd

theorem State.opens_modLane (s : State) (p : Nat) (f : Lane → Lane) : State.Opens p s (s.modLane p f) :=
  ⟨rfl, fun _ _ => rfl⟩

theorem State.opens_setFld (s : State) {p : Nat} {r : Reg} (h : r ∈ [Reg.laneSchrej, .laneErr p]) (f : Fld) (v : Nat) :
    State.Opens p s (s.setFld r f v) := ⟨rfl, (s.onlyRegs_setFld h f v).2⟩

theorem State.opens_insert (s : State) (p : Nat) (time : Time) (act tag arg : Nat) :
    State.Opens p s (s.insert p time act tag arg) := by
  unfold State.insert
  dsimp only
  split
  · exact s.opens_setFld (by simp) _ _
  · split
    · exact s.opens_setFld (by simp) _ _
    · exact s.opens_modLane p _

theorem State.opens_openPeriod (s : State) (p e k : Nat) (ents : List (Nat × Nat × Nat)) :
    State.Opens p s (s.openPeriod p e k ents) := by
  unfold State.openPeriod
  split
  · exact .refl p s
  · have hents : ∀ u : State, State.Opens p u (ents.foldl (fun s x => s.insert p (s.timeAt (e + x.1)) x.2.1 k x.2.2) u) :=
      foldl_related (.refl p) .trans fun u x _ => u.opens_insert p _ _ _ _
    have hper : ∀ x, State.Opens p s (s.setWeir p x) := fun _ => ⟨rfl, fun _ _ => rfl⟩
    dsimp only
    split
    · exact ((hper _).trans (hents _)).trans (State.opens_insert _ p _ _ _ _)
    · exact (hper _).trans (hents _)

theorem State.opens_withdraw (s : State) (p e : Nat) (b : Bool) : State.Opens p s (if b then s.withdrawEntries p e else s) := by
  split
  · exact s.opens_modLane p _
  · exact .refl p s

/-! ### The registers of a weir that has decided -/

/-- The registers that a decision of weir `p` writes. -/
def weirRegs (p : Nat) : List Reg := [.weirHist p, .weirLast p, .weirStat p, .weirCnt p, .weirStage p]

section
variable (s : State) (p k : Nat) (x : Decision)

/-- The release of a decision: HIST, LAST and the fields of WEIR_STAT beside FBRUN (spec/07 R196, R200). -/
def State.recordRelease : State :=
  ((((s.wr (.weirHist p) (if x.safe then x.value else s.rd (.weirLast p))).wr (.weirLast p) x.value).setFld (.weirStat p)
    F.weirStat.lastcause x.cause).setFld (.weirStat p) F.weirStat.clamped (if x.clamped then 1 else 0)).setFld (.weirStat p)
    F.weirStat.tag k

theorem State.recordDecision_eq : s.recordDecision p k x =
    if x.cause < 2 then (s.recordRelease p k x).setFld (.weirStat p) F.weirStat.fbrun 0
    else ((s.recordRelease p k x).incSat (.weirStat p) F.weirStat.fbrun).incSat (.weirCnt p) F.weirCnt.late := rfl

theorem State.onlyRegs_recordRelease : s.OnlyRegs (weirRegs p) (s.recordRelease p k x) :=
  ((((s.onlyRegs_wr (by simp [weirRegs]) _).trans (State.onlyRegs_wr _ (by simp [weirRegs]) _)).trans
    (State.onlyRegs_setFld _ (by simp [weirRegs]) _ _)).trans (State.onlyRegs_setFld _ (by simp [weirRegs]) _ _)).trans
    (State.onlyRegs_setFld _ (by simp [weirRegs]) _ _)

theorem State.onlyRegs_recordDecision : s.OnlyRegs (weirRegs p) (s.recordDecision p k x) := by
  have h := s.onlyRegs_recordRelease p k x
  rw [State.recordDecision_eq]
  split
  · exact h.trans (State.onlyRegs_setFld _ (by simp [weirRegs]) _ _)
  · exact (h.trans (State.onlyRegs_setFld _ (by simp [weirRegs]) _ _)).trans (State.onlyRegs_setFld _ (by simp [weirRegs]) _ _)

/-- LAST and HIST keep what the release wrote, and so do the fields of WEIR_STAT beside FBRUN. -/
theorem State.rd_recordDecision {r : Reg} (h : r = .weirLast p ∨ r = .weirHist p) :
    (s.recordDecision p k x).rd r = (s.recordRelease p k x).rd r := by
  have hk : r.key ≠ (Reg.weirStat p).key ∧ r.key ≠ (Reg.weirCnt p).key := by
    rcases h with rfl | rfl <;> simp only [Reg.key] <;> omega
  rw [State.recordDecision_eq]
  split
  · exact State.rd_setFld_ne _ _ _ hk.1
  · exact (State.rd_setFld_ne _ _ _ hk.2).trans (State.rd_setFld_ne _ _ _ hk.1)

theorem State.last_recordDecision : (s.recordDecision p k x).rd (.weirLast p) = x.value := by
  have h : (Reg.weirLast p).key ≠ (Reg.weirStat p).key := by simp only [Reg.key]; omega
  rw [s.rd_recordDecision p k x (.inl rfl), State.recordRelease, State.rd_setFld_ne _ _ _ h, State.rd_setFld_ne _ _ _ h,
    State.rd_setFld_ne _ _ _ h, State.rd_wr_self]

theorem State.hist_recordDecision (hx : x.safe = false) : (s.recordDecision p k x).rd (.weirHist p) = s.rd (.weirLast p) := by
  have h : (Reg.weirHist p).key ≠ (Reg.weirStat p).key ∧ (Reg.weirHist p).key ≠ (Reg.weirLast p).key := by
    simp only [Reg.key]; omega
  rw [s.rd_recordDecision p k x (.inr rfl), State.recordRelease, State.rd_setFld_ne _ _ _ h.1, State.rd_setFld_ne _ _ _ h.1,
    State.rd_setFld_ne _ _ _ h.1, State.rd_wr_ne _ _ h.2, State.rd_wr_self, hx]
  rfl

theorem State.stat_recordDecision {f : Fld} (hf : f.ok = true) (ha : F.weirStat.fbrun.apart f = true) :
    (s.recordDecision p k x).fld (.weirStat p) f = (s.recordRelease p k x).fld (.weirStat p) f := by
  rw [State.recordDecision_eq]
  split
  · exact State.fld_setFld_apart _ _ rfl hf ha _
  · exact (State.fld_setFld_ne _ _ _ _ (weirStage_ne p).2.2).trans (State.fld_setFld_apart _ _ rfl hf ha _)

/-- The fields of WEIR_STAT that a release does not write. -/
theorem State.stat_recordRelease {f : Fld} (hf : f.ok = true) (h1 : F.weirStat.lastcause.apart f = true)
    (h2 : F.weirStat.clamped.apart f = true) (h3 : F.weirStat.tag.apart f = true) :
    (s.recordRelease p k x).fld (.weirStat p) f = s.fld (.weirStat p) f := by
  have h : (Reg.weirStat p).key ≠ (Reg.weirLast p).key ∧ (Reg.weirStat p).key ≠ (Reg.weirHist p).key := by
    simp only [Reg.key]; omega
  rw [State.recordRelease, State.fld_setFld_apart _ _ rfl hf h3, State.fld_setFld_apart _ _ rfl hf h2,
    State.fld_setFld_apart _ _ rfl hf h1, State.fld_of_rd ((State.rd_wr_ne _ _ h.1).trans (State.rd_wr_ne _ _ h.2))]

theorem State.lastcause_recordDecision : (s.recordDecision p k x).fld (.weirStat p) F.weirStat.lastcause = x.cause % 8 := by
  rw [s.stat_recordDecision p k x rfl rfl, State.recordRelease, State.fld_setFld_apart _ _ rfl rfl rfl,
    State.fld_setFld_apart _ _ rfl rfl rfl, State.fld_setFld_self _ _ rfl]
  rfl

theorem State.tag_recordDecision : (s.recordDecision p k x).fld (.weirStat p) F.weirStat.tag = k % 256 := by
  rw [s.stat_recordDecision p k x rfl rfl, State.recordRelease, State.fld_setFld_self _ _ rfl]
  rfl

theorem State.fbrun_recordDecision : (s.recordDecision p k x).fld (.weirStat p) F.weirStat.fbrun =
    if x.cause < 2 then 0 else satInc F.weirStat.fbrun.width (s.fld (.weirStat p) F.weirStat.fbrun) := by
  rw [State.recordDecision_eq]
  split
  · exact (State.fld_setFld_self _ _ rfl 0).trans rfl
  · refine (State.fld_setFld_ne _ _ _ _ (weirStage_ne p).2.2).trans ?_
    rw [State.fld_incSat _ _ rfl, s.stat_recordRelease p k x rfl rfl rfl rfl]

theorem State.late_recordDecision (hx : 2 ≤ x.cause) : s.Counts (.weirCnt p) F.weirCnt.late (s.recordDecision p k x) := by
  have hk : (Reg.weirCnt p).key ≠ (Reg.weirStat p).key ∧ (Reg.weirCnt p).key ≠ (Reg.weirLast p).key ∧
      (Reg.weirCnt p).key ≠ (Reg.weirHist p).key := by
    simp only [Reg.key]; omega
  obtain ⟨h1, h2, h3⟩ := hk
  have hrd : ((s.recordRelease p k x).incSat (.weirStat p) F.weirStat.fbrun).rd (.weirCnt p) = s.rd (.weirCnt p) := by
    rw [State.incSat, State.rd_setFld_ne _ _ _ h1, State.recordRelease, State.rd_setFld_ne _ _ _ h1, State.rd_setFld_ne _ _ _ h1,
      State.rd_setFld_ne _ _ _ h1, State.rd_wr_ne _ _ h2, State.rd_wr_ne _ _ h3]
  rw [State.Counts, State.recordDecision_eq, if_neg (by omega), State.fld_incSat _ _ rfl, State.fld_of_rd hrd]

end

/-- A stage that is still held at a deadline is emptied, and counted where `late` (spec/07 R195, R196). -/
def State.dropStage (s : State) (p : Nat) (late : Bool) : State :=
  if s.bit (.weirStat p) F.weirStat.valid then (if late then s.discardStage p else s.clearStage p) else s

section
variable (s : State) (p : Nat) (late : Bool)

theorem State.onlyRegs_dropStage : s.OnlyRegs (weirRegs p) (s.dropStage p late) := by
  have hl : [Reg.weirStage p, .weirStat p, .weirCnt p] ⊆ weirRegs p := by simp [weirRegs]
  unfold State.dropStage
  split
  · split
    · exact (s.onlyRegs_discardStage p).mono hl
    · exact (s.onlyRegs_clearStage p).mono hl
  · exact .refl s _

theorem State.rd_dropStage {r : Reg} (h : r = .weirLast p ∨ r = .weirHist p) : (s.dropStage p late).rd r = s.rd r := by
  have hk : ∀ q ∈ [Reg.weirStage p, .weirStat p, .weirCnt p], r.key ≠ q.key := by
    simp only [List.mem_cons, List.not_mem_nil, or_false, forall_eq_or_imp, forall_eq]
    rcases h with rfl | rfl <;> simp only [Reg.key] <;> omega
  unfold State.dropStage
  split
  · split
    · exact (s.onlyRegs_discardStage p).2 r hk
    · exact (s.onlyRegs_clearStage p).2 r hk
  · rfl

theorem State.valid_dropStage : (s.dropStage p late).fld (.weirStat p) F.weirStat.valid = 0 := by
  unfold State.dropStage
  split
  · split
    · exact (congrArg _ (s.rd_discardStage p).2.1).trans (valid_emptied _)
    · exact s.valid_clearStage p
  · rename_i h
    simpa [State.bit] using h

/-- The fields of WEIR_STAT beside VALID and POISON stay. -/
theorem State.stat_dropStage {f : Fld} (hf : f.ok = true) (hv : F.weirStat.valid.apart f = true)
    (hp : F.weirStat.poison.apart f = true) : (s.dropStage p late).fld (.weirStat p) f = s.fld (.weirStat p) f := by
  unfold State.dropStage
  split
  · split
    · exact (State.fld_setFld_ne _ _ _ _ (weirStage_ne p).2.2).trans (s.stat_clearStage p hf hv hp)
    · exact s.stat_clearStage p hf hv hp
  · rfl

theorem State.late_dropStage : (s.dropStage p late).fld (.weirCnt p) F.weirCnt.late = s.fld (.weirCnt p) F.weirCnt.late := by
  unfold State.dropStage
  split
  · split
    · exact (State.fld_setFld_apart _ _ rfl rfl rfl _).trans (State.fld_of_rd (s.cnt_clearStage p) _)
    · exact State.fld_of_rd (s.cnt_clearStage p) _
  · rfl

end

/-! ### A weir acts on its decision -/

/-- Weir `p`, which no COMPLEMENT weir follows, has acted on decision `x` as its period `k` (spec/07 R195, R196, R200). -/
structure State.Decided (s : State) (p k : Nat) (x : Decision) (t : State) : Prop where
  frame : t = { s with regs := t.regs, lanes := t.lanes, weirs := t.weirs }
  rd    : s.RegsBut (.laneSchrej :: .laneErr p :: weirRegs p) t
  last  : t.rd (.weirLast p) = x.value
  hist  : x.safe = false → t.rd (.weirHist p) = s.rd (.weirLast p)
  cause : t.fld (.weirStat p) F.weirStat.lastcause = x.cause % 8
  tag   : t.fld (.weirStat p) F.weirStat.tag = k % 256
  valid : t.fld (.weirStat p) F.weirStat.valid = 0
  fbrun : t.fld (.weirStat p) F.weirStat.fbrun =
    if x.cause < 2 then 0 else satInc F.weirStat.fbrun.width (s.fld (.weirStat p) F.weirStat.fbrun)
  late  : 2 ≤ x.cause → s.Counts (.weirCnt p) F.weirCnt.late t

theorem State.Decided.fld {s t : State} {p k : Nat} {x : Decision} (h : s.Decided p k x t) {r : Reg}
    (hr : ∀ q ∈ .laneSchrej :: .laneErr p :: weirRegs p, r.key ≠ q.key) (f : Fld) : t.fld r f = s.fld r f :=
  State.fld_of_rd (h.rd r hr) f

section
variable {s : State} {p : Nat} (hp : p < 256)
include hp

/-- A register of the weirs' own window is not one that counts entries refused. -/
theorem State.Opens.rd_weir {t : State} (h : State.Opens p s t) {r : Reg} (hr : 0x730000 ≤ r.key) : t.rd r = s.rd r := by
  refine h.rd r fun q hq => ?_
  have hk : q.key < 0x730000 := by
    simp only [List.mem_cons, List.not_mem_nil, or_false] at hq
    rcases hq with rfl | rfl <;> simp only [Reg.key] <;> omega
  omega

theorem State.Opens.decided {u : State} (h : State.Opens p s u) (k : Nat) (x : Decision) (late : Bool) :
    s.Decided p k x ((u.recordDecision p k x).dropStage p late) := by
  obtain ⟨hdf, hdr⟩ := u.onlyRegs_recordDecision p k x
  obtain ⟨hsf, hsr⟩ := (u.recordDecision p k x).onlyRegs_dropStage p late
  have hstat : u.rd (.weirStat p) = s.rd (.weirStat p) := h.rd_weir hp (by simp only [Reg.key]; omega)
  have hcnt : u.rd (.weirCnt p) = s.rd (.weirCnt p) := h.rd_weir hp (by simp only [Reg.key]; omega)
  have hlast : u.rd (.weirLast p) = s.rd (.weirLast p) := h.rd_weir hp (by simp only [Reg.key]; omega)
  exact {
    frame := by rw [hsf, hdf, h.frame]
    rd := ((h.rd.mono (by simp)).trans (State.RegsBut.mono hdr (by simp))).trans (State.RegsBut.mono hsr (by simp))
    last := (State.rd_dropStage _ p late (.inl rfl)).trans (u.last_recordDecision p k x)
    hist := fun hx => (State.rd_dropStage _ p late (.inr rfl)).trans ((u.hist_recordDecision p k x hx).trans hlast)
    cause := (State.stat_dropStage _ p late rfl rfl rfl).trans (u.lastcause_recordDecision p k x)
    tag := (State.stat_dropStage _ p late rfl rfl rfl).trans (u.tag_recordDecision p k x)
    valid := State.valid_dropStage _ p late
    fbrun := by
      rw [State.stat_dropStage _ p late rfl rfl rfl, u.fbrun_recordDecision, State.fld_of_rd hstat]
    late := fun hx => by
      rw [State.Counts, State.late_dropStage, ← State.fld_of_rd hcnt]
      exact u.late_recordDecision p k x hx }

/-- What weir `p` does with its decision, where no COMPLEMENT weir follows it and nothing is traced. -/
theorem State.decided_actWeir (htr : s.bit .outCtrl F.outCtrl.trcen = false) (hc : s.complemented p = false) (g k e : Nat)
    (missing : Bool) (x : Decision) : s.Decided p k x (s.actWeir p g k e missing x) := by
  have hopen : ∃ u late w, State.Opens p s u ∧ s.actWeir p g k e missing x =
      let v := ((u.recordDecision p k x).dropStage p late).traceRelease p
      if v.complemented p then w else v :=
    ⟨_, _, _, (s.opens_withdraw p e (s.byStrobe g)).trans (State.opens_openPeriod _ p e k _), rfl⟩
  obtain ⟨u, late, w, hu, hact⟩ := hopen
  have hdec := hu.decided hp k x late
  rw [hact]
  generalize (u.recordDecision p k x).dropStage p late = v at *
  have hout : v.fld .outCtrl F.outCtrl.trcen = s.fld .outCtrl F.outCtrl.trcen := hdec.fld (by
    simp only [weirRegs, List.mem_cons, List.not_mem_nil, or_false, forall_eq_or_imp, forall_eq]
    simp only [Reg.key]
    omega) _
  have hkind : v.kind (p + 1) = s.kind (p + 1) := hdec.fld (by
    simp only [weirRegs, List.mem_cons, List.not_mem_nil, or_false, forall_eq_or_imp, forall_eq]
    simp only [Reg.key]
    omega) _
  have hmode : v.mode (p + 1) = s.mode (p + 1) := hdec.fld (by
    simp only [weirRegs, List.mem_cons, List.not_mem_nil, or_false, forall_eq_or_imp, forall_eq]
    simp only [Reg.key]
    omega) _
  have htrace : v.traceRelease p = v := by
    have ht : v.traced 1 p = false := by
      simp only [State.traced, State.bit, hout]
      simp only [State.bit] at htr
      rw [htr, Bool.false_and]
    rw [State.traceRelease, State.trace, ht]
    rfl
  have halone : v.complemented p = false := by
    rw [← hc]
    simp only [State.complemented, hkind, hmode]
  rw [htrace]
  dsimp only
  rw [halone]
  exact hdec

end

end Sys2Proof.Machine
end

section
/-! PROOFS. A group's deadline (spec/07 R195, R196, R200, R201), and the statement about weirs (O36). -/

namespace Sys2Proof.Machine

open Sys2Proof

/-! ### The number of a period -/

/-- The number that a deadline of group `g` gives its period (spec/07 R195). -/
def State.nextNumber (s : State) (g : Nat) : Nat :=
  if (s.group g).deadlines.isEmpty then 0 else s.fld (.weirCgpnum g) F.weirCgpnum.pnum + 1

/-- The period number of group `g` has advanced. -/
def State.numbered (s : State) (g : Nat) : State := s.setFld (.weirCgpnum g) F.weirCgpnum.pnum (s.nextNumber g)

/-- That number as its register holds it. -/
def State.heldNumber (s : State) (g : Nat) : Nat :=
  if (s.group g).deadlines = [] then 0 else (s.fld (.weirCgpnum g) F.weirCgpnum.pnum + 1) % 2 ^ 32

theorem State.nextNumber_mod (s : State) (g : Nat) : s.nextNumber g % 2 ^ 32 = s.heldNumber g := by
  simp only [State.nextNumber, State.heldNumber, List.isEmpty_iff]
  split <;> rfl

theorem State.nextNumber_tag (s : State) (g : Nat) : s.nextNumber g % 256 = s.heldNumber g % 256 := by
  rw [← s.nextNumber_mod, Nat.mod_mod_of_dvd _ (by decide)]

section
variable (s : State) (g : Nat)

theorem State.pnum_numbered : (s.numbered g).fld (.weirCgpnum g) F.weirCgpnum.pnum = s.heldNumber g := by
  rw [State.numbered, State.fld_setFld_self _ _ rfl, ← s.nextNumber_mod]
  rfl

theorem State.rd_numbered {r : Reg} (h : r.key ≠ (Reg.weirCgpnum g).key) : (s.numbered g).rd r = s.rd r :=
  State.rd_setFld_ne _ _ _ h

/-- The number is no register of a lane or a weir. -/
theorem State.rd_numbered_low {r : Reg} (h : r.key < 0x734000) : (s.numbered g).rd r = s.rd r :=
  s.rd_numbered g (by
    have hk : 0x734000 ≤ (Reg.weirCgpnum g).key := by simp only [Reg.key]; omega
    omega)

theorem State.fld_numbered_low {r : Reg} (h : r.key < 0x734000) (f : Fld) : (s.numbered g).fld r f = s.fld r f :=
  State.fld_of_rd (s.rd_numbered_low g h) f

variable {p : Nat} (hp : p < 256)
include hp

theorem State.decides_numbered : (s.numbered g).kind p = s.kind p ∧ (s.numbered g).groupOf p = s.groupOf p ∧
    (s.numbered g).mode p = s.mode p ∧ (s.numbered g).laneOn p = s.laneOn p := by
  simp only [State.kind, State.groupOf, State.mode, State.laneOn]
  refine ⟨s.fld_numbered_low g ?_ _, s.fld_numbered_low g ?_ _, s.fld_numbered_low g ?_ _, ?_⟩
  case refine_4 => rw [s.fld_numbered_low g (by simp only [Reg.key]; omega)]
  all_goals simp only [Reg.key]; omega

theorem State.ownCause_numbered (missing : Bool) : (s.numbered g).ownCause p g missing = s.ownCause p g missing := by
  have hstat : ∀ f, (s.numbered g).fld (.weirStat p) f = s.fld (.weirStat p) f :=
    s.fld_numbered_low g (by simp only [Reg.key]; omega)
  have hctl : ∀ f, (s.numbered g).fld (.weirCgctl g) f = s.fld (.weirCgctl g) f :=
    State.fld_of_rd (s.rd_numbered g (by simp only [Reg.key]; omega))
  have hld : ∀ f, (s.numbered g).fld (.weirCgld g) f = s.fld (.weirCgld g) f :=
    State.fld_of_rd (s.rd_numbered g (by simp only [Reg.key]; omega))
  obtain ⟨-, -, hmode, hon⟩ := s.decides_numbered g hp
  have hunits : (s.numbered g).weir p = s.weir p ∧ (s.numbered g).group g = s.group g ∧ (s.numbered g).ticks = s.ticks ∧
      (s.numbered g).shore = s.shore := ⟨rfl, rfl, rfl, rfl⟩
  simp only [State.ownCause, State.stageCounts, State.weirActive, State.byStrobe, State.bit, hstat, hctl, hld, hmode, hon, hunits]
  rfl

theorem State.policy_numbered : (s.numbered g).policy p = s.policy p := by
  have hstat : ∀ f, (s.numbered g).fld (.weirStat p) f = s.fld (.weirStat p) f :=
    s.fld_numbered_low g (by simp only [Reg.key]; omega)
  have hcfg : ∀ f, (s.numbered g).fld (.weirCfg p) f = s.fld (.weirCfg p) f :=
    s.fld_numbered_low g (by simp only [Reg.key]; omega)
  simp only [State.policy, hstat, hcfg]

end

theorem State.deciding_numbered (s : State) (g : Nat) : (s.numbered g).deciding g = s.deciding g := by
  refine List.filter_congr fun p hp => ?_
  obtain ⟨hkind, hgroup, hmode, -⟩ := s.decides_numbered g (List.mem_range.1 hp)
  simp only [State.takesStages, hkind, hgroup, hmode]

/-! ### The decision of a LEVEL weir -/

section
variable {s : State} {p g : Nat} {missing : Bool}

theorem State.decideWeir_alone (hcoh : s.bit (.weirCgctl g) F.weirCgctl.coh = false) :
    s.decideWeir p g missing = if s.ownCause p g missing = 0 then s.release p else s.fallback p (s.ownCause p g missing) := by
  rw [State.decideWeir, hcoh]
  rfl

/-- No clamp changes a LEVEL value (spec/07 R202). -/
theorem State.clamp_level (hk : s.kind p = kindLevel) (v : BitVec 32) : s.clamp p v = (v, false) :=
  if_pos (by rw [hk]; decide)

theorem State.release_level (hk : s.kind p = kindLevel) : s.release p = ⟨s.rd (.weirStage p), 0, false, false⟩ := by
  simp [State.release, State.clamp_level hk]

theorem State.fallback_level (hk : s.kind p = kindLevel) (hpol : s.policy p = 0) (c : Nat) :
    s.fallback p c = ⟨s.rd (.weirLast p), c, false, false⟩ := by
  simp [State.fallback, hpol, State.clamp_level hk]

/-- An empty stage is not released, for lack of a stage or of a strobe (spec/07 R196). -/
theorem State.ownCause_empty (hv : s.fld (.weirStat p) F.weirStat.valid = 0) :
    s.ownCause p g missing = if missing then 5 else 2 := by
  have hcounts : s.stageCounts p g = false := by simp [State.stageCounts, State.bit, hv]
  simp [State.ownCause, hcounts]

end

/-! ### The deadline -/

/-- The deadline of group `g` is taken in the present tick, and no strobe waits (spec/07 R195). -/
def State.closeDeadline (s : State) (g : Nat) : State :=
  s.setGroup g { s.group g with deadlines := s.ticks :: startedBy (s.lead g) s.ticks (s.group g).deadlines, strobe := none }

/-- A decision that releases a stage takes an ARMED domain to RUN (spec/14 R360). -/
def State.runArmed (s : State) (g : Nat) (released : Bool) : State :=
  let d := s.fld (.weirCgctl g) F.weirCgctl.dom
  if released && s.sub d == subArmed then s.setFld (.engDstat d) F.engDstat.sub subRun else s

section
variable (s : State) (g : Nat) (released : Bool)

theorem State.frame_runArmed : s.runArmed g released = { s with regs := (s.runArmed g released).regs } := by
  unfold State.runArmed
  dsimp only
  split <;> rfl

/-- Only the domain's own status is written, which no window of the lanes or weirs holds. -/
theorem State.rd_runArmed {r : Reg} (h : 0x720000 ≤ r.key) : (s.runArmed g released).rd r = s.rd r := by
  have hd : s.fld (.weirCgctl g) F.weirCgctl.dom < 8 := s.fld_lt _ _
  have hk : (Reg.engDstat (s.fld (.weirCgctl g) F.weirCgctl.dom)).key < 0x720000 := by simp only [Reg.key]; omega
  unfold State.runArmed
  dsimp only
  split
  · exact State.rd_setFld_ne _ _ _ (by omega)
  · rfl

theorem State.sub_runArmed {d : Nat} (hd : s.fld (.weirCgctl g) F.weirCgctl.dom = d) :
    (s.runArmed g released).sub d = if released = true ∧ s.sub d = subArmed then subRun else s.sub d := by
  simp only [State.runArmed, hd, Bool.and_eq_true, beq_iff_eq]
  split
  · exact State.fld_setFld_self _ _ rfl _
  · rfl

end

/-- A strobe-missing deadline is counted (spec/07 R191). -/
def State.countMiss (s : State) (g : Nat) (missing : Bool) : State :=
  if missing then s.incSat (.weirCgstat g) F.weirCgstat.stbmiss else s

theorem State.deadline_eq (s : State) (g : Nat) (missing : Bool) : s.deadline g missing =
    let ds := ((s.numbered g).deciding g).map fun p => (p, (s.numbered g).decideWeir p g missing)
    ((ds.foldl (fun u x => u.actWeir x.1 g (s.nextNumber g) (32 * (s.ticks + (s.numbered g).lead g)) missing x.2)
      (s.numbered g)).closeDeadline g).runArmed g (ds.any fun x => decide (x.2.cause < 2)) := rfl

/-- Group `g` has taken a deadline, and neither memory nor a thread has changed. -/
structure State.Deadlined (s : State) (g : Nat) (t : State) : Prop where
  number : t.fld (.weirCgpnum g) F.weirCgpnum.pnum = s.heldNumber g
  last   : (t.group g).deadlines.head? = some s.ticks
  strobe : (t.group g).strobe = none
  armed  : (t.group g).armed = (s.group g).armed
  missed : t.rd (.weirCgstat g) = s.rd (.weirCgstat g)
  mem    : t.mem = s.mem
  thr    : t.threads = s.threads

theorem State.Deadlined.counted {s t : State} {g : Nat} (h : s.Deadlined g t) (missing : Bool) :
    (t.countMiss g missing).fld (.weirCgpnum g) F.weirCgpnum.pnum = s.heldNumber g ∧
    ((t.countMiss g missing).group g).deadlines.head? = some s.ticks ∧ ((t.countMiss g missing).group g).strobe = none ∧
    ((t.countMiss g missing).group g).armed = (s.group g).armed ∧
    (missing = true → s.Counts (.weirCgstat g) F.weirCgstat.stbmiss (t.countMiss g missing)) ∧
    (t.countMiss g missing).mem = s.mem ∧ (t.countMiss g missing).threads = s.threads := by
  cases missing with
  | false => exact ⟨h.number, h.last, h.strobe, h.armed, fun h => absurd h (by decide), h.mem, h.thr⟩
  | true =>
    refine ⟨(State.fld_setFld_ne _ _ _ _ (by simp only [Reg.key]; omega)).trans h.number, h.last, h.strobe, h.armed,
      fun _ => ?_, h.mem, h.thr⟩
    exact (State.fld_incSat _ _ rfl).trans (congrArg _ (State.fld_of_rd h.missed _))

theorem State.Deadlined.runArmed {s t : State} {g : Nat} (h : s.Deadlined g t) (released : Bool) :
    s.Deadlined g (t.runArmed g released) := by
  have hf := t.frame_runArmed g released
  have hgroup : (t.runArmed g released).group g = t.group g := by
    rw [hf]
    rfl
  exact {
    number := (State.fld_of_rd (t.rd_runArmed g released (by simp only [Reg.key]; omega)) _).trans h.number
    last := by rw [hgroup]; exact h.last
    strobe := by rw [hgroup]; exact h.strobe
    armed := by rw [hgroup]; exact h.armed
    missed := (t.rd_runArmed g released (by simp only [Reg.key]; omega)).trans h.missed
    mem := by rw [hf]; exact h.mem
    thr := by rw [hf]; exact h.thr }

/-- Command `c.1` is a deadline of group `g` that is due, or with `c.2` a strobe-missing one (spec/07 R190, R191). -/
def State.DeadlineCommand (s : State) (g : Nat) (c : Instr × Bool) : Prop :=
  c = (.weirDeadline g, false) ∧ s.deadlineDue g = true ∨ c = (.strobeMissingDeadline g, true) ∧ s.missingDue g = true

/-- Its effect is the deadline. -/
theorem exec_deadline {s : State} (hs : s.Live) {g : Nat} (hg : g < 32) {c : Instr × Bool}
    (hc : s.DeadlineCommand g c) : exec c.1 s = .next ((s.deadline g c.2).countMiss g c.2) := by
  rcases hc with ⟨rfl, hd⟩ | ⟨rfl, hd⟩
  · exact State.run_next (fun s => s.deadline g false) hs.1 hs.2 (by simp [hg, hd])
  · exact State.run_next (fun s => s.missDeadline g) hs.1 hs.2 (by simp [hg, hd])

/-! ### A group without a weir that decides -/

theorem State.deadline_none {s : State} {g : Nat} (h : s.deciding g = []) (missing : Bool) :
    s.deadline g missing = (s.numbered g).closeDeadline g := by
  rw [State.deadline_eq, s.deciding_numbered, h]
  rfl

theorem State.group_closeDeadline (s : State) (g : Nat) : (s.closeDeadline g).group g =
    { s.group g with deadlines := s.ticks :: startedBy (s.lead g) s.ticks (s.group g).deadlines, strobe := none } :=
  (State.group_setGroup _ _ _ _).trans (if_pos rfl)

theorem State.deadlined_close {s u : State} {g : Nat}
    (hf : u.group g = s.group g ∧ u.ticks = s.ticks ∧ u.mem = s.mem ∧ u.threads = s.threads)
    (hn : u.fld (.weirCgpnum g) F.weirCgpnum.pnum = s.heldNumber g) (hm : u.rd (.weirCgstat g) = s.rd (.weirCgstat g)) :
    s.Deadlined g (u.closeDeadline g) := by
  obtain ⟨hgroup, hticks, hmem, hthr⟩ := hf
  have h := u.group_closeDeadline g
  exact ⟨hn, by rw [h, ← hticks]; rfl, by rw [h], by rw [h, ← hgroup], hm, hmem, hthr⟩

theorem answers_deadline_none {s : State} (hs : s.Live) {g : Nat} (hg : g < 32) {c : Instr × Bool}
    (hc : s.DeadlineCommand g c) (h : s.deciding g = []) : ∃ u, exec c.1 s = .next (u.countMiss g c.2) ∧ s.Deadlined g u ∧
      s.RegsBut [.weirCgpnum g, .weirCgstat g] (u.countMiss g c.2) ∧
      u.countMiss g c.2 = { s with regs := (u.countMiss g c.2).regs, groups := (u.countMiss g c.2).groups } := by
  have hexec := exec_deadline hs hg hc
  rw [State.deadline_none h] at hexec
  have hnum : s.OnlyRegs [.weirCgpnum g, .weirCgstat g] (s.numbered g) := s.onlyRegs_setFld (by simp) _ _
  refine ⟨_, hexec, State.deadlined_close ⟨rfl, rfl, rfl, rfl⟩ (s.pnum_numbered g)
    (s.rd_numbered g (by simp only [Reg.key]; omega)), ?_, ?_⟩
  · unfold State.countMiss
    split
    · exact State.RegsBut.trans (t := (s.numbered g).closeDeadline g) hnum.2 (State.onlyRegs_setFld _ (by simp) _ _).2
    · exact hnum.2
  · unfold State.countMiss
    split <;> rfl

/-! ### A group with one weir that decides -/

/-- The group's one weir `p` has acted on decision `x` at the deadline (spec/07 R196, R200, R201). -/
structure State.DecidedAt (s : State) (p g : Nat) (x : Decision) (t : State) : Prop where
  last  : t.rd (.weirLast p) = x.value
  hist  : x.safe = false → t.rd (.weirHist p) = s.rd (.weirLast p)
  cause : t.fld (.weirStat p) F.weirStat.lastcause = x.cause % 8
  tag   : t.fld (.weirStat p) F.weirStat.tag = s.heldNumber g % 256
  valid : t.fld (.weirStat p) F.weirStat.valid = 0
  fbrun : t.fld (.weirStat p) F.weirStat.fbrun =
    if x.cause < 2 then 0 else satInc F.weirStat.fbrun.width (s.fld (.weirStat p) F.weirStat.fbrun)
  late  : 2 ≤ x.cause → s.Counts (.weirCnt p) F.weirCnt.late t
  runs  : x.cause < 2 → s.sub (s.fld (.weirCgctl g) F.weirCgctl.dom) = subArmed →
    t.sub (s.fld (.weirCgctl g) F.weirCgctl.dom) = subRun
  stays : 2 ≤ x.cause → t.sub (s.fld (.weirCgctl g) F.weirCgctl.dom) = s.sub (s.fld (.weirCgctl g) F.weirCgctl.dom)

section
variable {s : State} {p g : Nat} (hp : p < 256)
include hp

/-- What is read of a weir that has decided stays where other registers change. -/
theorem State.DecidedAt.of_rd {t u : State} {x : Decision} (h : s.DecidedAt p g x t)
    (hrd : ∀ r : Reg, r.key < 0x734000 → u.rd r = t.rd r) : s.DecidedAt p g x u := by
  have hstat : ∀ f, u.fld (.weirStat p) f = t.fld (.weirStat p) f := State.fld_of_rd (hrd _ (by simp only [Reg.key]; omega))
  have hcnt : ∀ f, u.fld (.weirCnt p) f = t.fld (.weirCnt p) f := State.fld_of_rd (hrd _ (by simp only [Reg.key]; omega))
  have hdom : s.fld (.weirCgctl g) F.weirCgctl.dom < 8 := s.fld_lt _ _
  have hsub : u.sub (s.fld (.weirCgctl g) F.weirCgctl.dom) = t.sub (s.fld (.weirCgctl g) F.weirCgctl.dom) :=
    State.fld_of_rd (hrd _ (by simp only [Reg.key]; omega)) _
  exact {
    last := (hrd _ (by simp only [Reg.key]; omega)).trans h.last
    hist := fun hx => (hrd _ (by simp only [Reg.key]; omega)).trans (h.hist hx)
    cause := (hstat _).trans h.cause
    tag := (hstat _).trans h.tag
    valid := (hstat _).trans h.valid
    fbrun := (hstat _).trans h.fbrun
    late := fun hx => (hcnt _).trans (h.late hx)
    runs := fun hx ha => hsub.trans (h.runs hx ha)
    stays := fun hx => hsub.trans (h.stays hx) }

/-- The registers of the groups are none that a weir's decision writes. -/
theorem State.Decided.rd_group {u v : State} {k : Nat} {x : Decision} (h : u.Decided p k x v) {r : Reg}
    (hr : 0x734000 ≤ r.key) : v.rd r = u.rd r := by
  refine h.rd r fun q hq => ?_
  have hk : q.key < 0x734000 := by
    simp only [weirRegs, List.mem_cons, List.not_mem_nil, or_false] at hq
    rcases hq with rfl | rfl | rfl | rfl | rfl | rfl | rfl <;> simp only [Reg.key] <;> omega
  omega

section
variable {v : State} {x : Decision} (h : (s.numbered g).Decided p (s.nextNumber g) x v)
include h

theorem State.Decided.deadlined : s.Deadlined g (v.closeDeadline g) := by
  refine State.deadlined_close ?_ ?_ ?_
  · rw [h.frame]
    exact ⟨rfl, rfl, rfl, rfl⟩
  · exact (State.fld_of_rd (h.rd_group hp (by simp only [Reg.key]; omega)) _).trans (s.pnum_numbered g)
  · exact (h.rd_group hp (by simp only [Reg.key]; omega)).trans (s.rd_numbered g (by simp only [Reg.key]; omega))

/-- The group's domain and its sub-state are as before the decision. -/
theorem State.Decided.domain : v.fld (.weirCgctl g) F.weirCgctl.dom = s.fld (.weirCgctl g) F.weirCgctl.dom ∧
    ∀ d, d < 8 → v.sub d = s.sub d := by
  refine ⟨State.fld_of_rd ((h.rd_group hp ?_).trans (s.rd_numbered g ?_)) _,
    fun d hd => (h.fld ?_ _).trans (s.fld_numbered_low g ?_ _)⟩
  · simp only [Reg.key]
    omega
  · simp only [Reg.key]
    omega
  · simp only [weirRegs, List.mem_cons, List.not_mem_nil, or_false, forall_eq_or_imp, forall_eq]
    simp only [Reg.key]
    omega
  · simp only [Reg.key]
    omega

/-- What the weir's own part of the deadline leaves, and what the domain makes of it. -/
theorem State.Decided.atDeadline : s.DecidedAt p g x ((v.closeDeadline g).runArmed g (decide (x.cause < 2))) := by
  have hrd : ∀ {r : Reg}, 0x720000 ≤ r.key → ((v.closeDeadline g).runArmed g (decide (x.cause < 2))).rd r = v.rd r :=
    fun hr => State.rd_runArmed _ g _ hr
  have hstat : ∀ f, ((v.closeDeadline g).runArmed g (decide (x.cause < 2))).fld (.weirStat p) f = v.fld (.weirStat p) f :=
    State.fld_of_rd (hrd (by simp only [Reg.key]; omega))
  have hlow : ∀ {r : Reg}, r.key < 0x734000 → ∀ f, (s.numbered g).fld r f = s.fld r f := fun hr => s.fld_numbered_low g hr
  obtain ⟨hctl, hsub⟩ := h.domain hp
  have hrun := (v.closeDeadline g).sub_runArmed g (decide (x.cause < 2)) hctl
  have hclose : (v.closeDeadline g).sub (s.fld (.weirCgctl g) F.weirCgctl.dom) = _ := hsub _ (s.fld_lt _ _)
  rw [hclose] at hrun
  exact {
    last := (hrd (by simp only [Reg.key]; omega)).trans h.last
    hist := fun hx => (hrd (by simp only [Reg.key]; omega)).trans
      ((h.hist hx).trans (s.rd_numbered_low g (by simp only [Reg.key]; omega)))
    cause := (hstat _).trans h.cause
    tag := (hstat _).trans (h.tag.trans (s.nextNumber_tag g))
    valid := (hstat _).trans h.valid
    fbrun := (hstat _).trans (by rw [h.fbrun, hlow (by simp only [Reg.key]; omega)])
    late := fun hx => by
      rw [State.Counts, State.fld_of_rd (hrd (by simp only [Reg.key]; omega)),
        ← hlow (r := .weirCnt p) (by simp only [Reg.key]; omega)]
      exact h.late hx
    runs := fun hx ha => hrun.trans (if_pos ⟨decide_eq_true hx, ha⟩)
    stays := fun hx => hrun.trans (if_neg fun hc => absurd (of_decide_eq_true hc.1) (by omega)) }

end

theorem answers_deadline_one (hs : s.Live) (hg : g < 32) {c : Instr × Bool} (hc : s.DeadlineCommand g c)
    (htr : s.bit .outCtrl F.outCtrl.trcen = false) (hd : s.deciding g = [p]) (hcomp : s.complemented p = false) {x : Decision}
    (hx : (s.numbered g).decideWeir p g c.2 = x) :
    ∃ u, exec c.1 s = .next (u.countMiss g c.2) ∧ s.Deadlined g u ∧ s.DecidedAt p g x (u.countMiss g c.2) := by
  have htr' : (s.numbered g).bit .outCtrl F.outCtrl.trcen = false := by
    have hout : (s.numbered g).fld .outCtrl F.outCtrl.trcen = s.fld .outCtrl F.outCtrl.trcen :=
      State.fld_of_rd (s.rd_numbered g (by simp only [Reg.key]; omega)) _
    rw [State.bit, hout]
    exact htr
  have hcomp' : (s.numbered g).complemented p = false := by
    by_cases he : p % 2 = 0
    · obtain ⟨hk, -, hm, -⟩ := s.decides_numbered g (p := p + 1) (by omega)
      rw [← hcomp]
      simp only [State.complemented, hk, hm]
    · simp [State.complemented, he]
  have hact := State.decided_actWeir hp htr' hcomp' g (s.nextNumber g) (32 * (s.ticks + (s.numbered g).lead g)) c.2 x
  obtain ⟨v, hv, hdec⟩ : ∃ v, (s.numbered g).actWeir p g (s.nextNumber g) (32 * (s.ticks + (s.numbered g).lead g)) c.2 x = v ∧
      (s.numbered g).Decided p (s.nextNumber g) x v := ⟨_, rfl, hact⟩
  have hdl : s.deadline g c.2 = (v.closeDeadline g).runArmed g (decide (x.cause < 2)) := by
    rw [State.deadline_eq, s.deciding_numbered, hd]
    simp only [List.map_cons, List.map_nil, hx, List.foldl_cons, List.foldl_nil, List.any_cons, List.any_nil, Bool.or_false, hv]
  have hexec := exec_deadline hs hg hc
  rw [hdl] at hexec
  refine ⟨_, hexec, (hdec.deadlined hp).runArmed _, (hdec.atDeadline hp).of_rd hp fun r hr => ?_⟩
  unfold State.countMiss
  split
  · exact State.rd_setFld_ne _ _ _ (by
      have hk : 0x734000 ≤ (Reg.weirCgstat g).key := by simp only [Reg.key]; omega
      omega)
  · rfl

end

/-! ### The statement -/

section
variable {s : State} {w : Who} {p : Nat} {d : BitVec 32} {poison : Bool} (hw : s.Writer w) (hp : p < 256)
include hw hp

theorem takes_stageWrite_taken {dom : Nat} (hd : s.laneDomain p = some dom) (hon : s.domainOn dom = true)
    (hn : s.shore.swap = none) (ht : s.takesStages p = true) (hl : s.laneOn p = true) (hm : s.mode p = modeEdge) :
    s.Takes (.stageWrite w p d whole poison) w (.weirStage p) d poison fun t =>
      t.rd (.weirStage p) = (if poison then s.rd (.weirStage p) else d) ∧ t.fld (.weirStat p) F.weirStat.valid = 1 ∧
      t.fld (.weirStat p) F.weirStat.poison = (if poison then 1 else 0) ∧
      t.fld (.weirStat p) F.weirStat.ovwr =
        (if s.bit (.weirStat p) F.weirStat.valid then 1 else s.fld (.weirStat p) F.weirStat.ovwr) ∧
      (t.weir p).acc = s.ticks - 1 ∧ t.weir p = { s.weir p with acc := (t.weir p).acc } ∧
      s.RegsBut [.weirStage p, .weirStat p] t ∧ t = { s with regs := t.regs, weirs := t.weirs } := by
  obtain ⟨hf, hrd⟩ := s.onlyRegs_fillStage (p := p) (d := d) (poison := poison)
  refine State.Takes.of_stage hw hp (writeWeirStage_taken hd hon hn hw.2.1 ht hl hm) ?_
  have hweir : ((s.fillStage p d poison).setWeir p { s.weir p with acc := s.ticks - 1 }).weir p =
      { s.weir p with acc := s.ticks - 1 } := (State.weir_setWeir _ p p _).trans (if_pos rfl)
  refine ⟨s.stage_fillStage, s.valid_fillStage, s.poison_fillStage, s.ovwr_fillStage, congrArg Weir.acc hweir, ?_, hrd, ?_⟩
  · rw [if_neg (by decide), hweir]
  · rw [if_neg (by decide), hf]
    rfl

theorem takes_stageWrite_off (h : ∀ dom, s.laneDomain p = some dom → s.domainOn dom = false) :
    s.Takes (.stageWrite w p d whole poison) w (.weirStage p) d poison fun t =>
      s.Counts (.weirCnt p) F.weirCnt.stale t ∧ s.OnlyRegs [.weirCnt p] t :=
  State.Takes.of_stage hw hp (writeWeirStage_off _ h) ⟨State.fld_incSat _ _ rfl, s.onlyRegs_setFld (by simp) _ _⟩

end

/-- Settles O36: a stage written by the weir's rule, a deadline by what the group's weirs decide, a strobe's discards one by one,
and each limit's end by what the pins that follow to its instant leave. -/
theorem weirsTakeStagesAndDeadlines : Obligations.WeirsTakeStagesAndDeadlines := by
  unfold Obligations.WeirsTakeStagesAndDeadlines
  intro s w p g d hs hp hg x
  refine ⟨fun poison hw hn => ⟨fun dom hd hon => ⟨fun ht hl hm => ?_, fun h => ?_⟩, fun h => ?_⟩, fun c hc htr hcoh => ?_,
    fun n hn hl hb ht => ?_, fun hr hl hh hd => ?_, fun hr hl hm hx hh hd => ?_, fun o ho hr hh hd => ?_⟩
  · exact takes_stageWrite_taken hw hp hd hon hn ht hl hm
  · exact State.Takes.of_stage hw hp (writeWeirStage_refused hd hon hn _ h) rfl
  · exact takes_stageWrite_off hw hp h
  · intro dom number after
    refine ⟨fun hnone => ?_, fun hone hk hcomp => ?_⟩
    · obtain ⟨u, hexec, hat, hregs, hframe⟩ := answers_deadline_none hs hg hc hnone
      exact ⟨_, hexec, hat.counted c.2, hregs, hframe⟩
    · obtain ⟨hkind, -, -, -⟩ := s.decides_numbered g hp
      have hlast : (s.numbered g).rd (.weirLast p) = s.rd (.weirLast p) := s.rd_numbered_low g (by simp only [Reg.key]; omega)
      have hstage : (s.numbered g).rd (.weirStage p) = s.rd (.weirStage p) := s.rd_numbered_low g (by simp only [Reg.key]; omega)
      have hdecide := State.decideWeir_alone (s := s.numbered g) (p := p) (g := g) (missing := c.2) (by
        rw [State.bit, State.fld_of_rd (s.rd_numbered g (by simp only [Reg.key]; omega))]
        exact hcoh)
      rw [s.ownCause_numbered g hp] at hdecide
      refine ⟨fun hown => ?_, fun hown hv hpol => ?_⟩
      · rw [if_pos hown, State.release_level (hkind.trans hk), hstage] at hdecide
        obtain ⟨u, hexec, hat, hdec⟩ := answers_deadline_one hp hs hg hc htr hone hcomp hdecide
        exact ⟨_, hexec, hat.counted c.2, hdec.last, hdec.hist rfl, hdec.cause, hdec.fbrun, hdec.valid, hdec.tag,
          hdec.runs (by simp)⟩
      · rw [if_neg hown, State.fallback_level (hkind.trans hk) ((s.policy_numbered g hp).trans hpol), hlast,
          State.ownCause_empty hv] at hdecide
        obtain ⟨u, hexec, hat, hdec⟩ := answers_deadline_one hp hs hg hc htr hone hcomp hdecide
        have hcause : 2 ≤ (if c.2 = true then 5 else 2) ∧
            (if c.2 = true then 5 else 2) % 8 = if c.2 = true then 5 else 2 := by
          cases c.2 <;> decide
        exact ⟨_, hexec, hat.counted c.2, hdec.last, hdec.hist rfl, hdec.cause.trans hcause.2,
          hdec.fbrun.trans (if_neg (Nat.not_lt.2 hcause.1)), hdec.late hcause.1, hdec.stays hcause.1⟩
  · exact answers_stageStaleDiscard hs hg hn hl hb ht
  · exact answers_minpwExpiry hs hp hr hl rfl hh hd
  · exact answers_maxonExpiry hs hp hr hl (Nat.mul_ne_zero (by decide) hm) hx rfl hh hd
  · exact answers_deadTimeExpiry hs hp hr ho hh hd

end Sys2Proof.Machine
end
